-- ==== Sys2Proof/Word.lean ====
section
/-! DEFINITION. The octet of a link frame (R186) and the 16-bit notice word (R199). -/

namespace Sys2Proof

/-- One octet on a serial port (R186). -/
abbrev Octet := BitVec 8

/-- A notice set or a notice mask as software reads and writes it: 16 bits (R199). -/
abbrev NoticeSet := BitVec 16

end Sys2Proof
end

