-- ==== Sys2Proof/Config.lean ====
section
/-! DEFINITION. The free values: what the manual leaves open and the machine goes on with. -/

namespace Sys2Proof

/-- The harmonic ratio r_h of a CURRENT phase whose fundamental magnitude M1 is 0 while the current
floor is configured as 0 (R95, R107): the phase is then not "no current", the ratio divides by 0, and
the manual states no result. A function of the order h and of M_h; DESIGN CHOICE, log entry 10. -/
opaque Config.ratioOverZeroFundamental : Nat → Nat → Nat

end Sys2Proof
end

