-- ==== Sys2Proof/Syntax.lean ====
section
/-! DEFINITION. The commands of the part (spec/opcode_table.json, one constructor per row) and the
types of their operands. -/

namespace Sys2Proof

/-- The three serial ports (00_scope 3.6): control, farm and service port. -/
inductive Port where
  | cp | fp | sp
  deriving DecidableEq, Repr

/-- One value for each port. -/
structure PerPort (α : Type) where
  cp : α
  fp : α
  sp : α
  deriving DecidableEq, Repr

/-- The five accelerometer channels (R1). -/
inductive Accel where
  | g1 | g2 | g3 | g4 | n1
  deriving DecidableEq, Repr

/-- One value for each accelerometer channel. -/
structure PerAccel (α : Type) where
  g1 : α
  g2 : α
  g3 : α
  g4 : α
  n1 : α
  deriving DecidableEq, Repr

/-- The four gearbox channels a measurement may name (R66). -/
inductive GearChannel where
  | g1 | g2 | g3 | g4
  deriving DecidableEq, Repr

/-- One raw instant of the six grid channels, in the order of R12. -/
structure GridInstant where
  ua : Int
  ub : Int
  uc : Int
  ia : Int
  ib : Int
  ic : Int
  deriving DecidableEq, Repr

/-- The three pulse inputs (R20). -/
inductive Pulse where
  | p0 | p1 | p2
  deriving DecidableEq, Repr

/-- One value for each pulse input. -/
structure PerPulse (α : Type) where
  p0 : α
  p1 : α
  p2 : α
  deriving DecidableEq, Repr

/-- The four sensor channels of the RCH (R33). -/
inductive Temp where
  | s0 | s1 | s2 | s3
  deriving DecidableEq, Repr

/-- One value for each temperature channel. -/
structure PerTemp (α : Type) where
  s0 : α
  s1 : α
  s2 : α
  s3 : α
  deriving DecidableEq, Repr

/-- The five capture buffers (section 1.5). -/
inductive BufferId where
  | gvmA | gvmB | bimA | ghmA | ghmB
  deriving DecidableEq, Repr

/-- One value for each capture buffer. -/
structure PerBuffer (α : Type) where
  gvmA : α
  gvmB : α
  bimA : α
  ghmA : α
  ghmB : α
  deriving DecidableEq, Repr

/-- The five retained sections (R177). -/
inductive RetSection where
  | config | monitor | plan | records | calendar
  deriving DecidableEq, Repr

/-- The blocks READ_STATUS names (R197), in the order in which R197 lists them. -/
inductive Block where
  | afe | ptu | rch | spe | gvm | ghm | bim | ccu | mpl | ret | lnk
  deriving DecidableEq, Repr

/-- A calendar reading (00_scope 3.2): day number and second of the day. -/
structure Timestamp where
  day : Nat
  sec : Nat
  deriving DecidableEq, Repr

/-- The blade heater as reported (section 8.1) and as a profile's name (R120). -/
inductive Heater where
  | off | on
  deriving DecidableEq, Repr

/-- The reference shaft of a measurement (R66). -/
inductive Shaft where
  | rotor | hss
  deriving DecidableEq, Repr

/-- A GVM measurement record (R66); the fields hold what was written, before or after the check. -/
structure MeasurementRecord where
  enabled : Bool := false
  channel : GearChannel := .g1
  decimation : Nat := 1
  length : Nat := 65536
  shaft : Shaft := .hss
  bands : List Nat := []
  tolerance : Nat := 30
  deriving DecidableEq, Repr

/-- A GVM band configuration (R67). -/
structure BandConfig where
  enabled : Bool := false
  centre : Nat := 100
  halfWidth : Nat := 10
  alertRise : Nat := 600
  alarmRise : Nat := 1200
  hysteresis : Nat := 200
  confirmCount : Nat := 2
  derate : Bool := false
  derateCeiling : Nat := 70
  component : Option Nat := none
  deriving DecidableEq, Repr

/-- An icing threshold set (R119); the defaults are those of HEATER_OFF. -/
structure ThresholdSet where
  suspectOn : Nat := 150
  suspectOff : Nat := 100
  icedOn : Nat := 250
  icedOff : Nat := 180
  tIce : Int := 20
  tHyst : Int := 10
  persistence : Nat := 10
  shedHold : Nat := 60
  parkedAccretion : Nat := 360
  suspectCeiling : Nat := 100
  icedCeiling : Nat := 0
  sheddingCeiling : Nat := 50
  deriving DecidableEq, Repr

/-- The grade source of a component (R156). -/
inductive GradeSource where
  | bands | gridCurrent | icing | none
  deriving DecidableEq, Repr

/-- An MPL component configuration (R156). -/
structure ComponentConfig where
  nameCode : Nat := 0
  gradeSource : GradeSource := .none
  tempChannel : Option Temp := .none
  thetaRef : Int := 700
  weight : Nat := 0
  exponent : Nat := 0
  damageLimit : Nat := 4294967295
  conditionDays : Nat := 7
  deriving DecidableEq, Repr

/-- The kind of a maintenance task (R165). -/
inductive TaskKind where
  | inspect | oilSample | lubricate | replace | heaterCheck
  deriving DecidableEq, Repr

/-- The trigger of a maintenance task (R165). -/
inductive Trigger where
  | calendar | damage | both | condition
  deriving DecidableEq, Repr

/-- What a PLAN_TASK request carries (R165). -/
structure TaskFields where
  id : Nat
  component : Nat
  kind : TaskKind
  trigger : Trigger
  intervalDays : Option Nat
  fraction : Option Nat
  notice : Nat
  grace : Nat
  derate : Option Nat
  lastDone : Option Nat
  deriving DecidableEq, Repr

/-- The outcome a CLOSE_TASK names (R172). -/
inductive CloseOutcome where
  | done | replaced
  deriving DecidableEq, Repr

/-- The twenty alarm codes, in the order of the table of R142. -/
inductive AlarmCode where
  | sensorFault | converterFault | tachoStall | tachoMismatch | tempOpen | tempShort | tempRefFault
  | bandAlert | bandAlarm | gridVoltageExceed | gridCurrentAlert | gridCurrentAlarm | iceSuspect
  | iceDetected | controllerSilent | ceilingUnheeded | taskDue | taskOverdue | taskTableFull
  | retainedLost
  deriving DecidableEq, Repr

/-- The source of an alarm (R142, R199): a class and, in some classes, an index. -/
inductive Source where
  | accel (c : Accel)
  | afe
  | pulse (p : Pulse)
  | ptu
  | temp (t : Temp)
  | rch
  | band (i : Nat)
  | ghm
  | bim
  | ccu
  | task (id : Nat)
  | mpl
  | ret
  deriving DecidableEq, Repr

/-- What an ACK_ALARM names (R145). -/
inductive AckTarget where
  | all
  | one (code : AlarmCode) (source : Source)
  deriving DecidableEq, Repr

/-- What a LEARN_BASELINE names (R76). -/
inductive LearnTarget where
  | band (i : Nat)
  | measurement (i : Nat)
  deriving DecidableEq, Repr

/-- One item of a collection by its number, or all of them (R196). -/
inductive Selector where
  | one (i : Nat)
  | all
  deriving DecidableEq, Repr

/-- The RCH items of R40 in the order of R198, the refused Sref table among them. -/
inductive RchItem where
  | refResistance (v : Nat)
  | refWindow (low high : Nat)
  | table (ch : Temp) (points : Vector (Nat × Int) 8)
  | srefTable
  deriving DecidableEq, Repr

/-- The GHM items of R107 other than enable and the voltage limits. -/
inductive GhmItem where
  | nominalFrequency (v : Nat)
  | vNom (v : Nat)
  | iRated (v : Nat)
  | currentFloor (v : Nat)
  | vtRatio (v : Nat)
  | ctRatio (v : Nat)
  | currentLimits (alert alarm hyst : Nat)
  | gridCeiling (v : Nat)
  deriving DecidableEq, Repr

/-- The peak items of R118 other than enable. -/
inductive BimPeakItem where
  | fRef (v : Nat)
  | searchRange (lo hi : Nat)
  | powerFloor (v : Nat)
  deriving DecidableEq, Repr

/-- The CCU items of R149. -/
inductive CcuItem where
  | reportTimeout (v : Nat)
  | snapshotThreshold (v : Nat)
  deriving DecidableEq, Repr

/-- A request frame after its check: kind, tag and body (R186). -/
structure Frame where
  kind : Octet
  tag : Octet
  body : List Octet
  deriving DecidableEq, Repr

/-- What the outside gives a start (R180, R183): the accelerometer biases in millivolts at the first bias
evaluation (R19), and, where the reset input cuts the sequence short, or with `powerLost` a loss of main power, how many of
its seven stages were complete by then. `moments` counts the actions complete in the stage that is cut, and `updated` holds
the sections that the action under way had updated by then, in stage 1 the failed sections with their defaults written
(R177). -/
structure StartInput where
  bias : PerAccel Int
  abandonedAfter : Option Nat := none
  moments : Nat := 0
  updated : List RetSection := []
  powerLost : Bool := false
  deriving DecidableEq, Repr

/-- The commands: one constructor per row of spec/opcode_table.json, in the table's order. A command
that is a request names the port on which it is taken. `corrupt` names the sections whose contents were damaged while
main power was absent (R179). -/
inductive Instr where
  | powerOn (corrupt : List RetSection) (straps : PerPort (BitVec 2)) (start : StartInput)
  | mainPowerLoss
  | batteryRetentionLoss
  | resetAssert
  | resetRelease (start : StartInput)
  | serviceRestartStart (start : StartInput)
  | biasFault (ch : Accel) (bias : Int)
  | biasInRange (ch : Accel) (bias : Int)
  | recoveryQualificationExpiry (ch : Accel)
  | converterCheck (ch cq : Int)
  | fixedCaptureComplete (buffer : BufferId) (segments : List (List Int))
  | windowLimitReached (buffer : BufferId) (segments : List (List GridInstant))
  | pulseEdge (input : Pulse) (tick : Nat) (segments : List (List GridInstant))
  | stall (input : Pulse)
  | gateEnd (count : Nat)
  | operationSecond
  | requestEnd
  | gvmPeriodExpiry
  | learnBaseline (port : Port) (target : LearnTarget)
  | tenMinuteBoundary
  | ghmUnalignedIntervalEnd
  | mplUndatedIntervalEnd
  | bimStep
  | overrideExpiry
  | iceOverrideBegin (port : Port) (minutes : Nat)
  | iceOverrideEnd (port : Port)
  | pinIcingThresholds (port : Port) (set : ThresholdSet)
  | unpinIcingThresholds (port : Port)
  | operatingReport (port : Port) (regime : Nat) (wind power : Int) (heater : Nat)
  | freshnessTimeout
  | ceilingAck (port : Port) (number : Nat)
  | acknowledgeTimerExpiry
  | ackAlarm (port : Port) (target : AckTarget)
  | lockSnapshot (port : Port) (slot : Nat)
  | unlockSnapshot (port : Port) (slot : Nat)
  | setTime (port : Port) (day sec : Nat)
  | presenceBegin (port : Port) (technician hours : Nat)
  | presenceEnd (port : Port)
  | presenceExpiry
  | planTask (port : Port) (fields : TaskFields)
  | removeTask (port : Port) (id : Nat)
  | deferTask (port : Port) (id days : Nat)
  | closeTask (port : Port) (id : Nat) (outcome : CloseOutcome)
  | restart (port : Port)
  | writeOffsetTrim (port : Port) (index : Nat) (value : Int)
  | writePtuItem (port : Port) (index value : Nat)
  | writeRchItem (port : Port) (item : RchItem)
  | writeMeasurementRecord (port : Port) (index : Nat) (value : MeasurementRecord)
  | writeBandConfig (port : Port) (index : Nat) (value : BandConfig)
  | writeGvmEnable (port : Port) (value : Bool)
  | writeMeasurementPeriod (port : Port) (value : Nat)
  | writeGhmEnable (port : Port) (value : Bool)
  | writeGhmItem (port : Port) (item : GhmItem)
  | writeVoltageLimit (port : Port) (order value : Nat)
  | writeBimEnable (port : Port) (value : Bool)
  | writeBimPeakItem (port : Port) (item : BimPeakItem)
  | writePowerCurve (port : Port) (rows : Vector Nat 40)
  | writeIcingProfile (port : Port) (profile : Heater) (set : ThresholdSet)
  | writeCcuItem (port : Port) (item : CcuItem)
  | writeComponentConfig (port : Port) (index : Nat) (value : ComponentConfig)
  | writeNoticeMask (port : Port) (target : Port) (mask : NoticeSet)
  | readStatus (port : Port) (block : Block) (part : Nat)
  | readNotices (port : Port)
  | readCeiling (port : Port)
  | readAlarms (port : Port) (skip : Nat)
  | readSnapshot (port : Port) (slot : Selector) (skip : Nat)
  | readConfig (port : Port) (group index : Nat)
  | readBands (port : Port) (band : Selector) (skip : Nat)
  | readGridRecords (port : Port) (intervalEnd : Timestamp) (count skip : Nat)
  | readIcing (port : Port) (part : Nat)
  | readComponents (port : Port) (index : Selector) (skip : Nat)
  | readTasks (port : Port) (id : Selector) (skip : Nat)
  | readDaySummaries (port : Port) (day count skip : Nat)
  | readHistory (port : Port) (count skip : Nat)
  | frameChecked (port : Port) (frame : Frame) (sending : Bool)
  | frameCheckFailure (port : Port)
  | octetGapTimeout (port : Port)
  | replySent (port : Port)
  | octetReceived (port : Port) (octet : Octet) (sending : Bool)
  | batteryClockSecond
  deriving DecidableEq, Repr

end Sys2Proof
end

