-- ==== Sys2Proof/Machine/State.lean ====
section
/-! DEFINITION. The state of the Elucor 7240: the five retained sections (R177), the volatile state of
each block, and the queue of commands that wait. Plain data. `State.reset` is the part right after a
power-on at which every section was found lost (log entry 1). -/

namespace Sys2Proof.Machine

/-! ## Acquisition Front End (chapter 1) -/

/-- A channel fault state (R4, R37): NONE, OPEN or SHORT. -/
inductive ChannelFault where
  | none | openCircuit | shortCircuit
  deriving DecidableEq, Repr

/-- An accelerometer channel's fault state and recovery qualification (section 1.3): the seconds left
of the 10 s while it runs, `none` while it is idle. -/
structure AccelState where
  fault : ChannelFault := .none
  qualification : Option Nat := Option.none
  deriving DecidableEq, Repr

/-- The kind of a capture (R10): FIXED on one channel with decimation D and n stored samples, or WINDOW
on the grid set. -/
inductive CaptureKind where
  | fixed (channel : Accel) (decimation length : Nat)
  | window
  deriving DecidableEq, Repr

/-- A capture record (R9). A row is one stored instant: one value of an accelerometer channel, or the
six grid values in the order of R12. `trims` are the offset trims in force since the last conversion the capture took, oldest
first (R3); `group` holds the samples of the decimation group in progress with their clipped marks (R12); `stored` and
`samples` are the samples stored so far. -/
structure CaptureRecord where
  kind : CaptureKind
  trims : List (List Int) := []
  group : List (List Int × Bool) := []
  stored : Nat := 0
  samples : List (List Int) := []
  clipped : Bool := false
  limitReached : Bool := false
  deriving DecidableEq, Repr

/-- A capture buffer (R9): it holds a capture record while it is not FREE. -/
inductive Buffer where
  | free
  | filling (r : CaptureRecord)
  | full (r : CaptureRecord)
  | inAnalysis (r : CaptureRecord)
  deriving DecidableEq, Repr

/-- One conversion instant of the eleven external channels (R1): the signed 16-bit raw values of the accelerometer channels
and those of the grid channels in the order of R12, of which the part converts the latter at every fourth instant. -/
structure Conversion where
  accel : PerAccel (BitVec 16)
  grid : Vector (BitVec 16) 6
  deriving DecidableEq, Repr

/-- The volatile state of the AFE (R19). `nextCheck` counts the seconds of operation to the next converter check, which acts
where it is 0 (R6, log entry 12);
`sinceGrid` the accelerometer instants since the last grid instant, 0 where the next instant is one (R1). -/
structure AfeState where
  sinceGrid : Nat := 0
  converterFault : Bool := false
  latestCheck : Option (Int × Int) := none
  nextCheck : Nat := 1
  failedChecks : Nat := 0
  accel : PerAccel AccelState := ⟨{}, {}, {}, {}, {}⟩
  buffers : PerBuffer Buffer := ⟨.free, .free, .free, .free, .free⟩
  deriving DecidableEq, Repr

/-! ## Pulse Timing Unit (chapter 2) -/

/-- The status of a result (R22, R31). The absence of a result is the status NONE. -/
inductive ResultStatus where
  | valid | stalled
  deriving DecidableEq, Repr

/-- A result record (R22). -/
structure PulseResult where
  seq : Nat
  n : Nat
  t : Nat
  status : ResultStatus
  freq : Nat
  derived : Nat
  deriving DecidableEq, Repr

/-- The measurement of a channel (R21). Elapsed ticks are the ticks since `since`; `limit` is the stall
limit in seconds that was in force when the measurement or the WAITING period began (R24). -/
inductive Measurement where
  | waiting (since limit : Nat)
  | measuring (n k since limit : Nat)
  deriving DecidableEq, Repr

/-- The volatile state of one pulse input (R32). `seqCount` is the channel's result count; `stallIn` counts the whole seconds of
operation until the elapsed ticks reach the limit of a stall, which acts where it is 0 (R24, log entry 12). -/
structure PulseState where
  meas : Measurement
  stallIn : Nat := 0
  prevAccepted : Option Nat := none
  latest : Option PulseResult := none
  seqCount : Nat := 0
  rejected : Nat := 0
  stallMark : Bool := false
  deriving DecidableEq, Repr

/-- The volatile state of the PTU (R32). -/
structure PtuState where
  chan : PerPulse PulseState
  mismatchCounter : Nat := 0
  mismatchFlag : Bool := false
  mismatchEvents : Nat := 0
  deriving DecidableEq, Repr

/-! ## Resistance Channels (chapter 3) -/

/-- The status of a temperature record (R41). -/
inductive TempStatus where
  | good | stale | none
  deriving DecidableEq, Repr

/-- A temperature record (R41) without its fault field, which R41 forms from REF_FAULT and the channel fault state. -/
structure TempRecord where
  value : Option Int := Option.none
  status : TempStatus := .none
  outOfTable : Bool := false
  age : Option Nat := Option.none
  deriving DecidableEq, Repr

/-- One sensor channel of the RCH (R37, R41, R43). -/
structure SensorState where
  fault : ChannelFault := .none
  record : TempRecord := {}
  rawCount : Option Nat := Option.none
  lastResistance : Option Nat := Option.none
  deriving DecidableEq, Repr

/-- The place in the conversion sequence (R33): the channel whose gate is running. -/
inductive SeqPos where
  | ref
  | sensor (t : Temp)
  deriving DecidableEq, Repr

/-- The volatile state of the RCH (R44). -/
structure RchState where
  pos : SeqPos := .ref
  cRef : Option Nat := none
  rawRef : Option Nat := none
  refFault : Bool := false
  sensor : PerTemp SensorState := ⟨{}, {}, {}, {}⟩
  deriving DecidableEq, Repr

/-! ## Spectral Engine (chapter 4) -/

/-- The three monitors (00_scope 4): the sources of analysis requests. -/
inductive Monitor where
  | gvm | ghm | bim
  deriving DecidableEq, Repr

/-- One value for each monitor. -/
structure PerMonitor (α : Type) where
  gvm : α
  ghm : α
  bim : α
  deriving DecidableEq, Repr

/-- An entry of the band list of a BANDS request (R54). -/
structure BandPlace where
  band : Nat
  centre : Nat
  halfWidth : Nat
  deriving DecidableEq, Repr

/-- The mode of a request with its parameters (R54, R59, R62). -/
inductive AnalysisMode where
  | bands (n d speed : Nat) (list : List BandPlace)
  | harmonics (c t s : Nat)
  | peak (n d fLo fHi floor : Nat)
  deriving DecidableEq, Repr

/-- A request record (R45). The sample rate follows from the mode (`AnalysisRequest.sampleRate`). -/
structure AnalysisRequest where
  source : Monitor
  tag : Nat
  buffer : BufferId
  mode : AnalysisMode
  clipped : Bool
  arrival : Nat
  discard : Bool := false
  deriving DecidableEq, Repr

/-- The per-source counters of R64. -/
structure SpeCounters where
  accepted : Nat := 0
  delivered : Nat := 0
  discarded : Nat := 0
  removed : Nat := 0
  refusedBuffer : Nat := 0
  refusedParameter : Nat := 0
  deriving DecidableEq, Repr

/-- The last-served marker (R45). -/
inductive Marker where
  | gvm | bim
  deriving DecidableEq, Repr

/-- The state of the SPE (R45, R65): BUSY exactly while a request is in progress. `arrival` is the
arrival number of the last request accepted. -/
structure SpeState where
  inProgress : Option AnalysisRequest := none
  queue : List AnalysisRequest := []
  marker : Marker := .bim
  arrival : Nat := 0
  counters : PerMonitor SpeCounters := ⟨{}, {}, {}⟩
  deriving DecidableEq, Repr

/-! ## Gearbox Vibration Monitor (chapter 5) -/

/-- The state of a band (R68). -/
inductive BandMode where
  | disabled | learning | armed
  deriving DecidableEq, Repr

/-- The retained state of a band (R86). -/
structure BandState where
  mode : BandMode := .disabled
  baseline : Nat := 0
  grade : Nat := 0
  confirm : Nat := 0
  learnCount : Nat := 0
  learnSum : Nat := 0
  deriving DecidableEq, Repr

/-- The last level and last-level flags of a band (R77). -/
structure LastLevel where
  level : Option Nat := none
  clipped : Bool := false
  saturated : Bool := false
  unresolved : Bool := false
  deriving DecidableEq, Repr

/-- The work state of a measurement (R71). -/
inductive WorkState where
  | idle | capturing | queued | analysing
  deriving DecidableEq, Repr

/-- The start context of a measurement (R72). -/
structure StartContext where
  buffer : BufferId
  time : Option Timestamp
  regimeChanges : Nat
  speed : Nat
  seq : Nat
  disturbances : Nat
  disturbed : Bool
  mismatchEvents : Nat
  deriving DecidableEq, Repr

/-- A held configuration write (section 5.7). -/
inductive PendingWrite where
  | measurement (value : MeasurementRecord)
  | band (index : Fin 24) (value : BandConfig)
  deriving DecidableEq, Repr

/-- The last pending outcome of a measurement (R84). -/
inductive PendingOutcome where
  | none | applied | replaced | dropped
  deriving DecidableEq, Repr

/-- The volatile state of one measurement (R71, R72, R83). -/
structure WorkRecord where
  work : WorkState := .idle
  outstanding : Option Nat := Option.none
  context : Option StartContext := Option.none
  pending : Option PendingWrite := Option.none
  outcome : PendingOutcome := .none
  deriving DecidableEq, Repr

/-- The counters of the GVM (R85), in its order. -/
structure GvmCounters where
  skipOverrun : Nat := 0
  skipRegime : Nat := 0
  skipNoSpeed : Nat := 0
  skipMismatch : Nat := 0
  skipConverter : Nat := 0
  skipChannelFault : Nat := 0
  skipNoBuffer : Nat := 0
  skipParameter : Nat := 0
  rejectRegime : Nat := 0
  rejectUnsteady : Nat := 0
  rejectDisturbance : Nat := 0
  rejectMismatch : Nat := 0
  abortConverter : Nat := 0
  abortChannelFault : Nat := 0
  noBands : Nat := 0
  analysisSkip : Nat := 0
  removed : Nat := 0
  results : Nat := 0
  discarded : Nat := 0
  learnIgnored : Nat := 0
  pendingApplied : Nat := 0
  pendingReplaced : Nat := 0
  pendingDropped : Nat := 0
  deriving DecidableEq, Repr

/-- The volatile state of the GVM (R86). `periodTimer` holds the seconds to the next expiry, `none` while stopped;
`period` is the period in force, the one the timer was last restarted with (R70, R85). -/
structure GvmState where
  period : Nat := 600
  periodTimer : Option Nat := none
  position : Option (Fin 8) := none
  work : Vector WorkRecord 8 := Vector.replicate 8 {}
  skipMark : Vector Bool 24 := Vector.replicate 24 false
  lastLevel : Vector LastLevel 24 := Vector.replicate 24 {}
  counters : GvmCounters := {}
  deriving DecidableEq, Repr

/-! ## Grid Harmonic Monitor (chapter 6) -/

/-- One value for each of the three phases A, B, C. -/
structure PerPhase (α : Type) where
  a : α
  b : α
  c : α
  deriving DecidableEq, Repr

/-- One value for each quantity of R98: the 39 voltage ratios (orders 2..40) and the THD of each voltage
phase, and the THD of each current phase. -/
structure Quantities (α : Type) where
  ratio : PerPhase (Vector α 39)
  thd : PerPhase α
  currentThd : PerPhase α
  deriving DecidableEq, Repr

/-- A sum of squares and its count (R98, R99). -/
structure SquareSum where
  sum : Nat := 0
  count : Nat := 0
  deriving DecidableEq, Repr

/-- The reason of a MISSED window (R97). -/
inductive MissReason where
  | noBuffer | converter | aborted | queue
  deriving DecidableEq, Repr

/-- The refusal reason a window entry keeps (R89). -/
inductive WindowRefusal where
  | noBuffer | converter
  deriving DecidableEq, Repr

/-- The outcome of a settled window (R97). -/
inductive WindowOutcome where
  | analysed | excluded | invalidFrequency
  | missed (reason : MissReason)
  | abandoned
  deriving DecidableEq, Repr

/-- The request field of a window entry (R89). -/
inductive WindowRequest where
  | none
  | queued (arrival : Nat)
  | analysing (arrival : Nat)
  deriving DecidableEq, Repr

/-- A window entry (R89); its phase is ENDED when `ended` is set. -/
structure WindowEntry where
  number : Nat
  buffer : Option BufferId := none
  refusal : Option WindowRefusal := none
  ended : Bool := false
  closing : Option PulseResult := none
  endTime : Option Timestamp := none
  request : WindowRequest := .none
  outcome : Option WindowOutcome := Option.none
  deriving DecidableEq, Repr

/-- The window state (R89). -/
inductive WindowState where
  | off | searching | running
  deriving DecidableEq, Repr

/-- The last window values (R97); the primary magnitudes are UA, UB, UC, IA, IB, IC. -/
structure LastWindow where
  number : Nat
  freq : Nat
  vLevel : PerPhase Nat
  iLevel : PerPhase Nat
  vRatio : PerPhase (Vector Nat 39)
  vThd : PerPhase Nat
  iRatio : PerPhase (Option (Vector Nat 39))
  iThd : PerPhase (Option Nat)
  primary : Vector Nat 6
  deriving DecidableEq, Repr

/-- The open 3-second block (R98). -/
structure GridBlock where
  sums : Quantities SquareSum
  freqSum : Nat := 0
  freqCount : Nat := 0
  slots : Nat := 0
  analysed : Nat := 0
  deriving DecidableEq, Repr

/-- The last 3-second summary (R98): voltage THDs, current THDs and frequency. -/
structure GridSummary where
  vThd : PerPhase (Option Nat)
  iThd : PerPhase (Option Nat)
  freq : Nat
  deriving DecidableEq, Repr

/-- The planned end of an interval (R99, R158): a boundary of the calendar, or seconds of operation left. -/
inductive PlannedEnd where
  | boundary (t : Timestamp)
  | seconds (left : Nat)
  deriving DecidableEq, Repr

/-- The GHM's interval in progress (R99). `begunOff` tells that it started while the GHM was OFF; it is the model's own
(log entry 46). -/
structure GridInterval where
  sums : Quantities SquareSum
  values : Nat := 0
  freqSum : Nat := 0
  freqCount : Nat := 0
  disturbed : Nat := 0
  unaligned : Bool
  planned : PlannedEnd
  begunOff : Bool := false
  deriving DecidableEq, Repr

/-- A compliance record (R101). -/
structure ComplianceRecord where
  intervalEnd : Option Timestamp
  meanFreq : Nat
  vThd : PerPhase (Option Nat)
  worstOrder : Nat
  worstRatio : Nat
  iThd : PerPhase (Option Nat)
  used : Nat
  sparse : Bool
  unaligned : Bool
  timeSet : Bool
  disturbed : Nat
  exceeded : List Nat
  deriving DecidableEq, Repr

/-- The counters of the GHM (R109), in its order. -/
structure GhmCounters where
  opened : Nat := 0
  analysed : Nat := 0
  excluded : Nat := 0
  invalidFrequency : Nat := 0
  abandoned : Nat := 0
  missedNoBuffer : Nat := 0
  missedConverter : Nat := 0
  missedAborted : Nat := 0
  missedQueue : Nat := 0
  noFundamental : Nat := 0
  stalls : Nat := 0
  discarded : Nat := 0
  emptyBlock : Nat := 0
  emptyInterval : Nat := 0
  closed : Nat := 0
  orderDropped : Nat := 0
  pruned : Nat := 0
  deriving DecidableEq, Repr

/-- Quantities that hold the same value everywhere. -/
def Quantities.all {α : Type} (x : α) : Quantities α :=
  ⟨⟨Vector.replicate 39 x, Vector.replicate 39 x, Vector.replicate 39 x⟩, ⟨x, x, x⟩, ⟨x, x, x⟩⟩

/-- An empty 3-second block (R98). -/
def GridBlock.empty : GridBlock := { sums := Quantities.all {} }

/-- The volatile state of the GHM (R110). `nextWindow` is the number the next window takes. -/
structure GhmState where
  window : WindowState := .searching
  entries : List WindowEntry := []
  nextWindow : Nat := 0
  lastWindow : Option LastWindow := none
  disturbed : Bool := false
  disturbances : Nat := 0
  block : GridBlock := GridBlock.empty
  lastSummary : Option GridSummary := none
  interval : GridInterval
  counters : GhmCounters := {}
  deriving DecidableEq, Repr

/-! ## Blade Icing Monitor (chapter 7) -/

/-- The icing states (section 7.6). -/
inductive IcingState where
  | clear | suspect | iced | shedding
  deriving DecidableEq, Repr

/-- The retained state of the BIM (R133). -/
structure IcingRetained where
  state : IcingState := .suspect
  icedCount : Nat := 0
  clearCount : Nat := 0
  parkedCount : Nat := 0
  shedCount : Nat := 0
  ring : List Nat := []
  active : ThresholdSet := {}
  pinned : Bool := false
  loaded : Heater := .off
  deriving DecidableEq, Repr

/-- The held peak (R117); `peak` tells the outcome PEAK from NO_PEAK. -/
structure HeldPeak where
  step : Nat
  peak : Bool
  freq : Nat
  power : Nat
  clipped : Bool
  deriving DecidableEq, Repr

/-- The counter that stopped a step that is not evaluable (R113). -/
inductive StepStop where
  | regime | disturbance | noAmbient | lowWind
  deriving DecidableEq, Repr

/-- The readings of S0 at a step (R122). -/
structure AmbientReading where
  usable : Bool
  cold : Bool
  warm : Bool
  deriving DecidableEq, Repr

/-- The terms of the score of an evaluable step (R115). -/
structure ScoreTerms where
  expected : Nat
  deficit : Nat
  drop : Nat
  score : Nat
  deriving DecidableEq, Repr

/-- The last step record (R132): `stop` is none at an evaluable step, at which `terms` and `mean` are present. -/
structure StepRecord where
  number : Nat
  stop : Option StepStop
  terms : Option ScoreTerms
  mean : Option Nat
  ambient : AmbientReading
  transition : Option (IcingState × IcingState)
  deriving DecidableEq, Repr

/-- The counters of the BIM (R132), in its order. -/
structure BimCounters where
  steps : Nat := 0
  evaluable : Nat := 0
  regime : Nat := 0
  disturbance : Nat := 0
  noAmbient : Nat := 0
  lowWind : Nat := 0
  refusedConverter : Nat := 0
  refusedChannelFault : Nat := 0
  refusedNoBuffer : Nat := 0
  abortConverter : Nat := 0
  abortChannelFault : Nat := 0
  analysisSkip : Nat := 0
  removed : Nat := 0
  discarded : Nat := 0
  peak : Nat := 0
  noPeak : Nat := 0
  deriving DecidableEq, Repr

/-- The volatile state of the BIM (R133). `stepTimer` and `override` hold the seconds of operation left. -/
structure BimState where
  stepTimer : Option Nat := none
  stepNumber : Nat := 0
  recorded : Nat := 0
  outstanding : Option Nat := none
  heldPeak : Option HeldPeak := none
  override : Option Nat := none
  lastStep : Option StepRecord := none
  counters : BimCounters := {}
  deriving DecidableEq, Repr

/-! ## Condition and Ceiling Unit (chapter 8) -/

/-- The regime held in the operating record (00_scope 3.4). -/
inductive Regime where
  | parked | idling | producing | stopping | unknown
  deriving DecidableEq, Repr

/-- The operating record (section 8.1). -/
structure OperatingRecord where
  regime : Regime := .unknown
  wind : Option Int := none
  power : Option Int := none
  heater : Option Heater := none
  reportTime : Option Timestamp := none
  clamped : Bool := false
  changes : Nat := 0
  deriving DecidableEq, Repr

/-- The state of an alarm entry (R143). -/
inductive AlarmState where
  | activeUnack | activeAck | clearedUnack
  deriving DecidableEq, Repr

/-- An entry of the alarm table (R143); its severity is that of its code (R142). -/
structure AlarmEntry where
  code : AlarmCode
  source : Source
  state : AlarmState := .activeUnack
  raisedAt : Option Timestamp
  lastChange : Option Timestamp
  ackBy : Option Port := none
  occurrences : Nat := 1
  deriving DecidableEq, Repr

/-- The four ceiling contributions (R138), none until they are posted during a start (R151). -/
structure Contributions where
  icing : Option Nat := none
  gearbox : Option Nat := none
  grid : Option Nat := none
  planner : Option Nat := none
  deriving DecidableEq, Repr

/-- The counters of the CCU (R149), in its order. -/
structure CcuCounters where
  accepted : Nat := 0
  refused : Nat := 0
  clamped : Nat := 0
  silences : Nat := 0
  unheeded : Nat := 0
  evictions : Nat := 0
  overflows : Nat := 0
  snapshots : Nat := 0
  deriving DecidableEq, Repr

/-- The volatile state of the CCU (R151). The two timers hold the seconds of operation left, `none`
while stopped; `sinceReport` the seconds since the latest accepted report (R149). -/
structure CcuState where
  op : OperatingRecord := {}
  sinceReport : Option Nat := none
  freshness : Option Nat := none
  contributions : Contributions := {}
  ceiling : Option Nat := none
  acknowledged : Bool := false
  ackTimer : Option Nat := none
  alarms : List AlarmEntry := []
  tableOverflow : Bool := false
  counters : CcuCounters := {}
  deriving DecidableEq, Repr

/-- A temperature record as a snapshot copies it (R42, R147): with its fault field. -/
structure TempCopy where
  record : TempRecord
  ref : Bool
  fault : ChannelFault
  deriving DecidableEq, Repr

/-- A snapshot record (R147). -/
structure Snapshot where
  number : Nat
  time : Option Timestamp
  code : AlarmCode
  source : Source
  op : OperatingRecord
  p0 : Option PulseResult
  p1 : Option PulseResult
  temps : PerTemp TempCopy
  bands : Vector (Option Nat × Nat) 24
  grid : Option GridSummary
  icing : IcingState
  mean : Option Nat
  ceiling : Option Nat
  ceilingSeq : Nat
  deriving DecidableEq, Repr

/-- A filled snapshot slot (R147, R148). `order` says which snapshot was taken earlier; it is the
model's own, because the snapshot number wraps (log entry 6). -/
structure SnapshotSlot where
  record : Snapshot
  locked : Bool := false
  order : Nat
  deriving DecidableEq, Repr

/-! ## Maintenance Planner (chapter 9) -/

/-- The technician presence (R155): technician number and seconds of operation left. -/
structure Presence where
  technician : Nat
  left : Nat
  deriving DecidableEq, Repr

/-- The wear of a component (R156, R157): damage, counting-since day, grade-2 since and duration. -/
structure ComponentWear where
  damage : Nat := 0
  countingSince : Option Nat := none
  grade2Since : Option Timestamp := none
  grade2Duration : Nat := 0
  deriving DecidableEq, Repr

/-- A component's part of the accounting interval (R158). -/
structure ComponentInterval where
  tempSum : Int := 0
  tempCount : Nat := 0
  worst : Nat := 0
  replacedOffset : Nat := 0
  deriving DecidableEq, Repr

/-- The accounting interval in progress (R158). -/
structure AccountingInterval where
  planned : PlannedEnd := .seconds 600
  producing : Nat := 0
  powerSum : Int := 0
  comps : Vector ComponentInterval 16 := Vector.replicate 16 {}
  deriving DecidableEq, Repr

/-- The fields of a day summary without its day (R161). -/
structure DayRecord where
  producing : Nat := 0
  damage : Vector Nat 16 := Vector.replicate 16 0
  maxGrade : Vector Nat 16 := Vector.replicate 16 0
  icedMinutes : Nat := 0
  suspectMinutes : Nat := 0
  exceedances : Nat := 0
  disturbed : Nat := 0
  alarms : Nat := 0
  skips : Nat := 0
  deriving DecidableEq, Repr

/-- The open day record (R161). -/
structure OpenDay where
  day : Option Nat := none
  record : DayRecord := {}
  deriving DecidableEq, Repr

/-- A day summary (R162). -/
structure DaySummary where
  day : Nat
  record : DayRecord
  deriving DecidableEq, Repr

/-- The state of a task (R165). -/
inductive TaskState where
  | planned | due | overdue
  deriving DecidableEq, Repr

/-- The origin of a task (R165). -/
inductive TaskOrigin where
  | farm | part
  deriving DecidableEq, Repr

/-- A task record (R165). -/
structure Task where
  id : Nat
  component : Fin 16
  kind : TaskKind
  trigger : Trigger
  intervalDays : Option Nat
  fraction : Option Nat
  damageRef : Nat := 0
  targetReached : Option Nat := none
  notice : Nat
  grace : Nat
  derate : Option Nat
  lastDone : Nat
  created : Nat
  deferred : Nat := 0
  deferrals : Nat := 0
  state : TaskState := .planned
  origin : TaskOrigin := .farm
  deriving DecidableEq, Repr

/-- A service history entry (R173). -/
structure HistoryEntry where
  time : Timestamp
  id : Nat
  component : Fin 16
  kind : TaskKind
  outcome : CloseOutcome
  technician : Nat
  damage : Nat
  deriving DecidableEq, Repr

/-- The grades held per source (R157). -/
structure HeldGrades where
  bands : Vector Nat 16 := Vector.replicate 16 0
  current : Nat := 0
  icing : Nat := 0
  deriving DecidableEq, Repr

/-- The volatile state of the MPL (R175). -/
structure MplState where
  presence : Option Presence := none
  grades : HeldGrades := {}
  waiting : Vector Bool 16 := Vector.replicate 16 false
  prunedDays : Nat := 0
  orderDropped : Nat := 0
  deriving DecidableEq, Repr

/-! ## The retained sections (R177) -/

/-- The default conversion table (R40). -/
def defaultTable : Vector (Nat × Int) 8 :=
  #v[(84271, -400), (92160, -200), (100000, 0), (107794, 200), (115541, 400), (123242, 600),
     (138506, 1000), (157325, 1500)]

/-- The default power curve (R114). -/
def defaultCurve : Vector Nat 40 :=
  #v[0, 15, 35, 60, 90, 125, 165, 215, 270, 330, 420, 520, 610, 700, 785, 860, 920, 965, 990,
     1000, 1000, 1000, 1000, 1000, 1000, 1000, 1000, 1000, 1000, 1000, 1000, 1000, 1000, 1000,
     1000, 1000, 1000, 1000, 1000, 1000]

/-- The default voltage limits of the orders 2..40 (R107), order 2 first. -/
def defaultVoltageLimits : Vector Nat 39 :=
  #v[150, 400, 150, 400, 150, 400, 150, 400, 150, 400, 75, 400, 75, 200, 75, 200, 75, 200, 75,
     200, 75, 200, 75, 200, 75, 100, 75, 100, 75, 100, 75, 100, 75, 100, 75, 100, 75, 100, 75]

/-- The HEATER_ON defaults (R119). -/
def heaterOnDefault : ThresholdSet :=
  { suspectOn := 200, suspectOff := 140, icedOn := 320, icedOff := 240 }

/-- The configuration of one pulse input (R26); `n` is not used for P2 (R27). -/
structure PulseConfig where
  n : Nat
  spacing : Nat
  stallLimit : Nat
  deriving DecidableEq, Repr

/-- The PTU items (R26). -/
structure PtuConfig where
  chan : PerPulse PulseConfig := ⟨⟨1, 65535, 30⟩, ⟨256, 1000, 2⟩, ⟨10, 50000, 1⟩⟩
  teeth : Nat := 60
  gearRatio : Nat := 100000
  tolerance : Nat := 20
  deriving DecidableEq, Repr

/-- The RCH items (R40). -/
structure RchConfig where
  refResistance : Nat := 100000
  windowLow : Nat := 30000
  windowHigh : Nat := 50000
  table : PerTemp (Vector (Nat × Int) 8) := ⟨defaultTable, defaultTable, defaultTable, defaultTable⟩
  deriving DecidableEq, Repr

/-- The GHM items (R107). -/
structure GhmConfig where
  enable : Bool := true
  nominalFrequency : Nat := 50
  vNom : Nat := 6351
  iRated : Nat := 1000
  currentFloor : Nat := 1000
  vtRatio : Nat := 1
  ctRatio : Nat := 1
  voltageLimit : Vector Nat 39 := defaultVoltageLimits
  iAlert : Nat := 500
  iAlarm : Nat := 800
  iHyst : Nat := 50
  gridCeiling : Nat := 100
  deriving DecidableEq, Repr

/-- The BIM items (R114, R118, R120). -/
structure BimConfig where
  enable : Bool := true
  fRef : Nat := 1350
  searchLo : Nat := 900
  searchHi : Nat := 1800
  powerFloor : Nat := 2500
  curve : Vector Nat 40 := defaultCurve
  heaterOff : ThresholdSet := {}
  heaterOn : ThresholdSet := heaterOnDefault
  deriving DecidableEq, Repr

/-- The section CONFIG (R177). The trims are those of G1..G4, N1, UA..UC, IA..IC, in this order (R198). -/
structure ConfigSection where
  trims : Vector Int 11 := Vector.replicate 11 0
  ptu : PtuConfig := {}
  rch : RchConfig := {}
  measurements : Vector MeasurementRecord 8 := Vector.replicate 8 {}
  bands : Vector BandConfig 24 := Vector.replicate 24 {}
  gvmEnable : Bool := true
  gvmPeriod : Nat := 600
  ghm : GhmConfig := {}
  bim : BimConfig := {}
  reportTimeout : Nat := 10
  snapshotThreshold : Nat := 2
  masks : PerPort NoticeSet := ⟨0x304#16, 0x3ff#16, 0x3ff#16⟩
  deriving DecidableEq, Repr

/-- The section MONITOR (R177). -/
structure MonitorSection where
  bands : Vector BandState 24 := Vector.replicate 24 {}
  currentGrade : Nat := 0
  currentConfirm : Nat := 0
  icing : IcingRetained := {}
  ceilingSeq : Nat := 0
  deriving DecidableEq, Repr

/-- The section PLAN (R177). The task table is kept in order of id (log entry 7). -/
structure PlanSection where
  config : Vector ComponentConfig 16 := Vector.replicate 16 {}
  wear : Vector ComponentWear 16 := Vector.replicate 16 {}
  interval : AccountingInterval := {}
  openDay : OpenDay := {}
  undated : DayRecord := {}
  days : List DaySummary := []
  tasks : List Task := []
  history : List HistoryEntry := []
  deriving DecidableEq, Repr

/-- The section RECORDS (R177). `taken` counts the snapshots ever taken, so that "taken earliest" is
known across a wrap of the snapshot number; it is the model's own (log entry 6). -/
structure RecordsSection where
  ring : List ComplianceRecord := []
  slots : Vector (Option SnapshotSlot) 8 := Vector.replicate 8 none
  snapshotNumber : Nat := 0
  taken : Nat := 0
  deriving DecidableEq, Repr

/-! ## Retained Memory (chapter 10) and the ports (chapter 11) -/

/-- The start causes (R181). -/
inductive StartCause where
  | powerOn | powerOnLost | resetLine | serviceRestart
  deriving DecidableEq, Repr

/-- The start record (R181). -/
structure StartRecord where
  cause : StartCause
  lost : List RetSection
  time : Option Timestamp
  deriving DecidableEq, Repr

/-- The check words of the five sections (R177), held by what the manual says of them: whether the word stored with a
section is the one its contents give (log entry 11). -/
structure CheckWords where
  config : Bool := true
  monitor : Bool := true
  plan : Bool := true
  records : Bool := true
  calendar : Bool := true
  deriving DecidableEq, Repr

/-- The RET and the supply and reset pins. `operating` holds from the end of a start to the next loss of
power or assertion of the reset input; `batteryFell` that the battery fell below the level needed for retention while main
power was present (R178); `powerOnDue` holds the sections that failed when main power was
applied under an asserted reset input, until the release starts the part (log entry 9);
`restartAccepted` is set by an accepted RESTART until its start (R184). -/
structure RetState where
  powered : Bool := true
  resetAsserted : Bool := false
  operating : Bool := true
  retention : Bool := true
  batteryFell : Bool := false
  powerOnDue : Option (List RetSection) := none
  restartAccepted : Bool := false
  startRecord : Option StartRecord := none
  deriving DecidableEq, Repr

/-- The reply statuses, coded 0..13 in this order (R194). -/
inductive Status where
  | ok | okDeferred | refusedPort | range | state | notDue | limit | condition | onSite | noDate
  | full | stale | unknownItem | unknownKind
  deriving DecidableEq, Repr

/-- A reply (R190) as formed for the request taken: `ceiling` is present on the control port. -/
structure Reply where
  kind : Octet
  tag : Octet
  status : Status
  overrun : Bool
  replaced : Bool
  notices : NoticeSet
  ceiling : Option (Nat × Nat × Bool)
  content : List Octet
  deriving DecidableEq, Repr

/-- A port's receiver (R187): the octets after the start octet while RECEIVING. -/
inductive Receiver where
  | hunting
  | receiving (octets : List Octet)
  deriving DecidableEq, Repr

/-- The counters of a port (section 11.1), in its order. -/
structure PortCounters where
  timeouts : Nat := 0
  checkFailures : Nat := 0
  overruns : Nat := 0
  taken : Nat := 0
  sent : Nat := 0
  refusedPort : Nat := 0
  deriving DecidableEq, Repr

/-- The state of a port (section 11.1). `owed` is the reply formed for the request in work, which goes when it has been sent in
full (R188, R190); `reply` the answer to the request last taken as a command of its own, which no frame carries (log entry 25);
`transmitted` the octets of the frame the port last sent in full (R186); `overrunAgain` is the overrun flag
set again by a drop while a reply is being sent (R188); `rate` is the strapped rate code (section 11.9). -/
structure PortState where
  receiver : Receiver := .hunting
  inWork : Option Frame := none
  waiting : Option Frame := none
  overrun : Bool := false
  overrunAgain : Bool := false
  owed : Option Reply := none
  reply : Option Reply := none
  transmitted : List Octet := []
  notices : NoticeSet := 0
  attention : Bool := false
  rate : BitVec 2 := 0
  counters : PortCounters := {}
  deriving DecidableEq, Repr

/-! ## The machine -/

/-- Why a command can stop the machine: the manual names no such case, so there is none. Safe. -/
inductive Fault
  deriving DecidableEq, Repr

/-- Why a command has no meaning in the model. -/
inductive Refusal where
  /-- Raised by an arm of `exec` for a command whose meaning is not written. Safe. -/
  | notModelled (mnemonic : String)
  deriving DecidableEq, Repr

/-- The whole state: the commands that wait and the conversions that come on the analog inputs while none waits (both
first in, first out), the retained sections, the calendar (the section CALENDAR, R152), the check words of the five
sections (R177), and the volatile state of each block. `conversions` is the model's own: the outside's input to the converter (log entry 4). So is `cutAfter`: where the
next loss of power or assertion of the reset input falls inside the event that waits after it, the sections that event has
updated by then (R177, R183, log entry 8). -/
structure State where
  pending : List Instr
  conversions : List Conversion
  cutAfter : List RetSection
  cfg : ConfigSection
  mon : MonitorSection
  plan : PlanSection
  records : RecordsSection
  cal : Option Timestamp
  check : CheckWords
  afe : AfeState
  ptu : PtuState
  rch : RchState
  spe : SpeState
  gvm : GvmState
  ghm : GhmState
  bim : BimState
  ccu : CcuState
  mpl : MplState
  ret : RetState
  lnk : PerPort PortState
  deriving DecidableEq, Repr

/-- A pulse input at the start of operation (R32): WAITING since tick 0 with the given stall limit, its elapsed ticks 0; 429 s is
the last whole second of the 32-bit count (R24). -/
def PulseState.start (limit : Nat) : PulseState := { meas := .waiting 0 limit, stallIn := min limit 429 }

/-- A port right after the start that `State.reset` stands for (R180 stage 6, R200). -/
def PortState.afterReset : PortState := { notices := 0x105#16, attention := true }

/-- The machine right after reset: a power-on at which all five sections were found lost, with every bias
in range and the calendar therefore unset (R179, R180, R185; log entry 1). The alarm table holds
RETAINED_LOST (R182) and ICE_SUSPECT (R134, R150); the ceiling is 100 with number 1 (R151). -/
def State.reset : State where
  pending := []
  conversions := []
  cutAfter := []
  cfg := {}
  mon := { ceilingSeq := 1 }
  plan := { undated := { alarms := 2 } }
  records := {}
  cal := none
  check := {}
  afe := {}
  ptu := { chan := ⟨PulseState.start 30, PulseState.start 2, PulseState.start 1⟩ }
  rch := {}
  spe := {}
  gvm := { periodTimer := some 600 }
  ghm := { interval := { sums := Quantities.all {}, unaligned := true, planned := .seconds 600 } }
  bim := { stepTimer := some 60 }
  ccu :=
    { freshness := some 10
      contributions := ⟨some 100, some 100, some 100, some 100⟩
      ceiling := some 100
      ackTimer := some 30
      alarms :=
        [{ code := .retainedLost, source := .ret, raisedAt := none, lastChange := none },
         { code := .iceSuspect, source := .bim, raisedAt := none, lastChange := none }] }
  mpl := { grades := { icing := 1 } }
  ret :=
    { startRecord :=
        some { cause := .powerOnLost, lost := [.config, .monitor, .plan, .records, .calendar], time := none } }
  lnk := ⟨PortState.afterReset, PortState.afterReset, PortState.afterReset⟩

end Sys2Proof.Machine
end

