-- ==== Sys2Proof/Machine/Arith.lean ====
section
/-! DEFINITION. Saturating and wrapping counts, exact roots, and the read and write of one value among
several (00_scope 3.1). -/

namespace Sys2Proof

/-- Timestamps are ordered by day and then by second (00_scope 3.2). -/
def Timestamp.before (a b : Timestamp) : Bool := a.day < b.day || (a.day = b.day && a.sec < b.sec)

/-! One value among several: read and write. -/

def PerPort.get {α : Type} (v : PerPort α) : Port → α
  | .cp => v.cp
  | .fp => v.fp
  | .sp => v.sp

def PerPort.set {α : Type} (v : PerPort α) (p : Port) (x : α) : PerPort α :=
  match p with
  | .cp => { v with cp := x }
  | .fp => { v with fp := x }
  | .sp => { v with sp := x }

def PerPort.map {α β : Type} (f : α → β) (v : PerPort α) : PerPort β := ⟨f v.cp, f v.fp, f v.sp⟩

def PerAccel.get {α : Type} (v : PerAccel α) : Accel → α
  | .g1 => v.g1
  | .g2 => v.g2
  | .g3 => v.g3
  | .g4 => v.g4
  | .n1 => v.n1

def PerAccel.set {α : Type} (v : PerAccel α) (c : Accel) (x : α) : PerAccel α :=
  match c with
  | .g1 => { v with g1 := x }
  | .g2 => { v with g2 := x }
  | .g3 => { v with g3 := x }
  | .g4 => { v with g4 := x }
  | .n1 => { v with n1 := x }

def PerAccel.map {α β : Type} (f : α → β) (v : PerAccel α) : PerAccel β :=
  ⟨f v.g1, f v.g2, f v.g3, f v.g4, f v.n1⟩

def PerPulse.get {α : Type} (v : PerPulse α) : Pulse → α
  | .p0 => v.p0
  | .p1 => v.p1
  | .p2 => v.p2

def PerPulse.set {α : Type} (v : PerPulse α) (c : Pulse) (x : α) : PerPulse α :=
  match c with
  | .p0 => { v with p0 := x }
  | .p1 => { v with p1 := x }
  | .p2 => { v with p2 := x }

def PerPulse.map {α β : Type} (f : α → β) (v : PerPulse α) : PerPulse β := ⟨f v.p0, f v.p1, f v.p2⟩

def PerTemp.get {α : Type} (v : PerTemp α) : Temp → α
  | .s0 => v.s0
  | .s1 => v.s1
  | .s2 => v.s2
  | .s3 => v.s3

def PerTemp.set {α : Type} (v : PerTemp α) (c : Temp) (x : α) : PerTemp α :=
  match c with
  | .s0 => { v with s0 := x }
  | .s1 => { v with s1 := x }
  | .s2 => { v with s2 := x }
  | .s3 => { v with s3 := x }

def PerTemp.map {α β : Type} (f : α → β) (v : PerTemp α) : PerTemp β := ⟨f v.s0, f v.s1, f v.s2, f v.s3⟩

def PerBuffer.get {α : Type} (v : PerBuffer α) : BufferId → α
  | .gvmA => v.gvmA
  | .gvmB => v.gvmB
  | .bimA => v.bimA
  | .ghmA => v.ghmA
  | .ghmB => v.ghmB

def PerBuffer.set {α : Type} (v : PerBuffer α) (b : BufferId) (x : α) : PerBuffer α :=
  match b with
  | .gvmA => { v with gvmA := x }
  | .gvmB => { v with gvmB := x }
  | .bimA => { v with bimA := x }
  | .ghmA => { v with ghmA := x }
  | .ghmB => { v with ghmB := x }

def PerBuffer.map {α β : Type} (f : α → β) (v : PerBuffer α) : PerBuffer β :=
  ⟨f v.gvmA, f v.gvmB, f v.bimA, f v.ghmA, f v.ghmB⟩

end Sys2Proof

namespace Sys2Proof.Machine

/-- A 16-bit saturating increment. -/
def inc16 (n : Nat) : Nat := min (n + 1) 65535

/-- A 16-bit saturating addition. -/
def add16 (n k : Nat) : Nat := min (n + k) 65535

/-- A 16-bit wrapping increment. -/
def next16 (n : Nat) : Nat := (n + 1) % 65536

/-- The greatest 32-bit value. -/
def max32 : Nat := 4294967295

/-- A value saturated at 32 bits. -/
def sat32 (n : Nat) : Nat := min n max32

/-- A value clamped to `lo..hi`. -/
def clampInt (lo hi x : Int) : Int := if x < lo then lo else if hi < x then hi else x

/-- The ceiling of a quotient. -/
def ceilDiv (a b : Nat) : Nat := (a + b - 1) / b

/-- The greatest `v < 2 ^ bits` above `acc` by binary search, for a `p` that holds up to some value and not beyond it. -/
def greatestFrom (p : Nat → Bool) : Nat → Nat → Nat
  | 0, acc => acc
  | b + 1, acc => greatestFrom p b (if p (acc + 2 ^ b) then acc + 2 ^ b else acc)

/-- The greatest `v < 2 ^ bits` with `p v`, for a `p` that holds at 0 and up to some value. -/
def greatest (bits : Nat) (p : Nat → Bool) : Nat := greatestFrom p bits 0

/-- floor(√(num / den)), at most 65535, computed exactly (R98, R101). -/
def rootRatio (num den : Nat) : Nat := greatest 16 fun v => v * v * den ≤ num

/-- A countdown of whole seconds of operation, `none` while stopped. -/
def countDown (t : Option Nat) : Option Nat := t.map (· - 1)

/-- The first ten-minute boundary later than `t` (R99, R158). DESIGN CHOICE (log entry 76): in the last ten minutes of day 65535,
where the calendar reaches none (R152), it is (65536, 0). -/
def nextBoundary (t : Timestamp) : Timestamp :=
  let b := (t.sec / 600 + 1) * 600
  if b < 86400 then ⟨t.day, b⟩ else ⟨t.day + 1, 0⟩

/-- The planned end of an interval that starts at the calendar reading `now` (R99, R158). -/
def plannedEndFrom (now : Option Timestamp) : PlannedEnd :=
  match now with
  | some t => .boundary (nextBoundary t)
  | none => .seconds 600

/-- A map over a vector that the kernel can evaluate. -/
def vmap {α β : Type} {n : Nat} (f : α → β) (v : Vector α n) : Vector β n := Vector.ofFn fun i => f v[i]

/-- A map over two vectors. -/
def vzip {α β γ : Type} {n : Nat} (f : α → β → γ) (v : Vector α n) (w : Vector β n) : Vector γ n :=
  Vector.ofFn fun i => f v[i] w[i]

def PerMonitor.get {α : Type} (v : PerMonitor α) : Monitor → α
  | .gvm => v.gvm
  | .ghm => v.ghm
  | .bim => v.bim

def PerMonitor.set {α : Type} (v : PerMonitor α) (m : Monitor) (x : α) : PerMonitor α :=
  match m with
  | .gvm => { v with gvm := x }
  | .ghm => { v with ghm := x }
  | .bim => { v with bim := x }

def PerPhase.map {α β : Type} (f : α → β) (v : PerPhase α) : PerPhase β := ⟨f v.a, f v.b, f v.c⟩

def PerPhase.zip {α β γ : Type} (f : α → β → γ) (v : PerPhase α) (w : PerPhase β) : PerPhase γ :=
  ⟨f v.a w.a, f v.b w.b, f v.c w.c⟩

def PerPhase.toList {α : Type} (v : PerPhase α) : List α := [v.a, v.b, v.c]

def Quantities.map {α β : Type} (f : α → β) (q : Quantities α) : Quantities β :=
  ⟨q.ratio.map (vmap f), q.thd.map f, q.currentThd.map f⟩

def Quantities.zip {α β γ : Type} (f : α → β → γ) (q : Quantities α) (r : Quantities β) : Quantities γ :=
  ⟨q.ratio.zip (vzip f) r.ratio, q.thd.zip f r.thd, q.currentThd.zip f r.currentThd⟩

end Sys2Proof.Machine
end

