-- ==== Sys2Proof/Machine/Flags.lean ====
section
/-! DEFINITION. The notice sets and masks of the ports and their attention lines (R192, R193, R199). -/

namespace Sys2Proof.Machine

/-- The notice categories, in the order of the bits from 0 upward (R199). -/
inductive Notice where
  | alarmRaised | alarmCleared | ceilingChanged | taskState | snapshotTaken | icingState | gridRecord
  | dayClosed | start | linkOverrun
  deriving DecidableEq, Repr

/-- The bit of a category in a set or a mask (R199). -/
def Notice.bit : Notice → NoticeSet
  | .alarmRaised => 0x001#16
  | .alarmCleared => 0x002#16
  | .ceilingChanged => 0x004#16
  | .taskState => 0x008#16
  | .snapshotTaken => 0x010#16
  | .icingState => 0x020#16
  | .gridRecord => 0x040#16
  | .dayClosed => 0x080#16
  | .start => 0x100#16
  | .linkOverrun => 0x200#16

/-- Whether the attention line of a port is asserted (R193, R183): while the part operates, some category is
both in the set and in the mask. -/
def attentionLine (operating : Bool) (set mask : NoticeSet) : Bool := operating && (set &&& mask) != 0

/-- Brings the attention line of one port to its set and mask (R193). -/
def refreshLine (operating : Bool) (mask : NoticeSet) (p : PortState) : PortState :=
  { p with attention := attentionLine operating p.notices mask }

/-- Brings the three attention lines to the sets, the masks and the operating state (R193). -/
def refreshLines (s : State) : State :=
  { s with lnk :=
    ⟨refreshLine s.ret.operating s.cfg.masks.cp s.lnk.cp,
     refreshLine s.ret.operating s.cfg.masks.fp s.lnk.fp,
     refreshLine s.ret.operating s.cfg.masks.sp s.lnk.sp⟩ }

/-- Sets categories in one port's notice set; a category already held leaves the set as it is (R192). -/
def addNotice (n : Notice) (p : PortState) : PortState := { p with notices := p.notices ||| n.bit }

/-- Sets a category in the notice set of each of the three ports (section 11.4). -/
def setNotice (n : Notice) (s : State) : State := refreshLines { s with lnk := s.lnk.map (addNotice n) }

/-- Sets a category in the notice set of one port (section 11.4, LINK_OVERRUN). -/
def setPortNotice (p : Port) (n : Notice) (s : State) : State :=
  refreshLines { s with lnk := s.lnk.set p (addNotice n (s.lnk.get p)) }

/-- Replaces the state of one port. -/
def withPort (p : Port) (f : PortState → PortState) (s : State) : State :=
  { s with lnk := s.lnk.set p (f (s.lnk.get p)) }

end Sys2Proof.Machine
end

