-- ==== Sys2Proof/Machine/Ops.lean ====
section
/-! DEFINITION. The operations every block shares: reports to the day record (R161), the alarm table with its
snapshots (R142 to R147) and the ceiling contributions (R138). -/

namespace Sys2Proof.Machine

/-! ## Check words (R177) -/

/-- `t`, reached from `s` by one event: the check word of every section that the event changed is recomputed with it, and so
matches; every other word stays as it is (R177). -/
def rechecked (s t : State) : State :=
  { t with
    check :=
      { config := t.check.config || t.cfg ≠ s.cfg
        monitor := t.check.monitor || t.mon ≠ s.mon
        plan := t.check.plan || t.plan ≠ s.plan
        records := t.check.records || t.records ≠ s.records
        calendar := t.check.calendar || t.cal ≠ s.cal } }

/-! ## Reports to the open day record -/

/-- A report to the Planner: it goes to the open day record while the calendar is set, and to the undated
tally while it is unset (R161). -/
def reportDay (f : DayRecord → DayRecord) (s : State) : State :=
  match s.cal with
  | some _ => { s with plan := { s.plan with openDay := { s.plan.openDay with record := f s.plan.openDay.record } } }
  | none => { s with plan := { s.plan with undated := f s.plan.undated } }

/-- One alarm entry has entered ACTIVE_UNACK (R161). -/
def DayRecord.addAlarm (r : DayRecord) : DayRecord := { r with alarms := inc16 r.alarms }

/-- One analysis skip (R161). -/
def DayRecord.addSkip (r : DayRecord) : DayRecord := { r with skips := inc16 r.skips }

/-- One disturbed window (R161). -/
def DayRecord.addDisturbed (r : DayRecord) : DayRecord := { r with disturbed := inc16 r.disturbed }

/-- One compliance record with a non-empty exceedance set (R161). -/
def DayRecord.addExceedance (r : DayRecord) : DayRecord := { r with exceedances := inc16 r.exceedances }

/-- One BIM step that reports the given state (R112, R161). -/
def DayRecord.addMinute (st : IcingState) (r : DayRecord) : DayRecord :=
  match st with
  | .iced => { r with icedMinutes := inc16 r.icedMinutes }
  | .suspect => { r with suspectMinutes := inc16 r.suspectMinutes }
  | .clear | .shedding => r

/-! ## Snapshots (section 8.4) -/

/-- The fixed severity of an alarm code (R142). -/
def severity : AlarmCode → Nat
  | .sensorFault | .converterFault | .tempRefFault | .ceilingUnheeded | .retainedLost => 3
  | .tachoMismatch | .tempOpen | .tempShort | .bandAlarm | .gridCurrentAlarm | .iceDetected
  | .controllerSilent | .taskOverdue | .taskTableFull => 2
  | .tachoStall | .bandAlert | .gridVoltageExceed | .gridCurrentAlert | .iceSuspect | .taskDue => 1

/-- The mean of the score ring (R115), none when it is empty (R132). -/
def ringMean (ring : List Nat) : Option Nat :=
  match ring with
  | [] => none
  | _ => some (ring.sum / ring.length)

/-- A temperature record as it stands, with its fault field (R41, R42). -/
def tempCopy (s : State) (t : Temp) : TempCopy :=
  { record := (s.rch.sensor.get t).record, ref := s.rch.refFault, fault := (s.rch.sensor.get t).fault }

/-- The record of a snapshot with the values as they stand (R147). -/
def snapshotRecord (code : AlarmCode) (source : Source) (number : Nat) (s : State) : Snapshot :=
  { number := number
    time := s.cal
    code := code
    source := source
    op := s.ccu.op
    p0 := s.ptu.chan.p0.latest
    p1 := s.ptu.chan.p1.latest
    temps := ⟨tempCopy s .s0, tempCopy s .s1, tempCopy s .s2, tempCopy s .s3⟩
    bands := vzip (fun (l : LastLevel) (b : BandState) => (l.level, b.grade)) s.gvm.lastLevel s.mon.bands
    grid := s.ghm.lastSummary
    icing := s.mon.icing.state
    mean := ringMean s.mon.icing.ring
    ceiling := s.ccu.ceiling
    ceilingSeq := s.mon.ceilingSeq }

/-- Of two filled unlocked slots, the index of the snapshot taken earlier; `best` is the earliest so far. -/
def earlierSlot (slots : Vector (Option SnapshotSlot) 8) (best : Option (Nat × Fin 8)) (i : Fin 8) :
    Option (Nat × Fin 8) :=
  match slots[i] with
  | none => best
  | some c =>
    if c.locked then best
    else
      match best with
      | none => some (c.order, i)
      | some (o, j) => if c.order < o then some (c.order, i) else some (o, j)

/-- The slot a new snapshot goes into (R147): the lowest-numbered empty slot, or else the unlocked snapshot taken
earliest. There is none only if all eight are locked, which R148 rules out. -/
def snapshotSlotFor (slots : Vector (Option SnapshotSlot) 8) : Option (Fin 8) :=
  match (List.finRange 8).find? fun i => slots[i].isNone with
  | some i => some i
  | none => ((List.finRange 8).foldl (earlierSlot slots) none).map Prod.snd

/-- Takes a snapshot triggered by the entry (code, source) (R147). -/
def takeSnapshot (code : AlarmCode) (source : Source) (s : State) : State :=
  match snapshotSlotFor s.records.slots with
  | none => s
  | some i =>
    let number := next16 s.records.snapshotNumber
    setNotice .snapshotTaken
      { s with
        records :=
          { s.records with
            slots := s.records.slots.set i
              (some { record := snapshotRecord code source number s, order := s.records.taken })
            snapshotNumber := number
            taken := s.records.taken + 1 }
        ccu := { s.ccu with counters := { s.ccu.counters with snapshots := inc16 s.ccu.counters.snapshots } } }

/-! ## The alarm table (section 8.3) -/

/-- Whether an entry has the key (code, source) (R143). -/
def AlarmEntry.has (code : AlarmCode) (source : Source) (e : AlarmEntry) : Bool :=
  e.code = code && e.source = source

/-- The entry with the key (code, source), if the table holds one. -/
def findAlarm (code : AlarmCode) (source : Source) (s : State) : Option AlarmEntry :=
  s.ccu.alarms.find? (AlarmEntry.has code source)

/-- Applies `f` to the entry with the key (code, source). -/
def updateAlarm (code : AlarmCode) (source : Source) (f : AlarmEntry → AlarmEntry) (s : State) : State :=
  { s with ccu := { s.ccu with alarms := s.ccu.alarms.map fun e => if e.has code source then f e else e } }

/-- Removes the first entry that satisfies `p`: the oldest, since the table is in order of creation. -/
def removeOldest (p : AlarmEntry → Bool) (l : List AlarmEntry) : List AlarmEntry := l.eraseP p

/-- Removes the entry with the key (code, source); the table then has a free entry, so TABLE_OVERFLOW is
cleared (R144, R146). -/
def removeAlarm (code : AlarmCode) (source : Source) (s : State) : State :=
  { s with ccu := { s.ccu with alarms := s.ccu.alarms.eraseP (AlarmEntry.has code source), tableOverflow := false } }

/-- What follows the entry of an alarm into ACTIVE_UNACK: the notice (R143), the report to the day record (R161)
and, outside the start restoration (R150), the snapshot (R147). -/
def enteredActive (snap : Bool) (code : AlarmCode) (source : Source) (s : State) : State :=
  let s1 := reportDay DayRecord.addAlarm (setNotice .alarmRaised s)
  if snap && s1.cfg.snapshotThreshold ≤ severity code then takeSnapshot code source s1 else s1

/-- A new entry at the end of the order (R143). -/
def createAlarm (snap : Bool) (code : AlarmCode) (source : Source) (s : State) : State :=
  enteredActive snap code source
    { s with ccu := { s.ccu with alarms := s.ccu.alarms ++
      [{ code := code, source := source, raisedAt := s.cal, lastChange := s.cal }] } }

/-- Counts an eviction (R146). -/
def countEviction (c : CcuState) : CcuState :=
  { c with counters := { c.counters with evictions := inc16 c.counters.evictions } }

/-- Whether an entry may be evicted in step 2 of R146 for an alarm of severity `sev`. -/
def evictable (sev : Nat) (e : AlarmEntry) : Bool := e.state = .activeAck && severity e.code < sev

/-- A raise that needs a new entry while the table is full (R146). -/
def raiseIntoFull (snap : Bool) (code : AlarmCode) (source : Source) (s : State) : State :=
  if s.ccu.alarms.any (·.state = .clearedUnack) then
    createAlarm snap code source
      { s with ccu := countEviction { s.ccu with alarms := removeOldest (·.state = .clearedUnack) s.ccu.alarms } }
  else if s.ccu.alarms.any (evictable (severity code)) then
    createAlarm snap code source
      { s with ccu := countEviction { s.ccu with alarms := removeOldest (evictable (severity code)) s.ccu.alarms } }
  else
    setNotice .alarmRaised
      { s with ccu :=
        { s.ccu with
          tableOverflow := true
          counters := { s.ccu.counters with overflows := inc16 s.ccu.counters.overflows } } }

/-- A further occurrence of an entry (R143). -/
def AlarmEntry.again (now : Option Timestamp) (e : AlarmEntry) : AlarmEntry :=
  { e with occurrences := min (e.occurrences + 1) 255, lastChange := now }

/-- A CLEARED_UNACK entry returns to ACTIVE_UNACK (R143). -/
def AlarmEntry.return (now : Option Timestamp) (e : AlarmEntry) : AlarmEntry :=
  { e with state := .activeUnack, occurrences := min (e.occurrences + 1) 255, ackBy := none, raisedAt := now, lastChange := now }

/-- A raise of (code, source) (R143); `snap` is clear in the start restoration (R150). -/
def raiseWith (snap : Bool) (code : AlarmCode) (source : Source) (s : State) : State :=
  match findAlarm code source s with
  | some e =>
    match e.state with
    | .activeUnack | .activeAck => updateAlarm code source (AlarmEntry.again s.cal) s
    | .clearedUnack => enteredActive snap code source (updateAlarm code source (AlarmEntry.return s.cal) s)
  | none =>
    if s.ccu.alarms.length < 32 then createAlarm snap code source s else raiseIntoFull snap code source s

/-- A raise of (code, source) during operation (R143). -/
def raise (code : AlarmCode) (source : Source) (s : State) : State := raiseWith true code source s

/-- A clear of (code, source) (R144). -/
def clearAlarm (code : AlarmCode) (source : Source) (s : State) : State :=
  match findAlarm code source s with
  | none => s
  | some e =>
    match e.state with
    | .activeUnack =>
      setNotice .alarmCleared
        (updateAlarm code source (fun e => { e with state := .clearedUnack, lastChange := s.cal }) s)
    | .activeAck => setNotice .alarmCleared (removeAlarm code source s)
    | .clearedUnack => s

/-- The acknowledgement of one entry from a port (R145): whether it was ACTIVE_UNACK, whether it left the table,
and the state after. RETAINED_LOST is cleared by the RET when its entry becomes ACTIVE_ACK (R182). -/
def acknowledge (p : Port) (e : AlarmEntry) (s : State) : Bool × Bool × State :=
  match e.state with
  | .activeUnack =>
    let s1 := updateAlarm e.code e.source (fun x => { x with state := .activeAck, ackBy := some p, lastChange := s.cal }) s
    if e.code = .retainedLost then (true, true, clearAlarm e.code e.source s1) else (true, false, s1)
  | .activeAck => (false, false, s)
  | .clearedUnack => (false, true, removeAlarm e.code e.source s)

/-! ## The ceiling (section 8.2) -/

/-- The owners of a ceiling contribution. -/
inductive Contributor where
  | icing | gearbox | grid | planner
  deriving DecidableEq, Repr

/-- The contribution an owner holds with the CCU. -/
def Contributions.get (c : Contributions) : Contributor → Option Nat
  | .icing => c.icing
  | .gearbox => c.gearbox
  | .grid => c.grid
  | .planner => c.planner

/-- Replaces the contribution of an owner. -/
def Contributions.set (c : Contributions) (who : Contributor) (v : Nat) : Contributions :=
  match who with
  | .icing => { c with icing := some v }
  | .gearbox => { c with gearbox := some v }
  | .grid => { c with grid := some v }
  | .planner => { c with planner := some v }

/-- The least of the four contributions (R138); one that is not yet posted does not lower it. -/
def leastContribution (c : Contributions) : Nat :=
  min (min (c.icing.getD 100) (c.gearbox.getD 100)) (min (c.grid.getD 100) (c.planner.getD 100))

/-- A post made during a start only records the contribution (R138). -/
def recordContribution (who : Contributor) (v : Nat) (s : State) : State :=
  { s with ccu := { s.ccu with contributions := s.ccu.contributions.set who v } }

/-- Publishes a ceiling value with a new sequence number, unacknowledged, with a full acknowledge wait (R138, R150). -/
def publishCeiling (v : Nat) (s : State) : State :=
  setNotice .ceilingChanged
    { s with
      ccu := { s.ccu with ceiling := some v, acknowledged := false, ackTimer := some 30 }
      mon := { s.mon with ceilingSeq := next16 s.mon.ceilingSeq } }

/-- A post of a contribution during operation (R138). -/
def postContribution (who : Contributor) (v : Nat) (s : State) : State :=
  let s1 := recordContribution who v s
  let least := leastContribution s1.ccu.contributions
  if s1.ccu.ceiling = some least then s1 else publishCeiling least s1

end Sys2Proof.Machine
end

