-- ==== Sys2Proof/Machine/Afe.lean ====
section
/-! DEFINITION. The capture buffers of the AFE (R3, R9 to R17): samples, requests, completion, release and cancellation. -/

namespace Sys2Proof.Machine

/-! ## Samples (R3, R12) -/

/-- A sample and its clipped mark from a raw value and the trim in force (R3). -/
def sampleOf (trim raw : Int) : Int × Bool :=
  let diff := raw - trim
  (clampInt (-32768) 32767 diff,
   raw = -32768 || raw = 32767 || diff < -32768 || 32767 < diff)

/-- One instant: the samples of its channels, and whether any of them is clipped (R12). -/
def rowOf (trims raws : List Int) : List Int × Bool :=
  let r := List.zipWith sampleOf trims raws
  (r.map Prod.fst, r.any Prod.snd)

/-- The instants of a capture: segment i was converted under the i-th trim of the capture (R3). -/
def rowsOf (trims : List (List Int)) (segments : List (List (List Int))) : List (List Int × Bool) :=
  (List.zipWith (fun t seg => seg.map (rowOf t)) trims segments).flatten

/-- One stored sample from a group of D: the sum divided by D, rounded toward zero (R12). -/
def meanOf (d : Nat) (group : List (List Int × Bool)) : List Int × Bool :=
  ([Int.tdiv (group.map fun r => r.1.getD 0 0).sum d], group.any Prod.snd)

/-- The stored samples of `n` successive groups of D (R12). -/
def decimate (d : Nat) : Nat → List (List Int × Bool) → List (List Int × Bool)
  | 0, _ => []
  | n + 1, rows => meanOf d (rows.take d) :: decimate d n (rows.drop d)

/-- The six raw values of a grid instant in the order of R12. -/
def gridRow (g : GridInstant) : List Int := [g.ua, g.ub, g.uc, g.ia, g.ib, g.ic]

/-- The place of an accelerometer channel among the trims (R198). -/
def trimIndex : Accel → Fin 11
  | .g1 => 0
  | .g2 => 1
  | .g3 => 2
  | .g4 => 3
  | .n1 => 4

/-- The trims in force for a capture (R2): one for a FIXED capture, six for a window. -/
def trimsFor (trims : Vector Int 11) : CaptureKind → List Int
  | .fixed ch _ _ => [trims[trimIndex ch]]
  | .window => [trims[5], trims[6], trims[7], trims[8], trims[9], trims[10]]

/-! ## Buffers -/

/-- The buffer named. -/
def bufferOf (s : State) (b : BufferId) : Buffer := s.afe.buffers.get b

/-- Replaces a buffer. -/
def setBuffer (b : BufferId) (x : Buffer) (s : State) : State :=
  { s with afe := { s.afe with buffers := s.afe.buffers.set b x } }

/-- Whether a buffer is FREE. -/
def Buffer.isFree : Buffer → Bool
  | .free => true
  | _ => false

/-- Whether a buffer is FULL. -/
def Buffer.isFull : Buffer → Bool
  | .full _ => true
  | _ => false

/-- Whether a buffer is FILLING. -/
def Buffer.isFilling : Buffer → Bool
  | .filling _ => true
  | _ => false

/-- The capture record a buffer holds while it is not FREE (R9). -/
def Buffer.record : Buffer → Option CaptureRecord
  | .free => none
  | .filling r | .full r | .inAnalysis r => some r

/-- The owner of a buffer (section 1.5). -/
def bufferOwner : BufferId → Monitor
  | .gvmA | .gvmB => .gvm
  | .bimA => .bim
  | .ghmA | .ghmB => .ghm

/-- The buffers of an owner in the order A, B (R11). -/
def Monitor.buffers : Monitor → List BufferId
  | .gvm => [.gvmA, .gvmB]
  | .ghm => [.ghmA, .ghmB]
  | .bim => [.bimA]

/-- The refusal reasons of a capture request (R11). -/
inductive CaptureRefusal where
  | parameter | converter | channelFault | noBuffer
  deriving DecidableEq, Repr

/-- Whether a request lies inside the table of R10. -/
def captureParamsOk (owner : Monitor) : CaptureKind → Bool
  | .fixed ch d n =>
    (match owner with
      | .gvm => ch ≠ .n1
      | .bim => ch = .n1
      | .ghm => false) && (d = 1 || d = 2 || d = 4 || d = 8 || d = 16) && 1 ≤ n && n ≤ 65536
  | .window => owner = .ghm

/-- Whether the channel a request names is in a fault state (R11). -/
def captureChannelFaulty (s : State) : CaptureKind → Bool
  | .fixed ch _ _ => (s.afe.accel.get ch).fault ≠ .none
  | .window => false

/-- The judgement of a capture request, by the first condition that holds (R11). -/
def judgeCapture (owner : Monitor) (kind : CaptureKind) (s : State) : Except CaptureRefusal BufferId :=
  if !captureParamsOk owner kind then .error .parameter
  else if s.afe.converterFault then .error .converter
  else if captureChannelFaulty s kind then .error .channelFault
  else
    match owner.buffers.find? fun b => (bufferOf s b).isFree with
    | none => .error .noBuffer
    | some b => .ok b

/-- The start of an accepted capture: the buffer becomes FILLING with a fresh record (R11). -/
def beginCapture (b : BufferId) (kind : CaptureKind) (s : State) : State :=
  setBuffer b (.filling { kind := kind, trims := [trimsFor s.cfg.trims kind] }) s

/-- Stored rows join a capture record: the count grows and the clipped flag is set by a clipped one (R9, R12). -/
def CaptureRecord.store (rows : List (List Int × Bool)) (r : CaptureRecord) : CaptureRecord :=
  { r with
    stored := r.stored + rows.length
    samples := r.samples ++ rows.map Prod.fst
    clipped := r.clipped || rows.any Prod.snd }

/-- The completion of a FIXED capture with the conversions of its channel that it has not yet taken, a segment for each
trim in force since (R12, R13). None while the n-th stored sample has not been converted. -/
def completeFixed (r : CaptureRecord) (segments : List (List Int)) : Option CaptureRecord :=
  match r.kind with
  | .window => none
  | .fixed _ d n =>
    let rows := r.group ++ rowsOf r.trims (segments.map fun seg => seg.map fun x => [x])
    if rows.length < (n - r.stored) * d then none
    else some (CaptureRecord.store (decimate d (n - r.stored) rows) { r with group := [] })

/-- The window capture with the instants it has not yet taken: at most 1,600 are stored, and the 1,600th sets the
limit-reached flag (R12, R14). -/
def fillWindow (r : CaptureRecord) (segments : List (List GridInstant)) : CaptureRecord :=
  let rows := (rowsOf r.trims (segments.map fun seg => seg.map gridRow)).take (1600 - r.stored)
  let r' := r.store rows
  { r' with limitReached := 1600 ≤ r'.stored }

/-- One conversion of its channel, already a sample, joins a FIXED capture: the D-th of a group makes it a stored sample
(R12). -/
def CaptureRecord.takeSample (d : Nat) (row : List Int × Bool) (r : CaptureRecord) : CaptureRecord :=
  let group := r.group ++ [row]
  if group.length < d then { r with group := group } else CaptureRecord.store [meanOf d group] { r with group := [] }

/-- One conversion instant joins the capture record of a FILLING buffer under the trims in force (R3, R9, R12); `grid` tells
whether the instant is one of the grid channels (R1). -/
def CaptureRecord.convert (trims : List Int) (grid : Bool) (c : Conversion) (r : CaptureRecord) : CaptureRecord :=
  let r' := { r with trims := [trims] }
  match r.kind with
  | .fixed ch d _ => r'.takeSample d (rowOf trims [(c.accel.get ch).toInt])
  | .window => if grid then r'.store [rowOf trims (c.grid.toList.map BitVec.toInt)] else r

/-- One conversion instant reaches a buffer: only a FILLING one copies samples (R1, R9). -/
def Buffer.convert (trims : Vector Int 11) (grid : Bool) (c : Conversion) : Buffer → Buffer
  | .filling r => .filling (r.convert (trimsFor trims r.kind) grid c)
  | b => b

/-- An owner's release: a FULL buffer becomes FREE, any other is left alone (R15). -/
def releaseBuffer (b : BufferId) (s : State) : State := if (bufferOf s b).isFull then setBuffer b .free s else s

/-- An owner's cancellation: FILLING and FULL buffers become FREE, others are left alone (R16). -/
def cancelBuffer (b : BufferId) (s : State) : State :=
  match bufferOf s b with
  | .filling _ | .full _ => setBuffer b .free s
  | .free | .inAnalysis _ => s

/-- A written trim: it joins the trims of every FILLING capture of its channel, so that the samples before and
after it are told apart (R3). -/
def noteTrim (trims : Vector Int 11) (index : Nat) : Buffer → Buffer
  | .filling r =>
    match r.kind with
    | .fixed ch _ _ =>
      if (trimIndex ch).val = index then .filling { r with trims := r.trims ++ [trimsFor trims r.kind] } else .filling r
    | .window => if 5 ≤ index then .filling { r with trims := r.trims ++ [trimsFor trims r.kind] } else .filling r
  | b => b

end Sys2Proof.Machine
end

