-- ==== Sys2Proof/Machine/Spe.lean ====
section
/-! DEFINITION. The queue and the arbiter of the SPE (R45 to R54, R59, R62): submission, selection, withdrawal. -/

namespace Sys2Proof.Machine

/-- The sample rate of a request in S/s (R45). -/
def AnalysisRequest.sampleRate (r : AnalysisRequest) : Nat :=
  match r.mode with
  | .bands _ d _ _ | .peak _ d _ _ _ => 25600 / d
  | .harmonics _ _ _ => 6400

/-- Updates the counters of one source. -/
def countSpe (m : Monitor) (f : SpeCounters → SpeCounters) (s : State) : State :=
  { s with spe := { s.spe with counters := s.spe.counters.set m (f (s.spe.counters.get m)) } }

/-- A record length of R54 and R62. -/
def recordLengthOk (n : Nat) : Bool := n = 4096 || n = 8192 || n = 16384 || n = 32768 || n = 65536

/-- The decimation of a FIXED capture. -/
def CaptureKind.decimation : CaptureKind → Nat
  | .fixed _ d _ => d
  | .window => 1

/-- An entry of a band list inside the ranges of R54. -/
def BandPlace.ok (p : BandPlace) : Bool := p.band ≤ 23 && p.centre ≤ 65535 && p.halfWidth ≤ 65535

/-- Whether the mode is the source's own and its parameters keep the limits of R54, R59 and R62, against the
capture record of the buffer. -/
def modeOk (source : Monitor) (mode : AnalysisMode) (r : CaptureRecord) : Bool :=
  match mode with
  | .bands n d speed list =>
    source = .gvm && recordLengthOk n && n = r.stored && d = r.kind.decimation && 1 ≤ speed && speed ≤ max32 &&
      1 ≤ list.length && list.length ≤ 6 && list.all BandPlace.ok
  | .harmonics c t s =>
    source = .ghm && (c = 10 || c = 12) && 1 ≤ t && t ≤ max32 && 2 ≤ s && s ≤ 1600 && s = r.stored
  | .peak n d fLo fHi floor =>
    source = .bim && recordLengthOk n && n = r.stored && d = r.kind.decimation && fLo ≤ fHi && fHi ≤ max32 &&
      floor ≤ 281474976710655

/-- Whether a waiting request or the request in progress names the buffer. -/
def bufferNamed (b : BufferId) (s : State) : Bool :=
  (s.spe.queue.any fun r => r.buffer = b) || s.spe.inProgress.any fun r => r.buffer = b

/-- The refusal reasons of a submission (R46). -/
inductive SubmitRefusal where
  | buffer | parameter
  deriving DecidableEq, Repr

/-- The buffer's turn from FULL to IN_ANALYSIS (R15, R49). -/
def Buffer.toAnalysis : Buffer → Buffer
  | .full r => .inAnalysis r
  | b => b

/-- The owner's view of a request that begins: the GVM measurement named by the tag goes from QUEUED to
ANALYSING (R71), and so does the window entry's request of a GHM window (R94). -/
def noteBegun (r : AnalysisRequest) (s : State) : State :=
  match r.source with
  | .gvm =>
    { s with gvm := { s.gvm with work := vmap (fun w =>
        if w.outstanding = some r.arrival ∧ w.work = .queued then { w with work := .analysing } else w) s.gvm.work } }
  | .ghm =>
    { s with ghm := { s.ghm with entries := s.ghm.entries.map fun e =>
        if e.request = WindowRequest.queued r.arrival then { e with request := .analysing r.arrival } else e } }
  | .bim => s

/-- The marker after a request of a source begins (R49). -/
def markerAfter (source : Monitor) (old : Marker) : Marker :=
  match source with
  | .gvm => .gvm
  | .bim => .bim
  | .ghm => old

/-- A request begins (R49). -/
def beginRequest (r : AnalysisRequest) (s : State) : State :=
  noteBegun r (setBuffer r.buffer (bufferOf s r.buffer).toAnalysis
    { s with spe :=
      { s.spe with
        queue := s.spe.queue.eraseP (·.arrival = r.arrival)
        inProgress := some r
        marker := markerAfter r.source s.spe.marker } })

/-- The oldest waiting request of a source. -/
def oldestOf (source : Monitor) (q : List AnalysisRequest) : Option AnalysisRequest := q.find? (·.source = source)

/-- The source the arbiter tries first when no GHM request waits, and the other one (R48). -/
def alternation : Marker → Monitor × Monitor
  | .gvm => (.bim, .gvm)
  | .bim => (.gvm, .bim)

/-- The arbiter's choice (R48). -/
def choose (marker : Marker) (q : List AnalysisRequest) : Option AnalysisRequest :=
  match oldestOf .ghm q with
  | some r => some r
  | none =>
    match oldestOf (alternation marker).1 q with
    | some r => some r
    | none => oldestOf (alternation marker).2 q

/-- A selection: made when the engine is IDLE; with an empty queue it stays IDLE (R48). -/
def select (s : State) : State :=
  match s.spe.inProgress with
  | some _ => s
  | none =>
    match choose s.spe.marker s.spe.queue with
    | none => s
    | some r => beginRequest r s

/-- The next arrival number: 32-bit, wrapping (R45). -/
def nextArrival (n : Nat) : Nat := (n + 1) % 4294967296

/-- The judgement of a submission (R46). -/
def judgeSubmission (source : Monitor) (b : BufferId) (mode : AnalysisMode) (s : State) : Except SubmitRefusal CaptureRecord :=
  match bufferOf s b with
  | .full r =>
    if bufferOwner b ≠ source || bufferNamed b s then .error .buffer
    else if modeOk source mode r then .ok r else .error .parameter
  | .free | .filling _ | .inAnalysis _ => .error .buffer

/-- A refused submission counts by its reason (R47). -/
def countRefusal (reason : SubmitRefusal) (c : SpeCounters) : SpeCounters :=
  match reason with
  | .buffer => { c with refusedBuffer := inc16 c.refusedBuffer }
  | .parameter => { c with refusedParameter := inc16 c.refusedParameter }

/-- A submission (R46, R47): the arrival number when accepted, and the state after, in which the request has
begun if the engine was IDLE. -/
def submit (source : Monitor) (tag : Nat) (b : BufferId) (mode : AnalysisMode) (s : State) :
    Except SubmitRefusal Nat × State :=
  match judgeSubmission source b mode s with
  | .error reason => (.error reason, countSpe source (countRefusal reason) s)
  | .ok r =>
    let arrival := nextArrival s.spe.arrival
    let s1 := countSpe source (fun c => { c with accepted := inc16 c.accepted }) s
    (.ok arrival, select
      { s1 with spe :=
        { s1.spe with
          arrival := arrival
          queue := s1.spe.queue ++
            [{ source := source, tag := tag, buffer := b, mode := mode, clipped := r.clipped, arrival := arrival }] } })

/-- Whether a request belongs to the withdrawn work: the source, and one tag or all (R51). -/
def withdrawn (source : Monitor) (tag : Option Nat) (r : AnalysisRequest) : Bool :=
  r.source = source && (match tag with
    | none => true
    | some t => r.tag = t)

/-- A withdrawal (R51, R52): the requests removed, in queue order, for their removal reports, and the engine after. -/
def withdraw (source : Monitor) (tag : Option Nat) (s : State) : List AnalysisRequest × State :=
  let removed := s.spe.queue.filter (withdrawn source tag)
  (removed, countSpe source (fun c => { c with removed := add16 c.removed removed.length })
    { s with spe :=
      { s.spe with
        queue := s.spe.queue.filter fun r => !withdrawn source tag r
        inProgress := s.spe.inProgress.map fun r => if withdrawn source tag r then { r with discard := true } else r } })

/-- The counter an end of request moves (R50). -/
def countEnd (discard : Bool) (c : SpeCounters) : SpeCounters :=
  if discard then { c with discarded := inc16 c.discarded } else { c with delivered := inc16 c.delivered }

/-- The engine becomes IDLE (R50 step 3). -/
def idleEngine (s : State) : State := { s with spe := { s.spe with inProgress := none } }

/-- The engine's part of an end of request (R50): the counter, the buffer FREE, IDLE, and the next selection. -/
def finishRequest (r : AnalysisRequest) (s : State) : State :=
  select (idleEngine (setBuffer r.buffer .free (countSpe r.source (countEnd r.discard) s)))

end Sys2Proof.Machine
end

