-- ==== Sys2Proof/Machine/Layout.lean ====
section
/-! DEFINITION. The field encodings of R199, the reading of fields from a body, and the answer an owner gives to a
request. -/

namespace Sys2Proof.Machine

/-- What an owner answers to a request: the status, the replaced indication (R83) and the reply's content. -/
structure Answer where
  status : Status
  replaced : Bool := false
  content : List Octet := []
  deriving DecidableEq, Repr

/-- An unsigned number in `k` octets, high octet first (R199). -/
def encNat : Nat → Nat → List Octet
  | 0, _ => []
  | k + 1, n => BitVec.ofNat 8 (n / 256 ^ k) :: encNat k n

/-- A signed number in `k` octets, two's complement (R199). -/
def encInt (k : Nat) (x : Int) : List Octet := encNat k (x % (256 ^ k : Nat)).toNat

/-- A flag (R199). -/
def encFlag (b : Bool) : List Octet := [if b then 1 else 0]

/-- A field of `k` octets that may be absent (R199): an absent field's octets are 0. -/
def encOpt {α : Type} (k : Nat) (f : α → List Octet) : Option α → List Octet
  | some x => 1 :: f x
  | none => 0 :: List.replicate k 0

/-- A list of varying length (R199). -/
def encList {α : Type} (f : α → List Octet) (l : List α) : List Octet := encNat 1 l.length ++ l.flatMap f

/-- A timestamp (R199). -/
def encTime (t : Timestamp) : List Octet := encNat 2 t.day ++ encNat 4 t.sec

/-- A timestamp that may be absent (R199). -/
def encTimeOpt (t : Option Timestamp) : List Octet := encOpt 6 encTime t

/-- An unsigned number that may be absent. -/
def encNatOpt (k : Nat) (n : Option Nat) : List Octet := encOpt k (encNat k) n

/-! ## Reading a body -/

/-- A reader of fields: the value and the octets left, or nothing where the octets do not fit (R189). -/
abbrev Reader (α : Type) := List Octet → Option (α × List Octet)

/-- `k` octets as an unsigned number. -/
def readNat : Nat → Nat → Reader Nat
  | 0, acc, l => some (acc, l)
  | _ + 1, _, [] => none
  | k + 1, acc, x :: l => readNat k (acc * 256 + x.toNat) l

/-- An unsigned number of `k` octets. -/
def getNat (k : Nat) : Reader Nat := readNat k 0

/-- A signed number of `k` octets. -/
def getInt (k : Nat) : Reader Int := fun l =>
  (getNat k l).map fun (n, rest) => (if n < 256 ^ k / 2 then (n : Int) else (n : Int) - (256 ^ k : Nat), rest)

/-- A code of one octet, from a list of values in their coded order (R199). -/
def getCode {α : Type} (values : List α) : Reader α := fun l =>
  match getNat 1 l with
  | none => none
  | some (n, rest) => (values[n]?).map fun v => (v, rest)

/-- A flag. -/
def getFlag : Reader Bool := getCode [false, true]

/-- A field of `k` octets that may be absent; the presence octet is 0 or 1, and an absent field's octets are 0. -/
def getOpt {α : Type} (k : Nat) (r : Reader α) : Reader (Option α) := fun l =>
  match getFlag l with
  | none => none
  | some (true, rest) => (r rest).map fun (x, rest') => (some x, rest')
  | some (false, rest) =>
    if rest.length < k || (rest.take k).any (· ≠ 0) then none else some (none, rest.drop k)

/-- `n` values in a row. -/
def getMany {α : Type} (r : Reader α) : Nat → Reader (List α)
  | 0, l => some ([], l)
  | n + 1, l =>
    match r l with
    | none => none
    | some (x, rest) => (getMany r n rest).map fun (xs, rest') => (x :: xs, rest')

/-- A list of varying length. -/
def getList {α : Type} (r : Reader α) : Reader (List α) := fun l =>
  match getNat 1 l with
  | none => none
  | some (n, rest) => getMany r n rest

/-- Two fields in a row. -/
def getPair {α β : Type} (r : Reader α) (q : Reader β) : Reader (α × β) := fun l =>
  match r l with
  | none => none
  | some (x, rest) => (q rest).map fun (y, rest') => ((x, y), rest')

/-- The value of a whole body: no octet may be left over (R189). -/
def readAll {α : Type} (r : Reader α) (l : List Octet) : Option α :=
  match r l with
  | some (x, []) => some x
  | _ => none

end Sys2Proof.Machine
end

