-- ==== Sys2Proof/Machine/Mpl.lean ====
section
/-! DEFINITION. The Maintenance Planner (chapter 9): grades, the accounting interval, days, projection, tasks,
presence and the planner's requests. -/

namespace Sys2Proof.Machine

/-- Today (R152): none while the calendar is unset. -/
def today (s : State) : Option Nat := s.cal.map (·.day)

/-- Updates the wear of one component. -/
def withWear (c : Fin 16) (f : ComponentWear → ComponentWear) (s : State) : State :=
  { s with plan := { s.plan with wear := s.plan.wear.set c (f s.plan.wear[c]) } }

/-- Updates one component's part of the accounting interval. -/
def withCompInterval (c : Fin 16) (f : ComponentInterval → ComponentInterval) (s : State) : State :=
  { s with plan := { s.plan with interval :=
    { s.plan.interval with comps := s.plan.interval.comps.set c (f s.plan.interval.comps[c]) } } }

/-- Replaces the task table. -/
def withTasks (f : List Task → List Task) (s : State) : State := { s with plan := { s.plan with tasks := f s.plan.tasks } }

/-- The task with an id. -/
def findTask (id : Nat) (s : State) : Option Task := s.plan.tasks.find? (·.id = id)

/-- Replaces the task that has `t`'s id by `t`. -/
def putTask (t : Task) (s : State) : State := withTasks (List.map fun x => if x.id = t.id then t else x) s

/-- Inserts a task in order of id (log entry 7). -/
def insertTask (t : Task) : List Task → List Task
  | [] => [t]
  | x :: xs => if t.id < x.id then t :: x :: xs else x :: insertTask t xs

/-! ## Projection (R164) -/

/-- The day summaries that enter the rate of a component on a day (R164). -/
def rateDays (c : Fin 16) (day : Nat) (s : State) : List DaySummary :=
  let eligible := s.plan.days.filter fun d =>
    (match s.plan.wear[c].countingSince with
      | none => true
      | some since => since < d.day) && day - 14 ≤ d.day
  eligible.drop (eligible.length - 7)

/-- The rate of a component on a day (R164). -/
def rate (c : Fin 16) (day : Nat) (s : State) : Option Nat :=
  match rateDays c day s with
  | [] => none
  | l => some ((l.map fun d => d.record.damage[c]).sum / l.length)

/-- The days to a target (R164). -/
def daysToTarget (c : Fin 16) (day target : Nat) (s : State) : Option Nat :=
  let damage := s.plan.wear[c].damage
  if target ≤ damage then some 0
  else
    match rate c day s with
    | none => none
    | some r => if r = 0 then none else some (min (ceilDiv (target - damage) r) 3650)

/-- The projected day for a target (R164). -/
def projectedDay (c : Fin 16) (day target : Nat) (s : State) : Option Nat :=
  (daysToTarget c day target s).map fun n => min (day + n) 65535

/-! ## Due dates and the recompute (R167, R168, R169) -/

/-- Whether a trigger has a calendar part (R167). -/
def triggerHasCalendar : Trigger → Bool
  | .calendar | .both | .condition => true
  | .damage => false

/-- Whether a trigger has a damage part (R167). -/
def triggerHasDamage : Trigger → Bool
  | .damage | .both => true
  | .calendar | .condition => false

/-- The damage target of a task (R167). -/
def damageTarget (t : Task) (s : State) : Nat :=
  sat32 (t.damageRef + s.plan.config[t.component].damageLimit * t.fraction.getD 0 / 1000)

/-- The target-reached day is held from the day on which the damage is first found at its target (R167). -/
def reachTarget (day : Nat) (t : Task) (s : State) : Task :=
  if triggerHasDamage t.trigger && t.targetReached.isNone && damageTarget t s ≤ s.plan.wear[t.component].damage then
    { t with targetReached := some day }
  else t

/-- The calendar due (R167). -/
def calendarDue (t : Task) : Option Nat :=
  if triggerHasCalendar t.trigger then t.intervalDays.map (t.lastDone + ·) else none

/-- The damage due (R167). -/
def damageDue (day : Nat) (t : Task) (s : State) : Option Nat :=
  if triggerHasDamage t.trigger then
    match (reachTarget day t s).targetReached with
    | some d => some d
    | none => projectedDay t.component day (damageTarget t s) s
  else none

/-- The earlier of two days of which each may be absent. -/
def earlier (a b : Option Nat) : Option Nat :=
  match a, b with
  | some x, some y => some (min x y)
  | some x, none => some x
  | none, b => b

/-- The due date of a task from its base (R167). -/
def dueFrom (t : Task) (base : Option Nat) : Option Nat :=
  base.map fun b => min (max (b + t.deferred) t.lastDone) 65535

/-- The due date of a task on a day (R167). -/
def dueDate (day : Nat) (t : Task) (s : State) : Option Nat := dueFrom t (earlier (calendarDue t) (damageDue day t s))

/-- The damage due that a task has without a today: a target-reached day it holds (R167). -/
def heldDamageDue (t : Task) : Option Nat := if triggerHasDamage t.trigger then t.targetReached else none

/-- The due date as it is read (R167, R174): while the calendar is unset there is no today, and the parts that need none
give it. -/
def readDueDate (t : Task) (s : State) : Option Nat :=
  match today s with
  | some day => dueDate day t s
  | none => dueFrom t (earlier (calendarDue t) (heldDamageDue t))

/-- The state a due date gives (R168). -/
def stateFor (day notice : Nat) : Option Nat → TaskState
  | none => .planned
  | some due => if due < day then .overdue else if due ≤ day + notice then .due else .planned

/-- The alarm actions of a change of task state (R168). -/
def taskAlarms (id : Nat) (old new : TaskState) (s : State) : State :=
  match old, new with
  | .planned, .due => raise .taskDue (.task id) s
  | .planned, .overdue => raise .taskOverdue (.task id) s
  | .due, .overdue => raise .taskOverdue (.task id) (clearAlarm .taskDue (.task id) s)
  | .overdue, .due => raise .taskDue (.task id) (clearAlarm .taskOverdue (.task id) s)
  | .due, .planned => clearAlarm .taskDue (.task id) s
  | .overdue, .planned => clearAlarm .taskOverdue (.task id) s
  | .planned, .planned | .due, .due | .overdue, .overdue => s

/-- A task after a recompute on a day (R167, R168). -/
def recomputedTask (day : Nat) (t : Task) (s : State) : Task :=
  { reachTarget day t s with state := stateFor day t.notice (dueDate day t s) }

/-- The recompute of one task with its alarm actions; whether its state changed (R168). -/
def recomputeOne (day : Nat) (acc : State × Bool) (t : Task) : State × Bool :=
  let t' := recomputedTask day t acc.1
  (taskAlarms t.id t.state t'.state (putTask t' acc.1), acc.2 || t.state ≠ t'.state)

/-- Whether an overdue task is past its grace with a ceiling (R169). -/
def pastGrace (day : Nat) (s : State) (t : Task) : Bool :=
  t.state = .overdue && (match dueDate day t s with
    | some due => due + t.grace < day
    | none => false)

/-- The planner contribution on a day (R169). -/
def plannerValue (day : Nat) (s : State) : Nat :=
  ((s.plan.tasks.filter (pastGrace day s)).filterMap (·.derate)).foldl min 100

/-- The planner contribution recomputed and posted; it stands as it is while the calendar is unset (R169). -/
def postPlanner (s : State) : State :=
  match today s with
  | none => s
  | some day => postContribution .planner (plannerValue day s) s

/-- A recompute of all task states, in order of id (R168); without effect while the calendar is unset. -/
def recompute (s : State) : State :=
  match today s with
  | none => s
  | some day =>
    let r := s.plan.tasks.foldl (recomputeOne day) (s, false)
    postPlanner (if r.2 then setNotice .taskState r.1 else r.1)

/-- The recompute of a start, without alarm actions and without notices (R176 step 4). -/
def recomputeQuietly (s : State) : State :=
  match today s with
  | none => s
  | some day => withTasks (List.map fun t => recomputedTask day t s) s

/-! ## Condition tasks (R170) -/

/-- Whether a CONDITION task exists for a component. -/
def hasConditionTask (c : Fin 16) (s : State) : Bool :=
  s.plan.tasks.any fun t => t.trigger = .condition && t.component = c

/-- The lowest id 1..255 not in use (R170). -/
def freeId (s : State) : Option Nat := ((List.range 255).map (· + 1)).find? fun id => s.plan.tasks.all (·.id ≠ id)

/-- The condition task of a component (R170). -/
def conditionTask (c : Fin 16) (id day days : Nat) : Task :=
  { id := id, component := c, kind := .inspect, trigger := .condition, intervalDays := some days, fraction := none,
    notice := 0, grace := 0, derate := none, lastDone := day, created := day, origin := .part }

/-- Replaces the waiting marks. -/
def withWaiting (f : Vector Bool 16 → Vector Bool 16) (s : State) : State :=
  { s with mpl := { s.mpl with waiting := f s.mpl.waiting } }

/-- A component loses its waiting mark; TASK_TABLE_FULL is cleared when none is left waiting (R170). -/
def dropWaiting (c : Fin 16) (s : State) : State :=
  if s.mpl.waiting[c] then
    let s1 := withWaiting (·.set c false) s
    if s1.mpl.waiting.any id then s1 else clearAlarm .taskTableFull .mpl s1
  else s

/-- The treatment of a component whose grade-2 duration has reached 86,400 (R170): its condition task is created,
or it is marked waiting. `loud` is clear in a start (R176 step 3). DESIGN CHOICE (log entry 62): a waiting component loses
its mark before the recompute that follows the creation. DESIGN CHOICE (log entry 66): the calendar is looked at before the
table's room, so while it is unset nothing is marked waiting, a full table included. -/
def treatCondition (loud : Bool) (c : Fin 16) (s : State) : State :=
  match today s with
  | none => s
  | some day =>
    if hasConditionTask c s then s
    else if s.plan.tasks.length < 32 then
      match freeId s with
      | none => s
      | some id =>
        let s1 := dropWaiting c (withTasks (insertTask (conditionTask c id day s.plan.config[c].conditionDays)) s)
        if loud then recompute (setNotice .taskState s1) else s1
    else
      let s1 := withWaiting (·.set c true) s
      if loud then raise .taskTableFull .mpl s1 else s1

/-- A free entry serves the waiting components in order of index, as far as room allows (R170). -/
def serveWaiting (s : State) : State :=
  (List.finRange 16).foldl
    (fun s c => if s.mpl.waiting[c] && s.plan.tasks.length < 32 then treatCondition true c s else s) s

/-- A task leaves the table; when that takes it from 32 tasks to 31, R170 acts before anything else uses the free
entry (R166). -/
def removeTaskEntry (id : Nat) (s : State) : State :=
  let s1 := withTasks (List.filter fun t => t.id ≠ id) s
  if s.plan.tasks.length = 32 && s1.plan.tasks.length = 31 then serveWaiting s1 else s1

/-- A component whose duration is full and that lacks a CONDITION task is treated under R170. -/
def treatFullDuration (loud : Bool) (s : State) (c : Fin 16) : State :=
  if s.plan.wear[c].grade2Duration = 86400 && !hasConditionTask c s then treatCondition loud c s else s

/-- The components whose duration is full are treated under R170 (R154 step 7). DESIGN CHOICE (log entry 75): in order of index,
as R176 step 3 has it at a start. -/
def treatFullDurations (loud : Bool) (s : State) : State := (List.finRange 16).foldl (treatFullDuration loud) s

/-! ## Grades (R157) -/

/-- The value held for a grade source (R157). -/
def heldGrade (g : HeldGrades) (source : GradeSource) (c : Fin 16) : Nat :=
  match source with
  | .bands => g.bands[c]
  | .gridCurrent => g.current
  | .icing => g.icing
  | .none => 0

/-- A component's grade (R157). -/
def componentGrade (s : State) (c : Fin 16) : Nat := heldGrade s.mpl.grades s.plan.config[c].gradeSource c

/-- The wear of a component after a change of its grade (R157 items 2 and 3). -/
def gradedWear (now : Option Timestamp) (old new : Nat) (w : ComponentWear) : ComponentWear :=
  if new = 2 then
    if old = 2 then w else { w with grade2Since := now, grade2Duration := 0 }
  else { w with grade2Since := none, grade2Duration := 0 }

/-- What the MPL does when a component's grade changes (R157); below grade 2 it loses its waiting mark (R170). -/
def gradeChanged (c : Fin 16) (old new : Nat) (s : State) : State :=
  let s1 := withWear c (gradedWear s.cal old new)
    (withCompInterval c (fun i => { i with worst := max i.worst new }) s)
  if new < 2 then dropWaiting c s1 else s1

/-- An update that may change grades: a post, or a write of a grade source (R157). -/
def regrade (f : State → State) (s : State) : State :=
  (List.finRange 16).foldl
    (fun t c =>
      let old := componentGrade s c
      let new := componentGrade (f s) c
      if old = new then t else gradeChanged c old new t)
    (f s)

/-- Replaces the grades held. -/
def withGrades (f : HeldGrades → HeldGrades) (s : State) : State :=
  { s with mpl := { s.mpl with grades := f s.mpl.grades } }

/-- A post of grades during operation (R157). -/
def postGrades (f : HeldGrades → HeldGrades) (s : State) : State := regrade (withGrades f) s

/-- The posts of a start: the values are held, and a component whose grade is below 2 takes grade-2 since none and
duration 0 (R157). -/
def settleStartGrades (s : State) : State :=
  (List.finRange 16).foldl
    (fun t c =>
      if componentGrade s c < 2 then withWear c (fun w => { w with grade2Since := none, grade2Duration := 0 }) t else t)
    s

/-! ## The accounting interval (R158, R159, R160) -/

/-- A new interval (R158): every sum and count 0, each worst grade equal to the component's grade. DESIGN CHOICE (log entry 76):
one that begins in the last ten minutes of day 65535 is planned to (65536, 0). -/
def newInterval (s : State) : State :=
  { s with plan := { s.plan with interval :=
    { planned := plannedEndFrom s.cal, comps := Vector.ofFn fun c => { worst := componentGrade s c } } } }

/-- P̄, the mean power in whole percent (R159). -/
def meanPower (i : AccountingInterval) : Nat :=
  (clampInt 0 120 (Int.fdiv (Int.fdiv i.powerSum i.producing) 10)).toNat

/-- L, the load term (R159). -/
def loadTerm (k p : Nat) : Nat := if k = 0 then 1000 else if k = 1 then 10 * p else p ^ 3 / 1000

/-- S, the grade term (R159). -/
def gradeTerm (worst : Nat) : Nat := 2 ^ worst

/-- F16 from the excess temperature e (R159). -/
def temperatureFactor (e : Nat) : Nat :=
  let q := e / 100
  let r := e % 100 / 10
  16 * 2 ^ q + 16 * 2 ^ q * r / 10

/-- F16 of a component (R159): 16 when it has no mean temperature. -/
def componentFactor (cfg : ComponentConfig) (i : ComponentInterval) : Nat :=
  match cfg.tempChannel with
  | none => 16
  | some _ =>
    if i.tempCount = 0 then 16
    else temperatureFactor (clampInt 0 400 (Int.fdiv i.tempSum i.tempCount - cfg.thetaRef)).toNat

/-- A component's increment at the end of an interval (R159, R160). -/
def increment (c : Fin 16) (s : State) : Nat :=
  let i := s.plan.interval
  let ci := i.comps[c]
  let cfg := s.plan.config[c]
  if i.producing = 0 then 0
  else
    (i.producing - ci.replacedOffset) * cfg.weight * loadTerm cfg.exponent (meanPower i) * gradeTerm ci.worst *
      componentFactor cfg ci / 16000

/-- The credit of an interval to a day record (R160). -/
def DayRecord.credit (producing : Nat) (inc worst : Vector Nat 16) (r : DayRecord) : DayRecord :=
  { r with
    producing := sat32 (r.producing + producing)
    damage := vzip (fun a b => sat32 (a + b)) r.damage inc
    maxGrade := vzip max r.maxGrade worst }

/-- A credit to the open day record or, where `dated` is clear, to the undated tally (R160). -/
def creditDay (dated : Bool) (f : DayRecord → DayRecord) (s : State) : State :=
  if dated then { s with plan := { s.plan with openDay := { s.plan.openDay with record := f s.plan.openDay.record } } }
  else { s with plan := { s.plan with undated := f s.plan.undated } }

/-- The end of the interval: the damages grow and the increments are credited (R159, R160). -/
def creditInterval (dated : Bool) (s : State) : State :=
  let inc : Vector Nat 16 := Vector.ofFn fun c => increment c s
  let worst := vmap (·.worst) s.plan.interval.comps
  let s1 := creditDay dated (DayRecord.credit s.plan.interval.producing inc worst) s
  { s1 with plan := { s1.plan with wear := vzip (fun w k => { w with damage := sat32 (w.damage + k) }) s1.plan.wear inc } }

/-- The end of the interval at its planned end (R160): credit, a new interval and a recompute. -/
def endInterval (s : State) : State := recompute (newInterval (creditInterval s.cal.isSome s))

/-- A temperature event (R42, R158): components on the channel add the record's value, where it carries one. -/
def temperatureEvent (t : Temp) (s : State) : State :=
  match (s.rch.sensor.get t).record.status, (s.rch.sensor.get t).record.value with
  | .none, _ | _, none => s
  | _, some v =>
    let add (cfg : ComponentConfig) (i : ComponentInterval) : ComponentInterval :=
      if cfg.tempChannel = some t then { i with tempSum := i.tempSum + v, tempCount := i.tempCount + 1 } else i
    let comps := vzip add s.plan.config s.plan.interval.comps
    { s with plan := { s.plan with interval := { s.plan.interval with comps := comps } } }

/-- The accounting of one second of operation (R158): producing seconds and power-time sum. -/
def producingSecond (s : State) : State :=
  if s.ccu.op.regime = .producing then
    { s with plan := { s.plan with interval :=
      { s.plan.interval with
        producing := min (s.plan.interval.producing + 1) 600
        powerSum := s.plan.interval.powerSum + s.ccu.op.power.getD 0 } } }
  else s

/-- One second of a component at grade 2 (R157): the duration grows up to 86,400, and reaching it is the trigger of
R170, treated before the next component's second (log entry 75). -/
def growDuration (s : State) (c : Fin 16) : State :=
  if componentGrade s c = 2 && s.plan.wear[c].grade2Duration < 86400 then
    let s1 := withWear c (fun w => { w with grade2Duration := w.grade2Duration + 1 }) s
    if s1.plan.wear[c].grade2Duration = 86400 then treatCondition true c s1 else s1
  else s

/-! ## Days (R161, R162, R163) -/

/-- The open day record as a day summary offered to the ring (R162 step 1). -/
def closeDay (day : Nat) (s : State) : State :=
  let stored := match s.plan.days.getLast? with
    | none => true
    | some newest => newest.day < day
  if stored then
    let l := s.plan.days ++ [{ day := day, record := s.plan.openDay.record }]
    { s with plan := { s.plan with days := if l.length = 32 then l.drop 1 else l } }
  else { s with mpl := { s.mpl with orderDropped := inc16 s.mpl.orderDropped } }

/-- A new, empty open day record (R162 step 3). -/
def openNewDay (day : Nat) (s : State) : State :=
  { s with plan := { s.plan with openDay := { day := some day, record := {} } } }

/-- A day rollover from a day to the next: the open day record closes as that day, whatever day it held (R162). -/
def dayRollover (day : Nat) (s : State) : State :=
  recompute (openNewDay (day + 1) (setNotice .dayClosed (closeDay day s)))

/-- The undated tally folded into a day record (R163). -/
def DayRecord.fold (t r : DayRecord) : DayRecord :=
  { producing := sat32 (r.producing + t.producing)
    damage := vzip (fun a b => sat32 (a + b)) r.damage t.damage
    maxGrade := vzip max r.maxGrade t.maxGrade
    icedMinutes := add16 r.icedMinutes t.icedMinutes
    suspectMinutes := add16 r.suspectMinutes t.suspectMinutes
    exceedances := add16 r.exceedances t.exceedances
    disturbed := add16 r.disturbed t.disturbed
    alarms := add16 r.alarms t.alarms
    skips := add16 r.skips t.skips }

/-- The fold of the undated tally, which is then empty (R163). -/
def foldTally (s : State) : State :=
  { s with plan :=
    { s.plan with
      openDay := { s.plan.openDay with record := DayRecord.fold s.plan.undated s.plan.openDay.record }
      undated := {} } }

/-- The day records brought to a new day (R154 step 2). -/
def bringDays (new : Nat) (s : State) : State :=
  match s.plan.openDay.day with
  | none => { s with plan := { s.plan with openDay := { s.plan.openDay with day := some new } } }
  | some d =>
    if d < new then openNewDay new (setNotice .dayClosed (closeDay d s))
    else if new < d then
      let kept := s.plan.days.filter (·.day < new)
      { s with
        plan := { s.plan with days := kept, openDay := { s.plan.openDay with day := some new } }
        mpl := { s.mpl with prunedDays := add16 s.mpl.prunedDays (s.plan.days.length - kept.length) } }
    else s

/-- A task whose target-reached day is later than a day loses it (R154 step 5). -/
def pruneTarget (new : Nat) (t : Task) : Task :=
  match t.targetReached with
  | some d => if new < d then { t with targetReached := none } else t
  | none => t

/-- The Planner's part of an accepted SET_TIME (R154). -/
def setCalendar (t : Timestamp) (s : State) : State :=
  let wasSet := s.cal.isSome
  let s0 := { s with cal := some t }
  let s2 := bringDays t.day (creditInterval wasSet s0)
  let s3 := if wasSet then s2 else foldTally s2
  treatFullDurations true (recompute (withTasks (List.map (pruneTarget t.day)) (newInterval s3)))

/-- Whether SET_TIME is accepted (R153). The service port reaches the MPL only with presence (R195). -/
def setTimeOk (p : Port) (day sec : Nat) (s : State) : Bool :=
  day ≤ 65535 && sec ≤ 86399 && (match p, s.cal with
    | .fp, some t => t.day ≤ day
    | _, _ => true)

/-! ## Presence (R155) -/

/-- PRESENCE_END (R155). -/
def mplPresenceEnd (s : State) : State × Answer :=
  match s.mpl.presence with
  | none => (s, { status := .state })
  | some _ => ({ s with mpl := { s.mpl with presence := none } }, { status := .ok })

/-! ## The planner's requests (R165, R166, R171, R172) -/

/-- Whether the interval days and the damage fraction are those the trigger requires, inside their ranges (R165). -/
def triggerFieldsOk (f : TaskFields) : Bool :=
  (match f.intervalDays with
    | some d => 1 ≤ d && d ≤ 3650
    | none => true) &&
  (match f.fraction with
    | some x => 1 ≤ x && x ≤ 1000
    | none => true) &&
  (match f.trigger with
    | .calendar => f.intervalDays.isSome
    | .damage => f.fraction.isSome
    | .both => f.intervalDays.isSome && f.fraction.isSome
    | .condition => false)

/-- Whether a PLAN_TASK's fields are in range on a day (R165 item 3). -/
def taskFieldsOk (f : TaskFields) (day : Nat) : Bool :=
  1 ≤ f.id && f.id ≤ 255 && f.component ≤ 15 && triggerFieldsOk f && f.notice ≤ 60 && f.grace ≤ 30 &&
    (match f.derate with
      | some d => d ≤ 100
      | none => true) &&
    (match f.lastDone with
      | some d => d ≤ day
      | none => true)

/-- The interval days a trigger keeps: none for DAMAGE (R165). -/
def plannedInterval (f : TaskFields) : Option Nat := if triggerHasCalendar f.trigger then f.intervalDays else none

/-- The damage fraction a trigger keeps: none for CALENDAR (R165). -/
def plannedFraction (f : TaskFields) : Option Nat := if triggerHasDamage f.trigger then f.fraction else none

/-- The component a PLAN_TASK names. -/
def plannedComponent (f : TaskFields) : Fin 16 := Fin.ofNat 16 f.component

/-- A task created by PLAN_TASK (R165). -/
def plannedTask (f : TaskFields) (day : Nat) : Task :=
  { id := f.id, component := plannedComponent f, kind := f.kind, trigger := f.trigger, intervalDays := plannedInterval f,
    fraction := plannedFraction f, notice := f.notice, grace := f.grace, derate := f.derate,
    lastDone := f.lastDone.getD day, created := day }

/-- A task replaced by PLAN_TASK (R165): the created day, the deferral and, unless one is given, the last done day
are kept; a change of component or fraction resets the damage reference and the target-reached day. -/
def replannedTask (f : TaskFields) (t : Task) : Task :=
  let moved := t.component ≠ plannedComponent f || t.fraction ≠ plannedFraction f
  { t with
    component := plannedComponent f, kind := f.kind, trigger := f.trigger, intervalDays := plannedInterval f, fraction := plannedFraction f,
    notice := f.notice, grace := f.grace, derate := f.derate, lastDone := f.lastDone.getD t.lastDone,
    damageRef := if moved then 0 else t.damageRef,
    targetReached := if moved then none else t.targetReached }

/-- PLAN_TASK (R165). -/
def mplPlanTask (f : TaskFields) (s : State) : State × Answer :=
  if s.mpl.presence.isSome then (s, { status := .onSite })
  else
    match today s with
    | none => (s, { status := .noDate })
    | some day =>
      if !taskFieldsOk f day then (s, { status := .range })
      else
        match findTask f.id s with
        | some t =>
          if t.origin = .part then (s, { status := .state })
          else (recompute (setNotice .taskState (putTask (replannedTask f t) s)), { status := .ok })
        | none =>
          if s.plan.tasks.length < 32 then
            (recompute (setNotice .taskState (withTasks (insertTask (plannedTask f day)) s)), { status := .ok })
          else (s, { status := .full })

/-- The TASK_DUE or TASK_OVERDUE entry of a task is cleared (R166, R172). -/
def clearTaskAlarms (id : Nat) (s : State) : State :=
  clearAlarm .taskOverdue (.task id) (clearAlarm .taskDue (.task id) s)

/-- A component's grade-2 duration restarts at 0 when its CONDITION task is removed or closed (R166, R172). -/
def restartDuration (t : Task) (s : State) : State :=
  if t.trigger = .condition then withWear t.component (fun w => { w with grade2Duration := 0 }) s else s

/-- REMOVE_TASK (R166). DESIGN CHOICE (log entry 23): the task's alarm is cleared before R170 serves the waiting components. -/
def mplRemoveTask (id : Nat) (s : State) : State × Answer :=
  if s.mpl.presence.isSome then (s, { status := .onSite })
  else
    match findTask id s with
    | none => (s, { status := .unknownItem })
    | some t =>
      (postPlanner (removeTaskEntry id (setNotice .taskState (clearTaskAlarms id (restartDuration t s)))),
        { status := .ok })

/-- DEFER_TASK (R171). -/
def mplDeferTask (id days : Nat) (s : State) : State × Answer :=
  if days < 1 || 30 < days then (s, { status := .range })
  else
    match findTask id s with
    | none => (s, { status := .unknownItem })
    | some t =>
      if t.state = .planned then (s, { status := .notDue })
      else if componentGrade s t.component = 2 then (s, { status := .condition })
      else if 2 ≤ t.deferrals then (s, { status := .limit })
      else
        (recompute (putTask { t with deferred := t.deferred + days, deferrals := t.deferrals + 1 } s),
          { status := .ok, content := encNat 1 days })

/-- The service history with a new entry; the oldest entry is removed first when there are 64 (R173). -/
def addHistory (e : HistoryEntry) (l : List HistoryEntry) : List HistoryEntry :=
  (if l.length < 64 then l else l.drop (l.length - 63)) ++ [e]

/-- The replacement of a component (R172 step 2). -/
def replaceComponent (c : Fin 16) (day : Nat) (s : State) : State :=
  withTasks (List.map fun t => if t.component = c then { t with damageRef := 0, targetReached := none } else t)
    (withCompInterval c (fun i => { i with replacedOffset := s.plan.interval.producing })
      (withWear c (fun w => { w with damage := 0, countingSince := some day }) s))

/-- A closed repeating task (R172 step 3). -/
def closedTask (outcome : CloseOutcome) (day damage : Nat) (t : Task) : Task :=
  { t with
    state := .planned, lastDone := day, deferred := 0, deferrals := 0, targetReached := none,
    damageRef := if outcome = .done then damage else t.damageRef }

/-- Step 3 of a close (R172): a CONDITION task is removed, any other becomes PLANNED. -/
def closeEntry (id : Nat) (outcome : CloseOutcome) (day : Nat) (s : State) : State :=
  match findTask id s with
  | none => s
  | some t =>
    if t.trigger = .condition then removeTaskEntry id (restartDuration t s)
    else putTask (closedTask outcome day s.plan.wear[t.component].damage t) s

/-- CLOSE_TASK (R172). DESIGN CHOICE (log entry 69): where more than one of its refusals applies, UNKNOWN_ITEM comes before RANGE
and RANGE before NO_DATE. -/
def mplCloseTask (id : Nat) (outcome : CloseOutcome) (s : State) : State × Answer :=
  match findTask id s with
  | none => (s, { status := .unknownItem })
  | some t =>
    if outcome = .replaced ∧ t.kind ≠ .replace then (s, { status := .range })
    else
      match s.cal with
      | none => (s, { status := .noDate })
      | some now =>
        let entry : HistoryEntry :=
          { time := now, id := id, component := t.component, kind := t.kind, outcome := outcome
            technician := (s.mpl.presence.map (·.technician)).getD 0, damage := s.plan.wear[t.component].damage }
        let s1 := { s with plan := { s.plan with history := addHistory entry s.plan.history } }
        let s2 := if outcome = .replaced then replaceComponent t.component now.day s1 else s1
        (recompute (setNotice .taskState (clearTaskAlarms id (closeEntry id outcome now.day s2))), { status := .ok })

/-- The range check of a component configuration (R156). -/
def componentOk (c : ComponentConfig) : Bool :=
  c.nameCode ≤ 65535 && -600 ≤ c.thetaRef && c.thetaRef ≤ 2000 && c.weight ≤ 1000 &&
    (c.exponent = 0 || c.exponent = 1 || c.exponent = 3) && 1 ≤ c.damageLimit && c.damageLimit ≤ max32 &&
    1 ≤ c.conditionDays && c.conditionDays ≤ 60

/-- A component configuration put in force (R156): the grade follows its source at once, and the temperature sum and count
restart at 0. -/
def applyComponent (c : Fin 16) (new : ComponentConfig) (s : State) : State :=
  withCompInterval c (fun i => { i with tempSum := 0, tempCount := 0 })
    (regrade (fun s => { s with plan := { s.plan with config := s.plan.config.set c new } }) s)

/-- WRITE_CONFIG of a component (R156). -/
def mplWriteComponent (index : Nat) (new : ComponentConfig) (s : State) : State × Answer :=
  if h : index < 16 then
    if componentOk new then (recompute (applyComponent ⟨index, h⟩ new s), { status := .ok }) else (s, { status := .range })
  else (s, { status := .unknownItem })

/-! ## The start (R175, R176) -/

/-- Steps 1 and 2 of R176: the open day record is dated, or closed into the ring as its own day. -/
def startDay (s : State) : State :=
  match today s with
  | none => s
  | some day =>
    match s.plan.openDay.day with
    | none => { s with plan := { s.plan with openDay := { s.plan.openDay with day := some day } } }
    | some d => if d < day then openNewDay day (closeDay d s) else s

/-- The planner contribution of a start (R176 step 6). -/
def startPlannerPost (s : State) : State :=
  recordContribution .planner (match today s with
    | none => 100
    | some day => plannerValue day s) s

/-- The Planner's actions at a start, but for the hand-over of R176 step 5, which the restoration makes (R150). -/
def mplStart : List (State → State) :=
  [settleStartGrades, startDay] ++ (List.finRange 16).map (fun c s => treatFullDuration false s c) ++
    [recomputeQuietly, startPlannerPost]

end Sys2Proof.Machine
end

