-- ==== Sys2Proof/Machine/Spectrum.lean ====
section
/-! DEFINITION. The arithmetic of the spectral engine (R55 to R63), exact.

A transform over n = 2^(m+2) points has its cosines in the real field generated by c_m = 2 cos(2π / n), where
c_0 = 0 and c_(m+1) = √(2 + c_m). A number of level m+1 is a pair (u, v) that stands for u + v c_(m+1) with u, v
of level m; a number of level 0 is an integer. Sums, products and SIGNS of such numbers are computed with integers alone,
so that every floor and every comparison of R57, R61, R62 and R63 is the exact one. -/

namespace Sys2Proof.Machine

/-- The numbers of level m. -/
def Cyc : Nat → Type
  | 0 => Int
  | m + 1 => Cyc m × Cyc m

/-- An integer as a number of level m. -/
def cycInt : (m : Nat) → Int → Cyc m
  | 0, x => x
  | m + 1, x => (cycInt m x, cycInt m 0)

/-- The sum. -/
def cycAdd : (m : Nat) → Cyc m → Cyc m → Cyc m
  | 0, x, y => Int.add x y
  | m + 1, x, y => (cycAdd m x.1 y.1, cycAdd m x.2 y.2)

/-- The product with an integer. -/
def cycScale : (m : Nat) → Int → Cyc m → Cyc m
  | 0, k, x => Int.mul k x
  | m + 1, k, x => (cycScale m k x.1, cycScale m k x.2)

/-- The difference. -/
def cycSub (m : Nat) (x y : Cyc m) : Cyc m := cycAdd m x (cycScale m (-1) y)

/-- The product with the generator c_m: c_0 = 0, and (u + v c) c = v (2 + c_(m-1)) + u c. -/
def cycMulGen : (m : Nat) → Cyc m → Cyc m
  | 0, _ => Int.ofNat 0
  | m + 1, x => (cycAdd m (cycScale m 2 x.2) (cycMulGen m x.2), x.1)

/-- The product. -/
def cycMul : (m : Nat) → Cyc m → Cyc m → Cyc m
  | 0, x, y => Int.mul x y
  | m + 1, x, y =>
    let vv := cycMul m x.2 y.2
    (cycAdd m (cycMul m x.1 y.1) (cycAdd m (cycScale m 2 vv) (cycMulGen m vv)),
     cycAdd m (cycMul m x.1 y.2) (cycMul m x.2 y.1))

/-- The sign, -1, 0 or 1: of u + v c with c > 0 by the signs of u, v and, where they oppose, of u² - v² (2 + c_(m-1)). -/
def cycSign : (m : Nat) → Cyc m → Int
  | 0, x => Int.sign x
  | m + 1, x =>
    let su := cycSign m x.1
    let sv := cycSign m x.2
    if su = sv ∨ sv = 0 then su
    else if su = 0 then sv
    else
      let vv := cycMul m x.2 x.2
      let d := cycSign m (cycSub m (cycMul m x.1 x.1) (cycAdd m (cycScale m 2 vv) (cycMulGen m vv)))
      su * d

/-- Whether a number is at least 0. -/
def cycNonneg (m : Nat) (x : Cyc m) : Bool := 0 ≤ cycSign m x

/-- `k` successive values of t_(i+1) = c_m t_i - t_(i-1) from the two given: the values 2 cos(2π i / n). -/
def cycCosFrom (m : Nat) : Nat → Cyc m → Cyc m → List (Cyc m)
  | 0, _, _ => []
  | k + 1, a, b => a :: cycCosFrom m k b (cycSub m (cycMulGen m b) a)

/-- The table of t_i = 2 cos(2π i / n), i = 0 … n - 1, for n = 2^(m+2). -/
def cosTable (m : Nat) : Array (Cyc m) :=
  (cycCosFrom m (2 ^ (m + 2)) (cycInt m 2) (cycMulGen m (cycInt m 1))).toArray

/-- t_i for any i. -/
def cosAt (m : Nat) (table : Array (Cyc m)) (i : Nat) : Cyc m := table.getD (i % 2 ^ (m + 2)) (cycInt m 0)

/-- Σ_j x_j t_(i + j k) over a record, from sample number j on. -/
def cosSum (m : Nat) (table : Array (Cyc m)) (i k : Nat) : Nat → List Int → Cyc m
  | _, [] => cycInt m 0
  | j, x :: xs => cycAdd m (cycScale m x (cosAt m table (i + j * k))) (cosSum m table i k (j + 1) xs)

/-- The index that turns t into the sine: 2 sin(2π i / n) = t_(i + 3n/4). -/
def sineShift (m : Nat) : Nat := 3 * 2 ^ m

/-- The sum of squares of a cosine part and a sine part. -/
def squareSum (m : Nat) (a b : Cyc m) : Cyc m := cycAdd m (cycMul m a a) (cycMul m b b)

/-- 8 times the cosine (shift 0) or sine part of X_k of the Hann-windowed record (R55): with w_j = (2 - t_j) / 4,
it is Σ_j x_j (2 - t_j) t_(jk) = Σ_j x_j (2 t_(jk) - t_(jk+j) - t_(jk-j)). -/
def hannPart (m : Nat) (table : Array (Cyc m)) (xs : List Int) (shift k : Nat) : Cyc m :=
  let n := 2 ^ (m + 2)
  cycSub m (cycScale m 2 (cosSum m table shift k 0 xs))
    (cycAdd m (cosSum m table shift (k + 1) 0 xs) (cosSum m table shift (k + n - 1) 0 xs))

/-- 24 n² P_k of R55: with c_k and |X_k|² = (A² + B²) / 64, P_k = c_k |X_k|² / (n² × 3/8). -/
def scaledPower (m : Nat) (table : Array (Cyc m)) (xs : List Int) (k : Nat) : Cyc m :=
  let sq := squareSum m (hannPart m table xs 0 k) (hannPart m table xs (sineShift m) k)
  if k = 0 ∨ k = 2 ^ (m + 1) then sq else cycScale m 2 sq

/-- The greatest 48-bit value (R57). -/
def max48 : Nat := 281474976710655

/-- Whether floor(2500 × x / (24 n²)) is at least e. -/
def energyAtLeast (m : Nat) (x : Cyc m) (e : Nat) : Bool :=
  cycNonneg m (cycSub m (cycScale m 2500 x) (cycInt m (24 * 2 ^ (m + 2) * 2 ^ (m + 2) * e)))

/-- floor(2500 × x / (24 n²)), at most 2^48 - 1, and whether it would reach 2^48 (R57, R63). -/
def energyOf (m : Nat) (x : Cyc m) : Nat × Bool :=
  if energyAtLeast m x (max48 + 1) then (max48, true) else (greatest 48 (energyAtLeast m x), false)

/-- The level m of the arithmetic for a record of length n = 2^(m+2). -/
def levelOf (n : Nat) : Nat := Nat.log2 n - 2

/-- The sum of 24 n² P_k over `count` bins from `k` on. -/
def scaledPowerSum (m : Nat) (table : Array (Cyc m)) (xs : List Int) : Nat → Nat → Cyc m
  | 0, _ => cycInt m 0
  | c + 1, k => cycAdd m (scaledPower m table xs k) (scaledPowerSum m table xs c (k + 1))

/-- The band energy over bins kLo … kHi with its saturated flag (R57). -/
def bandEnergy (xs : List Int) (n kLo kHi : Nat) : Nat × Bool :=
  let m := levelOf n
  energyOf m (scaledPowerSum m (cosTable m) xs (kHi + 1 - kLo) kLo)

/-- The bin limits of a frequency range after R56 steps 3 and 4 (also R62). -/
def binLimits (fLo fHi n d : Nat) : Nat × Nat :=
  (max 1 (ceilDiv (fLo * n * d) 25600000), min (n / 2) (fHi * n * d / 25600000))

/-- The edge frequencies of a band in mHz (R56 steps 1 and 2): Nat subtraction gives 0 where c < w. -/
def bandEdges (p : BandPlace) (speed : Nat) : Nat × Nat :=
  ((p.centre - p.halfWidth) * speed / 6000, (p.centre + p.halfWidth) * speed / 6000)

/-- The table T[m] of R58. -/
def levelFraction (m : Nat) : Nat :=
  ([0, 26, 51, 75, 97, 118, 138, 158, 176, 194, 211, 227, 243, 258, 273, 287] : List Nat).getD m 0

/-- The level of a band energy in cdB (R58). -/
def levelFor (energy : Nat) (saturated : Bool) : Nat :=
  if energy = 0 then 0
  else if saturated then 14434
  else
    let b := Nat.log2 energy
    301 * b + levelFraction (energy * 16 / 2 ^ b - 16)

/-- A band's entry in a BANDS result (R57). -/
structure BandResult where
  band : Nat
  resolved : Bool
  kLo : Nat
  kHi : Nat
  energy : Nat
  saturated : Bool
  level : Nat
  noEnergy : Bool
  deriving DecidableEq, Repr

/-- The analysis of one entry of the band list (R56, R57). -/
def analyseBand (xs : List Int) (n d speed : Nat) (p : BandPlace) : BandResult :=
  let edges := bandEdges p speed
  let k := binLimits edges.1 edges.2 n d
  if k.1 ≤ k.2 then
    let e := bandEnergy xs n k.1 k.2
    { band := p.band, resolved := true, kLo := k.1, kHi := k.2, energy := e.1, saturated := e.2,
      level := levelFor e.1 e.2, noEnergy := e.1 = 0 }
  else
    { band := p.band, resolved := false, kLo := k.1, kHi := k.2, energy := 0, saturated := false, level := 0,
      noEnergy := false }

/-- The bin of greatest power among `count` bins from `k` on, the lowest of equals (R62). -/
def strongestBin (m : Nat) (table : Array (Cyc m)) (xs : List Int) : Nat → Nat → Nat × Cyc m → Nat × Cyc m
  | 0, _, best => best
  | c + 1, k, best =>
    let p := scaledPower m table xs k
    strongestBin m table xs c (k + 1) (if cycSign m (cycSub m p best.2) = 1 then (k, p) else best)

/-- A PEAK result (R63): the bin is none when the range holds no bin. -/
structure PeakResult where
  peak : Bool
  emptyRange : Bool
  freq : Nat
  bin : Option Nat
  power : Nat
  deriving DecidableEq, Repr

/-- The PEAK analysis (R62, R63). -/
def analysePeak (xs : List Int) (n d fLo fHi floor : Nat) : PeakResult :=
  let k := binLimits fLo fHi n d
  if k.1 ≤ k.2 then
    let m := levelOf n
    let table := cosTable m
    let best := strongestBin m table xs (k.2 - k.1) (k.1 + 1) (k.1, scaledPower m table xs k.1)
    let power := (energyOf m best.2).1
    if power < floor then { peak := false, emptyRange := false, freq := 0, bin := some best.1, power := power }
    else
      { peak := true, emptyRange := false, freq := best.1 * 25600000 / (n * d), bin := some best.1, power := power }
  else { peak := false, emptyRange := true, freq := 0, bin := none, power := 0 }

/-! ## HARMONICS (R60, R61) -/

/-- Point j of the resampled record, times 100,000 C (R60): instants are `xs`, s of them. -/
def resampledPoint (xs : Array Int) (s c t j : Nat) : Int :=
  let q := 100000 * c
  let i := j * t / q
  let r := j * t % q
  if i + 1 ≤ s - 1 then
    let x := xs.getD i 0
    x * q + (xs.getD (i + 1) 0 - x) * r
  else xs.getD (s - 1) 0 * q

/-- The points of one channel folded on the 64 places of a cycle: entry l is Σ of the points j with j mod 64 = l (R61). -/
def foldedCycle (xs : Array Int) (s c t : Nat) : List Int :=
  (List.range 64).map fun l => ((List.range c).map fun i => resampledPoint xs s c t (64 * i + l)).sum

/-- The magnitude M_h from a folded cycle (R61): the greatest M with M² C² (100,000 C)² ≤ 8 (A² + B²), where A and B
are twice the cosine and sine parts of 100,000 C × Y_h; 32-bit. -/
def magnitude (table : Array (Cyc 4)) (cycle : List Int) (c h : Nat) : Nat :=
  let sq := squareSum 4 (cosSum 4 table 0 h 0 cycle) (cosSum 4 table (sineShift 4) h 0 cycle)
  let unit := c * (100000 * c)
  greatest 32 fun v => cycNonneg 4 (cycSub 4 (cycScale 4 8 sq) (cycInt 4 (v * v * (unit * unit))))

/-- The 40 magnitudes of one channel, order 1 first (R61). -/
def channelMagnitudes (xs : List Int) (s c t : Nat) : List Nat :=
  let cycle := foldedCycle xs.toArray s c t
  let table := cosTable 4
  (List.range 40).map fun h => magnitude table cycle c (h + 1)

/-- The column of a channel in the stored rows. -/
def column (rows : List (List Int)) (ch : Nat) : List Int := rows.map fun r => r.getD ch 0

/-- The HARMONICS result (R61): the magnitudes of UA, UB, UC, IA, IB, IC, 40 orders each. -/
def analyseHarmonics (rows : List (List Int)) (c t s : Nat) : List (List Nat) :=
  (List.range 6).map fun ch => channelMagnitudes (column rows ch) s c t

end Sys2Proof.Machine
end

