-- ==== Sys2Proof/Machine/Bim.lean ====
section
/-! DEFINITION. The Blade Icing Monitor (chapter 7): steps, score, threshold sets, icing states, override. -/

namespace Sys2Proof.Machine

/-! ## Access -/

/-- Updates the counters of the BIM (R132). -/
def countBim (f : BimCounters → BimCounters) (s : State) : State :=
  { s with bim := { s.bim with counters := f s.bim.counters } }

/-- Updates the retained state of the BIM (R133). -/
def withIcing (f : IcingRetained → IcingRetained) (s : State) : State :=
  { s with mon := { s.mon with icing := f s.mon.icing } }

/-- Replaces the outstanding step (R116). -/
def setOutstanding (step : Option Nat) (s : State) : State := { s with bim := { s.bim with outstanding := step } }

/-! ## The contribution and the grade (R127, R128) -/

/-- The grade of an icing state (R127). -/
def icingGrade : IcingState → Nat
  | .clear => 0
  | .suspect => 1
  | .iced => 2
  | .shedding => 1

/-- The icing contribution (R128). -/
def icingContribution (s : State) : Nat :=
  if s.bim.override.isSome then 100
  else
    match s.mon.icing.state with
    | .clear => 100
    | .suspect => s.mon.icing.active.suspectCeiling
    | .iced => s.mon.icing.active.icedCeiling
    | .shedding => s.mon.icing.active.sheddingCeiling

/-- The contribution is recomputed, and posted when it differs from the value held (R128). -/
def postIcing (s : State) : State :=
  if s.ccu.contributions.icing = some (icingContribution s) then s else postContribution .icing (icingContribution s) s

/-- Replaces the override and recomputes the contribution (R128, R129, R130). -/
def setOverride (o : Option Nat) (s : State) : State := postIcing { s with bim := { s.bim with override := o } }

/-- The end of an override in force (R130). -/
def endOverride (s : State) : State :=
  match s.bim.override with
  | none => s
  | some _ => setOverride none s

/-! ## Threshold sets and profiles (R119, R120, R121) -/

/-- The check of a threshold set (R119). -/
def thresholdsOk (t : ThresholdSet) : Bool :=
  1 ≤ t.suspectOn && t.suspectOn ≤ 2000 && t.suspectOff < t.suspectOn && t.suspectOn ≤ t.icedOn && t.icedOn ≤ 2000 &&
    t.icedOff < t.icedOn && -300 ≤ t.tIce && t.tIce ≤ 300 && 0 ≤ t.tHyst && t.tHyst ≤ 200 && 1 ≤ t.persistence &&
    t.persistence ≤ 60 && 1 ≤ t.shedHold && t.shedHold ≤ 720 && 10 ≤ t.parkedAccretion && t.parkedAccretion ≤ 2880 &&
    t.suspectCeiling ≤ 100 && t.icedCeiling ≤ 100 && t.sheddingCeiling ≤ 100

/-- The stored profile of a heater state (R120). -/
def profileOf (s : State) : Heater → ThresholdSet
  | .off => s.cfg.bim.heaterOff
  | .on => s.cfg.bim.heaterOn

/-- The active set is reloaded from a profile, which becomes the loaded profile (R120). -/
def reloadProfile (h : Heater) (s : State) : State :=
  postIcing (withIcing (fun r => { r with active := profileOf s h, loaded := h }) s)

/-- The BIM's part of an accepted operating report (R120). -/
def bimHeater (h : Heater) (s : State) : State :=
  if h ≠ s.mon.icing.loaded ∧ s.mon.icing.pinned = false then reloadProfile h s else s

/-- The pinned flag is cleared and the active set reloaded (R121). -/
def clearPin (s : State) : State :=
  reloadProfile (s.ccu.op.heater.getD s.mon.icing.loaded) (withIcing (fun r => { r with pinned := false }) s)

/-- A regime change into PARKED (R121). -/
def bimParked (s : State) : State := if s.mon.icing.pinned then clearPin s else s

/-- PIN_ICING_THRESHOLDS (R121). -/
def bimPin (t : ThresholdSet) (s : State) : State × Answer :=
  if thresholdsOk t then (postIcing (withIcing (fun r => { r with active := t, pinned := true }) s), { status := .ok })
  else (s, { status := .range })

/-- UNPIN_ICING_THRESHOLDS (R121). -/
def bimUnpin (s : State) : State × Answer :=
  if s.mon.icing.pinned then (clearPin s, { status := .ok }) else (s, { status := .state })

/-- A configuration with one profile replaced. -/
def BimConfig.withProfile (h : Heater) (t : ThresholdSet) (c : BimConfig) : BimConfig :=
  match h with
  | .off => { c with heaterOff := t }
  | .on => { c with heaterOn := t }

/-- Replaces the BIM items of CONFIG. -/
def withBimConfig (f : BimConfig → BimConfig) (s : State) : State :=
  { s with cfg := { s.cfg with bim := f s.cfg.bim } }

/-- WRITE_CONFIG of a profile (R120). -/
def bimWriteProfile (h : Heater) (t : ThresholdSet) (s : State) : State × Answer :=
  if thresholdsOk t then
    let s1 := withBimConfig (BimConfig.withProfile h t) s
    (if s.mon.icing.loaded = h ∧ s.mon.icing.pinned = false then reloadProfile h s1 else s1, { status := .ok })
  else (s, { status := .range })

/-! ## The step: evaluability and score (R113, R114, R115, R122) -/

/-- The expected power at a wind speed in 0.1 m/s (R114). -/
def expectedPower (curve : Vector Nat 40) (wind : Int) : Nat :=
  if wind < 30 then 0
  else if 225 ≤ wind then curve[39]
  else
    let i := ((wind - 30) / 5).toNat
    let r := (wind - 30) % 5
    let row (k : Nat) : Int := (curve.toList.getD k 0 : Nat)
    (row i + Int.tdiv ((row (i + 1) - row i) * r) 5).toNat

/-- The expected power at the wind speed of the operating record. -/
def expectedNow (s : State) : Nat := expectedPower s.cfg.bim.curve (s.ccu.op.wind.getD 0)

/-- The condition that stops a step from being evaluable, the first in order (R113). -/
def stepStop (s : State) : Option StepStop :=
  if s.ccu.op.regime ≠ .producing then some .regime
  else if s.ghm.disturbed || s.ghm.disturbances ≠ s.bim.recorded then some .disturbance
  else if s.rch.sensor.s0.record.status = .none then some .noAmbient
  else if expectedNow s < 50 then some .lowWind
  else none

/-- The deficit (R115). -/
def deficitOf (expected : Nat) (actual : Int) : Nat :=
  (clampInt 0 1000 (Int.tdiv (1000 * ((expected : Int) - actual)) expected)).toNat

/-- The drop (R115): 0 unless the held peak is a PEAK captured at the previous step. DESIGN CHOICE (log entry 64): which step a
held peak was captured at is told by its 16-bit step number alone, so one kept for 65,536 steps counts as the previous step's
again. -/
def dropOf (fRef previous : Nat) (held : Option HeldPeak) : Nat :=
  match held with
  | none => 0
  | some h =>
    if h.peak ∧ h.step = previous then
      (clampInt 0 1000 (Int.tdiv (1000 * ((fRef : Int) - h.freq)) fRef)).toNat
    else 0

/-- The number of the step before a step, the step number wrapping at 65535 (R112). -/
def previousStep (step : Nat) : Nat := (step + 65535) % 65536

/-- The terms of an evaluable step (R115); the step number is already that of the step. -/
def scoreTerms (s : State) : ScoreTerms :=
  let expected := expectedNow s
  let deficit := deficitOf expected (s.ccu.op.power.getD 0)
  let drop := dropOf s.cfg.bim.fRef (previousStep s.bim.stepNumber) s.bim.heldPeak
  { expected := expected, deficit := deficit, drop := drop, score := min (deficit + 4 * drop) 2000 }

/-- The score ring with a new score: at most 10, the oldest removed (R115). -/
def ringWith (score : Nat) (ring : List Nat) : List Nat :=
  (if ring.length < 10 then ring else ring.drop (ring.length - 9)) ++ [score]

/-- The readings of S0 at a step (R122). -/
def ambientOf (set : ThresholdSet) (r : TempRecord) : AmbientReading :=
  let usable := match r.status with
    | .good => true
    | .stale => r.age.getD 0 ≤ 600
    | .none => false
  match r.value with
  | none => { usable := usable, cold := false, warm := false }
  | some v => { usable := usable, cold := usable && v ≤ set.tIce, warm := usable && set.tIce + set.tHyst < v }

/-! ## The transitions (R123 to R127) -/

/-- What a transition rule reads at a step: the regime, S0, and the mean of an evaluable step. -/
structure StepView where
  regime : Regime
  ambient : AmbientReading
  mean : Option Nat
  deriving DecidableEq, Repr

/-- Whether the mean of an evaluable step is at or above a threshold. -/
def meanAtLeast (threshold : Nat) : Option Nat → Bool
  | none => false
  | some m => threshold ≤ m

/-- An 8-bit saturating increment. -/
def inc8 (n : Nat) : Nat := min (n + 1) 255

/-- A step in CLEAR (R123): the retained state with its counts, and the state entered, if any. -/
def clearRule (v : StepView) (r : IcingRetained) : IcingRetained × Option IcingState :=
  let accreting := v.regime = .parked && v.ambient.cold
  let r1 := { r with parkedCount := if accreting then inc16 r.parkedCount else 0 }
  if accreting && r.active.parkedAccretion ≤ r1.parkedCount then (r1, some .suspect)
  else if v.ambient.cold && meanAtLeast r.active.suspectOn v.mean then (r1, some .suspect)
  else (r1, none)

/-- A step in SUSPECT (R124). -/
def suspectRule (v : StepView) (r : IcingRetained) : IcingRetained × Option IcingState :=
  if v.ambient.warm then (r, some .clear)
  else
    match v.mean with
    | none => (r, none)
    | some m =>
      let r1 := { r with icedCount := if r.active.icedOn ≤ m then inc8 r.icedCount else 0 }
      if r.active.persistence ≤ r1.icedCount then (r1, some .iced)
      else if m < r.active.suspectOff then (r1, some .clear)
      else (r1, none)

/-- A step in ICED (R125). -/
def icedRule (v : StepView) (r : IcingRetained) : IcingRetained × Option IcingState :=
  if v.ambient.warm then (r, some .shedding)
  else
    match v.mean with
    | none => (r, none)
    | some m =>
      let r1 := { r with clearCount := if m < r.active.icedOff then inc8 r.clearCount else 0 }
      if r.active.persistence ≤ r1.clearCount then (r1, some .shedding) else (r1, none)

/-- A step in SHEDDING (R126). -/
def sheddingRule (v : StepView) (r : IcingRetained) : IcingRetained × Option IcingState :=
  if meanAtLeast r.active.icedOn v.mean && !v.ambient.warm then (r, some .iced)
  else if v.regime = .producing then
    if meanAtLeast r.active.suspectOn v.mean then ({ r with shedCount := 0 }, none)
    else
      let r1 := { r with shedCount := inc16 r.shedCount }
      if r.active.shedHold ≤ r1.shedCount then (r1, some .clear) else (r1, none)
  else (r, none)

/-- The transition rule of the state held (R123 to R126). -/
def icingRule (v : StepView) (r : IcingRetained) : IcingRetained × Option IcingState :=
  match r.state with
  | .clear => clearRule v r
  | .suspect => suspectRule v r
  | .iced => icedRule v r
  | .shedding => sheddingRule v r

/-- The counters set to 0 on entry into a state from another (R127). -/
def IcingRetained.enter (new : IcingState) (r : IcingRetained) : IcingRetained :=
  match new with
  | .suspect => { r with state := .suspect, icedCount := 0 }
  | .clear => { r with state := .clear, parkedCount := 0 }
  | .iced => { r with state := .iced, clearCount := 0 }
  | .shedding => { r with state := .shedding, shedCount := 0 }

/-- The alarm action of a transition (R127). -/
def icingAlarms (old new : IcingState) (s : State) : State :=
  match old, new with
  | .clear, .suspect => raise .iceSuspect .bim s
  | .suspect, .clear => clearAlarm .iceSuspect .bim s
  | .suspect, .iced => raise .iceDetected .bim (clearAlarm .iceSuspect .bim s)
  | .shedding, .clear => clearAlarm .iceDetected .bim s
  | _, _ => s

/-- The post of the icing grade, if it differs from that of the old state (R127). -/
def postIcingGrade (old new : IcingState) (s : State) : State :=
  if icingGrade old = icingGrade new then s else postGrades (fun g => { g with icing := icingGrade new }) s

/-- Whether a transition ends an override (R130). -/
def endsOverride (old new : IcingState) : Bool := new = .clear || (old = .shedding && new = .iced)

/-- A transition (R127). -/
def icingTransition (old new : IcingState) (s : State) : State :=
  let s1 := postIcingGrade old new (icingAlarms old new (withIcing (IcingRetained.enter new) s))
  let s2 := if endsOverride old new then { s1 with bim := { s1.bim with override := none } } else s1
  setNotice .icingState (postIcing s2)

/-- The transition rule applied at a step (R112 step 3): the transition made, if any. -/
def applyRule (v : StepView) (s : State) : Option (IcingState × IcingState) × State :=
  let old := s.mon.icing.state
  let r := icingRule v s.mon.icing
  let s1 := withIcing (fun _ => r.1) s
  match r.2 with
  | none => (none, s1)
  | some new => (some (old, new), icingTransition old new s1)

/-! ## Peak captures (R116, R117) -/

/-- The capture asked for at an evaluable step (R116). -/
def peakCapture : CaptureKind := .fixed .n1 16 65536

/-- The count of a capture refused (R116). -/
def countPeakRefusal (r : CaptureRefusal) (c : BimCounters) : BimCounters :=
  match r with
  | .converter => { c with refusedConverter := inc16 c.refusedConverter }
  | .channelFault => { c with refusedChannelFault := inc16 c.refusedChannelFault }
  | .noBuffer => { c with refusedNoBuffer := inc16 c.refusedNoBuffer }
  | .parameter => c

/-- The peak capture request of an evaluable step (R116). -/
def requestPeak (s : State) : State :=
  match judgeCapture .bim peakCapture s with
  | .error r => countBim (countPeakRefusal r) (setOutstanding none s)
  | .ok b => setOutstanding (some s.bim.stepNumber) (beginCapture b peakCapture s)

/-- The submission of a completed peak capture (R116). -/
def submitPeak (step : Nat) (s : State) : State :=
  let mode : AnalysisMode := .peak 65536 16 s.cfg.bim.searchLo s.cfg.bim.searchHi s.cfg.bim.powerFloor
  match submit .bim step .bimA mode s with
  | (.ok _, s1) => s1
  | (.error _, s1) =>
    reportDay DayRecord.addSkip
      (countBim (fun c => { c with analysisSkip := inc16 c.analysisSkip }) (setOutstanding none (releaseBuffer .bimA s1)))

/-- A completion report for BIM-A (R116). -/
def bimCompletion (s : State) : State :=
  match s.bim.outstanding with
  | none => releaseBuffer .bimA s
  | some step => submitPeak step s

/-- An abort report for BIM-A (R116). -/
def bimAbort (converter : Bool) (s : State) : State :=
  countBim (fun c =>
    if converter then { c with abortConverter := inc16 c.abortConverter }
    else { c with abortChannelFault := inc16 c.abortChannelFault }) (setOutstanding none s)

/-- A PEAK result (R117). -/
def bimResult (r : AnalysisRequest) (p : PeakResult) (s : State) : State :=
  if s.bim.outstanding = some r.tag then
    let held : HeldPeak := { step := r.tag, peak := p.peak, freq := p.freq, power := p.power, clipped := r.clipped }
    countBim (fun c => if p.peak then { c with peak := inc16 c.peak } else { c with noPeak := inc16 c.noPeak })
      { s with bim := { s.bim with heldPeak := some held, outstanding := none } }
  else countBim (fun c => { c with discarded := inc16 c.discarded }) s

/-- A removal report (R117). -/
def bimRemoval (s : State) (r : AnalysisRequest) : State :=
  let s1 := releaseBuffer r.buffer s
  if s1.bim.outstanding = some r.tag then
    countBim (fun c => { c with removed := inc16 c.removed }) (setOutstanding none s1)
  else s1

/-! ## The step (R112) -/

/-- The count of a step by its evaluability (R113, R132). -/
def countStep (stop : Option StepStop) (c : BimCounters) : BimCounters :=
  match stop with
  | none => { c with evaluable := inc16 c.evaluable }
  | some .regime => { c with regime := inc16 c.regime }
  | some .disturbance => { c with disturbance := inc16 c.disturbance }
  | some .noAmbient => { c with noAmbient := inc16 c.noAmbient }
  | some .lowWind => { c with lowWind := inc16 c.lowWind }

/-- The beginning of a step: the step number, the counters and the disturbance counter recorded for the next step
(R112, R113). -/
def openStep (stop : Option StepStop) (s : State) : State :=
  { s with bim :=
    { s.bim with
      stepTimer := some 60
      stepNumber := next16 s.bim.stepNumber
      recorded := s.ghm.disturbances
      counters := countStep stop { s.bim.counters with steps := inc16 s.bim.counters.steps } } }

/-- The score of a step enters the ring (R115). -/
def enterScore (terms : Option ScoreTerms) (s : State) : State :=
  match terms with
  | none => s
  | some t => withIcing (fun r => { r with ring := ringWith t.score r.ring }) s

/-- A step (R112). -/
def takeStep (s : State) : State :=
  let stop := stepStop s
  let s1 := openStep stop s
  let terms := match stop with
    | none => some (scoreTerms s1)
    | some _ => none
  let s2 := enterScore terms s1
  let mean := match stop with
    | none => ringMean s2.mon.icing.ring
    | some _ => none
  let ambient := ambientOf s2.mon.icing.active s2.rch.sensor.s0.record
  let t := applyRule { regime := s2.ccu.op.regime, ambient := ambient, mean := mean } s2
  let s3 := if stop.isNone then requestPeak t.2 else t.2
  let s4 := reportDay (DayRecord.addMinute s3.mon.icing.state) s3
  let last : StepRecord :=
    { number := s4.bim.stepNumber, stop := stop, terms := terms, mean := mean, ambient := ambient, transition := t.1 }
  { s4 with bim := { s4.bim with lastStep := some last } }

/-- An expiry of the step timer, which is stopped while the BIM is disabled (R112, R131), where its count has run out (log
entry 12). -/
def bimStepExpiry (s : State) : State :=
  match s.bim.stepTimer with
  | none | some (_ + 1) => s
  | some 0 => takeStep s

/-- The end time of an override is reached (R129, R130), where its count has run out (log entry 12). -/
def overrideExpiry (s : State) : State :=
  match s.bim.override with
  | none | some (_ + 1) => s
  | some 0 => endOverride s

/-! ## Requests of the BIM -/

/-- ICE_OVERRIDE_BEGIN (R129). DESIGN CHOICE (log entry 53): the minutes granted take the two octets of a time in minutes, as
the minutes of the request do. -/
def bimOverrideBegin (minutes : Nat) (s : State) : State × Answer :=
  if minutes = 0 then (s, { status := .range })
  else if s.mon.icing.state = .clear ∨ s.mon.icing.state = .suspect then (s, { status := .state })
  else if s.mpl.presence.isSome then (s, { status := .onSite })
  else (setOverride (some (min minutes 120 * 60)) s, { status := .ok, content := encNat 2 (min minutes 120) })

/-- ICE_OVERRIDE_END (R130). -/
def bimOverrideEnd (s : State) : State × Answer :=
  if s.bim.override.isSome then (endOverride s, { status := .ok }) else (s, { status := .state })

/-- The BIM is disabled (R131). -/
def disableBim (s : State) : State :=
  let r := withdraw .bim none s
  let s1 := cancelBuffer .bimA (r.1.foldl bimRemoval r.2)
  withBimConfig (fun c => { c with enable := false })
    { s1 with bim := { s1.bim with outstanding := none, heldPeak := none, stepTimer := none } }

/-- The BIM is enabled (R131). -/
def enableBim (s : State) : State :=
  withBimConfig (fun c => { c with enable := true })
    { s with bim := { s.bim with stepTimer := some 60, recorded := s.ghm.disturbances } }

/-- WRITE_CONFIG of the enable item (R131). -/
def bimWriteEnable (v : Bool) (s : State) : State × Answer :=
  if v = s.cfg.bim.enable then (s, { status := .ok })
  else if v then (enableBim s, { status := .ok })
  else (disableBim s, { status := .ok })

/-- The check of a peak item (R118). -/
def peakItemOk : BimPeakItem → Bool
  | .fRef v => 100 ≤ v && v ≤ 10000
  | .searchRange lo hi => lo < hi && hi ≤ 25000
  | .powerFloor v => v ≤ max48

/-- A configuration with a peak item replaced (R118). -/
def BimConfig.withPeakItem (item : BimPeakItem) (c : BimConfig) : BimConfig :=
  match item with
  | .fRef v => { c with fRef := v }
  | .searchRange lo hi => { c with searchLo := lo, searchHi := hi }
  | .powerFloor v => { c with powerFloor := v }

/-- WRITE_CONFIG of a peak item (R118). -/
def bimWritePeakItem (item : BimPeakItem) (s : State) : State × Answer :=
  if peakItemOk item then (withBimConfig (BimConfig.withPeakItem item) s, { status := .ok }) else (s, { status := .range })

/-- WRITE_CONFIG of the power curve (R114). -/
def bimWriteCurve (rows : Vector Nat 40) (s : State) : State × Answer :=
  if rows.toList.all (· ≤ 1200) then (withBimConfig (fun c => { c with curve := rows }) s, { status := .ok })
  else (s, { status := .range })

/-! ## The start (R133, R134) -/

/-- The volatile start values of the BIM (R133); while it is disabled the step timer is stopped (R131). -/
def bimVolatile (cfg : ConfigSection) : BimState := { stepTimer := if cfg.bim.enable then some 60 else none }

/-- The posts of the BIM at a start (R134). -/
def bimStartPosts (s : State) : State :=
  recordContribution .icing (icingContribution s)
    (withGrades (fun g => { g with icing := icingGrade s.mon.icing.state }) s)

end Sys2Proof.Machine
end

