-- ==== Sys2Proof/Machine/Ghm.lean ====
section
/-! DEFINITION. The Grid Harmonic Monitor (chapter 6): windows, disturbance, blocks, intervals, compliance records. -/

namespace Sys2Proof.Machine

/-! ## Access -/

/-- Updates the volatile state of the GHM. -/
def withGhm (f : GhmState → GhmState) (s : State) : State := { s with ghm := f s.ghm }

/-- Updates the counters of the GHM (R109). -/
def countGhm (f : GhmCounters → GhmCounters) (s : State) : State :=
  withGhm (fun g => { g with counters := f g.counters }) s

/-- Replaces the GHM items of CONFIG. -/
def withGhmConfig (f : GhmConfig → GhmConfig) (s : State) : State :=
  { s with cfg := { s.cfg with ghm := f s.cfg.ghm } }

/-- Updates the entry with a window number. -/
def withEntry (n : Nat) (f : WindowEntry → WindowEntry) (s : State) : State :=
  withGhm (fun g => { g with entries := g.entries.map fun e => if e.number = n then f e else e }) s

/-- The entry with a window number. -/
def findEntry (n : Nat) (s : State) : Option WindowEntry := s.ghm.entries.find? (·.number = n)

/-! ## Posts (R105) -/

/-- The grid contribution (R105). -/
def gridContribution (s : State) : Nat := if s.mon.currentGrade = 2 then s.cfg.ghm.gridCeiling else 100

/-- The contribution is recomputed, and posted when it differs from the value held (R105). -/
def postGrid (s : State) : State :=
  if s.ccu.contributions.grid = some (gridContribution s) then s else postContribution .grid (gridContribution s) s

/-- The alarm action of a change of the current grade (R104). -/
def currentAlarms (old new : Nat) (s : State) : State :=
  if old = new then s
  else
    let s1 := if old = 1 then clearAlarm .gridCurrentAlert .ghm s
      else if old = 2 then clearAlarm .gridCurrentAlarm .ghm s else s
    if new = 1 then raise .gridCurrentAlert .ghm s1
    else if new = 2 then raise .gridCurrentAlarm .ghm s1 else s1

/-! ## Blocks and intervals (R98, R99) -/

/-- A value present adds its square and one to a sum of squares. -/
def SquareSum.add (q : SquareSum) (v : Option Nat) : SquareSum :=
  match v with
  | none => q
  | some x => { sum := q.sum + x * x, count := q.count + 1 }

/-- The root of the mean square, none when the count is 0 (R98, R101). -/
def SquareSum.root (q : SquareSum) : Option Nat := if q.count = 0 then none else some (rootRatio q.sum q.count)

/-- The quantities of an ANALYSED window (R98). -/
def LastWindow.quantities (w : LastWindow) : Quantities (Option Nat) :=
  ⟨w.vRatio.map (vmap some), w.vThd.map some, w.iThd⟩

/-- A closing frequency joins the block (R98). -/
def GridBlock.addFreq (f : Nat) (b : GridBlock) : GridBlock :=
  { b with freqSum := b.freqSum + f, freqCount := b.freqCount + 1 }

/-- An ANALYSED window joins the block (R98). -/
def GridBlock.addWindow (w : LastWindow) (b : GridBlock) : GridBlock :=
  { b.addFreq w.freq with sums := b.sums.zip SquareSum.add w.quantities, analysed := b.analysed + 1 }

/-- A closing frequency joins the interval (R99). -/
def GridInterval.addFreq (f : Nat) (i : GridInterval) : GridInterval :=
  { i with freqSum := i.freqSum + f, freqCount := i.freqCount + 1 }

/-- A 3-second value joins the interval (R99). -/
def GridInterval.addValue (v : Quantities (Option Nat)) (i : GridInterval) : GridInterval :=
  { i with sums := i.sums.zip SquareSum.add v, values := i.values + 1 }

/-- An empty interval that starts at the calendar reading held (R99). -/
def freshInterval (s : State) : GridInterval :=
  { sums := Quantities.all {}
    unaligned := s.cal.isNone
    planned := plannedEndFrom s.cal
    begunOff := !s.cfg.ghm.enable }

/-- A new interval starts (R99). -/
def startInterval (s : State) : State := withGhm (fun g => { g with interval := freshInterval s }) s

/-- The last 3-second summary from a 3-second value (R98). -/
def summaryOf (v : Quantities (Option Nat)) (b : GridBlock) : GridSummary :=
  { vThd := v.thd, iThd := v.currentThd, freq := b.freqSum / b.freqCount }

/-- The open block completes (R98). -/
def completeBlock (s : State) : State :=
  let b := s.ghm.block
  if b.analysed = 0 then
    countGhm (fun c => { c with emptyBlock := inc16 c.emptyBlock }) (withGhm (fun g => { g with block := GridBlock.empty }) s)
  else
    let v := b.sums.map SquareSum.root
    withGhm (fun g =>
      { g with
        interval := g.interval.addValue v
        lastSummary := some (summaryOf v b)
        block := GridBlock.empty }) s

/-- A settlement counts as one slot of the open block, which completes at its 15th (R97, R98). -/
def addSlot (s : State) : State :=
  let s1 := withGhm (fun g => { g with block := { g.block with slots := g.block.slots + 1 } }) s
  if s1.ghm.block.slots = 15 then completeBlock s1 else s1

/-- One disturbed window: it counts in the interval and in the day record (R97, R99). -/
def addDisturbedWindow (s : State) : State :=
  reportDay DayRecord.addDisturbed
    (withGhm (fun g => { g with interval := { g.interval with disturbed := inc16 g.interval.disturbed } }) s)

/-! ## Settlement (R97) -/

/-- Whether an entry stays in the list: it is removed when it is both ENDED and settled (R89). -/
def WindowEntry.stays (e : WindowEntry) : Bool := !(e.ended && e.outcome.isSome)

/-- Removes the entries that are both ENDED and settled (R89). -/
def pruneEntries (s : State) : State := withGhm (fun g => { g with entries := g.entries.filter WindowEntry.stays }) s

/-- The count of an outcome (R97, R109). -/
def countOutcome (o : WindowOutcome) (c : GhmCounters) : GhmCounters :=
  match o with
  | .analysed => { c with analysed := inc16 c.analysed }
  | .excluded => { c with excluded := inc16 c.excluded }
  | .invalidFrequency => { c with invalidFrequency := inc16 c.invalidFrequency }
  | .abandoned => { c with abandoned := inc16 c.abandoned }
  | .missed .noBuffer => { c with missedNoBuffer := inc16 c.missedNoBuffer }
  | .missed .converter => { c with missedConverter := inc16 c.missedConverter }
  | .missed .aborted => { c with missedAborted := inc16 c.missedAborted }
  | .missed .queue => { c with missedQueue := inc16 c.missedQueue }

/-- Whether an outcome is MISSED. -/
def WindowOutcome.isMissed : WindowOutcome → Bool
  | .missed _ => true
  | .analysed | .excluded | .invalidFrequency | .abandoned => false

/-- The report of a settled window to the day record (R97): a MISSED window is an analysis skip. -/
def reportOutcome (o : WindowOutcome) (s : State) : State := if o.isMissed then reportDay DayRecord.addSkip s else s

/-- The settlement of a window (R97); the values of an ANALYSED or EXCLUDED window have joined before. -/
def settleWindow (n : Nat) (o : WindowOutcome) (s : State) : State :=
  addSlot (reportOutcome o (countGhm (countOutcome o)
    (pruneEntries (withEntry n (fun e => { e with outcome := some o, buffer := none, request := .none }) s))))

/-! ## The HARMONICS request (R94) -/

/-- The request field of an entry right after the request for its buffer is accepted (R94). -/
def requestAfterSubmit (b : BufferId) (arrival : Nat) (s : State) : WindowRequest :=
  if s.spe.inProgress.any fun r => r.buffer = b then .analysing arrival else .queued arrival

/-- The submission of a judged window (R94). -/
def submitWindow (n : Nat) (b : BufferId) (closing : PulseResult) (stored : Nat) (s : State) : State :=
  match submit .ghm n b (.harmonics closing.n closing.t stored) s with
  | (.ok arrival, s1) => withEntry n (fun e => { e with request := requestAfterSubmit b arrival s1 }) s1
  | (.error _, s1) => settleWindow n (.missed .queue) (releaseBuffer b s1)

/-- The judgement of a completed window capture (R91). -/
def judgeWindow (n : Nat) (b : BufferId) (r : CaptureRecord) (s : State) : State :=
  match r.limitReached, (findEntry n s).bind (·.closing) with
  | false, some closing =>
    if closing.freq < 45000 ∨ 65000 < closing.freq then settleWindow n .invalidFrequency (releaseBuffer b s)
    else submitWindow n b closing r.stored s
  | _, _ => settleWindow n .invalidFrequency (releaseBuffer b s)

/-- The entry that holds a buffer. -/
def entryWith (b : BufferId) (s : State) : Option WindowEntry := s.ghm.entries.find? (·.buffer = some b)

/-- A completion report for a window buffer (R91). -/
def ghmCompletion (b : BufferId) (r : CaptureRecord) (s : State) : State :=
  match entryWith b s with
  | none => releaseBuffer b s
  | some e => judgeWindow e.number b r s

/-- An abort report for a window buffer (R92). -/
def ghmAbort (b : BufferId) (s : State) : State :=
  match entryWith b s with
  | none => s
  | some e => settleWindow e.number (.missed .aborted) s

/-! ## Window ends (R90, R93) -/

/-- The refusal reason an entry keeps (R89). -/
def keptRefusal : CaptureRefusal → WindowRefusal
  | .converter => .converter
  | .noBuffer | .parameter | .channelFault => .noBuffer

/-- The reason of a window that had no capture (R90). -/
def missReason : WindowRefusal → MissReason
  | .noBuffer => .noBuffer
  | .converter => .converter

/-- A new OPEN entry joins the list, and the window is counted (R90). -/
def addEntry (e : WindowEntry) (s : State) : State :=
  countGhm (fun c => { c with opened := inc16 c.opened })
    (withGhm (fun g => { g with entries := g.entries ++ [e], nextWindow := next16 e.number, window := .running }) s)

/-- A window is opened (R90). -/
def openWindow (s : State) : State :=
  match judgeCapture .ghm .window s with
  | .ok b => beginCapture b .window (addEntry { number := s.ghm.nextWindow, buffer := some b } s)
  | .error r => addEntry { number := s.ghm.nextWindow, refusal := some (keptRefusal r) } s

/-- The OPEN entry, if there is one (R89). -/
def openEntry (s : State) : Option WindowEntry := s.ghm.entries.find? fun e => !e.ended

/-- The end request for a FILLING window capture and its completion report (R14, R91), with the instants converted so
far; a buffer that is not filling is answered "not filling". -/
def endCapture (n : Nat) (b : BufferId) (segments : List (List GridInstant)) (s : State) : State :=
  match bufferOf s b with
  | .filling r =>
    let r' := fillWindow r segments
    judgeWindow n b r' (setBuffer b (.full r') s)
  | .free | .full _ | .inAnalysis _ => s

/-- What follows the end of a window by its buffer, its outcome and its refusal (R90). -/
def afterEnd (e : WindowEntry) (segments : List (List GridInstant)) (s : State) : State :=
  match e.outcome, e.buffer, e.refusal with
  | some _, _, _ => pruneEntries s
  | none, some b, _ => endCapture e.number b segments s
  | none, none, some r => settleWindow e.number (.missed (missReason r)) s
  | none, none, none => s

/-- The OPEN window is ended by a VALID result (R90). -/
def endWindow (closing : PulseResult) (segments : List (List GridInstant)) (s : State) : State :=
  match openEntry s with
  | none => s
  | some e =>
    afterEnd e segments
      (withEntry e.number (fun e => { e with ended := true, closing := some closing, endTime := s.cal }) s)

/-- A VALID P2 result (R90). -/
def ghmValid (closing : PulseResult) (segments : List (List GridInstant)) (s : State) : State :=
  match s.ghm.window with
  | .off => s
  | .searching => openWindow s
  | .running => openWindow (endWindow closing segments s)

/-- A disturbance seen: the flag and the counter after a disturbed window or a stall (R96). -/
def GhmState.disturb (g : GhmState) : GhmState :=
  if g.disturbed then g else { g with disturbed := true, disturbances := next16 g.disturbances }

/-- Step 1 of R93: the OPEN window is given up. -/
def abandonWindow (s : State) : State :=
  match openEntry s with
  | none => s
  | some e =>
    let s1 := match e.buffer with
      | none => s
      | some b => cancelBuffer b s
    let s2 := withEntry e.number (fun e => { e with ended := true, endTime := s.cal }) s1
    match e.outcome with
    | some _ => pruneEntries s2
    | none => settleWindow e.number .abandoned s2

/-- A STALLED P2 result (R93). -/
def ghmStalled (s : State) : State :=
  match s.ghm.window with
  | .off => s
  | .searching | .running =>
    withGhm (fun g => { g with window := .searching })
      (countGhm (fun c => { c with stalls := inc16 c.stalls })
        (withGhm GhmState.disturb (addDisturbedWindow (abandonWindow s))))

/-! ## The evaluation of a window (R95, R96) -/

/-- The magnitude of order h (1..40) of a channel (R61). -/
def magnitudeAt (mags : List (List Nat)) (ch h : Nat) : Nat := (mags.getD ch []).getD (h - 1) 0

/-- The harmonic ratio of order h (R95). -/
def harmonicRatio (m1 : Nat) (h mh : Nat) : Nat :=
  if m1 = 0 then min (Config.ratioOverZeroFundamental h mh) 65535 else min (10000 * mh / m1) 65535

/-- The ratios of the orders 2..40 of a channel (R95). -/
def harmonicRatios (mags : List (List Nat)) (ch : Nat) : Vector Nat 39 :=
  Vector.ofFn fun i => harmonicRatio (magnitudeAt mags ch 1) (i.val + 2) (magnitudeAt mags ch (i.val + 2))

/-- The THD of a channel (R95). -/
def thdOf (mags : List (List Nat)) (ch : Nat) : Nat :=
  let m1 := magnitudeAt mags ch 1
  let sum := ((List.range 39).map fun i => magnitudeAt mags ch (i + 2) ^ 2).sum
  greatest 16 fun t => (t * m1) ^ 2 ≤ 100000000 * sum

/-- The voltage level of a channel (R95). -/
def voltageLevel (cfg : GhmConfig) (mags : List (List Nat)) (ch : Nat) : Nat :=
  magnitudeAt mags ch 1 * 50000 / (256 * cfg.vNom)

/-- The current level of a channel (R95). -/
def currentLevel (cfg : GhmConfig) (mags : List (List Nat)) (ch : Nat) : Nat :=
  magnitudeAt mags ch 1 * 10000 / (256 * cfg.iRated)

/-- A value of a current phase, none when the phase is "no current" (R95). -/
def currentValue {α : Type} (cfg : GhmConfig) (mags : List (List Nat)) (ch : Nat) (x : α) : Option α :=
  if currentLevel cfg mags ch < cfg.currentFloor then none else some x

/-- The three voltage levels (R95). -/
def voltageLevels (cfg : GhmConfig) (mags : List (List Nat)) : PerPhase Nat :=
  ⟨voltageLevel cfg mags 0, voltageLevel cfg mags 1, voltageLevel cfg mags 2⟩

/-- The fundamental magnitudes in primary units (R97). -/
def primaryValues (cfg : GhmConfig) (mags : List (List Nat)) : Vector Nat 6 :=
  Vector.ofFn fun i =>
    if i.val < 3 then magnitudeAt mags i 1 * cfg.vtRatio * 5 / 25600 else magnitudeAt mags i 1 * cfg.ctRatio / 256000

/-- The values of an evaluated window (R95, R97). -/
def windowValues (cfg : GhmConfig) (number freq : Nat) (mags : List (List Nat)) : LastWindow :=
  { number := number
    freq := freq
    vLevel := voltageLevels cfg mags
    iLevel := ⟨currentLevel cfg mags 3, currentLevel cfg mags 4, currentLevel cfg mags 5⟩
    vRatio := ⟨harmonicRatios mags 0, harmonicRatios mags 1, harmonicRatios mags 2⟩
    vThd := ⟨thdOf mags 0, thdOf mags 1, thdOf mags 2⟩
    iRatio :=
      ⟨currentValue cfg mags 3 (harmonicRatios mags 3), currentValue cfg mags 4 (harmonicRatios mags 4),
        currentValue cfg mags 5 (harmonicRatios mags 5)⟩
    iThd :=
      ⟨currentValue cfg mags 3 (thdOf mags 3), currentValue cfg mags 4 (thdOf mags 4),
        currentValue cfg mags 5 (thdOf mags 5)⟩
    primary := primaryValues cfg mags }

/-- The class of an evaluated window (R96). -/
inductive WindowClass where
  | disturbed | clean | marginal
  deriving DecidableEq, Repr

/-- The class by the voltage levels (R96); a NO_FUNDAMENTAL window has a level below 1000 and so below 9000. -/
def classOf (v : PerPhase Nat) : WindowClass :=
  if v.toList.any fun x => x < 9000 || 11000 < x then .disturbed
  else if v.toList.all fun x => 9200 ≤ x && x ≤ 10800 then .clean
  else .marginal

/-- The flag and the counter after an evaluated window (R96). -/
def GhmState.classed (c : WindowClass) (g : GhmState) : GhmState :=
  match c with
  | .disturbed => g.disturb
  | .clean => { g with disturbed := false }
  | .marginal => g

/-- A NO_FUNDAMENTAL window is counted (R95, R109). -/
def countNoFundamental (v : PerPhase Nat) (s : State) : State :=
  if v.toList.any (· < 1000) then countGhm (fun c => { c with noFundamental := inc16 c.noFundamental }) s else s

/-- An ANALYSED window's values join the block and become the last window values (R97, R98). -/
def joinAnalysed (w : LastWindow) (s : State) : State :=
  withGhm (fun g =>
    { g with lastWindow := some w, block := g.block.addWindow w, interval := g.interval.addFreq w.freq }) s

/-- An EXCLUDED window's frequency joins, and it counts as a disturbed window (R97, R98). -/
def joinExcluded (freq : Nat) (s : State) : State :=
  addDisturbedWindow (withGhm (fun g => { g with block := g.block.addFreq freq, interval := g.interval.addFreq freq }) s)

/-- The evaluation and settlement of a window (R95, R96, R97). -/
def evaluateWindow (number freq : Nat) (mags : List (List Nat)) (s : State) : State :=
  let v := voltageLevels s.cfg.ghm mags
  let s1 := countNoFundamental v (withGhm (GhmState.classed (classOf v)) s)
  if s1.ghm.disturbed then settleWindow number .excluded (joinExcluded freq s1)
  else settleWindow number .analysed (joinAnalysed (windowValues s.cfg.ghm number freq mags) s1)

/-- Whether an entry awaits the result of a request (R94). -/
def WindowEntry.awaits (r : AnalysisRequest) (e : WindowEntry) : Bool :=
  e.number = r.tag && (e.request = .queued r.arrival || e.request = .analysing r.arrival)

/-- A HARMONICS result (R94). -/
def ghmResult (r : AnalysisRequest) (mags : List (List Nat)) (s : State) : State :=
  match s.ghm.entries.find? (WindowEntry.awaits r) with
  | none => countGhm (fun c => { c with discarded := inc16 c.discarded }) s
  | some e => evaluateWindow e.number ((e.closing.map (·.freq)).getD 0) mags s

/-- A removal report (R94). -/
def ghmRemoval (s : State) (r : AnalysisRequest) : State :=
  let s1 := releaseBuffer r.buffer s
  match s1.ghm.entries.find? (WindowEntry.awaits r) with
  | none => s1
  | some e => settleWindow e.number (.missed .queue) s1

/-! ## Compliance records (R101 to R104) -/

/-- The 10-minute ratio of an order, the greatest of the three phases (R101). -/
def greatestRatio (q : Quantities (Option Nat)) (h : Nat) : Nat :=
  (q.ratio.toList.map fun v => (v.toList.getD (h - 2) none).getD 0).foldl max 0

/-- The orders 2..40. -/
def orders : List Nat := (List.range 39).map (· + 2)

/-- The worst voltage harmonic, the lowest order of equals (R101). -/
def worstHarmonic (q : Quantities (Option Nat)) : Nat × Nat :=
  orders.foldl (fun best h => if best.2 < greatestRatio q h then (h, greatestRatio q h) else best) (2, greatestRatio q 2)

/-- The exceedance set (R101). -/
def exceededOrders (limits : Vector Nat 39) (q : Quantities (Option Nat)) : List Nat :=
  orders.filter fun h => limits.toList.getD (h - 2) 0 < greatestRatio q h

/-- The compliance record of the interval in progress (R101). -/
def complianceRecord (timeSet : Bool) (s : State) : ComplianceRecord :=
  let i := s.ghm.interval
  let q := i.sums.map SquareSum.root
  { intervalEnd := s.cal
    meanFreq := i.freqSum / i.freqCount
    vThd := q.thd
    worstOrder := (worstHarmonic q).1
    worstRatio := (worstHarmonic q).2
    iThd := q.currentThd
    used := min i.values 255
    sparse := i.values < 100
    unaligned := i.unaligned
    timeSet := timeSet
    disturbed := i.disturbed
    exceeded := exceededOrders s.cfg.ghm.voltageLimit q }

/-- Whether a record is later than the newest one (R102). -/
def laterThanNewest (t : Timestamp) (ring : List ComplianceRecord) : Bool :=
  match ring.getLast? with
  | none => true
  | some r =>
    match r.intervalEnd with
    | none => true
    | some newest => newest.before t

/-- The ring with a record appended: at most 144 (R102). -/
def ringAppend (r : ComplianceRecord) (ring : List ComplianceRecord) : List ComplianceRecord :=
  if (ring ++ [r]).length = 145 then (ring ++ [r]).drop 1 else ring ++ [r]

/-- Whether a closed record is stored (R102). -/
def ringTakes (r : ComplianceRecord) (ring : List ComplianceRecord) : Bool :=
  match r.intervalEnd with
  | none => false
  | some t => laterThanNewest t ring

/-- A closed record is offered to the ring (R102). -/
def offerRecord (r : ComplianceRecord) (s : State) : State :=
  if ringTakes r s.records.ring then
    setNotice .gridRecord { s with records := { s.records with ring := ringAppend r s.records.ring } }
  else countGhm (fun c => { c with orderDropped := inc16 c.orderDropped }) s

/-- The action of a record on GRID_VOLTAGE_EXCEED (R103). -/
def voltageAlarm (r : ComplianceRecord) (s : State) : State :=
  if r.sparse then s
  else
    match r.exceeded with
    | [] => clearAlarm .gridVoltageExceed .ghm s
    | _ :: _ => raise .gridVoltageExceed .ghm s

/-- The greatest current THD present (R104). -/
def greatestCurrentThd (r : ComplianceRecord) : Option Nat :=
  match r.iThd.toList.filterMap id with
  | [] => none
  | l => some (l.foldl max 0)

/-- The current confirm counter after a record (R104). -/
def currentConfirmAfter (cfg : GhmConfig) (x confirm : Nat) : Nat := if cfg.iAlarm ≤ x then min (confirm + 1) 2 else 0

/-- The current grade after a record (R104). -/
def currentGradeAfter (cfg : GhmConfig) (x confirm grade : Nat) : Nat :=
  let fall := x + cfg.iHyst < cfg.iAlert
  if grade = 0 then if confirm = 2 then 2 else if cfg.iAlert ≤ x then 1 else 0
  else if grade = 1 then if confirm = 2 then 2 else if fall then 0 else 1
  else if cfg.iAlarm ≤ x + cfg.iHyst then 2
  else if fall then 0
  else 1

/-- A change of the current grade (R104, R105). DESIGN CHOICE (log entry 58): the alarm action comes first, then the posts. -/
def currentGradeChange (old new : Nat) (s : State) : State :=
  if old = new then s else postGrid (postGrades (fun g => { g with current := new }) (currentAlarms old new s))

/-- The grading of a record by its current THDs (R104). -/
def gradeCurrent (r : ComplianceRecord) (s : State) : State :=
  match r.sparse, greatestCurrentThd r with
  | false, some x =>
    let confirm := currentConfirmAfter s.cfg.ghm x s.mon.currentConfirm
    let grade := currentGradeAfter s.cfg.ghm x confirm s.mon.currentGrade
    currentGradeChange s.mon.currentGrade grade
      { s with mon := { s.mon with currentConfirm := confirm, currentGrade := grade } }
  | _, _ => s

/-- The report of a record with a non-empty exceedance set (R102). -/
def reportRecord (r : ComplianceRecord) (s : State) : State :=
  if r.exceeded = [] then s else reportDay DayRecord.addExceedance s

/-- A closed record: the ring, the judgements and the report (R102, R103, R104). -/
def closeRecord (r : ComplianceRecord) (s : State) : State :=
  reportRecord r (gradeCurrent r (voltageAlarm r (offerRecord r
    (countGhm (fun c => { c with closed := inc16 c.closed }) s))))

/-- The interval in progress is closed into a record, or discarded when it holds no 3-second value; a new one starts
(R100, R106 steps 3 and 4). -/
def closeInterval (timeSet : Bool) (s : State) : State :=
  startInterval
    (if s.ghm.interval.values = 0 then countGhm (fun c => { c with emptyInterval := inc16 c.emptyInterval }) s
     else closeRecord (complianceRecord timeSet s) s)

/-- The planned end of the interval (R100). -/
def ghmIntervalEnd (s : State) : State := closeInterval false (completeBlock s)

/-- Whether a record's interval end is later than a time (R106). -/
def recordAfter (t : Timestamp) (r : ComplianceRecord) : Bool :=
  match r.intervalEnd with
  | none => false
  | some e => t.before e

/-- Ring records later than the new time are removed (R106 step 1). -/
def pruneRing (t : Timestamp) (s : State) : State :=
  let kept := s.records.ring.filter fun r => !recordAfter t r
  countGhm (fun c => { c with pruned := add16 c.pruned (s.records.ring.length - kept.length) })
    { s with records := { s.records with ring := kept } }

/-- A time set; the calendar already reads the new time (R106). -/
def ghmTimeSet (t : Timestamp) (s : State) : State := closeInterval true (completeBlock (pruneRing t s))

/-! ## Configuration and enable (R107, R108) -/

/-- A FILLING window capture is cancelled (R108 step 1). -/
def cancelFilling (b : BufferId) (s : State) : State := if (bufferOf s b).isFilling then cancelBuffer b s else s

/-- The GHM is disabled (R108). -/
def disableGhm (s : State) : State :=
  let r := withdraw .ghm none (cancelFilling .ghmB (cancelFilling .ghmA s))
  let s1 := completeBlock (withGhm (fun g => { g with entries := [] }) (r.1.foldl ghmRemoval r.2))
  withGhmConfig (fun c => { c with enable := false })
    (withGhm (fun g => { g with disturbed := false, window := .off }) s1)

/-- The interval at re-enabling: one that was in progress when the GHM was disabled stays open to its planned end
(R108); one that only began while the GHM was OFF gives way to an interval that starts at re-enabling (R99). DESIGN
CHOICE: log entry 46 says how the two rules are squared. -/
def resumeInterval (s : State) : State := if s.ghm.interval.begunOff then startInterval s else s

/-- The GHM is enabled (R108). -/
def enableGhm (s : State) : State :=
  resumeInterval
    (withGhmConfig (fun c => { c with enable := true }) (withGhm (fun g => { g with window := .searching }) s))

/-- WRITE_CONFIG of the enable item (R108). -/
def ghmWriteEnable (v : Bool) (s : State) : State × Answer :=
  if v = s.cfg.ghm.enable then (s, { status := .ok })
  else if v then (enableGhm s, { status := .ok })
  else (disableGhm s, { status := .ok })

/-- The check of a GHM item (R107). -/
def ghmItemOk : GhmItem → Bool
  | .nominalFrequency v => v = 50 || v = 60
  | .vNom v => 1000 ≤ v && v ≤ 30000
  | .iRated v => 100 ≤ v && v ≤ 10000
  | .currentFloor v => v ≤ 10000
  | .vtRatio v | .ctRatio v => 1 ≤ v && v ≤ 65535
  | .currentLimits alert alarm hyst => 1 ≤ alert && alert ≤ 65534 && alert < alarm && alarm ≤ 65535 && hyst < alert
  | .gridCeiling v => v ≤ 100

/-- A configuration with a GHM item replaced (R107). -/
def GhmConfig.withItem (item : GhmItem) (c : GhmConfig) : GhmConfig :=
  match item with
  | .nominalFrequency v => { c with nominalFrequency := v }
  | .vNom v => { c with vNom := v }
  | .iRated v => { c with iRated := v }
  | .currentFloor v => { c with currentFloor := v }
  | .vtRatio v => { c with vtRatio := v }
  | .ctRatio v => { c with ctRatio := v }
  | .currentLimits alert alarm hyst => { c with iAlert := alert, iAlarm := alarm, iHyst := hyst }
  | .gridCeiling v => { c with gridCeiling := v }

/-- WRITE_CONFIG of a GHM item (R107); a grid ceiling takes effect at once (R105). -/
def ghmWriteItem (item : GhmItem) (s : State) : State × Answer :=
  if ghmItemOk item then
    let s1 := withGhmConfig (GhmConfig.withItem item) s
    (match item with
      | .gridCeiling _ => postGrid s1
      | _ => s1, { status := .ok })
  else (s, { status := .range })

/-- WRITE_CONFIG of a voltage limit (R107). -/
def ghmWriteLimit (order value : Nat) (s : State) : State × Answer :=
  if h : 2 ≤ order ∧ order ≤ 40 then
    if 1 ≤ value ∧ value ≤ 65535 then
      (withGhmConfig (fun c => { c with voltageLimit := c.voltageLimit.set (order - 2) value (by omega) }) s,
        { status := .ok })
    else (s, { status := .range })
  else (s, { status := .unknownItem })

/-! ## The start (R110, R111) -/

/-- The volatile start values of the GHM (R110). -/
def ghmVolatile (s : State) : GhmState :=
  { window := if s.cfg.ghm.enable then .searching else .off, interval := freshInterval s }

/-- The posts of the GHM at a start (R111). -/
def ghmStartPosts (s : State) : State :=
  recordContribution .grid (gridContribution s) (withGrades (fun g => { g with current := s.mon.currentGrade }) s)

end Sys2Proof.Machine
end

