-- ==== Sys2Proof/Machine/Gvm.lean ====
section
/-! DEFINITION. The Gearbox Vibration Monitor (chapter 5): measurements, bands, work, learning, grading, pending writes. -/

namespace Sys2Proof.Machine

/-! ## Access -/

/-- Updates the counters of the GVM (R85). -/
def countGvm (f : GvmCounters → GvmCounters) (s : State) : State :=
  { s with gvm := { s.gvm with counters := f s.gvm.counters } }

/-- Updates the volatile state of one measurement. -/
def withWork (m : Fin 8) (f : WorkRecord → WorkRecord) (s : State) : State :=
  { s with gvm := { s.gvm with work := s.gvm.work.set m (f s.gvm.work[m]) } }

/-- Updates the retained state of one band. -/
def withBand (b : Fin 24) (f : BandState → BandState) (s : State) : State :=
  { s with mon := { s.mon with bands := s.mon.bands.set b (f s.mon.bands[b]) } }

/-- Sets or clears the skip mark of a band (R76). -/
def withSkipMark (b : Fin 24) (x : Bool) (s : State) : State :=
  { s with gvm := { s.gvm with skipMark := s.gvm.skipMark.set b x } }

/-- The owning measurement of a band in a configuration (R66). -/
def owningMeasurement (cfg : ConfigSection) (b : Fin 24) : Option (Fin 8) :=
  (List.finRange 8).find? fun m => cfg.measurements[m].bands.contains b.val

/-- The accelerometer channel a measurement names. -/
def gearAccel : GearChannel → Accel
  | .g1 => .g1
  | .g2 => .g2
  | .g3 => .g3
  | .g4 => .g4

/-- The pulse input of a reference shaft (R72). -/
def shaftPulse : Shaft → Pulse
  | .rotor => .p0
  | .hss => .p1

/-! ## The checks of a write (R66, R67) -/

/-- The range check of a measurement record, without the lists of other measurements (R66). -/
def measurementOk (v : MeasurementRecord) : Bool :=
  (v.decimation = 1 || v.decimation = 2 || v.decimation = 4 || v.decimation = 8 || v.decimation = 16) &&
    recordLengthOk v.length && v.bands.length ≤ 6 && v.bands.all (· ≤ 23) && decide v.bands.Nodup &&
    10 ≤ v.tolerance && v.tolerance ≤ 100

/-- Whether a list names a band that the list of another measurement names in the configuration (R66). -/
def listConflict (cfg : ConfigSection) (m : Fin 8) (list : List Nat) : Bool :=
  (List.finRange 8).any fun k => k ≠ m && list.any fun b => cfg.measurements[k].bands.contains b

/-- The range check of a band configuration (R67). -/
def bandOk (v : BandConfig) : Bool :=
  v.centre ≤ 65535 && v.halfWidth ≤ 65535 && 1 ≤ v.alertRise && v.alertRise ≤ 9999 &&
    v.alertRise < v.alarmRise && v.alarmRise ≤ 9999 && v.hysteresis < v.alertRise &&
    1 ≤ v.confirmCount && v.confirmCount ≤ 4 && v.derateCeiling ≤ 100 &&
    (match v.component with
      | some c => c ≤ 15
      | none => true)

/-! ## Posts (R81, R82) -/

/-- The band component grade of a component index (R81). -/
def bandComponentGrade (s : State) (c : Fin 16) : Nat :=
  ((List.finRange 24).map fun b =>
    if s.mon.bands[b].mode = .armed ∧ s.cfg.bands[b].component = some c.val then s.mon.bands[b].grade else 0).foldl max 0

/-- The sixteen band component grades (R81). -/
def bandGrades (s : State) : Vector Nat 16 := Vector.ofFn fun c => bandComponentGrade s c

/-- The gearbox contribution (R82). -/
def gearboxContribution (s : State) : Nat :=
  ((List.finRange 24).map fun b =>
    if s.cfg.bands[b].derate ∧ s.mon.bands[b].grade = 2 then s.cfg.bands[b].derateCeiling else 100).foldl min 100

/-- The recompute of the component grades and of the gearbox contribution with their posts (R81, R82). -/
def postBands (s : State) : State :=
  let s1 := postGrades (fun g => { g with bands := bandGrades s }) s
  let v := gearboxContribution s1
  if s1.ccu.contributions.gearbox = some v then s1 else postContribution .gearbox v s1

/-! ## Band states (R68, R80) -/

/-- The alarm action of a change of a band's grade (R80). -/
def bandAlarms (b : Fin 24) (old new : Nat) (s : State) : State :=
  if old = new then s
  else
    let s1 := if old = 1 then clearAlarm .bandAlert (.band b.val) s
      else if old = 2 then clearAlarm .bandAlarm (.band b.val) s else s
    if new = 1 then raise .bandAlert (.band b.val) s1
    else if new = 2 then raise .bandAlarm (.band b.val) s1 else s1

/-- The retained state of a band right after its entry into LEARNING or DISABLED: the baseline keeps its value (R68). -/
def BandState.entered (mode : BandMode) (b : BandState) : BandState :=
  { mode := mode, baseline := b.baseline }

/-- Whether the owning measurement of a band has work that is not IDLE (R76). -/
def ownerBusy (b : Fin 24) (s : State) : Bool :=
  match owningMeasurement s.cfg b with
  | none => false
  | some m => s.gvm.work[m].work ≠ .idle

/-- An entry of a band into LEARNING or DISABLED (R68, R76). -/
def enterBand (mode : BandMode) (b : Fin 24) (s : State) : State :=
  let s1 := withBand b (BandState.entered mode) (bandAlarms b s.mon.bands[b].grade 0 s)
  if mode = .learning ∧ ownerBusy b s1 then withSkipMark b true s1 else s1

/-- Whether a write changed what places a band in the spectrum: its centre, its half-width, or the channel or
reference shaft of its owning measurement (R68). -/
def placeChanged (old new : ConfigSection) (b : Fin 24) (m : Fin 8) : Bool :=
  old.bands[b].centre ≠ new.bands[b].centre || old.bands[b].halfWidth ≠ new.bands[b].halfWidth ||
    old.measurements[m].channel ≠ new.measurements[m].channel || old.measurements[m].shaft ≠ new.measurements[m].shaft

/-- The state a band enters when a write takes effect, if it enters one (R68). -/
def bandEntry (old new : ConfigSection) (b : Fin 24) (mode : BandMode) : Option BandMode :=
  match owningMeasurement new b with
  | none => if mode = .disabled then none else some .disabled
  | some m =>
    if !new.bands[b].enabled then (if mode = .disabled then none else some .disabled)
    else if mode = .disabled || owningMeasurement old b ≠ some m || placeChanged old new b m then some .learning
    else none

/-- The decision of one band's state after a write (R68). -/
def settleBand (old : ConfigSection) (s : State) (b : Fin 24) : State :=
  match bandEntry old s.cfg b s.mon.bands[b].mode with
  | none => s
  | some mode => enterBand mode b s

/-- A measurement write or a band write takes effect (R68, R81, R82). -/
def takeEffect (f : ConfigSection → ConfigSection) (s : State) : State :=
  postBands ((List.finRange 24).foldl (settleBand s.cfg) { s with cfg := f s.cfg })

/-- A configuration with a measurement record replaced. -/
def ConfigSection.withMeasurement (m : Fin 8) (v : MeasurementRecord) (c : ConfigSection) : ConfigSection :=
  { c with measurements := c.measurements.set m v }

/-- A configuration with a band configuration replaced. -/
def ConfigSection.withBandConfig (b : Fin 24) (v : BandConfig) (c : ConfigSection) : ConfigSection :=
  { c with bands := c.bands.set b v }

/-! ## The end of work (R71, R84) -/

/-- A held write leaves the holder with an outcome (R84). -/
def emptyHolder (m : Fin 8) (outcome : PendingOutcome) (s : State) : State :=
  withWork m (fun w => { w with pending := none, outcome := outcome }) s

/-- The held write of a measurement takes effect or is dropped (R84). -/
def applyPending (m : Fin 8) (s : State) : State :=
  match s.gvm.work[m].pending with
  | none => s
  | some (.measurement v) =>
    if listConflict s.cfg m v.bands then
      countGvm (fun c => { c with pendingDropped := inc16 c.pendingDropped }) (emptyHolder m .dropped s)
    else
      countGvm (fun c => { c with pendingApplied := inc16 c.pendingApplied })
        (takeEffect (ConfigSection.withMeasurement m v) (emptyHolder m .applied s))
  | some (.band b v) =>
    countGvm (fun c => { c with pendingApplied := inc16 c.pendingApplied })
      (takeEffect (ConfigSection.withBandConfig b v) (emptyHolder m .applied s))

/-- The skip marks of the bands of a measurement are cleared (R71). -/
def clearSkipMarks (m : Fin 8) (s : State) : State :=
  let keep (b : Fin 24) : Bool := s.gvm.skipMark[b] && !s.cfg.measurements[m].bands.contains b.val
  { s with gvm := { s.gvm with skipMark := Vector.ofFn keep } }

/-- A measurement returns to IDLE without work, context or outstanding arrival number (R71). -/
def idleWork (m : Fin 8) (s : State) : State :=
  withWork m (fun w => { w with work := .idle, outstanding := none, context := none }) s

/-- An end of work (R71). -/
def endOfWork (m : Fin 8) (s : State) : State := applyPending m (clearSkipMarks m (idleWork m s))

/-! ## Reports (R75) -/

/-- A removal report (R75). -/
def gvmRemoval (s : State) (r : AnalysisRequest) : State :=
  let m : Fin 8 := Fin.ofNat 8 r.tag
  let s1 := releaseBuffer r.buffer s
  if s1.gvm.work[m].work = .queued then endOfWork m (countGvm (fun c => { c with removed := inc16 c.removed }) s1)
  else s1

/-- The measurement whose start context names a buffer being filled. -/
def capturingOn (b : BufferId) (s : State) : Option (Fin 8) :=
  (List.finRange 8).find? fun m =>
    s.gvm.work[m].work = .capturing && (match s.gvm.work[m].context with
      | some c => c.buffer = b
      | none => false)

/-- An abort report (R75). -/
def gvmAbort (b : BufferId) (converter : Bool) (s : State) : State :=
  match capturingOn b s with
  | none => s
  | some m =>
    endOfWork m (countGvm (fun c =>
      if converter then { c with abortConverter := inc16 c.abortConverter }
      else { c with abortChannelFault := inc16 c.abortChannelFault }) s)

/-- A capture FILLING for a measurement is cancelled (R69 step 2). -/
def cancelCapture (m : Fin 8) (s : State) : State :=
  match s.gvm.work[m].work, s.gvm.work[m].context with
  | .capturing, some c => cancelBuffer c.buffer s
  | _, _ => s

/-- A cancellation of one measurement's work (R69); an IDLE measurement is left alone. -/
def gvmCancel (s : State) (m : Fin 8) : State :=
  if s.gvm.work[m].work = .idle then s
  else
    let r := withdraw .gvm (some m.val) s
    let s1 := cancelCapture m (r.1.foldl gvmRemoval r.2)
    if s1.gvm.work[m].work = .idle then s1 else endOfWork m s1

/-! ## Taking a measurement (R70, R72) -/

/-- The next enabled measurement after the round-robin position in cyclic order (R70). -/
def nextMeasurement (s : State) : Option (Fin 8) :=
  let start := match s.gvm.position with
    | none => 0
    | some p => p.val + 1
  ((List.range 8).map fun i => Fin.ofNat 8 (start + i)).find? fun m => s.cfg.measurements[m].enabled

/-- The latest speed of a reference shaft with its sequence number, where it is VALID and not 0 (R72, R73). -/
def shaftSpeed (shaft : Shaft) (s : State) : Option (Nat × Nat) :=
  match (s.ptu.chan.get (shaftPulse shaft)).latest with
  | none => none
  | some r => if r.status = .valid ∧ 1 ≤ r.derived then some (r.derived, r.seq) else none

/-- The FIXED capture a measurement asks for (R72). -/
def measurementCapture (v : MeasurementRecord) : CaptureKind :=
  .fixed (gearAccel v.channel) v.decimation v.length

/-- The count of a capture refused (R72). -/
def countCaptureRefusal (r : CaptureRefusal) (c : GvmCounters) : GvmCounters :=
  match r with
  | .converter => { c with skipConverter := inc16 c.skipConverter }
  | .channelFault => { c with skipChannelFault := inc16 c.skipChannelFault }
  | .noBuffer => { c with skipNoBuffer := inc16 c.skipNoBuffer }
  | .parameter => { c with skipParameter := inc16 c.skipParameter }

/-- The start context recorded when a capture is accepted (R72). -/
def startContext (b : BufferId) (speed : Nat × Nat) (s : State) : StartContext :=
  { buffer := b
    time := s.cal
    regimeChanges := s.ccu.op.changes
    speed := speed.1
    seq := speed.2
    disturbances := s.ghm.disturbances
    disturbed := s.ghm.disturbed
    mismatchEvents := s.ptu.mismatchEvents }

/-- A start attempt for a measurement (R72). -/
def startAttempt (m : Fin 8) (s : State) : State :=
  let v := s.cfg.measurements[m]
  if s.ccu.op.regime ≠ .producing then countGvm (fun c => { c with skipRegime := inc16 c.skipRegime }) s
  else
    match shaftSpeed v.shaft s with
    | none => countGvm (fun c => { c with skipNoSpeed := inc16 c.skipNoSpeed }) s
    | some speed =>
      if s.ptu.mismatchFlag then countGvm (fun c => { c with skipMismatch := inc16 c.skipMismatch }) s
      else
        match judgeCapture .gvm (measurementCapture v) s with
        | .error r => countGvm (countCaptureRefusal r) s
        | .ok b =>
          withWork m (fun w => { w with work := .capturing, context := some (startContext b speed s) })
            (beginCapture b (measurementCapture v) s)

/-- The slot of a period expiry (R70). -/
def takeSlot (s : State) : State :=
  match nextMeasurement s with
  | none => s
  | some m =>
    let s1 := { s with gvm := { s.gvm with position := some m } }
    if s1.gvm.work[m].work ≠ .idle then countGvm (fun c => { c with skipOverrun := inc16 c.skipOverrun }) s1
    else startAttempt m s1

/-- The period timer restarts, with the configured period in force from now on (R70). -/
def restartPeriod (s : State) : State :=
  { s with gvm := { s.gvm with period := s.cfg.gvmPeriod, periodTimer := some s.cfg.gvmPeriod } }

/-- An expiry of the period timer, which is stopped while the GVM is disabled (R69, R70), where its count has run out (log
entry 12). -/
def gvmPeriodExpiry (s : State) : State :=
  match s.gvm.periodTimer with
  | none | some (_ + 1) => s
  | some 0 => takeSlot (restartPeriod s)

/-! ## Judging a completed capture (R73, R74) -/

/-- The rejection reasons of R73. -/
inductive Rejection where
  | regime | unsteady | disturbance | mismatch
  deriving DecidableEq, Repr

/-- Whether the speed stayed within the tolerance (R73 check 2). -/
def steady (tolerance start finish : Nat) : Bool :=
  ((finish : Int) - (start : Int)).natAbs * 1000 ≤ start * tolerance

/-- The judgement of a record: the speed at its end, or the first check that fails (R73). -/
def judgeRecord (m : Fin 8) (ctx : StartContext) (s : State) : Except Rejection Nat :=
  let v := s.cfg.measurements[m]
  if s.ccu.op.regime ≠ .producing || s.ccu.op.changes ≠ ctx.regimeChanges then .error .regime
  else
    match shaftSpeed v.shaft s with
    | none => .error .unsteady
    | some (finish, _) =>
      if !steady v.tolerance ctx.speed finish then .error .unsteady
      else if ctx.disturbed || s.ghm.disturbed || s.ghm.disturbances ≠ ctx.disturbances then .error .disturbance
      else if s.ptu.mismatchFlag || s.ptu.mismatchEvents ≠ ctx.mismatchEvents then .error .mismatch
      else .ok finish

/-- The count of a record rejected (R73). -/
def countRejection (r : Rejection) (c : GvmCounters) : GvmCounters :=
  match r with
  | .regime => { c with rejectRegime := inc16 c.rejectRegime }
  | .unsteady => { c with rejectUnsteady := inc16 c.rejectUnsteady }
  | .disturbance => { c with rejectDisturbance := inc16 c.rejectDisturbance }
  | .mismatch => { c with rejectMismatch := inc16 c.rejectMismatch }

/-- The band list of a request: the listed bands in LEARNING or ARMED (R74). -/
def requestBands (m : Fin 8) (s : State) : List BandPlace :=
  s.cfg.measurements[m].bands.filterMap fun i =>
    let b : Fin 24 := Fin.ofNat 24 i
    if s.mon.bands[b].mode = .disabled then none
    else some { band := b.val, centre := s.cfg.bands[b].centre, halfWidth := s.cfg.bands[b].halfWidth }

/-- The work state right after the request for a buffer is accepted (R71, R74). -/
def workAfterSubmit (b : BufferId) (s : State) : WorkState :=
  if s.spe.inProgress.any fun r => r.buffer = b then .analysing else .queued

/-- The submission of an accepted record (R74). -/
def submitRecord (m : Fin 8) (b : BufferId) (mode : AnalysisMode) (s : State) : State :=
  match submit .gvm m.val b mode s with
  | (.ok arrival, s1) =>
    withWork m (fun w => { w with work := workAfterSubmit b s1, outstanding := some arrival }) s1
  | (.error _, s1) =>
    endOfWork m (reportDay DayRecord.addSkip
      (countGvm (fun c => { c with analysisSkip := inc16 c.analysisSkip }) (releaseBuffer b s1)))

/-- The judgement of a completed capture of a measurement (R73, R74). -/
def judgeCompletion (m : Fin 8) (ctx : StartContext) (n d : Nat) (s : State) : State :=
  match judgeRecord m ctx s with
  | .error r => endOfWork m (countGvm (countRejection r) (releaseBuffer ctx.buffer s))
  | .ok finish =>
    match requestBands m s with
    | [] => endOfWork m (countGvm (fun c => { c with noBands := inc16 c.noBands }) (releaseBuffer ctx.buffer s))
    | list => submitRecord m ctx.buffer (.bands n d ((ctx.speed + finish) / 2) list) s

/-- A completion report for a GVM buffer (R73). -/
def gvmCompletion (b : BufferId) (n d : Nat) (s : State) : State :=
  match capturingOn b s with
  | none => releaseBuffer b s
  | some m =>
    match s.gvm.work[m].context with
    | none => s
    | some ctx => judgeCompletion m ctx n d s

/-! ## Results (R77, R78, R79) -/

/-- A band in LEARNING takes a level; at the sixteenth it is armed (R78). -/
def BandState.learn (level : Nat) (b : BandState) : BandState :=
  if b.learnCount + 1 = 16 then { mode := .armed, baseline := (b.learnSum + level) / 16 }
  else { b with learnCount := b.learnCount + 1, learnSum := b.learnSum + level }

/-- An entry for a band in LEARNING (R78). -/
def learnBand (b : Fin 24) (clipped : Bool) (e : BandResult) (s : State) : State :=
  if s.gvm.skipMark[b] then s
  else if e.resolved && !e.saturated && !clipped then withBand b (BandState.learn e.level) s
  else countGvm (fun c => { c with learnIgnored := inc16 c.learnIgnored }) s

/-- The confirm counter after a RESOLVED entry (R79). -/
def confirmAfter (cfg : BandConfig) (clipped : Bool) (rise : Int) (confirm : Nat) : Nat :=
  if (cfg.alarmRise : Int) ≤ rise then min (confirm + 1) 4 else if clipped then confirm else 0

/-- The new grade from the grade held, before a clipped result keeps it (R79). -/
def gradeFrom (cfg : BandConfig) (rise : Int) (confirm grade : Nat) : Nat :=
  let fall := rise < (cfg.alertRise : Int) - cfg.hysteresis
  if grade = 0 then
    if cfg.confirmCount ≤ confirm then 2 else if (cfg.alertRise : Int) ≤ rise then 1 else 0
  else if grade = 1 then if cfg.confirmCount ≤ confirm then 2 else if fall then 0 else 1
  else if (cfg.alarmRise : Int) - cfg.hysteresis ≤ rise then 2
  else if fall then 0
  else 1

/-- The grade a result gives (R79): a clipped result never lowers it. -/
def gradeAfter (cfg : BandConfig) (clipped : Bool) (rise : Int) (confirm grade : Nat) : Nat :=
  let new := gradeFrom cfg rise confirm grade
  if clipped ∧ new < grade then grade else new

/-- A RESOLVED or UNRESOLVED entry for an ARMED band (R79, R80). -/
def gradeBand (b : Fin 24) (clipped : Bool) (e : BandResult) (s : State) : State :=
  if e.resolved then
    let cfg := s.cfg.bands[b]
    let st := s.mon.bands[b]
    let rise : Int := (e.level : Int) - st.baseline
    let confirm := confirmAfter cfg clipped rise st.confirm
    let grade := gradeAfter cfg clipped rise confirm st.grade
    bandAlarms b st.grade grade (withBand b (fun x => { x with confirm := confirm, grade := grade }) s)
  else s

/-- The last level and the last-level flags of a band from an entry (R77). -/
def noteLevel (b : Fin 24) (clipped : Bool) (e : BandResult) (s : State) : State :=
  let level := if e.resolved then some e.level else none
  let last : LastLevel := { level := level, clipped := clipped, saturated := e.saturated, unresolved := !e.resolved }
  { s with gvm := { s.gvm with lastLevel := s.gvm.lastLevel.set b last } }

/-- The evaluation of one entry (R77). -/
def evaluateEntry (clipped : Bool) (s : State) (e : BandResult) : State :=
  let b : Fin 24 := Fin.ofNat 24 e.band
  let s1 := noteLevel b clipped e s
  match s1.mon.bands[b].mode with
  | .disabled => s1
  | .learning => learnBand b clipped e s1
  | .armed => gradeBand b clipped e s1

/-- A BANDS result (R75, R77). -/
def gvmResult (r : AnalysisRequest) (entries : List BandResult) (s : State) : State :=
  let m : Fin 8 := Fin.ofNat 8 r.tag
  if s.gvm.work[m].outstanding = some r.arrival then
    endOfWork m (postBands (countGvm (fun c => { c with results := inc16 c.results })
      (entries.foldl (evaluateEntry r.clipped) s)))
  else countGvm (fun c => { c with discarded := inc16 c.discarded }) s

/-! ## Requests of the GVM -/

/-- The bands of a measurement that are LEARNING or ARMED (R76). -/
def activeBands (m : Fin 8) (s : State) : List (Fin 24) :=
  (s.cfg.measurements[m].bands.map fun i => Fin.ofNat 24 i).filter fun b => s.mon.bands[b].mode ≠ .disabled

/-- LEARN_BASELINE (R76). -/
def gvmLearn (target : LearnTarget) (s : State) : State × Answer :=
  match target with
  | .band i =>
    if h : i < 24 then
      if s.mon.bands[i].mode = .disabled then (s, { status := .state })
      else (postBands (enterBand .learning ⟨i, h⟩ s), { status := .ok })
    else (s, { status := .unknownItem })
  | .measurement i =>
    if h : i < 8 then
      match activeBands ⟨i, h⟩ s with
      | [] => (s, { status := .state })
      | l => (postBands (l.foldl (fun s b => enterBand .learning b s) s), { status := .ok })
    else (s, { status := .unknownItem })

/-- A write taken while the measurement is busy goes into the holder (R83). -/
def holdWrite (m : Fin 8) (w : PendingWrite) (s : State) : State × Answer :=
  match s.gvm.work[m].pending with
  | none => (withWork m (fun x => { x with pending := some w }) s, { status := .okDeferred })
  | some _ =>
    (countGvm (fun c => { c with pendingReplaced := inc16 c.pendingReplaced })
      (withWork m (fun x => { x with pending := some w, outcome := .replaced }) s),
      { status := .okDeferred, replaced := true })

/-- WRITE_CONFIG of a measurement record (R66, R69, R83). -/
def gvmWriteMeasurement (index : Nat) (v : MeasurementRecord) (s : State) : State × Answer :=
  if h : index < 8 then
    let m : Fin 8 := ⟨index, h⟩
    if !measurementOk v || listConflict s.cfg m v.bands then (s, { status := .range })
    else if s.gvm.work[m].work = .idle then (takeEffect (ConfigSection.withMeasurement m v) s, { status := .ok })
    else if s.cfg.measurements[m].enabled && !v.enabled then
      (takeEffect (ConfigSection.withMeasurement m v) (gvmCancel s m), { status := .ok })
    else holdWrite m (.measurement v) s
  else (s, { status := .unknownItem })

/-- WRITE_CONFIG of a band configuration (R67, R83). -/
def gvmWriteBand (index : Nat) (v : BandConfig) (s : State) : State × Answer :=
  if h : index < 24 then
    let b : Fin 24 := ⟨index, h⟩
    if !bandOk v then (s, { status := .range })
    else
      match owningMeasurement s.cfg b with
      | none => (takeEffect (ConfigSection.withBandConfig b v) s, { status := .ok })
      | some m =>
        if s.gvm.work[m].work = .idle then (takeEffect (ConfigSection.withBandConfig b v) s, { status := .ok })
        else holdWrite m (.band b v) s
  else (s, { status := .unknownItem })

/-- The GVM is disabled: every measurement's work is cancelled and the period timer stopped (R69). -/
def disableGvm (s : State) : State :=
  let s1 := (List.finRange 8).foldl gvmCancel s
  { s1 with cfg := { s1.cfg with gvmEnable := false }, gvm := { s1.gvm with periodTimer := none } }

/-- The GVM is enabled: the period timer restarts with a full period (R69). -/
def enableGvm (s : State) : State :=
  restartPeriod { s with cfg := { s.cfg with gvmEnable := true } }

/-- WRITE_CONFIG of the enable item (R69). -/
def gvmWriteEnable (v : Bool) (s : State) : State × Answer :=
  if v = s.cfg.gvmEnable then (s, { status := .ok })
  else if v then (enableGvm s, { status := .ok })
  else (disableGvm s, { status := .ok })

/-- WRITE_CONFIG of the measurement period (R70). -/
def gvmWritePeriod (v : Nat) (s : State) : State × Answer :=
  if 60 ≤ v ∧ v ≤ 3600 then ({ s with cfg := { s.cfg with gvmPeriod := v } }, { status := .ok })
  else (s, { status := .range })

/-! ## The start (R86, R87, R88) -/

/-- The adjustment of one band's retained state to its configuration (R87). -/
def adjustBand (cfg : ConfigSection) (b : Fin 24) (st : BandState) : BandState :=
  if cfg.bands[b].enabled && (owningMeasurement cfg b).isSome then
    if st.mode = .disabled then BandState.entered .learning st else st
  else BandState.entered .disabled st

/-- The volatile start values of the GVM (R86); while it is disabled the period timer is stopped (R69). -/
def gvmVolatile (cfg : ConfigSection) : GvmState :=
  { period := cfg.gvmPeriod, periodTimer := if cfg.gvmEnable then some cfg.gvmPeriod else none }

/-- The adjustment of the bands at a start (R87). -/
def gvmAdjust (s : State) : State :=
  { s with mon := { s.mon with bands := Vector.ofFn fun b => adjustBand s.cfg b s.mon.bands[b] } }

/-- The posts of the GVM at a start (R88). -/
def gvmStartPosts (s : State) : State :=
  recordContribution .gearbox (gearboxContribution s) (withGrades (fun g => { g with bands := bandGrades s }) s)

end Sys2Proof.Machine
end

