-- ==== Sys2Proof/Machine/Ptu.lean ====
section
/-! DEFINITION. The Pulse Timing Unit (chapter 2): edges, results, stalls, tacho consistency, configuration. -/

namespace Sys2Proof.Machine

/-- Replaces the state of one pulse input. -/
def setPulse (p : Pulse) (x : PulseState) (s : State) : State :=
  { s with ptu := { s.ptu with chan := s.ptu.chan.set p x } }

/-- The window cycle count, which is the pulse count of P2 (R27). -/
def windowCycles (cfg : ConfigSection) : Nat := if cfg.ghm.nominalFrequency = 60 then 12 else 10

/-- The configured pulse count N of a channel (R26, R27). -/
def configuredCount (cfg : ConfigSection) (p : Pulse) : Nat :=
  match p with
  | .p0 | .p1 => (cfg.ptu.chan.get p).n
  | .p2 => windowCycles cfg

/-- Whether an edge at a tick is accepted (R20). -/
def edgeAccepted (spacing : Nat) (previous : Option Nat) (tick : Nat) : Bool :=
  match previous with
  | none => true
  | some t => t < tick && spacing ≤ tick - t

/-- The frequency of a result in mHz (R23). -/
def resultFrequency (n t : Nat) : Nat := sat32 (n * 10000000000 / t)

/-- The derived value of a result (R23). -/
def derivedValue (p : Pulse) (teeth f : Nat) : Nat :=
  match p with
  | .p0 => sat32 (f * 60)
  | .p1 => sat32 (f * 60 / teeth)
  | .p2 => f

/-- A VALID result record (R22). -/
def validResult (p : Pulse) (teeth seq n t : Nat) : PulseResult :=
  { seq := seq, n := n, t := t, status := .valid, freq := resultFrequency n t,
    derived := derivedValue p teeth (resultFrequency n t) }

/-- A STALLED result record (R24). -/
def stalledResult (seq n t : Nat) : PulseResult :=
  { seq := seq, n := n, t := t, status := .stalled, freq := 0, derived := 0 }

/-- A result becomes the latest result of its channel (R22). -/
def PulseState.issue (r : PulseResult) (x : PulseState) : PulseState := { x with latest := some r, seqCount := r.seq }

/-! ## Tacho consistency (R28, R29) -/

/-- The expected HSS speed (R28). -/
def expectedSpeed (cfg : PtuConfig) (rotor : Nat) : Nat := rotor * cfg.gearRatio / 1000

/-- Whether an HSS speed is out of tolerance (R28). -/
def outOfTolerance (cfg : PtuConfig) (rotor hss : Nat) : Bool :=
  expectedSpeed cfg rotor * cfg.tolerance < ((hss : Int) - (expectedSpeed cfg rotor : Nat)).natAbs * 1000

/-- The comparison a P1 result makes: whether it is out of tolerance, none when P0 has no VALID result (R28). -/
def comparison (cfg : PtuConfig) (p0 : Option PulseResult) (hss : Nat) : Option Bool :=
  match p0 with
  | none => none
  | some r => if r.status = .valid then some (outOfTolerance cfg r.derived hss) else none

/-- The mismatch counter, flag and event counter after a comparison (R29). -/
def PtuState.compared (out : Bool) (u : PtuState) : PtuState :=
  if out then
    let c := min (u.mismatchCounter + 1) 255
    if c = 3 then
      { u with mismatchCounter := c, mismatchFlag := true, mismatchEvents := next16 u.mismatchEvents }
    else { u with mismatchCounter := c }
  else { u with mismatchCounter := 0, mismatchFlag := false }

/-- The alarm action of a comparison (R29). -/
def mismatchAlarm (before after : PtuState) (s : State) : State :=
  match before.mismatchFlag, after.mismatchFlag with
  | false, true => raise .tachoMismatch .ptu s
  | true, false => clearAlarm .tachoMismatch .ptu s
  | _, _ => s

/-- The consistency comparison of a VALID P1 result, made with the issue of the result (R28, R29, R30). -/
def compareSpeeds (r : PulseResult) (s : State) : State :=
  match comparison s.cfg.ptu s.ptu.chan.p0.latest r.derived with
  | none => s
  | some out =>
    let u := s.ptu.compared out
    mismatchAlarm s.ptu u { s with ptu := u }

/-! ## Results (R22, R25, R30) -/

/-- TACHO_STALL is cleared at a VALID result of a channel whose mark is set (R25). -/
def clearStall (p : Pulse) (s : State) : State :=
  if (s.ptu.chan.get p).stallMark then
    clearAlarm .tachoStall (.pulse p) (setPulse p { s.ptu.chan.get p with stallMark := false } s)
  else s

/-- What follows a VALID result (R25, R28, R30). DESIGN CHOICE (log entry 50): at P1 the comparison with its TACHO_MISMATCH
action comes before the clear of TACHO_STALL, at P2 the clear comes before the GHM handles the result. -/
def afterValid (p : Pulse) (r : PulseResult) (segments : List (List GridInstant)) (s : State) : State :=
  match p with
  | .p0 => clearStall p s
  | .p1 => clearStall p (compareSpeeds r s)
  | .p2 => ghmValid r segments (clearStall p s)

/-- The elapsed ticks at a stall (R24): the limit, or the end of the 32-bit count. -/
def stallTicks (limit : Nat) : Nat := min (limit * 10000000) max32

/-- The whole seconds of operation until elapsed ticks that are 0 reach the ticks of a stall (R24, log entry 12). -/
def stallSeconds (limit : Nat) : Nat := stallTicks limit / 10000000

/-- A measurement begun at a start pulse: elapsed is 0, and N and the stall limit are those in force (R21, R24). -/
def startMeasurement (cfg : ConfigSection) (p : Pulse) (tick : Nat) (x : PulseState) : PulseState :=
  let limit := (cfg.ptu.chan.get p).stallLimit
  { x with meas := .measuring (configuredCount cfg p) 0 tick limit, stallIn := stallSeconds limit }

/-- WAITING entered at a stall: elapsed is 0 and the stall limit is that in force (R24). -/
def startWaiting (cfg : ConfigSection) (p : Pulse) (tick : Nat) (x : PulseState) : PulseState :=
  let limit := (cfg.ptu.chan.get p).stallLimit
  { x with meas := .waiting tick limit, stallIn := stallSeconds limit }

/-- An accepted pulse (R21, R22). -/
def acceptPulse (p : Pulse) (tick : Nat) (segments : List (List GridInstant)) (s : State) : State :=
  let x := { s.ptu.chan.get p with prevAccepted := some tick }
  match x.meas with
  | .waiting _ _ => setPulse p (startMeasurement s.cfg p tick x) s
  | .measuring n k since limit =>
    if k + 1 < n then setPulse p { x with meas := .measuring n (k + 1) since limit } s
    else
      let r := validResult p s.cfg.ptu.teeth (next16 x.seqCount) n (min (tick - since) max32)
      afterValid p r segments (setPulse p ((startMeasurement s.cfg p tick x).issue r) s)

/-- An edge on a pulse input (R20). -/
def ptuEdge (p : Pulse) (tick : Nat) (segments : List (List GridInstant)) (s : State) : State :=
  let x := s.ptu.chan.get p
  if edgeAccepted (s.cfg.ptu.chan.get p).spacing x.prevAccepted tick then acceptPulse p tick segments s
  else setPulse p { x with rejected := inc16 x.rejected } s

/-! ## Stalls (R24, R25) -/

/-- The N of a STALLED result and the tick and limit of the span that ended (R24). -/
def stalledSpan (cfg : ConfigSection) (p : Pulse) : Measurement → Nat × Nat × Nat
  | .waiting since limit => (configuredCount cfg p, since, limit)
  | .measuring n _ since limit => (n, since, limit)

/-- TACHO_STALL is raised once while producing (R25). -/
def raiseStall (p : Pulse) (s : State) : State :=
  if s.ccu.op.regime = .producing ∧ (s.ptu.chan.get p).stallMark = false then
    raise .tachoStall (.pulse p) (setPulse p { s.ptu.chan.get p with stallMark := true } s)
  else s

/-- What a stall of a channel does (R24, R25, R30). DESIGN CHOICE (log entry 51): TACHO_STALL is raised, with its snapshot where
the threshold asks for one, before the GHM handles the STALLED result of P2. -/
def stallChannel (p : Pulse) (s : State) : State :=
  let x := s.ptu.chan.get p
  let span := stalledSpan s.cfg p x.meas
  let t := stallTicks span.2.2
  let r := stalledResult (next16 x.seqCount) span.1 t
  let s1 := raiseStall p
    (setPulse p ((startWaiting s.cfg p (span.2.1 + t) x).issue r) s)
  match p with
  | .p0 | .p1 => s1
  | .p2 => ghmStalled s1

/-- A stall of a channel (R24) happens where its elapsed ticks have reached the limit, which is where their count has run out
(log entry 12): a stall that comes behind the end pulse of its tick does not happen. -/
def ptuStall (p : Pulse) (s : State) : State := if (s.ptu.chan.get p).stallIn = 0 then stallChannel p s else s

/-! ## Configuration (R26, R27, R198) -/

/-- Replaces the PTU items of CONFIG. -/
def withPtuConfig (f : PtuConfig → PtuConfig) (s : State) : State :=
  { s with cfg := { s.cfg with ptu := f s.cfg.ptu } }

/-- Updates the items of one pulse input. -/
def PtuConfig.withChan (p : Pulse) (f : PulseConfig → PulseConfig) (c : PtuConfig) : PtuConfig :=
  { c with chan := c.chan.set p (f (c.chan.get p)) }

/-- A PTU item in range is stored, any other refused (R26). -/
def ptuStore (lo hi v : Nat) (f : PtuConfig → PtuConfig) (s : State) : State × Answer :=
  if lo ≤ v ∧ v ≤ hi then (withPtuConfig f s, { status := .ok }) else (s, { status := .range })

/-- WRITE_CONFIG of a PTU item, numbered as R198 numbers the table of R26. -/
def ptuWrite (index v : Nat) (s : State) : State × Answer :=
  match index with
  | 0 => ptuStore 1 1023 v (PtuConfig.withChan .p0 fun c => { c with n := v }) s
  | 1 => ptuStore 1 1023 v (PtuConfig.withChan .p1 fun c => { c with n := v }) s
  | 2 => ptuStore 0 65535 v (PtuConfig.withChan .p0 fun c => { c with spacing := v }) s
  | 3 => ptuStore 0 65535 v (PtuConfig.withChan .p1 fun c => { c with spacing := v }) s
  | 4 => ptuStore 0 65535 v (PtuConfig.withChan .p2 fun c => { c with spacing := v }) s
  | 5 => ptuStore 1 429 v (PtuConfig.withChan .p0 fun c => { c with stallLimit := v }) s
  | 6 => ptuStore 1 429 v (PtuConfig.withChan .p1 fun c => { c with stallLimit := v }) s
  | 7 => ptuStore 1 429 v (PtuConfig.withChan .p2 fun c => { c with stallLimit := v }) s
  | 8 => ptuStore 1 255 v (fun c => { c with teeth := v }) s
  | 9 => ptuStore 1000 500000 v (fun c => { c with gearRatio := v }) s
  | 10 => ptuStore 5 100 v (fun c => { c with tolerance := v }) s
  | _ => (s, { status := .unknownItem })

/-- The PTU at the start of operation (R32). -/
def ptuStart (cfg : ConfigSection) : PtuState :=
  { chan :=
      ⟨PulseState.start cfg.ptu.chan.p0.stallLimit, PulseState.start cfg.ptu.chan.p1.stallLimit,
        PulseState.start cfg.ptu.chan.p2.stallLimit⟩ }

end Sys2Proof.Machine
end

