-- ==== Sys2Proof/Machine/Status.lean ====
section
/-! DEFINITION. The encodings of what the ports read (R196, R199): codes, items of configuration, records and the status
of every block. -/

namespace Sys2Proof.Machine

/-! ## Codes (R199): a value's place in the list where its field is defined -/

/-- The code of an accelerometer channel among the sources (R199). -/
def accelIndex : Accel → Nat
  | .g1 => 0
  | .g2 => 1
  | .g3 => 2
  | .g4 => 3
  | .n1 => 4

def pulseIndex : Pulse → Nat
  | .p0 => 0
  | .p1 => 1
  | .p2 => 2

def tempIndex : Temp → Nat
  | .s0 => 0
  | .s1 => 1
  | .s2 => 2
  | .s3 => 3

/-- The code of a buffer. DESIGN CHOICE (log entry 70): its place among the five buffers of section 1.5, GHM-A 3 and GHM-B 4 in
a window entry (R89) too. -/
def bufferCode : BufferId → Nat
  | .gvmA => 0
  | .gvmB => 1
  | .bimA => 2
  | .ghmA => 3
  | .ghmB => 4

def monitorCode : Monitor → Nat
  | .gvm => 0
  | .ghm => 1
  | .bim => 2

def regimeCode : Regime → Nat
  | .parked => 0
  | .idling => 1
  | .producing => 2
  | .stopping => 3
  | .unknown => 4

def heaterCode : Heater → Nat
  | .off => 0
  | .on => 1

def faultCode : ChannelFault → Nat
  | .none => 0
  | .openCircuit => 1
  | .shortCircuit => 2

def icingCode : IcingState → Nat
  | .clear => 0
  | .suspect => 1
  | .iced => 2
  | .shedding => 3

def statusCode : Status → Nat
  | .ok => 0
  | .okDeferred => 1
  | .refusedPort => 2
  | .range => 3
  | .state => 4
  | .notDue => 5
  | .limit => 6
  | .condition => 7
  | .onSite => 8
  | .noDate => 9
  | .full => 10
  | .stale => 11
  | .unknownItem => 12
  | .unknownKind => 13

/-- The alarm codes in the order of R142, numbered from 1 (R199). -/
def alarmCodes : List AlarmCode :=
  [.sensorFault, .converterFault, .tachoStall, .tachoMismatch, .tempOpen, .tempShort, .tempRefFault, .bandAlert,
    .bandAlarm, .gridVoltageExceed, .gridCurrentAlert, .gridCurrentAlarm, .iceSuspect, .iceDetected,
    .controllerSilent, .ceilingUnheeded, .taskDue, .taskOverdue, .taskTableFull, .retainedLost]

/-- The number of an alarm code (R199). -/
def alarmNumber (c : AlarmCode) : Nat := alarmCodes.idxOf c + 1

/-- The class and the index of a source (R199). -/
def sourceCode : Source → Nat × Nat
  | .accel c => (1, accelIndex c)
  | .afe => (2, 0)
  | .pulse p => (3, pulseIndex p)
  | .ptu => (4, 0)
  | .temp t => (5, tempIndex t)
  | .rch => (6, 0)
  | .band i => (7, i)
  | .ghm => (8, 0)
  | .bim => (9, 0)
  | .ccu => (10, 0)
  | .task id => (11, id)
  | .mpl => (12, 0)
  | .ret => (13, 0)

/-- A one-octet number. -/
def enc1 (n : Nat) : List Octet := encNat 1 n

/-- A two-octet number. -/
def enc2 (n : Nat) : List Octet := encNat 2 n

/-- A four-octet number. -/
def enc4 (n : Nat) : List Octet := encNat 4 n

/-- A source (R199). -/
def encSource (s : Source) : List Octet := enc1 (sourceCode s).1 ++ enc1 (sourceCode s).2

/-- A notice set or mask (R199). -/
def encNotices (n : NoticeSet) : List Octet := enc2 n.toNat

/-- The values of a vector in their order. -/
def encVec {α : Type} {n : Nat} (f : α → List Octet) (v : Vector α n) : List Octet := v.toList.flatMap f

/-- The values of three phases. -/
def encPhases {α : Type} (f : α → List Octet) (v : PerPhase α) : List Octet := v.toList.flatMap f

/-- Counters of 16 bits. -/
def encCounts (l : List Nat) : List Octet := l.flatMap enc2

/-- A planned end: a timestamp or the seconds left, of which the other is absent (log entry 30). -/
def encPlanned : PlannedEnd → List Octet
  | .boundary t => encTimeOpt (some t) ++ encNatOpt 4 none
  | .seconds n => encTimeOpt none ++ encNatOpt 4 (some n)

/-- Minutes of a remaining time, rounded up (R132, R174). -/
def minutesLeft (seconds : Nat) : Nat := ceilDiv seconds 60

/-! ## Items of configuration (R198) -/

def gearCode : GearChannel → Nat
  | .g1 => 0
  | .g2 => 1
  | .g3 => 2
  | .g4 => 3

def shaftCode : Shaft → Nat
  | .rotor => 0
  | .hss => 1

/-- A measurement record in the order of R66. -/
def encMeasurement (v : MeasurementRecord) : List Octet :=
  encFlag v.enabled ++ enc1 (gearCode v.channel) ++ enc1 v.decimation ++ enc4 v.length ++ enc1 (shaftCode v.shaft) ++
    encList enc1 v.bands ++ enc1 v.tolerance

/-- A band configuration in the order of R67. -/
def encBandConfig (v : BandConfig) : List Octet :=
  encFlag v.enabled ++ enc2 v.centre ++ enc2 v.halfWidth ++ enc2 v.alertRise ++ enc2 v.alarmRise ++ enc2 v.hysteresis ++
    enc1 v.confirmCount ++ encFlag v.derate ++ enc1 v.derateCeiling ++ encNatOpt 1 v.component

/-- A threshold set in the order of R119. -/
def encThresholds (t : ThresholdSet) : List Octet :=
  enc2 t.suspectOn ++ enc2 t.suspectOff ++ enc2 t.icedOn ++ enc2 t.icedOff ++ encInt 2 t.tIce ++ enc1 t.tHyst.toNat ++
    enc1 t.persistence ++ enc2 t.shedHold ++ enc2 t.parkedAccretion ++ enc1 t.suspectCeiling ++ enc1 t.icedCeiling ++
    enc1 t.sheddingCeiling

def gradeSourceCode : GradeSource → Nat
  | .bands => 0
  | .gridCurrent => 1
  | .icing => 2
  | .none => 3

/-- A component configuration in the order of R156. -/
def encComponent (c : ComponentConfig) : List Octet :=
  enc2 c.nameCode ++ enc1 (gradeSourceCode c.gradeSource) ++ encNatOpt 1 (c.tempChannel.map tempIndex) ++
    encInt 2 c.thetaRef ++ enc2 c.weight ++ enc1 c.exponent ++ enc4 c.damageLimit ++ enc1 c.conditionDays

/-- A point of a conversion table (R40). -/
def encPoint (p : Nat × Int) : List Octet := enc4 p.1 ++ encInt 2 p.2

def pendingOutcomeCode : PendingOutcome → Nat
  | .none => 0
  | .applied => 1
  | .replaced => 2
  | .dropped => 3

def workCode : WorkState → Nat
  | .idle => 0
  | .capturing => 1
  | .queued => 2
  | .analysing => 3

/-- A start context in the order of R72. -/
def encContext (c : StartContext) : List Octet :=
  enc1 (bufferCode c.buffer) ++ encTimeOpt c.time ++ enc2 c.regimeChanges ++ enc4 c.speed ++ enc2 c.seq ++
    enc2 c.disturbances ++ encFlag c.disturbed ++ enc2 c.mismatchEvents

/-- The kind of a held write with its band index (R85). DESIGN CHOICE (log entry 63): the band index that a measurement's write
does not have is sent as one octet 0, without a presence octet. -/
def encPending : PendingWrite → List Octet
  | .measurement _ => enc1 0 ++ enc1 0
  | .band b _ => enc1 1 ++ enc1 b

/-- What a measurement's read carries beside its record (R85). -/
def encWork (w : WorkRecord) : List Octet :=
  enc1 (workCode w.work) ++ encNatOpt 4 w.outstanding ++ encOpt 21 encContext w.context ++
    encOpt 2 encPending w.pending ++ enc1 (pendingOutcomeCode w.outcome)

/-- A trim (group 1). DESIGN CHOICE (log entry 36): two octets in two's complement. -/
def readTrim (s : State) (i : Nat) : Option (List Octet) := (s.cfg.trims[i]?).map (encInt 2)

/-- A PTU item (group 2), the P2 pulse count among them (R31). DESIGN CHOICE (log entry 52): the P2 pulse count has the two
octets of the other pulse counts. -/
def readPtuItem (s : State) (i : Nat) : Option (List Octet) :=
  let c := s.cfg.ptu
  match i with
  | 0 => some (enc2 c.chan.p0.n)
  | 1 => some (enc2 c.chan.p1.n)
  | 2 => some (enc2 c.chan.p0.spacing)
  | 3 => some (enc2 c.chan.p1.spacing)
  | 4 => some (enc2 c.chan.p2.spacing)
  | 5 => some (enc2 c.chan.p0.stallLimit)
  | 6 => some (enc2 c.chan.p1.stallLimit)
  | 7 => some (enc2 c.chan.p2.stallLimit)
  | 8 => some (enc1 c.teeth)
  | 9 => some (enc4 c.gearRatio)
  | 10 => some (enc1 c.tolerance)
  | 11 => some (enc2 (windowCycles s.cfg))
  | _ => none

/-- An RCH item (group 3). -/
def readRchItem (s : State) (i : Nat) : Option (List Octet) :=
  let c := s.cfg.rch
  match i with
  | 0 => some (enc4 c.refResistance)
  | 1 => some (enc4 c.windowLow ++ enc4 c.windowHigh)
  | 2 => some (encVec encPoint c.table.s0)
  | 3 => some (encVec encPoint c.table.s1)
  | 4 => some (encVec encPoint c.table.s2)
  | 5 => some (encVec encPoint c.table.s3)
  | _ => none

/-- A measurement with the fields of R85 (group 4). -/
def readMeasurement (s : State) (i : Nat) : Option (List Octet) :=
  if h : i < 8 then some (encMeasurement s.cfg.measurements[i] ++ encWork s.gvm.work[i]) else none

/-- A GVM item (group 6). -/
def readGvmItem (s : State) (i : Nat) : Option (List Octet) :=
  match i with
  | 0 => some (encFlag s.cfg.gvmEnable)
  | 1 => some (enc2 s.cfg.gvmPeriod)
  | _ => none

/-- A GHM item (group 7). -/
def readGhmItem (s : State) (i : Nat) : Option (List Octet) :=
  let c := s.cfg.ghm
  match i with
  | 0 => some (encFlag c.enable)
  | 1 => some (enc1 c.nominalFrequency)
  | 2 => some (enc2 c.vNom)
  | 3 => some (enc2 c.iRated)
  | 4 => some (enc2 c.currentFloor)
  | 5 => some (enc2 c.vtRatio)
  | 6 => some (enc2 c.ctRatio)
  | 7 => some (enc2 c.iAlert ++ enc2 c.iAlarm ++ enc2 c.iHyst)
  | 8 => some (enc1 c.gridCeiling)
  | _ => none

/-- A voltage limit (group 8). -/
def readLimit (s : State) (order : Nat) : Option (List Octet) :=
  if 2 ≤ order then (s.cfg.ghm.voltageLimit[order - 2]?).map enc2 else none

/-- A BIM item (group 9). -/
def readBimItem (s : State) (i : Nat) : Option (List Octet) :=
  let c := s.cfg.bim
  match i with
  | 0 => some (encFlag c.enable)
  | 1 => some (enc2 c.fRef)
  | 2 => some (enc2 c.searchLo ++ enc2 c.searchHi)
  | 3 => some (encNat 6 c.powerFloor)
  | 4 => some (encVec enc2 c.curve)
  | 5 => some (encThresholds c.heaterOff)
  | 6 => some (encThresholds c.heaterOn)
  | _ => none

/-- A CCU item (group 10). -/
def readCcuItem (s : State) (i : Nat) : Option (List Octet) :=
  match i with
  | 0 => some (enc1 s.cfg.reportTimeout)
  | 1 => some (enc1 s.cfg.snapshotThreshold)
  | _ => none

/-- A notice mask (group 12). -/
def readMask (s : State) (i : Nat) : Option (List Octet) :=
  match i with
  | 0 => some (encNotices s.cfg.masks.cp)
  | 1 => some (encNotices s.cfg.masks.fp)
  | 2 => some (encNotices s.cfg.masks.sp)
  | _ => none

/-- The value at an item address, none where there is no item (R198). -/
def readItem (s : State) (group index : Nat) : Option (List Octet) :=
  match group with
  | 1 => readTrim s index
  | 2 => readPtuItem s index
  | 3 => readRchItem s index
  | 4 => readMeasurement s index
  | 5 => (s.cfg.bands[index]?).map encBandConfig
  | 6 => readGvmItem s index
  | 7 => readGhmItem s index
  | 8 => readLimit s index
  | 9 => readBimItem s index
  | 10 => readCcuItem s index
  | 11 => (s.plan.config[index]?).map encComponent
  | 12 => readMask s index
  | _ => none

/-! ## Records of collections -/

def alarmStateCode : AlarmState → Nat
  | .activeUnack => 0
  | .activeAck => 1
  | .clearedUnack => 2

/-- Acknowledged by (R199): none 0, CP 1, FP 2, SP 3. -/
def ackByCode : Option Port → Nat
  | none => 0
  | some .cp => 1
  | some .fp => 2
  | some .sp => 3

/-- An alarm entry: 21 octets (R199). -/
def encAlarm (e : AlarmEntry) : List Octet :=
  enc1 (alarmNumber e.code) ++ encSource e.source ++ enc1 (severity e.code) ++ enc1 (alarmStateCode e.state) ++
    encTimeOpt e.raisedAt ++ encTimeOpt e.lastChange ++ enc1 (ackByCode e.ackBy) ++ enc1 e.occurrences

/-- The operating record in the order of section 8.1. -/
def encOperating (o : OperatingRecord) : List Octet :=
  enc1 (regimeCode o.regime) ++ encOpt 2 (encInt 2) o.wind ++ encOpt 2 (encInt 2) o.power ++
    encNatOpt 1 (o.heater.map heaterCode) ++ encTimeOpt o.reportTime ++ encFlag o.clamped ++ enc2 o.changes

def resultStatusCode : Option PulseResult → Nat
  | none => 2
  | some r =>
    match r.status with
    | .valid => 0
    | .stalled => 1

/-- The status and derived value of a latest result (R147). -/
def encSpeed (r : Option PulseResult) : List Octet := enc1 (resultStatusCode r) ++ enc4 ((r.map (·.derived)).getD 0)

def tempStatusCode : TempStatus → Nat
  | .good => 0
  | .stale => 1
  | .none => 2

/-- A temperature record with its fault field (R41): REF while REF_FAULT is set. Its age is an elapsed time (R199). -/
def encTemp (t : TempCopy) : List Octet :=
  encOpt 2 (encInt 2) t.record.value ++ enc1 (tempStatusCode t.record.status) ++
    enc1 (if t.ref then 3 else faultCode t.fault) ++ encFlag t.record.outOfTable ++ encNatOpt 4 t.record.age

/-- A level that may be absent: a signed number of 2 octets (R199). -/
def encLevel (l : Option Nat) : List Octet := encOpt 2 (fun n => encInt 2 (n : Nat)) l

/-- A 3-second summary (R98). DESIGN CHOICE (log entry 56): the frequency takes four octets. DESIGN CHOICE (log entry 36): a voltage
THD carries a presence octet, as a current THD does. -/
def encSummary (g : GridSummary) : List Octet :=
  encPhases (encNatOpt 2) g.vThd ++ encPhases (encNatOpt 2) g.iThd ++ enc4 g.freq

/-- A snapshot record in the order of R147. -/
def encSnapshot (r : Snapshot) : List Octet :=
  enc2 r.number ++ encTimeOpt r.time ++ enc1 (alarmNumber r.code) ++ encSource r.source ++ encOperating r.op ++
    encSpeed r.p0 ++ encSpeed r.p1 ++ encTemp r.temps.s0 ++ encTemp r.temps.s1 ++ encTemp r.temps.s2 ++
    encTemp r.temps.s3 ++ encVec (fun (b : Option Nat × Nat) => encLevel b.1 ++ enc1 b.2) r.bands ++
    encOpt 22 encSummary r.grid ++ enc1 (icingCode r.icing) ++ encNatOpt 2 r.mean ++ enc1 (r.ceiling.getD 0) ++
    enc2 r.ceilingSeq

/-- A slot: absent when empty, else the lock mark and the record (R149). -/
def encSlot (c : Option SnapshotSlot) : List Octet :=
  encOpt 212 (fun (c : SnapshotSlot) => encFlag c.locked ++ encSnapshot c.record) c

def bandModeCode : BandMode → Nat
  | .disabled => 0
  | .learning => 1
  | .armed => 2

/-- A band record in the order of R85. -/
def encBand (s : State) (b : Fin 24) : List Octet :=
  let st := s.mon.bands[b]
  let l := s.gvm.lastLevel[b]
  encBandConfig s.cfg.bands[b] ++ encNatOpt 1 ((owningMeasurement s.cfg b).map (·.val)) ++ enc1 (bandModeCode st.mode) ++
    enc2 st.baseline ++ enc1 st.learnCount ++ enc1 st.confirm ++ enc1 st.grade ++ encLevel l.level ++
    encFlag l.clipped ++ encFlag l.saturated ++ encFlag l.unresolved ++ encFlag s.gvm.skipMark[b]

/-- A compliance record in the order of R101. DESIGN CHOICE (log entry 56): the mean frequency takes four octets. -/
def encRecord (r : ComplianceRecord) : List Octet :=
  encTimeOpt r.intervalEnd ++ enc4 r.meanFreq ++ encPhases (fun v => enc2 (v.getD 0)) r.vThd ++ enc1 r.worstOrder ++
    enc2 r.worstRatio ++ encPhases (encNatOpt 2) r.iThd ++ enc1 r.used ++ encFlag r.sparse ++ encFlag r.unaligned ++
    encFlag r.timeSet ++ enc2 r.disturbed ++ encList enc1 r.exceeded

/-- A component record in the order of R174. -/
def encComponentRecord (s : State) (c : Fin 16) : List Octet :=
  let w := s.plan.wear[c]
  let r := (today s).bind fun day => rate c day s
  let p := (today s).bind fun day => projectedDay c day s.plan.config[c].damageLimit s
  encComponent s.plan.config[c] ++ enc1 (componentGrade s c) ++ enc1 s.plan.interval.comps[c].worst ++
    encTimeOpt w.grade2Since ++ enc4 w.grade2Duration ++ enc4 w.damage ++ encNatOpt 2 w.countingSince ++
    encNatOpt 4 r ++ encNatOpt 2 p

def taskKindCode : TaskKind → Nat
  | .inspect => 0
  | .oilSample => 1
  | .lubricate => 2
  | .replace => 3
  | .heaterCheck => 4

def triggerCode : Trigger → Nat
  | .calendar => 0
  | .damage => 1
  | .both => 2
  | .condition => 3

def taskStateCode : TaskState → Nat
  | .planned => 0
  | .due => 1
  | .overdue => 2

def originCode : TaskOrigin → Nat
  | .farm => 0
  | .part => 1

/-- A task record in the order of R165, with its due date (R174). -/
def encTask (s : State) (t : Task) : List Octet :=
  enc1 t.id ++ enc1 t.component ++ enc1 (taskKindCode t.kind) ++ enc1 (triggerCode t.trigger) ++
    encNatOpt 2 t.intervalDays ++ encNatOpt 2 t.fraction ++ enc4 t.damageRef ++ encNatOpt 2 t.targetReached ++
    enc1 t.notice ++ enc1 t.grace ++ encNatOpt 1 t.derate ++ enc2 t.lastDone ++ enc2 t.created ++ enc1 t.deferred ++
    enc1 t.deferrals ++ enc1 (taskStateCode t.state) ++ enc1 (originCode t.origin) ++
    encNatOpt 2 (readDueDate t s)

/-- The fields of a day summary in the order of R161. -/
def encDay (r : DayRecord) : List Octet :=
  enc4 r.producing ++ encVec enc4 r.damage ++ encVec enc1 r.maxGrade ++
    encCounts [r.icedMinutes, r.suspectMinutes, r.exceedances, r.disturbed, r.alarms, r.skips]

/-- A day summary (R162). -/
def encDaySummary (d : DaySummary) : List Octet := enc2 d.day ++ encDay d.record

/-- The open day record and the undated tally (R174). -/
def encDayTail (s : State) : List Octet :=
  encNatOpt 2 s.plan.openDay.day ++ encDay s.plan.openDay.record ++ encDay s.plan.undated

def outcomeCode : CloseOutcome → Nat
  | .done => 0
  | .replaced => 1

/-- A service history entry in the order of R173. -/
def encHistory (e : HistoryEntry) : List Octet :=
  encTime e.time ++ enc1 e.id ++ enc1 e.component ++ enc1 (taskKindCode e.kind) ++ enc1 (outcomeCode e.outcome) ++
    enc2 e.technician ++ enc4 e.damage

/-! ## Status of the blocks (R197) -/

/-- The state of a capture buffer (R9). -/
def bufferStateCode : Buffer → Nat
  | .free => 0
  | .filling _ => 1
  | .full _ => 2
  | .inAnalysis _ => 3

/-- An accelerometer channel's state (R18). -/
def encAccel (a : AccelState) : List Octet := enc1 (faultCode a.fault) ++ encFlag a.qualification.isSome

/-- The front-end status (R18). DESIGN CHOICE (log entry 36): the raw CH and CQ values are two octets in two's complement. -/
def afeStatus (s : State) : List Octet :=
  let a := s.afe
  encFlag a.converterFault ++ encOpt 4 (fun (c : Int × Int) => encInt 2 c.1 ++ encInt 2 c.2) a.latestCheck ++
    enc2 a.failedChecks ++ encAccel a.accel.g1 ++ encAccel a.accel.g2 ++ encAccel a.accel.g3 ++ encAccel a.accel.g4 ++
    encAccel a.accel.n1 ++ enc1 (bufferStateCode a.buffers.gvmA) ++ enc1 (bufferStateCode a.buffers.gvmB) ++
    enc1 (bufferStateCode a.buffers.bimA) ++ enc1 (bufferStateCode a.buffers.ghmA) ++
    enc1 (bufferStateCode a.buffers.ghmB)

/-- A result record in the order of R22. -/
def encResult (r : PulseResult) : List Octet :=
  enc2 r.seq ++ enc2 r.n ++ enc4 r.t ++ enc1 (resultStatusCode (some r)) ++ enc4 r.freq ++ enc4 r.derived

/-- A latest result; with status NONE its other fields are 0 (R22, R31). -/
def encLatest (r : Option PulseResult) : List Octet :=
  match r with
  | some r => encResult r
  | none => enc2 0 ++ enc2 0 ++ enc4 0 ++ enc1 (resultStatusCode none) ++ enc4 0 ++ enc4 0

def measurementCode : Measurement → Nat
  | .waiting _ _ => 0
  | .measuring _ _ _ _ => 1

/-- A pulse input's status (R31). -/
def encPulse (p : PulseState) : List Octet :=
  enc1 (measurementCode p.meas) ++ encLatest p.latest ++ enc2 p.rejected ++ encFlag p.stallMark

/-- The PTU status (R31). -/
def ptuStatus (s : State) : List Octet :=
  encPulse s.ptu.chan.p0 ++ encPulse s.ptu.chan.p1 ++ encPulse s.ptu.chan.p2 ++ enc1 s.ptu.mismatchCounter ++
    encFlag s.ptu.mismatchFlag ++ enc2 s.ptu.mismatchEvents

/-- A temperature channel's status (R43). -/
def encSensor (s : State) (t : Temp) : List Octet :=
  let x := s.rch.sensor.get t
  encTemp (tempCopy s t) ++ enc1 (faultCode x.fault) ++ encNatOpt 4 x.rawCount ++ encNatOpt 4 x.lastResistance

/-- The RCH status (R43). -/
def rchStatus (s : State) : List Octet :=
  encFlag s.rch.refFault ++ encNatOpt 4 s.rch.cRef ++ encNatOpt 4 s.rch.rawRef ++ encSensor s .s0 ++ encSensor s .s1 ++
    encSensor s .s2 ++ encSensor s .s3

def modeCode : AnalysisMode → Nat
  | .bands _ _ _ _ => 0
  | .harmonics _ _ _ => 1
  | .peak _ _ _ _ _ => 2

/-- A request as the SPE status shows it (R64). -/
def encRequest (r : AnalysisRequest) : List Octet :=
  enc1 (monitorCode r.source) ++ enc2 r.tag ++ enc4 r.arrival ++ enc1 (modeCode r.mode) ++ enc1 (bufferCode r.buffer)

/-- The counters of one source (R64). -/
def encSpeCounters (c : SpeCounters) : List Octet :=
  encCounts [c.accepted, c.delivered, c.discarded, c.removed, c.refusedBuffer, c.refusedParameter]

def markerCode : Marker → Nat
  | .gvm => 0
  | .bim => 1

/-- The SPE status (R64). -/
def speStatus (s : State) : List Octet :=
  encFlag s.spe.inProgress.isSome ++
    encOpt 10 (fun (r : AnalysisRequest) => encRequest r ++ encFlag r.discard) s.spe.inProgress ++
    encList encRequest s.spe.queue ++ enc1 (markerCode s.spe.marker) ++ encSpeCounters s.spe.counters.gvm ++
    encSpeCounters s.spe.counters.ghm ++ encSpeCounters s.spe.counters.bim

/-- The counters of the GVM in the order of R85. -/
def gvmCounts (c : GvmCounters) : List Nat :=
  [c.skipOverrun, c.skipRegime, c.skipNoSpeed, c.skipMismatch, c.skipConverter, c.skipChannelFault, c.skipNoBuffer,
    c.skipParameter, c.rejectRegime, c.rejectUnsteady, c.rejectDisturbance, c.rejectMismatch, c.abortConverter,
    c.abortChannelFault, c.noBands, c.analysisSkip, c.removed, c.results, c.discarded, c.learnIgnored,
    c.pendingApplied, c.pendingReplaced, c.pendingDropped]

/-- The GVM status (R85). -/
def gvmStatus (s : State) : List Octet :=
  encFlag s.cfg.gvmEnable ++ enc2 s.gvm.period ++ encNatOpt 4 s.gvm.periodTimer ++
    encNatOpt 1 (s.gvm.position.map (·.val)) ++ encVec enc1 s.mpl.grades.bands ++
    enc1 (s.ccu.contributions.gearbox.getD 0) ++ encCounts (gvmCounts s.gvm.counters)

def windowStateCode : WindowState → Nat
  | .off => 0
  | .searching => 1
  | .running => 2

def refusalCode : WindowRefusal → Nat
  | .noBuffer => 0
  | .converter => 1

def windowOutcomeCode : WindowOutcome → Nat
  | .analysed => 0
  | .excluded => 1
  | .invalidFrequency => 2
  | .missed _ => 3
  | .abandoned => 4

/-- The request field of a window entry (R89). DESIGN CHOICE (log entry 36): the code, then the arrival number as a field that
may be absent. -/
def encWindowRequest : WindowRequest → List Octet
  | .none => enc1 0 ++ encNatOpt 4 Option.none
  | .queued n => enc1 1 ++ encNatOpt 4 (some n)
  | .analysing n => enc1 2 ++ encNatOpt 4 (some n)

/-- A window entry in the order of R89. -/
def encEntry (e : WindowEntry) : List Octet :=
  enc2 e.number ++ encNatOpt 1 (e.buffer.map bufferCode) ++ encNatOpt 1 (e.refusal.map refusalCode) ++
    encFlag e.ended ++ encOpt 17 encResult e.closing ++ encTimeOpt e.endTime ++ encWindowRequest e.request ++
    encNatOpt 1 (e.outcome.map windowOutcomeCode)

/-- The ratios and the THD of a current phase, absent when the phase was "no current" (R95). DESIGN CHOICE (log entry 72): the
39 ratios are one field that may be absent, with one presence octet, and the THD is another after them. -/
def encCurrentPhase (ratio : Option (Vector Nat 39)) (thd : Option Nat) : List Octet :=
  encOpt 78 (encVec enc2) ratio ++ encNatOpt 2 thd

/-- The last window values in the order of R97. DESIGN CHOICE (log entry 68): the voltage and current levels (R95) take four
octets without sign. DESIGN CHOICE (log entry 71): so do the primary magnitudes. DESIGN CHOICE (log entry 72): the ratios and
THDs go phase by phase, the 39 ratios of a phase before its THD. -/
def encLastWindow (w : LastWindow) : List Octet :=
  enc2 w.number ++ enc4 w.freq ++ encPhases enc4 w.vLevel ++ encPhases enc4 w.iLevel ++ encVec enc2 w.vRatio.a ++
    enc2 w.vThd.a ++ encVec enc2 w.vRatio.b ++ enc2 w.vThd.b ++ encVec enc2 w.vRatio.c ++ enc2 w.vThd.c ++
    encCurrentPhase w.iRatio.a w.iThd.a ++ encCurrentPhase w.iRatio.b w.iThd.b ++ encCurrentPhase w.iRatio.c w.iThd.c ++
    encVec enc4 w.primary

/-- The counters of the GHM in the order of R109. -/
def ghmCounts (c : GhmCounters) : List Nat :=
  [c.opened, c.analysed, c.excluded, c.invalidFrequency, c.abandoned, c.missedNoBuffer, c.missedConverter,
    c.missedAborted, c.missedQueue, c.noFundamental, c.stalls, c.discarded, c.emptyBlock, c.emptyInterval, c.closed,
    c.orderDropped, c.pruned]

/-- The GHM status (R109). DESIGN CHOICE (log entry 68): the 3-second values so far, and those disturbed, take two octets. DESIGN
CHOICE (log entry 76): a planned end past day 65535 is sent as day 0. -/
def ghmStatus (s : State) : List Octet :=
  let g := s.ghm
  enc1 (windowStateCode g.window) ++ encList encEntry g.entries ++ encOpt 540 encLastWindow g.lastWindow ++
    encFlag g.disturbed ++ enc2 g.disturbances ++ encOpt 22 encSummary g.lastSummary ++ encPlanned g.interval.planned ++
    encFlag g.interval.unaligned ++ enc2 g.interval.values ++ enc2 g.interval.disturbed ++ enc1 s.mon.currentGrade ++
    enc1 s.mon.currentConfirm ++ enc1 (s.ccu.contributions.grid.getD 0) ++ encCounts (ghmCounts g.counters)

/-- A held peak (R117, R132). DESIGN CHOICE (log entry 56): the frequency takes four octets. -/
def encPeak (h : HeldPeak) : List Octet :=
  enc2 h.step ++ enc1 (if h.peak then 0 else 1) ++ enc4 h.freq ++ encNat 6 h.power ++ encFlag h.clipped

/-- "Evaluable or the counter that stopped it" (R132). DESIGN CHOICE (log entry 36): one code, 0 for an evaluable step. -/
def stopCode : Option StepStop → Nat
  | none => 0
  | some .regime => 1
  | some .disturbance => 2
  | some .noAmbient => 3
  | some .lowWind => 4

/-- The last step record in the order of R132. DESIGN CHOICE (log entry 36): each term carries a presence octet of its own.
DESIGN CHOICE (log entry 74): "S0 usable, cold or warm" is three flags. DESIGN CHOICE (log entry 73): the transition, which may
be absent, is the state left and the state entered. -/
def encStep (r : StepRecord) : List Octet :=
  enc2 r.number ++ enc1 (stopCode r.stop) ++ encNatOpt 2 (r.terms.map (·.expected)) ++
    encNatOpt 2 (r.terms.map (·.deficit)) ++ encNatOpt 2 (r.terms.map (·.drop)) ++ encNatOpt 2 (r.terms.map (·.score)) ++
    encNatOpt 2 r.mean ++ encFlag r.ambient.usable ++ encFlag r.ambient.cold ++ encFlag r.ambient.warm ++
    encOpt 2 (fun (t : IcingState × IcingState) => enc1 (icingCode t.1) ++ enc1 (icingCode t.2)) r.transition

/-- The counters of the BIM in the order of R132. -/
def bimCounts (c : BimCounters) : List Nat :=
  [c.steps, c.evaluable, c.regime, c.disturbance, c.noAmbient, c.lowWind, c.refusedConverter, c.refusedChannelFault,
    c.refusedNoBuffer, c.abortConverter, c.abortChannelFault, c.analysisSkip, c.removed, c.discarded, c.peak, c.noPeak]

/-- The icing reply (R132), which is also the BIM status. -/
def bimStatus (s : State) : List Octet :=
  let r := s.mon.icing
  enc1 (icingCode r.state) ++ enc1 r.icedCount ++ enc1 r.clearCount ++ enc2 r.parkedCount ++ enc2 r.shedCount ++
    encList enc2 r.ring ++ encNatOpt 2 (ringMean r.ring) ++ encThresholds r.active ++ encFlag r.pinned ++
    enc1 (heaterCode r.loaded) ++ encNatOpt 2 (s.bim.override.map minutesLeft) ++ enc1 s.mpl.grades.icing ++
    enc1 (s.ccu.contributions.icing.getD 0) ++ encOpt 14 encPeak s.bim.heldPeak ++ encNatOpt 2 s.bim.outstanding ++
    encOpt 24 encStep s.bim.lastStep ++ encCounts (bimCounts s.bim.counters)

/-- The counters of the CCU in the order of R149. -/
def ccuCounts (c : CcuCounters) : List Nat :=
  [c.accepted, c.refused, c.clamped, c.silences, c.unheeded, c.evictions, c.overflows, c.snapshots]

/-- The CCU status (R149). -/
def ccuStatus (s : State) : List Octet :=
  encOperating s.ccu.op ++ encNatOpt 4 s.ccu.sinceReport ++ encNatOpt 4 s.ccu.freshness ++
    encCounts (ccuCounts s.ccu.counters)

/-- The presence with its minutes remaining (R155). -/
def encPresence (p : Presence) : List Octet := enc2 p.technician ++ enc2 (minutesLeft p.left)

/-- The components left waiting (R174). DESIGN CHOICE (log entry 36): a list of their indices. -/
def waitingList (s : State) : List Nat := (List.range 16).filter fun i => s.mpl.waiting.toList.getD i false

/-- The MPL status (R174). DESIGN CHOICE (log entry 76): a planned end past day 65535 is sent as day 0. -/
def mplStatus (s : State) : List Octet :=
  encTimeOpt s.cal ++ encOpt 4 encPresence s.mpl.presence ++ encPlanned s.plan.interval.planned ++
    enc2 s.plan.interval.producing ++ enc1 (s.ccu.contributions.planner.getD 0) ++ encList enc1 (waitingList s) ++
    encCounts [s.mpl.prunedDays, s.mpl.orderDropped]

def causeCode : StartCause → Nat
  | .powerOn => 0
  | .powerOnLost => 1
  | .resetLine => 2
  | .serviceRestart => 3

def sectionCode : RetSection → Nat
  | .config => 0
  | .monitor => 1
  | .plan => 2
  | .records => 3
  | .calendar => 4

/-- The start record (R181). DESIGN CHOICE (log entry 36): the sections lost are a list of their codes. -/
def encStart (r : StartRecord) : List Octet :=
  enc1 (causeCode r.cause) ++ encList (fun x => enc1 (sectionCode x)) r.lost ++ encTimeOpt r.time

/-- The RET status (R181, R197). -/
def retStatus (s : State) : List Octet :=
  match s.ret.startRecord with
  | none => []
  | some r => encStart r

/-- A checked request frame held by a port. -/
def encFrame (f : Frame) : List Octet := [f.kind, f.tag] ++ encList (fun x => [x]) f.body

/-- A receiver with the octets so far (section 11.1). DESIGN CHOICE (log entry 36): a code, then a list, empty while HUNTING. -/
def encReceiver : Receiver → List Octet
  | .hunting => enc1 0 ++ encList (fun x => [x]) []
  | .receiving l => enc1 1 ++ encList (fun x => [x]) l

/-- A port's state in the order of section 11.1. -/
def encPort (p : PortState) (mask : NoticeSet) : List Octet :=
  encReceiver p.receiver ++ encOpt 3 encFrame p.inWork ++ encOpt 3 encFrame p.waiting ++
    encFlag (p.overrun || p.overrunAgain) ++ encNotices p.notices ++ encNotices mask ++
    encCounts [p.counters.timeouts, p.counters.checkFailures, p.counters.overruns, p.counters.taken, p.counters.sent,
      p.counters.refusedPort]

/-- The LNK status (R197). -/
def lnkStatus (s : State) : List Octet :=
  encPort s.lnk.cp s.cfg.masks.cp ++ encPort s.lnk.fp s.cfg.masks.fp ++ encPort s.lnk.sp s.cfg.masks.sp

/-- The whole status of a block (R197). -/
def blockStatus (b : Block) (s : State) : List Octet :=
  match b with
  | .afe => afeStatus s
  | .ptu => ptuStatus s
  | .rch => rchStatus s
  | .spe => speStatus s
  | .gvm => gvmStatus s
  | .ghm => ghmStatus s
  | .bim => bimStatus s
  | .ccu => ccuStatus s
  | .mpl => mplStatus s
  | .ret => retStatus s
  | .lnk => lnkStatus s

/-- The code of a block (R197). -/
def blockCode : Block → Nat
  | .afe => 0
  | .ptu => 1
  | .rch => 2
  | .spe => 3
  | .gvm => 4
  | .ghm => 5
  | .bim => 6
  | .ccu => 7
  | .mpl => 8
  | .ret => 9
  | .lnk => 10

end Sys2Proof.Machine
end

