-- ==== Sys2Proof/Machine/Operands.lean ====
section
/-! DEFINITION. Requests (R196): their kinds, the fields of their bodies (R196, R198, R199), and the room of a reply. -/

namespace Sys2Proof.Machine

/-- A configuration write: the item of an address (R198) with the value written. -/
inductive ConfigWrite where
  | trim (index : Nat) (value : Int)
  | ptu (index value : Nat)
  | rch (item : RchItem)
  | measurement (index : Nat) (value : MeasurementRecord)
  | band (index : Nat) (value : BandConfig)
  | gvmEnable (value : Bool)
  | gvmPeriod (value : Nat)
  | ghmEnable (value : Bool)
  | ghm (item : GhmItem)
  | voltageLimit (order value : Nat)
  | bimEnable (value : Bool)
  | bimPeak (item : BimPeakItem)
  | curve (rows : Vector Nat 40)
  | profile (heater : Heater) (set : ThresholdSet)
  | ccu (item : CcuItem)
  | component (index : Nat) (value : ComponentConfig)
  | mask (target : Port) (mask : NoticeSet)
  deriving DecidableEq, Repr

/-- A request with its parameters (R196). -/
inductive Request where
  | readStatus (block : Block) (part : Nat)
  | readNotices
  | readCeiling
  | readAlarms (skip : Nat)
  | ackAlarm (target : AckTarget)
  | readSnapshot (slot : Selector) (skip : Nat)
  | readConfig (group index : Nat)
  | readBands (band : Selector) (skip : Nat)
  | readGridRecords (intervalEnd : Timestamp) (count skip : Nat)
  | readIcing (part : Nat)
  | readComponents (index : Selector) (skip : Nat)
  | readTasks (id : Selector) (skip : Nat)
  | readDaySummaries (day count skip : Nat)
  | readHistory (count skip : Nat)
  | operatingReport (regime : Nat) (wind power : Int) (heater : Nat)
  | ceilingAck (number : Nat)
  | setTime (day sec : Nat)
  | writeConfig (write : ConfigWrite)
  | learnBaseline (target : LearnTarget)
  | pinThresholds (set : ThresholdSet)
  | unpinThresholds
  | planTask (fields : TaskFields)
  | removeTask (id : Nat)
  | deferTask (id days : Nat)
  | overrideBegin (minutes : Nat)
  | overrideEnd
  | presenceBegin (technician hours : Nat)
  | presenceEnd
  | closeTask (id : Nat) (outcome : CloseOutcome)
  | lockSnapshot (slot : Nat)
  | unlockSnapshot (slot : Nat)
  | restart
  deriving DecidableEq, Repr

/-- The kind of a request (R196). -/
def Request.kind : Request → Octet
  | .readStatus _ _ => 0x01
  | .readNotices => 0x02
  | .readCeiling => 0x03
  | .readAlarms _ => 0x04
  | .ackAlarm _ => 0x05
  | .readSnapshot _ _ => 0x06
  | .readConfig _ _ => 0x07
  | .readBands _ _ => 0x08
  | .readGridRecords _ _ _ => 0x09
  | .readIcing _ => 0x0a
  | .readComponents _ _ => 0x0b
  | .readTasks _ _ => 0x0c
  | .readDaySummaries _ _ _ => 0x0d
  | .readHistory _ _ => 0x0e
  | .operatingReport _ _ _ _ => 0x20
  | .ceilingAck _ => 0x21
  | .setTime _ _ => 0x30
  | .writeConfig _ => 0x31
  | .learnBaseline _ => 0x32
  | .pinThresholds _ => 0x33
  | .unpinThresholds => 0x34
  | .planTask _ => 0x35
  | .removeTask _ => 0x36
  | .deferTask _ _ => 0x37
  | .overrideBegin _ => 0x38
  | .overrideEnd => 0x39
  | .presenceBegin _ _ => 0x40
  | .presenceEnd => 0x41
  | .closeTask _ _ => 0x42
  | .lockSnapshot _ => 0x43
  | .unlockSnapshot _ => 0x44
  | .restart => 0x45

/-- The columns of the permission matrix (R195). -/
inductive Permission where
  | anyPort | control | farmOrPresence | farm | service | servicePresence
  deriving DecidableEq, Repr

/-- The row of the permission matrix a kind falls under, none where the octet is no request kind (R189, R195). -/
def permissionOf (kind : Octet) : Option Permission :=
  let k := kind.toNat
  if 0x01 ≤ k ∧ k ≤ 0x0e then some .anyPort
  else if k = 0x20 ∨ k = 0x21 then some .control
  else if 0x30 ≤ k ∧ k ≤ 0x32 then some .farmOrPresence
  else if 0x33 ≤ k ∧ k ≤ 0x39 then some .farm
  else if k = 0x40 ∨ k = 0x41 then some .service
  else if 0x42 ≤ k ∧ k ≤ 0x45 then some .servicePresence
  else none

/-- Whether a port is admitted, with or without a presence (R195). -/
def Permission.admits (m : Permission) (p : Port) (presence : Bool) : Bool :=
  match m, p with
  | .anyPort, _ => true
  | .control, .cp => true
  | .control, _ => false
  | .farmOrPresence, .fp => true
  | .farmOrPresence, .sp => presence
  | .farmOrPresence, .cp => false
  | .farm, .fp => true
  | .farm, _ => false
  | .service, .sp => true
  | .service, _ => false
  | .servicePresence, .sp => presence
  | .servicePresence, _ => false

/-! ## Readers of the fields -/

/-- Transforms what a reader gives. -/
def getMap {α β : Type} (f : α → β) (r : Reader α) : Reader β := fun l => (r l).map fun (x, rest) => (f x, rest)

/-- A reader that reads one field and goes on with it. -/
def getThen {α β : Type} (r : Reader α) (f : α → Reader β) : Reader β := fun l =>
  match r l with
  | none => none
  | some (x, rest) => f x rest

/-- A reader that reads nothing. -/
def getPure {α : Type} (x : α) : Reader α := fun l => some (x, l)

/-- `n` values in a row as a vector. -/
def getVec {α : Type} (r : Reader α) (n : Nat) : Reader (Vector α n) := fun l =>
  match getMany r n l with
  | none => none
  | some (xs, rest) => if h : xs.length = n then some (⟨xs.toArray, by simpa using h⟩, rest) else none

def ports : List Port := [.cp, .fp, .sp]
def temps : List Temp := [.s0, .s1, .s2, .s3]
def blocks : List Block := [.afe, .ptu, .rch, .spe, .gvm, .ghm, .bim, .ccu, .mpl, .ret, .lnk]

/-- A number that must lie in a range of the layout. -/
def getRange (k lo hi : Nat) : Reader Nat := fun l =>
  match getNat k l with
  | none => none
  | some (n, rest) => if lo ≤ n ∧ n ≤ hi then some (n, rest) else none

/-- One item by number, in a range, or all: a selector octet, 0 and the number, or 1 (log entry 29). -/
def getSelector (lo hi : Nat) : Reader Selector :=
  getThen (getCode [false, true]) fun all => if all then getPure .all else getMap Selector.one (getRange 1 lo hi)

/-- A timestamp. DESIGN CHOICE (log entry 54): every two octets of a day and four of a second fit the layout, a second above
86399 among them. -/
def getTime : Reader Timestamp := getMap (fun (d, s) => ⟨d, s⟩) (getPair (getNat 2) (getNat 4))

/-- A source by its class and index (R199). -/
def sourceOf (cls index : Nat) : Option Source :=
  match cls with
  | 1 => ([Accel.g1, .g2, .g3, .g4, .n1][index]?).map Source.accel
  | 2 => if index = 0 then some .afe else none
  | 3 => ([Pulse.p0, .p1, .p2][index]?).map Source.pulse
  | 4 => if index = 0 then some .ptu else none
  | 5 => (temps[index]?).map Source.temp
  | 6 => if index = 0 then some .rch else none
  | 7 => if index ≤ 23 then some (.band index) else none
  | 8 => if index = 0 then some .ghm else none
  | 9 => if index = 0 then some .bim else none
  | 10 => if index = 0 then some .ccu else none
  | 11 => if 1 ≤ index ∧ index ≤ 255 then some (.task index) else none
  | 12 => if index = 0 then some .mpl else none
  | 13 => if index = 0 then some .ret else none
  | _ => none

/-- A source. -/
def getSource : Reader Source := fun l =>
  match getPair (getNat 1) (getNat 1) l with
  | none => none
  | some ((c, i), rest) => (sourceOf c i).map fun s => (s, rest)

/-- An alarm code, 1..20 (R199). -/
def getAlarmCode : Reader AlarmCode := fun l =>
  match getRange 1 1 20 l with
  | none => none
  | some (n, rest) => (alarmCodes[n - 1]?).map fun c => (c, rest)

/-- The target of an ACK_ALARM (R199). -/
def getAckTarget : Reader AckTarget :=
  getThen (getCode [false, true]) fun all =>
    if all then getPure .all else getMap (fun (c, s) => AckTarget.one c s) (getPair getAlarmCode getSource)

/-- The target of a LEARN_BASELINE (R196). DESIGN CHOICE (log entry 36): band 0 or measurement 1, then the index. -/
def getLearnTarget : Reader LearnTarget :=
  getThen (getCode [false, true]) fun m =>
    getMap (fun i => if m then LearnTarget.measurement i else LearnTarget.band i) (getNat 1)

/-- A threshold set in the order of R119. -/
def getThresholds : Reader ThresholdSet :=
  getThen (getNat 2) fun suspectOn => getThen (getNat 2) fun suspectOff => getThen (getNat 2) fun icedOn =>
  getThen (getNat 2) fun icedOff => getThen (getInt 2) fun tIce => getThen (getNat 1) fun tHyst =>
  getThen (getNat 1) fun persistence => getThen (getNat 2) fun shedHold => getThen (getNat 2) fun parkedAccretion =>
  getThen (getNat 1) fun suspectCeiling => getThen (getNat 1) fun icedCeiling =>
  getThen (getNat 1) fun sheddingCeiling =>
    getPure
      { suspectOn := suspectOn, suspectOff := suspectOff, icedOn := icedOn, icedOff := icedOff, tIce := tIce,
        tHyst := tHyst, persistence := persistence, shedHold := shedHold, parkedAccretion := parkedAccretion,
        suspectCeiling := suspectCeiling, icedCeiling := icedCeiling, sheddingCeiling := sheddingCeiling }

/-- The fields of a PLAN_TASK in the order of R165. -/
def getTaskFields : Reader TaskFields :=
  getThen (getNat 1) fun id => getThen (getNat 1) fun component =>
  getThen (getCode [TaskKind.inspect, .oilSample, .lubricate, .replace, .heaterCheck]) fun kind =>
  getThen (getCode [Trigger.calendar, .damage, .both, .condition]) fun trigger =>
  getThen (getOpt 2 (getNat 2)) fun intervalDays => getThen (getOpt 2 (getNat 2)) fun fraction =>
  getThen (getNat 1) fun notice => getThen (getNat 1) fun grace =>
  getThen (getOpt 1 (getNat 1)) fun derate => getThen (getOpt 2 (getNat 2)) fun lastDone =>
    getPure
      { id := id, component := component, kind := kind, trigger := trigger, intervalDays := intervalDays,
        fraction := fraction, notice := notice, grace := grace, derate := derate, lastDone := lastDone }

/-- A measurement record in the order of R66. -/
def getMeasurement : Reader MeasurementRecord :=
  getThen getFlag fun enabled => getThen (getCode [GearChannel.g1, .g2, .g3, .g4]) fun channel =>
  getThen (getNat 1) fun decimation => getThen (getNat 4) fun length =>
  getThen (getCode [Shaft.rotor, .hss]) fun shaft => getThen (getList (getNat 1)) fun bands =>
  getThen (getNat 1) fun tolerance =>
    getPure
      { enabled := enabled, channel := channel, decimation := decimation, length := length, shaft := shaft,
        bands := bands, tolerance := tolerance }

/-- A band configuration in the order of R67. -/
def getBandConfig : Reader BandConfig :=
  getThen getFlag fun enabled => getThen (getNat 2) fun centre => getThen (getNat 2) fun halfWidth =>
  getThen (getNat 2) fun alertRise => getThen (getNat 2) fun alarmRise => getThen (getNat 2) fun hysteresis =>
  getThen (getNat 1) fun confirmCount => getThen getFlag fun derate => getThen (getNat 1) fun derateCeiling =>
  getThen (getOpt 1 (getNat 1)) fun component =>
    getPure
      { enabled := enabled, centre := centre, halfWidth := halfWidth, alertRise := alertRise, alarmRise := alarmRise,
        hysteresis := hysteresis, confirmCount := confirmCount, derate := derate, derateCeiling := derateCeiling,
        component := component }

/-- A component configuration in the order of R156. -/
def getComponent : Reader ComponentConfig :=
  getThen (getNat 2) fun nameCode =>
  getThen (getCode [GradeSource.bands, .gridCurrent, .icing, .none]) fun gradeSource =>
  getThen (getOpt 1 (getCode temps)) fun tempChannel => getThen (getInt 2) fun thetaRef =>
  getThen (getNat 2) fun weight => getThen (getNat 1) fun exponent => getThen (getNat 4) fun damageLimit =>
  getThen (getNat 1) fun conditionDays =>
    getPure
      { nameCode := nameCode, gradeSource := gradeSource, tempChannel := tempChannel, thetaRef := thetaRef,
        weight := weight, exponent := exponent, damageLimit := damageLimit, conditionDays := conditionDays }

/-! ## The items of WRITE_CONFIG (R198) -/

/-- The reader of an RCH item's value (group 3). -/
def rchReader (index : Nat) : Option (Reader ConfigWrite) :=
  let table (t : Temp) : Reader ConfigWrite :=
    getMap (fun v => ConfigWrite.rch (.table t v)) (getVec (getPair (getNat 4) (getInt 2)) 8)
  match index with
  | 0 => some (getMap (fun v => .rch (.refResistance v)) (getNat 4))
  | 1 => some (getMap (fun (a, b) => .rch (.refWindow a b)) (getPair (getNat 4) (getNat 4)))
  | 2 => some (table .s0)
  | 3 => some (table .s1)
  | 4 => some (table .s2)
  | 5 => some (table .s3)
  | _ => none

/-- The octets of a PTU item's value (group 2). -/
def ptuWidth (index : Nat) : Nat := if index = 8 ∨ index = 10 then 1 else if index = 9 then 4 else 2

/-- The reader of a GHM item's value (group 7). -/
def ghmReader (index : Nat) : Option (Reader ConfigWrite) :=
  match index with
  | 0 => some (getMap .ghmEnable getFlag)
  | 1 => some (getMap (fun v => .ghm (.nominalFrequency v)) (getNat 1))
  | 2 => some (getMap (fun v => .ghm (.vNom v)) (getNat 2))
  | 3 => some (getMap (fun v => .ghm (.iRated v)) (getNat 2))
  | 4 => some (getMap (fun v => .ghm (.currentFloor v)) (getNat 2))
  | 5 => some (getMap (fun v => .ghm (.vtRatio v)) (getNat 2))
  | 6 => some (getMap (fun v => .ghm (.ctRatio v)) (getNat 2))
  | 7 =>
    some (getMap (fun (a, b, c) => .ghm (.currentLimits a b c)) (getPair (getNat 2) (getPair (getNat 2) (getNat 2))))
  | 8 => some (getMap (fun v => .ghm (.gridCeiling v)) (getNat 1))
  | _ => none

/-- The reader of a BIM item's value (group 9). -/
def bimReader (index : Nat) : Option (Reader ConfigWrite) :=
  match index with
  | 0 => some (getMap .bimEnable getFlag)
  | 1 => some (getMap (fun v => .bimPeak (.fRef v)) (getNat 2))
  | 2 => some (getMap (fun (a, b) => .bimPeak (.searchRange a b)) (getPair (getNat 2) (getNat 2)))
  | 3 => some (getMap (fun v => .bimPeak (.powerFloor v)) (getNat 6))
  | 4 => some (getMap .curve (getVec (getNat 2) 40))
  | 5 => some (getMap (.profile .off) getThresholds)
  | 6 => some (getMap (.profile .on) getThresholds)
  | _ => none

/-- The reader of the value at an item address, none where no item exists to be written (R198). -/
def writeReader (group index : Nat) : Option (Reader ConfigWrite) :=
  match group with
  | 1 => if index ≤ 10 then some (getMap (.trim index) (getInt 2)) else none
  | 2 => if index ≤ 10 then some (getMap (.ptu index) (getNat (ptuWidth index))) else none
  | 3 => rchReader index
  | 4 => if index ≤ 7 then some (getMap (.measurement index) getMeasurement) else none
  | 5 => if index ≤ 23 then some (getMap (.band index) getBandConfig) else none
  | 6 =>
    match index with
    | 0 => some (getMap .gvmEnable getFlag)
    | 1 => some (getMap .gvmPeriod (getNat 2))
    | _ => none
  | 7 => ghmReader index
  | 8 => if 2 ≤ index ∧ index ≤ 40 then some (getMap (.voltageLimit index) (getNat 2)) else none
  | 9 => bimReader index
  | 10 =>
    match index with
    | 0 => some (getMap (fun v => .ccu (.reportTimeout v)) (getNat 1))
    | 1 => some (getMap (fun v => .ccu (.snapshotThreshold v)) (getNat 1))
    | _ => none
  | 11 => if index ≤ 15 then some (getMap (.component index) getComponent) else none
  | 12 => (ports[index]?).map fun p => getMap (fun n => .mask p (BitVec.ofNat 16 n)) (getNat 2)
  | _ => none

/-- The body of a WRITE_CONFIG: an address that has no item is UNKNOWN_ITEM, a value that does not fit RANGE (R198). -/
def parseWrite (body : List Octet) : Except Status Request :=
  match getPair (getNat 1) (getNat 1) body with
  | none => .error .range
  | some ((group, index), value) =>
    match writeReader group index with
    | none => .error .unknownItem
    | some r =>
      match readAll r value with
      | none => .error .range
      | some w => .ok (.writeConfig w)

/-- The reader of a request's parameters by its kind, but for WRITE_CONFIG (R196). DESIGN CHOICE (log entry 65): a slot of 43h and
44h above 7 does not fit the layout. DESIGN CHOICE (log entry 67): the hours of 40h take one octet. -/
def requestReader (kind : Nat) : Reader Request :=
  match kind with
  | 0x01 => getMap (fun (b, n) => .readStatus b n) (getPair (getCode blocks) (getNat 1))
  | 0x02 => getPure .readNotices
  | 0x03 => getPure .readCeiling
  | 0x04 => getMap .readAlarms (getNat 1)
  | 0x05 => getMap .ackAlarm getAckTarget
  | 0x06 => getMap (fun (a, n) => .readSnapshot a n) (getPair (getSelector 0 7) (getNat 1))
  | 0x07 => getMap (fun (a, n) => .readConfig a n) (getPair (getNat 1) (getNat 1))
  | 0x08 => getMap (fun (a, n) => .readBands a n) (getPair (getSelector 0 23) (getNat 1))
  | 0x09 =>
    getMap (fun (t, c, n) => .readGridRecords t c n) (getPair getTime (getPair (getRange 1 1 144) (getNat 1)))
  | 0x0a => getMap .readIcing (getNat 1)
  | 0x0b => getMap (fun (a, n) => .readComponents a n) (getPair (getSelector 0 15) (getNat 1))
  | 0x0c => getMap (fun (a, n) => .readTasks a n) (getPair (getSelector 0 255) (getNat 1))
  | 0x0d =>
    getMap (fun (d, c, n) => .readDaySummaries d c n) (getPair (getNat 2) (getPair (getRange 1 1 31) (getNat 1)))
  | 0x0e => getMap (fun (c, n) => .readHistory c n) (getPair (getRange 1 1 64) (getNat 1))
  | 0x20 =>
    getMap (fun (r, w, p, h) => .operatingReport r w p h)
      (getPair (getNat 1) (getPair (getInt 2) (getPair (getInt 2) (getNat 1))))
  | 0x21 => getMap .ceilingAck (getNat 2)
  | 0x30 => getMap (fun (d, s) => .setTime d s) (getPair (getNat 2) (getNat 4))
  | 0x32 => getMap .learnBaseline getLearnTarget
  | 0x33 => getMap .pinThresholds getThresholds
  | 0x34 => getPure .unpinThresholds
  | 0x35 => getMap .planTask getTaskFields
  | 0x36 => getMap .removeTask (getNat 1)
  | 0x37 => getMap (fun (i, d) => .deferTask i d) (getPair (getNat 1) (getNat 1))
  | 0x38 => getMap .overrideBegin (getNat 2)
  | 0x39 => getPure .overrideEnd
  | 0x40 => getMap (fun (t, h) => .presenceBegin t h) (getPair (getNat 2) (getNat 1))
  | 0x41 => getPure .presenceEnd
  | 0x42 =>
    getMap (fun (i, o) => .closeTask i o) (getPair (getNat 1) (getCode [CloseOutcome.done, .replaced]))
  | 0x43 => getMap .lockSnapshot (getRange 1 0 7)
  | 0x44 => getMap .unlockSnapshot (getRange 1 0 7)
  | 0x45 => getPure .restart
  | _ => fun _ => none

/-- The layout judgement of a body (R189 case 3, R198). -/
def parseRequest (kind : Octet) (body : List Octet) : Except Status Request :=
  if kind.toNat = 0x31 then parseWrite body
  else
    match readAll (requestReader kind.toNat) body with
    | none => .error .range
    | some r => .ok r

/-! ## Room in a reply (R190, R197) -/

/-- The octets a reply's content may take: 250 less kind, tag and header (R186, R190). -/
def replyRoom : Port → Nat
  | .cp => 240
  | .fp | .sp => 244

/-- As many whole items as fit in the room. -/
def fitItems (room : Nat) : List (List Octet) → List (List Octet)
  | [] => []
  | x :: xs => if x.length ≤ room then x :: fitItems (room - x.length) xs else []

/-- A collection read (R197): the fields before the items, the items with their count, the items left. -/
def collectionReply (p : Port) (before : List Octet) (skip : Nat) (items : List (List Octet)) : List Octet :=
  let rest := items.drop skip
  let fit := fitItems (replyRoom p - before.length - 2) rest
  before ++ enc1 fit.length ++ fit.flatten ++ enc1 (rest.length - fit.length)

/-- The number of parts of at most 236 octets of a status (R197). -/
def partsOf (status : List Octet) : Nat := ceilDiv status.length 236

/-- One part of a status (R197). -/
def partOf (status : List Octet) (part : Nat) : List Octet := (status.drop (part * 236)).take 236

end Sys2Proof.Machine
end

