-- ==== Sys2Proof/Machine/AfeEvents.lean ====
section
/-! DEFINITION. The events of the AFE (R2, R4 to R8, R13, R14, R17): bias, converter check, completions, aborts, trims. -/

namespace Sys2Proof.Machine

/-- Replaces the state of one accelerometer channel. -/
def setAccel (ch : Accel) (a : AccelState) (s : State) : State :=
  { s with afe := { s.afe with accel := s.afe.accel.set ch a } }

/-! ## Aborts (R17) -/

/-- The abort report to the owner of a buffer (R75, R92, R116). -/
def reportAbort (b : BufferId) (converter : Bool) (s : State) : State :=
  match bufferOwner b with
  | .gvm => gvmAbort b converter s
  | .bim => bimAbort converter s
  | .ghm => ghmAbort b s

/-- An abort of one buffer: only a FILLING capture is reached (R17). -/
def abortBuffer (converter : Bool) (s : State) (b : BufferId) : State :=
  if (bufferOf s b).isFilling then reportAbort b converter (setBuffer b .free s) else s

/-- Whether a FILLING capture is a FIXED one on a channel (R4, R17). -/
def fillsChannel (ch : Accel) : Buffer → Bool
  | .filling r =>
    match r.kind with
    | .fixed c _ _ => c = ch
    | .window => false
  | .free | .full _ | .inAnalysis _ => false

/-- The buffers in the order in which the AFE aborts them (log entry 22). -/
def allBuffers : List BufferId := [.gvmA, .gvmB, .bimA, .ghmA, .ghmB]

/-- The abort of the FIXED captures of a channel (R4). -/
def abortChannel (ch : Accel) (s : State) : State :=
  allBuffers.foldl (fun s b => if fillsChannel ch (bufferOf s b) then abortBuffer false s b else s) s

/-! ## Bias (R4, R5) -/

/-- Whether a bias in millivolts is in range, 2 V and 22 V included (R4). -/
def biasInRange (bias : Int) : Bool := 2000 ≤ bias && bias ≤ 22000

/-- The fault state a bias out of range gives (R4). -/
def biasFaultOf (bias : Int) : ChannelFault := if bias < 2000 then .openCircuit else .shortCircuit

/-- A bias goes low or high (R4). -/
def afeBiasFault (ch : Accel) (bias : Int) (s : State) : State :=
  if biasInRange bias then s
  else abortChannel ch (raise .sensorFault (.accel ch) (setAccel ch { fault := biasFaultOf bias } s))

/-- A bias comes back in range (R5). -/
def afeBiasInRange (ch : Accel) (bias : Int) (s : State) : State :=
  let a := s.afe.accel.get ch
  if biasInRange bias = false ∨ a.fault = .none ∨ a.qualification.isSome then s
  else setAccel ch { a with qualification := some 10 } s

/-- The recovery qualification of a channel expires (R5). -/
def afeRecovery (ch : Accel) (s : State) : State :=
  match (s.afe.accel.get ch).qualification with
  | none | some (_ + 1) => s
  | some 0 => clearAlarm .sensorFault (.accel ch) (setAccel ch {} s)

/-- The first bias evaluation of a channel at the start of operation (R19). -/
def firstBias (bias : PerAccel Int) (s : State) (ch : Accel) : State := afeBiasFault ch (bias.get ch) s

/-! ## The converter check (R6, R7, R8) -/

/-- Whether a check passes (R6). -/
def checkPasses (ch cq : Int) : Bool := 16056 ≤ ch && ch ≤ 16712 && 8028 ≤ cq && cq ≤ 8356

/-- The check values are recorded and the next check is 60 s later (R6). -/
def recordCheck (ch cq : Int) (s : State) : State :=
  { s with afe := { s.afe with latestCheck := some (ch, cq), nextCheck := 60 } }

/-- A failed check is counted; the state is CONVERTER_FAULT (R6). -/
def failCheck (s : State) : State :=
  { s with afe := { s.afe with converterFault := true, failedChecks := inc16 s.afe.failedChecks } }

/-- What a converter check does (R6, R7, R8). DESIGN CHOICE (log entry 55): at a failure in NORMAL the captures are aborted, with
what follows at their owners, before CONVERTER_FAULT is raised with its snapshot. -/
def checkConverter (ch cq : Int) (s : State) : State :=
  let s1 := recordCheck ch cq s
  match s.afe.converterFault, checkPasses ch cq with
  | false, true => s1
  | false, false => raise .converterFault .afe (allBuffers.foldl (abortBuffer true) (failCheck s1))
  | true, false => failCheck s1
  | true, true => clearAlarm .converterFault .afe { s1 with afe := { s1.afe with converterFault := false } }

/-- A converter check takes place 1 s after the start of operation and 60 s after each check (R6), where the count to it has
run out (log entry 12). -/
def afeCheck (ch cq : Int) (s : State) : State := if s.afe.nextCheck = 0 then checkConverter ch cq s else s

/-! ## Completions (R13, R14) -/

/-- The completion report of a FIXED capture to its owner (R13). -/
def reportFixed (b : BufferId) (r : CaptureRecord) (s : State) : State :=
  match bufferOwner b with
  | .gvm => gvmCompletion b r.stored r.kind.decimation s
  | .bim => bimCompletion s
  | .ghm => s

/-- A FIXED capture stores its n-th sample (R12, R13). -/
def afeFixedComplete (b : BufferId) (segments : List (List Int)) (s : State) : State :=
  match bufferOf s b with
  | .filling r =>
    match completeFixed r segments with
    | none => s
    | some r' => reportFixed b r' (setBuffer b (.full r') s)
  | .free | .full _ | .inAnalysis _ => s

/-- A WINDOW capture stores its 1,600th instant (R14). -/
def afeWindowLimit (b : BufferId) (segments : List (List GridInstant)) (s : State) : State :=
  match bufferOf s b with
  | .filling r =>
    if r.kind = .window ∧ (fillWindow r segments).limitReached then
      ghmCompletion b (fillWindow r segments) (setBuffer b (.full (fillWindow r segments)) s)
    else s
  | .free | .full _ | .inAnalysis _ => s

/-! ## Conversions (R1, R12) -/

/-- One conversion instant is copied into every capture that is FILLING; the grid channels are converted at every fourth
instant (R1, R9, R12). -/
def storeConversion (c : Conversion) (s : State) : State :=
  { s with
    afe :=
      { s.afe with
        buffers := s.afe.buffers.map (Buffer.convert s.cfg.trims (s.afe.sinceGrid = 0) c)
        sinceGrid := (s.afe.sinceGrid + 1) % 4 } }

/-- A capture completes if the last sample it needs has been stored (R13, R14). -/
def completeIfStored (s : State) (b : BufferId) : State := afeWindowLimit b [] (afeFixedComplete b [] s)

/-- One conversion instant of the external channels: sampling goes on from the start of operation (R1), and the captures
whose last sample it stores complete, in the order of the buffers (log entry 5). -/
def afeConvert (c : Conversion) (s : State) : State :=
  if s.ret.operating then rechecked s (allBuffers.foldl completeIfStored (storeConversion c s)) else s

/-! ## Offset trims (R2, R3) -/

/-- Whether a value may be a trim (R2). -/
def trimOk (v : Int) : Bool := v % 2 = 0 && -254 ≤ v && v ≤ 254

/-- A trim put in force; captures that are FILLING on its channel go on under it (R2, R3). -/
def applyTrim (index : Fin 11) (v : Int) (s : State) : State :=
  let trims := s.cfg.trims.set index v
  { s with
    cfg := { s.cfg with trims := trims }
    afe := { s.afe with buffers := s.afe.buffers.map (noteTrim trims index) } }

/-- WRITE_CONFIG of an offset trim (R2). -/
def afeWriteTrim (index : Nat) (v : Int) (s : State) : State × Answer :=
  if h : index < 11 then
    if !trimOk v then (s, { status := .range })
    else if s.cfg.trims[index] = v then (s, { status := .ok })
    else (applyTrim ⟨index, h⟩ v s, { status := .ok })
  else (s, { status := .unknownItem })

end Sys2Proof.Machine
end

