-- ==== Sys2Proof/Machine/Ccu.lean ====
section
/-! DEFINITION. The Condition and Ceiling Unit's requests and timers (R135 to R137, R139, R140, R145, R148, R149). -/

namespace Sys2Proof.Machine

/-- Updates the counters of the CCU (R149). -/
def countCcu (f : CcuCounters → CcuCounters) (s : State) : State :=
  { s with ccu := { s.ccu with counters := f s.ccu.counters } }

/-! ## The operating record (R135, R136, R137) -/

/-- The regime of a report's code (R199). -/
def regimeOfCode : Nat → Option Regime
  | 0 => some .parked
  | 1 => some .idling
  | 2 => some .producing
  | 3 => some .stopping
  | _ => none

/-- The heater state of a report's code (R199). -/
def heaterOfCode : Nat → Option Heater
  | 0 => some .off
  | 1 => some .on
  | _ => none

/-- The clamped wind speed (R135). -/
def clampWind (w : Int) : Int := clampInt 0 500 w

/-- The clamped active power (R135). -/
def clampPower (p : Int) : Int := clampInt (-100) 1200 p

/-- The operating record after an accepted report (R135, R136). -/
def reportedRecord (now : Option Timestamp) (regime : Regime) (wind power : Int) (heater : Heater)
    (op : OperatingRecord) : OperatingRecord :=
  { regime := regime
    wind := some (clampWind wind)
    power := some (clampPower power)
    heater := some heater
    reportTime := now
    clamped := clampWind wind ≠ wind || clampPower power ≠ power
    changes := if op.regime = regime then op.changes else next16 op.changes }

/-- The count of an accepted report (R135). -/
def countReport (clamped : Bool) (c : CcuCounters) : CcuCounters :=
  { c with accepted := inc16 c.accepted, clamped := if clamped then inc16 c.clamped else c.clamped }

/-- The record, the freshness timer and the counters after an accepted report (R135, R137). -/
def updateRecord (regime : Regime) (wind power : Int) (heater : Heater) (s : State) : State :=
  let op := reportedRecord s.cal regime wind power heater s.ccu.op
  { s with ccu :=
    { s.ccu with
      op := op
      sinceReport := some 0
      freshness := some s.cfg.reportTimeout
      counters := countReport op.clamped s.ccu.counters } }

/-- The readers of an accepted report (R136): the heater state, then a regime change into PARKED. -/
def handReport (old new : Regime) (heater : Heater) (s : State) : State :=
  let s1 := bimHeater heater s
  if new = .parked ∧ old ≠ .parked then bimParked s1 else s1

/-- An accepted report (R135, R136, R137). -/
def acceptReport (regime : Regime) (wind power : Int) (heater : Heater) (s : State) : State :=
  handReport s.ccu.op.regime regime heater
    (clearAlarm .controllerSilent .ccu (updateRecord regime wind power heater s))

/-- OPERATING_REPORT (R135). -/
def ccuReport (regime : Nat) (wind power : Int) (heater : Nat) (s : State) : State × Answer :=
  match regimeOfCode regime, heaterOfCode heater with
  | some r, some h => (acceptReport r wind power h s, { status := .ok })
  | _, _ => (countCcu (fun c => { c with refused := inc16 c.refused }) s, { status := .range })

/-- The record after the freshness timer expires (R137). -/
def OperatingRecord.silent (op : OperatingRecord) : OperatingRecord :=
  if op.regime = .unknown then op else { op with regime := .unknown, changes := next16 op.changes }

/-- An expiry of the freshness timer (R137): the timer expires where its count has run out, so an expiry that comes behind
the report that restarted it does nothing (log entry 12). -/
def ccuFreshness (s : State) : State :=
  match s.ccu.freshness with
  | none | some (_ + 1) => s
  | some 0 =>
    countCcu (fun c => { c with silences := inc16 c.silences })
      (raise .controllerSilent .ccu { s with ccu := { s.ccu with op := s.ccu.op.silent, freshness := none } })

/-! ## The acknowledgement of the ceiling (R139, R140) -/

/-- CEILING_ACK (R139). -/
def ccuCeilingAck (number : Nat) (s : State) : State × Answer :=
  if number ≠ s.mon.ceilingSeq then (s, { status := .stale })
  else if s.ccu.acknowledged then (s, { status := .ok })
  else
    (clearAlarm .ceilingUnheeded .ccu { s with ccu := { s.ccu with acknowledged := true, ackTimer := none } },
      { status := .ok })

/-- An expiry of the acknowledge timer (R140), where its count has run out (log entry 12). -/
def ccuAckExpiry (s : State) : State :=
  match s.ccu.ackTimer with
  | none | some (_ + 1) => s
  | some 0 =>
    countCcu (fun c => { c with unheeded := inc16 c.unheeded })
      (raise .ceilingUnheeded .ccu { s with ccu := { s.ccu with ackTimer := none } })

/-! ## ACK_ALARM (R145) -/

/-- One entry of an acknowledgement of all: the counts acknowledged and removed, and the state (R145). -/
def acknowledgeNext (p : Port) (acc : Nat × Nat × State) (e : AlarmEntry) : Nat × Nat × State :=
  let r := acknowledge p e acc.2.2
  (acc.1 + r.1.toNat, acc.2.1 + r.2.1.toNat, r.2.2)

/-- ACK_ALARM (R145). -/
def ccuAckAlarm (p : Port) (target : AckTarget) (s : State) : State × Answer :=
  match target with
  | .all =>
    let r := s.ccu.alarms.foldl (acknowledgeNext p) (0, 0, s)
    (r.2.2, { status := .ok, content := encNat 1 r.1 ++ encNat 1 r.2.1 })
  | .one code source =>
    match findAlarm code source s with
    | none => (s, { status := .unknownItem })
    | some e => ((acknowledge p e s).2.2, { status := .ok })

/-! ## Snapshot locks (R148) -/

/-- The number of locked slots. -/
def lockedSlots (slots : Vector (Option SnapshotSlot) 8) : Nat :=
  (slots.toList.filter fun x => (x.map (·.locked)).getD false).length

/-- Writes the lock mark of a slot. -/
def writeLock (slot : Fin 8) (c : SnapshotSlot) (locked : Bool) (s : State) : State :=
  { s with records := { s.records with slots := s.records.slots.set slot (some { c with locked := locked }) } }

/-- LOCK_SNAPSHOT (R148); the reply names the snapshot locked (R196). DESIGN CHOICE (log entry 65): a slot number above 7 is
answered RANGE. -/
def ccuLock (slot : Nat) (s : State) : State × Answer :=
  if h : slot < 8 then
    match s.records.slots[slot] with
    | none => (s, { status := .unknownItem })
    | some c =>
      if c.locked then (s, { status := .ok, content := encNat 2 c.record.number })
      else if 6 ≤ lockedSlots s.records.slots then (s, { status := .full })
      else (writeLock ⟨slot, h⟩ c true s, { status := .ok, content := encNat 2 c.record.number })
  else (s, { status := .range })

/-- UNLOCK_SNAPSHOT (R148). DESIGN CHOICE (log entry 65): a slot number above 7 is answered RANGE. -/
def ccuUnlock (slot : Nat) (s : State) : State × Answer :=
  if h : slot < 8 then
    match s.records.slots[slot] with
    | none => (s, { status := .unknownItem })
    | some c => if c.locked then (writeLock ⟨slot, h⟩ c false s, { status := .ok }) else (s, { status := .state })
  else (s, { status := .range })

/-! ## Configuration (R149) -/

/-- WRITE_CONFIG of a CCU item (R149). -/
def ccuWrite (item : CcuItem) (s : State) : State × Answer :=
  match item with
  | .reportTimeout v =>
    if 2 ≤ v ∧ v ≤ 60 then ({ s with cfg := { s.cfg with reportTimeout := v } }, { status := .ok })
    else (s, { status := .range })
  | .snapshotThreshold v =>
    if 1 ≤ v ∧ v ≤ 3 then ({ s with cfg := { s.cfg with snapshotThreshold := v } }, { status := .ok })
    else (s, { status := .range })

end Sys2Proof.Machine
end

