-- ==== Sys2Proof/Machine/Rch.lean ====
section
/-! DEFINITION. The Resistance Channels (chapter 3): the conversion sequence, results, records, configuration. -/

namespace Sys2Proof.Machine

/-- Replaces the state of one temperature channel. -/
def setSensor (t : Temp) (x : SensorState) (s : State) : State :=
  { s with rch := { s.rch with sensor := s.rch.sensor.set t x } }

/-- The next channel of the conversion sequence (R33). -/
def SeqPos.next : SeqPos → SeqPos
  | .ref => .sensor .s0
  | .sensor .s0 => .sensor .s1
  | .sensor .s1 => .sensor .s2
  | .sensor .s2 => .sensor .s3
  | .sensor .s3 => .ref

/-- A GOOD record becomes STALE with its value, flag and age kept (R35, R41). -/
def TempRecord.hold (r : TempRecord) : TempRecord := if r.status = .good then { r with status := .stale } else r

/-! ## The reference (R34, R35) -/

/-- Whether a reference count is in window (R34). -/
def refInWindow (cfg : RchConfig) (c : Nat) : Bool := cfg.windowLow ≤ c && c ≤ cfg.windowHigh

/-- The entry effects of REF_FAULT on the records (R35). -/
def holdRecords (s : State) : State :=
  { s with rch := { s.rch with sensor := s.rch.sensor.map fun x => { x with record := x.record.hold } } }

/-- A reference result (R34). -/
def refResult (c : Nat) (s : State) : State :=
  let s1 := { s with rch := { s.rch with rawRef := some c } }
  match s.rch.refFault, refInWindow s.cfg.rch c with
  | false, true => { s1 with rch := { s1.rch with cRef := some c } }
  | false, false => holdRecords (raise .tempRefFault .rch { s1 with rch := { s1.rch with refFault := true } })
  | true, false => s1
  | true, true => clearAlarm .tempRefFault .rch { s1 with rch := { s1.rch with cRef := some c, refFault := false } }

/-! ## Sensor results (R36 to R39) -/

/-- The classes of a sensor result (R36). -/
inductive SensorClass where
  | openResult | shortResult | good
  deriving DecidableEq, Repr

/-- The classification of a count (R36). -/
def classifyCount (cRef c : Nat) : SensorClass :=
  if c < 50 then .openResult else if 20 * cRef < c then .shortResult else .good

/-- The channel fault state after a result (R37). -/
def SensorClass.fault : SensorClass → ChannelFault
  | .openResult => .openCircuit
  | .shortResult => .shortCircuit
  | .good => .none

/-- The alarm action of a change of the channel fault state (R37). -/
def sensorAlarms (t : Temp) (old new : ChannelFault) (s : State) : State :=
  match old, new with
  | .none, .openCircuit => raise .tempOpen (.temp t) s
  | .none, .shortCircuit => raise .tempShort (.temp t) s
  | .openCircuit, .shortCircuit => raise .tempShort (.temp t) (clearAlarm .tempOpen (.temp t) s)
  | .openCircuit, .none => clearAlarm .tempOpen (.temp t) s
  | .shortCircuit, .openCircuit => raise .tempOpen (.temp t) (clearAlarm .tempShort (.temp t) s)
  | .shortCircuit, .none => clearAlarm .tempShort (.temp t) s
  | .none, .none | .openCircuit, .openCircuit | .shortCircuit, .shortCircuit => s

/-- The resistance of a good result (R38). -/
def resistanceOf (rRef cRef c : Nat) : Nat := sat32 (rRef * cRef / c)

/-- The interpolation between two points (R39). -/
def interpolate (p q : Nat × Int) (r : Nat) : Int :=
  p.2 + Int.fdiv (((r : Int) - p.1) * (q.2 - p.2)) ((q.1 : Int) - p.1)

/-- The temperature at or above the first point, by the pair of points that encloses it (R39). -/
def temperatureIn (r : Nat) : List (Nat × Int) → Int × Bool
  | p :: q :: rest => if r < q.1 then (interpolate p q r, false) else temperatureIn r (q :: rest)
  | [p] => (p.2, p.1 < r)
  | [] => (0, false)

/-- The temperature and the out-of-table flag of a resistance (R39). -/
def temperatureOf (table : Vector (Nat × Int) 8) (r : Nat) : Int × Bool :=
  if r < table[0].1 then (table[0].2, true) else temperatureIn r table.toList

/-- The channel after a good result (R38, R39, R41). -/
def goodResult (cfg : RchConfig) (t : Temp) (cRef c : Nat) (x : SensorState) : SensorState :=
  let r := resistanceOf cfg.refResistance cRef c
  let v := temperatureOf (cfg.table.get t) r
  { x with
    fault := .none
    record := { value := some v.1, status := .good, outOfTable := v.2, age := some 0 }
    lastResistance := some r }

/-- The channel after an evaluated result (R37, R41). -/
def evaluatedResult (cfg : RchConfig) (t : Temp) (cRef c : Nat) (x : SensorState) : SensorState :=
  match classifyCount cRef c with
  | .good => goodResult cfg t cRef c x
  | .openResult => { x with fault := .openCircuit, record := x.record.hold }
  | .shortResult => { x with fault := .shortCircuit, record := x.record.hold }

/-- A sensor result taken while REF_FAULT is clear (R36, R37). -/
def evaluateSensor (t : Temp) (c : Nat) (s : State) : State :=
  let old := s.rch.sensor.get t
  let new := evaluatedResult s.cfg.rch t (s.rch.cRef.getD 0) c old
  sensorAlarms t old.fault new.fault (setSensor t new s)

/-- A sensor result (R35, R36) with its temperature event (R42). -/
def sensorResult (t : Temp) (c : Nat) (s : State) : State :=
  let s1 := setSensor t { s.rch.sensor.get t with rawCount := some c } s
  temperatureEvent t (if s1.rch.refFault then s1 else evaluateSensor t c s1)

/-- The end of a gate (R33): the count, saturated, is the result of the channel in turn. -/
def rchGateEnd (count : Nat) (s : State) : State :=
  let c := min count 16777215
  let s1 := { s with rch := { s.rch with pos := s.rch.pos.next } }
  match s.rch.pos with
  | .ref => refResult c s1
  | .sensor t => sensorResult t c s1

/-- A further second of operation of a record (R41). -/
def TempRecord.older (r : TempRecord) : TempRecord :=
  match r.value with
  | none => r
  | some _ => { r with age := r.age.map inc16 }

/-- The ages of the four records after a second of operation (R41). DESIGN CHOICE (log entry 59): one second, common to the
part, ages every record, whenever its last good result came. -/
def ageRecords (s : State) : State :=
  { s with rch := { s.rch with sensor := s.rch.sensor.map fun x => { x with record := x.record.older } } }

/-! ## Configuration (R40) -/

/-- Whether the resistances of a table rise strictly (R40). -/
def strictlyRising : List (Nat × Int) → Bool
  | p :: q :: rest => p.1 < q.1 && strictlyRising (q :: rest)
  | _ => true

/-- The check of a conversion table (R40). -/
def tableOk (t : Vector (Nat × Int) 8) : Bool :=
  (t.toList.all fun p => 1 ≤ p.1 && p.1 ≤ max32 && -600 ≤ p.2 && p.2 ≤ 2000) && strictlyRising t.toList

/-- Replaces the RCH items of CONFIG. -/
def withRchConfig (f : RchConfig → RchConfig) (s : State) : State :=
  { s with cfg := { s.cfg with rch := f s.cfg.rch } }

/-- WRITE_CONFIG of an RCH item (R40). -/
def rchWrite (item : RchItem) (s : State) : State × Answer :=
  match item with
  | .refResistance v =>
    if 1000 ≤ v ∧ v ≤ 10000000 then (withRchConfig (fun c => { c with refResistance := v }) s, { status := .ok })
    else (s, { status := .range })
  | .refWindow low high =>
    if 100 ≤ low ∧ low < high ∧ high ≤ 16777215 then
      (withRchConfig (fun c => { c with windowLow := low, windowHigh := high }) s, { status := .ok })
    else (s, { status := .range })
  | .table t points =>
    if tableOk points then (withRchConfig (fun c => { c with table := c.table.set t points }) s, { status := .ok })
    else (s, { status := .range })
  | .srefTable => (s, { status := .unknownItem })

end Sys2Proof.Machine
end

