-- ==== Sys2Proof/Machine/Clock.lean ====
section
/-! DEFINITION. Time: the second of operation, the battery clock, interval ends, the day rollover, SET_TIME and the
technician presence (R41, R152 to R158, R162). -/

namespace Sys2Proof.Machine

/-! ## A second of operation -/

/-- A planned end after a second of operation (R99, R158). -/
def PlannedEnd.second : PlannedEnd → PlannedEnd
  | .seconds n => .seconds (n - 1)
  | .boundary t => .boundary t

/-- An accelerometer channel's qualification after a second of operation (R5). -/
def AccelState.second (a : AccelState) : AccelState := { a with qualification := countDown a.qualification }

/-- A pulse input's elapsed ticks, one second nearer to its stall limit (R24). -/
def PulseState.second (x : PulseState) : PulseState := { x with stallIn := x.stallIn - 1 }

/-- The presence after a second of operation (R155). -/
def Presence.second (p : Presence) : Presence := { p with left := p.left - 1 }

/-- Every running timer of the part after a second of operation (log entry 12). -/
def countTimers (s : State) : State :=
  { s with
    afe := { s.afe with nextCheck := s.afe.nextCheck - 1, accel := s.afe.accel.map AccelState.second }
    ptu := { s.ptu with chan := s.ptu.chan.map PulseState.second }
    gvm := { s.gvm with periodTimer := countDown s.gvm.periodTimer }
    bim := { s.bim with stepTimer := countDown s.bim.stepTimer, override := countDown s.bim.override }
    ccu :=
      { s.ccu with
        freshness := countDown s.ccu.freshness
        ackTimer := countDown s.ccu.ackTimer
        sinceReport := s.ccu.sinceReport.map (· + 1) }
    ghm := { s.ghm with interval := { s.ghm.interval with planned := s.ghm.interval.planned.second } }
    mpl := { s.mpl with presence := s.mpl.presence.map Presence.second }
    plan := { s.plan with interval := { s.plan.interval with planned := s.plan.interval.planned.second } } }

/-- A second of operation (R158, R41, R157): accounting, ages, timers, and the grade-2 durations. DESIGN CHOICE (log entry
59): the ages grow before a duration that reaches 86,400 acts. DESIGN CHOICE (log entry 75): components that reach it in the
same second are treated in order of index. -/
def operationSecond (s : State) : State :=
  (List.finRange 16).foldl growDuration (countTimers (ageRecords (producingSecond s)))

/-! ## The calendar (R152) -/

/-- The reading a second later; it stays at its last value (R152). -/
def nextReading (t : Timestamp) : Timestamp :=
  if t.sec < 86399 then ⟨t.day, t.sec + 1⟩ else if t.day < 65535 then ⟨t.day + 1, 0⟩ else t

/-- A second of the battery clock (R152): the calendar runs on main power or on a battery that retains (R178). A calendar
whose check word mismatches is still one when its reading goes on (log entry 11). -/
def batterySecond (s : State) : State :=
  if s.ret.powered || s.ret.retention then
    { s with cal := s.cal.map nextReading }
  else s

/-- Whether a planned end has been reached at a reading (R99, R158). -/
def endReached (now : Timestamp) : PlannedEnd → Bool
  | .boundary b => !now.before b
  | .seconds _ => false

/-- Whether a planned end counted in seconds of operation is reached: its count has run out (log entry 12). -/
def secondsDone : PlannedEnd → Bool
  | .boundary _ => false
  | .seconds n => n = 0

/-- The MPL's part of a ten-minute boundary (R152, R160). -/
def mplBoundary (now : Timestamp) (s : State) : State :=
  if endReached now s.plan.interval.planned then endInterval s else s

/-- The GHM's part of a ten-minute boundary (R100). -/
def ghmBoundary (now : Timestamp) (s : State) : State :=
  if endReached now s.ghm.interval.planned then ghmIntervalEnd s else s

/-- The step of the calendar to second 0 of a day after the first is the rollover from the day before (R152, R162). -/
def rolloverAt (now : Timestamp) (s : State) : State :=
  match now.day, now.sec with
  | day + 1, 0 => dayRollover day s
  | _, _ => s

/-- A ten-minute boundary of the calendar (R152): the accounting interval, the grid interval, then the rollover. DEDUCED (log
entry 61): the boundary at second 0 is a rollover where the accounting interval ends with it. -/
def tenMinuteBoundary (s : State) : State :=
  match s.cal with
  | none => s
  | some now =>
    if now.sec % 600 = 0 then
      let s1 := ghmBoundary now (mplBoundary now s)
      if endReached now s.plan.interval.planned then rolloverAt now s1 else s1
    else s

/-- The planned end of an unaligned grid interval (R99, R100). -/
def ghmUnalignedEnd (s : State) : State := if secondsDone s.ghm.interval.planned then ghmIntervalEnd s else s

/-- The planned end of an undated accounting interval (R158, R160). -/
def mplUndatedEnd (s : State) : State := if secondsDone s.plan.interval.planned then endInterval s else s

/-- SET_TIME (R153, R154, R106). -/
def setTime (p : Port) (day sec : Nat) (s : State) : State × Answer :=
  if setTimeOk p day sec s then (ghmTimeSet ⟨day, sec⟩ (setCalendar ⟨day, sec⟩ s), { status := .ok })
  else (s, { status := .range })

/-! ## Presence (R155) -/

/-- PRESENCE_BEGIN (R155): an override in force ends (R130). -/
def presenceBegin (technician hours : Nat) (s : State) : State × Answer :=
  if 1 ≤ technician ∧ technician ≤ 9999 ∧ 1 ≤ hours then
    (endOverride { s with mpl := { s.mpl with presence := some ⟨technician, min hours 12 * 3600⟩ } },
      { status := .ok, content := encNat 1 (min hours 12) })
  else (s, { status := .range })

/-- A presence whose end time has not been reached; none after it (R155). -/
def Presence.remaining (p : Presence) : Option Presence := if p.left = 0 then none else some p

/-- The end time of the presence is reached (R155), where its count has run out (log entry 12). -/
def presenceExpiry (s : State) : State :=
  { s with mpl := { s.mpl with presence := s.mpl.presence.bind Presence.remaining } }

end Sys2Proof.Machine
end

