-- ==== Sys2Proof/Machine/Ret.lean ====
section
/-! DEFINITION. The Retained Memory, the supply and the reset input, and the start sequence (chapter 10). -/

namespace Sys2Proof.Machine

/-! ## Validation and defaults (R179) -/

/-- The five sections in the order of R177. -/
def allSections : List RetSection := [.config, .monitor, .plan, .records, .calendar]

/-- The check word of a section. -/
def CheckWords.of (w : CheckWords) : RetSection → Bool
  | .config => w.config
  | .monitor => w.monitor
  | .plan => w.plan
  | .records => w.records
  | .calendar => w.calendar

/-- The sections that fail at a power-on (R179): those damaged while main power was absent and those whose check word does
not match, or all of them when the retention indication is clear (R178). DESIGN CHOICE (log entry 57): a damaged section
holds, until it takes its defaults, the contents it had before the damage. -/
def failedSections (corrupt : List RetSection) (s : State) : List RetSection :=
  if s.ret.retention then allSections.filter fun x => corrupt.contains x || !s.check.of x else allSections

/-- The check words of the given sections do not match the contents the sections hold; those of all others match. -/
def mismatching (failed : List RetSection) : CheckWords :=
  { config := !failed.contains .config
    monitor := !failed.contains .monitor
    plan := !failed.contains .plan
    records := !failed.contains .records
    calendar := !failed.contains .calendar }

/-- Records which sections' check words do not match. -/
def withMismatch (failed : List RetSection) (s : State) : State := { s with check := mismatching failed }

/-- The defaults of MONITOR (R134, R179): the active set is loaded from the HEATER_OFF profile. -/
def monitorDefault (cfg : ConfigSection) : MonitorSection := { icing := { active := cfg.bim.heaterOff } }

/-- The defaults of PLAN (R175, R179): the counting-since days are today, or none. -/
def planDefault (day : Option Nat) : PlanSection := { wear := Vector.replicate 16 { countingSince := day } }

/-- The sections named take their defaults (R179). CALENDAR and CONFIG come first, because the defaults of PLAN and MONITOR
read them. DESIGN CHOICE (log entry 77): where one of the two is not named, they read it as it stands, failed or not. -/
def takeDefaults (failed : List RetSection) (s : State) : State :=
  let s1 := if failed.contains .calendar then { s with cal := none } else s
  let s2 := if failed.contains .config then { s1 with cfg := {} } else s1
  let s3 := if failed.contains .monitor then { s2 with mon := monitorDefault s2.cfg } else s2
  let s4 := if failed.contains .plan then { s3 with plan := planDefault (today s3) } else s3
  if failed.contains .records then { s4 with records := {} } else s4

/-- Stage 1 of a power-on as far as the sections of `done`: those among the failed ones take their defaults with new matching
check words, the words of the other failed ones still mismatch (R179, R183, log entry 57). DESIGN CHOICE (log entry 77): PLAN and
MONITOR may take theirs while a failed CALENDAR or CONFIG still holds its old contents, and then read those. -/
def validatePart (failed done : List RetSection) (s : State) : State :=
  withMismatch (failed.filter fun x => !done.contains x) (takeDefaults (failed.filter fun x => done.contains x) s)

/-- Stage 1 of a start (R179, R180): the whole validation at a power-on; at a reset-line start or a service restart no
section is validated and every check word stays. -/
def validate (cause : StartCause) (failed : List RetSection) (s : State) : State :=
  match cause with
  | .powerOn | .powerOnLost => validatePart failed failed s
  | .resetLine | .serviceRestart => s

/-! ## Volatile start values (R180 stage 2) -/

/-- A port at a start: the strapped rate stays (R200). -/
def portStart (p : PortState) : PortState := { rate := p.rate }

/-- Every block at its volatile start values (R19, R32, R44, R65, R86, R110, R133, R151, R175, R200). -/
def volatileStart (s : State) : State :=
  { s with
    afe := {}
    ptu := ptuStart s.cfg
    rch := {}
    spe := {}
    gvm := gvmVolatile s.cfg
    ghm := ghmVolatile s
    bim := bimVolatile s.cfg
    ccu := {}
    mpl := {}
    ret := { s.ret with operating := false, restartAccepted := false, startRecord := none }
    lnk := s.lnk.map portStart }

/-- The planned end of the accounting interval is set afresh (R175). -/
def freshPlannedEnd (s : State) : State :=
  { s with plan := { s.plan with interval := { s.plan.interval with planned := plannedEndFrom s.cal } } }

/-! ## Restoration (R150) -/

/-- The alarms a task's state implies (R176 step 5). -/
def restoreTask (s : State) (t : Task) : State :=
  match t.state with
  | .planned => s
  | .due => raiseWith false .taskDue (.task t.id) s
  | .overdue => raiseWith false .taskOverdue (.task t.id) s

/-- The alarms a band's grade implies (R87, R150). -/
def restoreBand (s : State) (b : Fin 24) : State :=
  if s.mon.bands[b].grade = 1 then raiseWith false .bandAlert (.band b.val) s
  else if s.mon.bands[b].grade = 2 then raiseWith false .bandAlarm (.band b.val) s
  else s

/-- The alarm the current grade implies (R111). -/
def restoreCurrent (s : State) : State :=
  if s.mon.currentGrade = 1 then raiseWith false .gridCurrentAlert .ghm s
  else if s.mon.currentGrade = 2 then raiseWith false .gridCurrentAlarm .ghm s
  else s

/-- The alarm the icing state implies (R134). -/
def restoreIcing (s : State) : State :=
  match s.mon.icing.state with
  | .clear => s
  | .suspect => raiseWith false .iceSuspect .bim s
  | .iced | .shedding => raiseWith false .iceDetected .bim s

/-- The alarm of components left waiting (R176). -/
def restoreWaiting (s : State) : State :=
  if s.mpl.waiting.any id then raiseWith false .taskTableFull .mpl s else s

/-- The alarms of the task at a place of the table (R176 step 5). -/
def restorePlace (i : Nat) (s : State) : State :=
  match s.plan.tasks[i]? with
  | none => s
  | some t => restoreTask s t

/-- RETAINED_LOST is raised if any section failed (R182). -/
def restoreLost (failed : List RetSection) (s : State) : State :=
  if failed = [] then s else raiseWith false .retainedLost .ret s

/-- The ceiling is computed and published with its number (R150 step 3). -/
def restoreCeiling (s : State) : State := publishCeiling (leastContribution s.ccu.contributions) s

/-- Stage 5: the restoration, alarm by alarm, and the ceiling (R150). -/
def restoration (failed : List RetSection) : List (State → State) :=
  [restoreLost failed] ++ (List.finRange 24).map (fun b s => restoreBand s b) ++ [restoreCurrent, restoreIcing] ++
    (List.range 32).map restorePlace ++ [restoreWaiting, restoreCeiling]

/-! ## The start sequence (R180) -/

/-- What a start is made with: its cause, the sections that failed and the biases it finds. -/
structure Start where
  cause : StartCause
  failed : List RetSection
  bias : PerAccel Int
  deriving DecidableEq, Repr

/-- Stage 6: the start record and the START notice (R181). -/
def formRecord (st : Start) (s : State) : State :=
  let r : StartRecord := { cause := st.cause, lost := st.failed, time := s.cal }
  setNotice .start { s with ret := { s.ret with startRecord := some r } }

/-- The part operates, the freshness timer runs and the attention lines follow their sets (R137, R180 stage 7). -/
def beginOperation (s : State) : State :=
  refreshLines
    { s with
      ret := { s.ret with operating := true }
      ccu := { s.ccu with freshness := some s.cfg.reportTimeout } }

/-- Stage 7: the start of operation with the first bias evaluation (R19, R180). DESIGN CHOICE (log entry 47): the five
evaluations are taken in the order G1, G2, G3, G4, N1. -/
def startOperation (st : Start) : List (State → State) :=
  [beginOperation] ++ [Accel.g1, .g2, .g3, .g4, .n1].map (fun ch s => firstBias st.bias s ch)

/-- The seven stages of a start with the actions of each, in order (R180). -/
def startStages (st : Start) : List (List (State → State)) :=
  [[validate st.cause st.failed], [volatileStart, freshPlannedEnd], [gvmAdjust],
    [gvmStartPosts, ghmStartPosts, bimStartPosts] ++ mplStart, restoration st.failed, [formRecord st], startOperation st]

/-- Actions taken one after the other. -/
def takeActions (l : List (State → State)) (s : State) : State := l.foldl (fun s f => f s) s

/-- The part is held without activity (R178, R183): no operation, all work gone, every attention line deasserted. -/
def holdPart (s : State) : State := volatileStart { s with ret := { s.ret with operating := false } }

/-- The reset input is asserted (R183). -/
def assertReset (s : State) : State := holdPart { s with ret := { s.ret with resetAsserted := true } }

/-- Main power is gone (R178): the part is held, and a battery that fell before is seen now. DESIGN CHOICE (log entry 48): a
power-on that still waited for the release of the reset input is forgotten as a start, and its failed sections are
remembered by their check words. -/
def losePower (s : State) : State :=
  holdPart
    { s with
      ret :=
        { s.ret with
          powered := false
          retention := s.ret.retention && !s.ret.batteryFell
          batteryFell := false
          powerOnDue := none } }

/-- The retained sections with those of `made` as another state holds them: items in different sections are updated
separately, and each update is made whole or not at all (R177). -/
def withSections (made : List RetSection) (after s : State) : State :=
  { s with
    cfg := if made.contains .config then after.cfg else s.cfg
    mon := if made.contains .monitor then after.mon else s.mon
    plan := if made.contains .plan then after.plan else s.plan
    records := if made.contains .records then after.records else s.records
    cal := if made.contains .calendar then after.cal else s.cal }

/-- A stage 1 cut short: the defaults already written stay written (R183). -/
def partialStage1 (st : Start) (done : List RetSection) (s : State) : State :=
  match st.cause with
  | .powerOn | .powerOnLost => validatePart st.failed done s
  | .resetLine | .serviceRestart => s

/-- A later stage cut short: the actions complete by then, and of the one under way the sections updated (R177). -/
def partialStage (stage : List (State → State)) (input : StartInput) (s : State) : State :=
  let s1 := takeActions (stage.take input.moments) s
  match stage[input.moments]? with
  | none => s1
  | some f => withSections input.updated (f s1) s1

/-- As much of a start as was done when it was cut short after `k` whole stages (R177, R180, R183). -/
def partialStart (st : Start) (k : Nat) (input : StartInput) (s : State) : State :=
  if k = 0 then partialStage1 st input.updated s
  else partialStage ((startStages st).getD k []) input (takeActions ((startStages st).take k).flatten s)

/-- A start (R180), or as much of it as was done when the reset input was asserted or main power was lost (R177, R183). -/
def runStart (st : Start) (input : StartInput) (s : State) : State :=
  match input.abandonedAfter with
  | none => takeActions (startStages st).flatten s
  | some k => (if input.powerLost then losePower else assertReset) (partialStart st k input s)

/-- The start a power-on makes (R179, R181). -/
def powerOnStart (failed : List RetSection) (bias : PerAccel Int) : Start :=
  { cause := if failed = [] then .powerOn else .powerOnLost, failed := failed, bias := bias }

/-! ## Supply and reset (R178, R179, R183, R184) -/

/-- The strapped rates are read (section 11.9). -/
def readStraps (straps : PerPort (BitVec 2)) (s : State) : State :=
  { s with lnk :=
    ⟨{ s.lnk.cp with rate := straps.cp }, { s.lnk.fp with rate := straps.fp }, { s.lnk.sp with rate := straps.sp }⟩ }

/-- Main power is present: the retention indication is set (R178). -/
def applyPower (due : Option (List RetSection)) (s : State) : State :=
  { s with ret := { s.ret with powered := true, retention := true, powerOnDue := due } }

/-- POWER_ON (R179); under an asserted reset input the start waits for the release (log entry 9). -/
def retPowerOn (corrupt : List RetSection) (straps : PerPort (BitVec 2)) (start : StartInput) (s : State) : State :=
  if s.ret.powered then s
  else
    let failed := failedSections corrupt s
    let s1 := readStraps straps s
    if s.ret.resetAsserted then withMismatch failed (applyPower (some failed) s1)
    else runStart (powerOnStart failed start.bias) start (applyPower none s1)

/-- BATTERY_RETENTION_LOSS (R178): while main power is present it has no effect on the region or on the indication, and is
seen at the next loss of power (log entry 49). -/
def retRetentionLoss (s : State) : State :=
  if s.ret.powered then { s with ret := { s.ret with batteryFell := true } }
  else { s with ret := { s.ret with retention := false } }

/-- The start at the release of the reset input (R183). -/
def releaseStart (bias : PerAccel Int) (s : State) : Start :=
  match s.ret.powerOnDue with
  | some failed => powerOnStart failed bias
  | none => { cause := .resetLine, failed := [], bias := bias }

/-- RESET_RELEASE (R183). -/
def retResetRelease (start : StartInput) (s : State) : State :=
  if s.ret.resetAsserted then
    if s.ret.powered then
      runStart (releaseStart start.bias s) start
        { s with ret := { s.ret with resetAsserted := false, powerOnDue := none } }
    else { s with ret := { s.ret with resetAsserted := false } }
  else s

/-- SERVICE_RESTART_START (R184): after an accepted RESTART whose reply has been sent in full. -/
def retServiceRestart (start : StartInput) (s : State) : State :=
  if s.ret.operating ∧ s.ret.restartAccepted ∧ s.lnk.sp.inWork = none then
    runStart { cause := .serviceRestart, failed := [], bias := start.bias } start s
  else s

/-- RESTART (R184). -/
def retRestart (s : State) : State × Answer :=
  ({ s with ret := { s.ret with restartAccepted := true } }, { status := .ok })

end Sys2Proof.Machine
end

