-- ==== Sys2Proof/Machine/Lnk.lean ====
section
/-! DEFINITION. The Link Ports (chapter 11): receivers, frames, the holding, taking and answering requests, reads. -/

namespace Sys2Proof.Machine

/-! ## Reads (R141, R149, R174, R192, R197, R198) -/

/-- The items a selector names among numbered items. -/
def selectItems {α : Type} (items : List α) : Selector → List α
  | .all => items
  | .one i => (items[i]?).toList

/-- The reply to a part of a status (R197): the fields before it, the part number, the parts in all, the part. -/
def partReply (before : List Octet) (status : List Octet) (part : Nat) : Answer :=
  if part < partsOf status then
    { status := .ok, content := before ++ enc1 part ++ enc1 (partsOf status) ++ partOf status part }
  else { status := .range }

/-- READ_CEILING (R141). -/
def ceilingContent (s : State) : List Octet :=
  enc1 (s.ccu.ceiling.getD 0) ++ enc2 s.mon.ceilingSeq ++ encFlag s.ccu.acknowledged ++
    enc1 (s.ccu.contributions.icing.getD 0) ++ enc1 (s.ccu.contributions.gearbox.getD 0) ++
    enc1 (s.ccu.contributions.grid.getD 0) ++ enc1 (s.ccu.contributions.planner.getD 0) ++ encNatOpt 4 s.ccu.ackTimer

/-- READ_ALARMS (R149). -/
def alarmsContent (p : Port) (skip : Nat) (s : State) : List Octet :=
  collectionReply p
    (enc1 s.ccu.alarms.length ++ encFlag s.ccu.tableOverflow ++ enc2 s.ccu.counters.overflows) skip
    (s.ccu.alarms.map encAlarm)

/-- READ_SNAPSHOT (R149). -/
def snapshotAnswer (p : Port) (slot : Selector) (skip : Nat) (s : State) : Answer :=
  match selectItems s.records.slots.toList slot with
  | [] => { status := .range }
  | l => { status := .ok, content := collectionReply p [] skip (l.map encSlot) }

/-- READ_CONFIG (R198). -/
def configAnswer (group index : Nat) (s : State) : Answer :=
  match readItem s group index with
  | none => { status := .unknownItem }
  | some value => { status := .ok, content := value }

/-- READ_BANDS (R85). -/
def bandsAnswer (p : Port) (band : Selector) (skip : Nat) (s : State) : Answer :=
  match selectItems (List.finRange 24) band with
  | [] => { status := .range }
  | l => { status := .ok, content := collectionReply p [] skip (l.map (encBand s)) }

/-- Whether a record's interval end is at or after a time (R109). -/
def recordFrom (t : Timestamp) (r : ComplianceRecord) : Bool :=
  match r.intervalEnd with
  | none => false
  | some e => !e.before t

/-- READ_GRID_RECORDS (R109). -/
def gridAnswer (p : Port) (t : Timestamp) (count skip : Nat) (s : State) : Answer :=
  if 1 ≤ count ∧ count ≤ 144 then
    { status := .ok
      content := collectionReply p [] skip (((s.records.ring.filter (recordFrom t)).take count).map encRecord) }
  else { status := .range }

/-- READ_COMPONENTS (R174). -/
def componentsAnswer (p : Port) (index : Selector) (skip : Nat) (s : State) : Answer :=
  match selectItems (List.finRange 16) index with
  | [] => { status := .range }
  | l => { status := .ok, content := collectionReply p [] skip (l.map (encComponentRecord s)) }

/-- READ_TASKS (R174). -/
def tasksAnswer (p : Port) (id : Selector) (skip : Nat) (s : State) : Answer :=
  match id with
  | .all => { status := .ok, content := collectionReply p [] skip (s.plan.tasks.map (encTask s)) }
  | .one i =>
    match findTask i s with
    | none => { status := .unknownItem }
    | some t => { status := .ok, content := collectionReply p [] skip [encTask s t] }

/-- The content of READ_DAY_SUMMARIES (R174, R197): the open day record and the undated tally come only where no summary
is left and they fit. -/
def daysContent (p : Port) (skip : Nat) (items : List (List Octet)) (tail : List Octet) : List Octet :=
  let rest := items.drop skip
  let fit := fitItems (replyRoom p - 2) rest
  let left := rest.length - fit.length
  let body := enc1 fit.length ++ fit.flatten
  (if left = 0 ∧ body.length + tail.length + 1 ≤ replyRoom p then body ++ tail else body) ++ enc1 left

/-- READ_DAY_SUMMARIES (R174). -/
def daysAnswer (p : Port) (day count skip : Nat) (s : State) : Answer :=
  if 1 ≤ count ∧ count ≤ 31 then
    { status := .ok
      content := daysContent p skip (((s.plan.days.filter fun d => day ≤ d.day).take count).map encDaySummary)
        (encDayTail s) }
  else { status := .range }

/-- READ_HISTORY: the latest `count` entries in insertion order (R174). -/
def historyAnswer (p : Port) (count skip : Nat) (s : State) : Answer :=
  if 1 ≤ count ∧ count ≤ 64 then
    { status := .ok
      content := collectionReply p [] skip
        ((s.plan.history.drop (s.plan.history.length - count)).map encHistory) }
  else { status := .range }

/-- READ_NOTICES: the set as it stands, and the set emptied (R192). -/
def readNotices (p : Port) (s : State) : State × Answer :=
  (refreshLines (withPort p (fun x => { x with notices := 0 }) s),
    { status := .ok, content := encNotices (s.lnk.get p).notices })

/-- Whether a mask has none of the bits 10..15 set (R193). -/
def maskOk (m : NoticeSet) : Bool := m &&& 0xfc00#16 = 0

/-- WRITE_CONFIG of a notice mask (R193). -/
def lnkWriteMask (target : Port) (m : NoticeSet) (s : State) : State × Answer :=
  if maskOk m then (refreshLines { s with cfg := { s.cfg with masks := s.cfg.masks.set target m } }, { status := .ok })
  else (s, { status := .range })

/-! ## The owners (R189 case 4) -/

/-- A configuration write at its owner (R198). -/
def handleWrite (w : ConfigWrite) (s : State) : State × Answer :=
  match w with
  | .trim i v => afeWriteTrim i v s
  | .ptu i v => ptuWrite i v s
  | .rch item => rchWrite item s
  | .measurement i v => gvmWriteMeasurement i v s
  | .band i v => gvmWriteBand i v s
  | .gvmEnable v => gvmWriteEnable v s
  | .gvmPeriod v => gvmWritePeriod v s
  | .ghmEnable v => ghmWriteEnable v s
  | .ghm item => ghmWriteItem item s
  | .voltageLimit h v => ghmWriteLimit h v s
  | .bimEnable v => bimWriteEnable v s
  | .bimPeak item => bimWritePeakItem item s
  | .curve rows => bimWriteCurve rows s
  | .profile h t => bimWriteProfile h t s
  | .ccu item => ccuWrite item s
  | .component i v => mplWriteComponent i v s
  | .mask t m => lnkWriteMask t m s

/-- A request at the block that owns the state it concerns (R189, R196). -/
def handle (p : Port) (r : Request) (s : State) : State × Answer :=
  match r with
  | .readStatus b n => (s, partReply (enc1 (blockCode b)) (blockStatus b s) n)
  | .readNotices => readNotices p s
  | .readCeiling => (s, { status := .ok, content := ceilingContent s })
  | .readAlarms n => (s, { status := .ok, content := alarmsContent p n s })
  | .ackAlarm t => ccuAckAlarm p t s
  | .readSnapshot i n => (s, snapshotAnswer p i n s)
  | .readConfig g i => (s, configAnswer g i s)
  | .readBands i n => (s, bandsAnswer p i n s)
  | .readGridRecords t c n => (s, gridAnswer p t c n s)
  | .readIcing n => (s, partReply [] (bimStatus s) n)
  | .readComponents i n => (s, componentsAnswer p i n s)
  | .readTasks i n => (s, tasksAnswer p i n s)
  | .readDaySummaries d c n => (s, daysAnswer p d c n s)
  | .readHistory c n => (s, historyAnswer p c n s)
  | .operatingReport r w pw h => ccuReport r w pw h s
  | .ceilingAck n => ccuCeilingAck n s
  | .setTime d t => setTime p d t s
  | .writeConfig w => handleWrite w s
  | .learnBaseline t => gvmLearn t s
  | .pinThresholds t => bimPin t s
  | .unpinThresholds => bimUnpin s
  | .planTask f => mplPlanTask f s
  | .removeTask i => mplRemoveTask i s
  | .deferTask i d => mplDeferTask i d s
  | .overrideBegin m => bimOverrideBegin m s
  | .overrideEnd => bimOverrideEnd s
  | .presenceBegin t h => presenceBegin t h s
  | .presenceEnd => mplPresenceEnd s
  | .closeTask i o => mplCloseTask i o s
  | .lockSnapshot i => ccuLock i s
  | .unlockSnapshot i => ccuUnlock i s
  | .restart => retRestart s

/-! ## Taking and answering (R189, R190) -/

/-- The kind octet of a reply (R186, R190). DESIGN CHOICE (log entry 60): for a request whose kind is 80h or above the sum is
taken modulo 256. -/
def replyKind (kind : Octet) : Octet := kind + 0x80

/-- The ceiling fields of a reply on the control port, as they stand (R141, R190). -/
def replyCeiling (p : Port) (s : State) : Option (Nat × Nat × Bool) :=
  match p with
  | .cp => some (s.ccu.ceiling.getD 0, s.mon.ceilingSeq, s.ccu.acknowledged)
  | .fp | .sp => none

/-- Whether a reply with a status has content (R190). -/
def hasContent : Status → Bool
  | .ok | .okDeferred => true
  | _ => false

/-- The reply formed for an answer, with the state as it stands after the request's effect (R190). -/
def replyFor (p : Port) (kind tag : Octet) (a : Answer) (s : State) : Reply :=
  { kind := replyKind kind
    tag := tag
    status := a.status
    overrun := (s.lnk.get p).overrun
    replaced := a.replaced
    notices := (s.lnk.get p).notices
    ceiling := replyCeiling p s
    content := if hasContent a.status then a.content else [] }

/-- The octets of a reply's body (R190, R199). -/
def Reply.body (r : Reply) : List Octet :=
  enc1 (statusCode r.status) ++ enc1 (r.overrun.toNat + 2 * r.replaced.toNat) ++ encNotices r.notices ++
    (match r.ceiling with
      | none => []
      | some (v, n, ack) => enc1 v ++ enc2 n ++ encFlag ack) ++ r.content

/-! ## Frames (R186) -/

/-- One bit of the check: polynomial 1021h, most significant bit first (R186). -/
def crcBit (c : BitVec 16) : BitVec 16 := if c.msb then (c <<< 1) ^^^ 0x1021#16 else c <<< 1

/-- `n` bits of the check. -/
def crcBits : Nat → BitVec 16 → BitVec 16
  | 0, c => c
  | n + 1, c => crcBits n (crcBit c)

/-- One octet of the check. -/
def crcOctet (c : BitVec 16) (x : Octet) : BitVec 16 := crcBits 8 (c ^^^ (x.zeroExtend 16 <<< 8))

/-- The CRC-16 of a run of octets, preset FFFFh (R186). -/
def crc16 (l : List Octet) : BitVec 16 := l.foldl crcOctet 0xffff#16

/-- The octets of a frame: the start octet, the length, kind, tag and body, and the check over the octets from the length to
the body's last (R186). -/
def frameOctets (kind tag : Octet) (body : List Octet) : List Octet :=
  let covered := enc1 (body.length + 2) ++ [kind, tag] ++ body
  0x3c :: (covered ++ encNat 2 (crc16 covered).toNat)

/-- The octets of a reply's frame (R186, R190). -/
def Reply.frame (r : Reply) : List Octet := frameOctets r.kind r.tag r.body

/-- The reply to a request taken as a command of its own; its tag is 0 (log entry 25). -/
def formReply (p : Port) (kind : Octet) (r : State × Answer) : State :=
  withPort p (fun x => { x with reply := some (replyFor p kind 0 r.2 r.1) }) r.1

/-- The reply the port owes to the request in work (R190). -/
def oweReply (p : Port) (kind tag : Octet) (r : State × Answer) : State :=
  withPort p (fun x => { x with owed := some (replyFor p kind tag r.2 r.1) }) r.1

/-- Counts on a port. -/
def countPort (p : Port) (f : PortCounters → PortCounters) (s : State) : State :=
  withPort p (fun x => { x with counters := f x.counters }) s

/-- The judgement of a request taken (R189): the kind, the permission, the layout, then the owner. -/
def judgeRequest (p : Port) (kind : Octet) (parsed : Except Status Request) (s : State) : State × Answer :=
  match permissionOf kind with
  | none => (s, { status := .unknownKind })
  | some m =>
    if m.admits p s.mpl.presence.isSome then
      match parsed with
      | .error st => (s, { status := st })
      | .ok r => handle p r s
    else (countPort p (fun c => { c with refusedPort := inc16 c.refusedPort }) s, { status := .refusedPort })

/-- A request is taken: it is counted and judged (R189). -/
def takeBody (p : Port) (kind : Octet) (parsed : Except Status Request) (s : State) : State × Answer :=
  judgeRequest p kind parsed (countPort p (fun c => { c with taken := inc16 c.taken }) s)

/-- A request taken from a frame, which the port owes a reply (R189, R190). -/
def takeFrame (p : Port) (f : Frame) (s : State) : State :=
  oweReply p f.kind f.tag (takeBody p f.kind (parseRequest f.kind f.body) s)

/-- A request taken as a command of the table, apart from its frame: its answer is the port's `reply`, and what the port owes
to a request in work stands (log entry 25). -/
def takeRequest (p : Port) (r : Request) (s : State) : State := formReply p r.kind (takeBody p r.kind (.ok r) s)

/-! ## The holding (R188) -/

/-- Whether the port takes a further request: after an accepted RESTART has been answered the service port takes
none before the start (R184). -/
def mayTake (p : Port) (s : State) : Bool := !(p = .sp && s.ret.restartAccepted)

/-- A frame becomes the request in work and is taken (R188, R189). -/
def beginWork (p : Port) (f : Frame) (s : State) : State :=
  takeFrame p f (withPort p (fun x => { x with inWork := some f }) s)

/-- A frame dropped (R188): while a reply is being sent the flag is set again for the following reply. -/
def PortState.drop (sending : Bool) (x : PortState) : PortState :=
  { x with
    overrun := x.overrun || !sending
    overrunAgain := x.overrunAgain || sending
    counters := { x.counters with overruns := inc16 x.counters.overruns } }

/-- A checked frame is placed (R188). -/
def placeFrame (p : Port) (f : Frame) (sending : Bool) (s : State) : State :=
  let x := s.lnk.get p
  if x.inWork.isNone && mayTake p s then beginWork p f s
  else if x.waiting.isNone then withPort p (fun x => { x with waiting := some f }) s
  else setPortNotice p .linkOverrun (withPort p (PortState.drop sending) s)

/-- The reply to the request in work as it is sent: with the overrun flag as it stands then (R188, R190). -/
def PortState.outgoing (x : PortState) : Option Reply := x.owed.map fun r => { r with overrun := x.overrun }

/-- The port after the reply to the request in work has been sent in full: its frame is on the line (R186, R188, R190). -/
def PortState.sent (x : PortState) : PortState :=
  { x with
    inWork := none
    owed := none
    transmitted := (x.outgoing.map Reply.frame).getD x.transmitted
    overrun := x.overrunAgain
    overrunAgain := false
    counters := { x.counters with sent := inc16 x.counters.sent } }

/-- The request waiting becomes the request in work and is taken (R188). -/
def takeWaiting (p : Port) (s : State) : State :=
  match (s.lnk.get p).waiting with
  | none => s
  | some f =>
    if mayTake p s then beginWork p f (withPort p (fun x => { x with waiting := none }) s) else s

/-- REPLY_SENT (R188, R190); without a request in work no reply is being sent. -/
def lnkReplySent (p : Port) (s : State) : State :=
  match (s.lnk.get p).inWork with
  | none => s
  | some _ => takeWaiting p (withPort p PortState.sent s)

/-! ## The receiver (R186, R187) -/

/-- A check failure: counted, and the receiver HUNTING (R187). -/
def PortState.checkFailure (x : PortState) : PortState :=
  { x with
    receiver := .hunting
    counters := { x.counters with checkFailures := inc16 x.counters.checkFailures } }

/-- Whether the two last octets are the check of the others (R186). -/
def checkMatches (l : List Octet) : Bool :=
  (l.drop (l.length - 2)) = encNat 2 (crc16 (l.take (l.length - 2))).toNat

/-- The frame in the octets from the length octet to the last check octet, where it has a kind and a tag (R187). -/
def frameOf (l : List Octet) : Option Frame :=
  match (l.drop 1).take (l.length - 3) with
  | kind :: tag :: body => some { kind := kind, tag := tag, body := body }
  | _ => none

/-- The judgement of a frame whose last check octet has arrived (R187). -/
def judgeFrame (p : Port) (l : List Octet) (sending : Bool) (s : State) : State :=
  match checkMatches l, frameOf l with
  | true, some f => placeFrame p f sending (withPort p (fun x => { x with receiver := .hunting }) s)
  | _, _ => withPort p PortState.checkFailure s

/-- An octet while RECEIVING; `l` are the octets after the start octet, this one included (R187). -/
def receiveOctet (p : Port) (l : List Octet) (sending : Bool) (s : State) : State :=
  let len := (l.headD 0).toNat
  if len = 0 ∨ 250 < len then withPort p PortState.checkFailure s
  else if l.length < len + 3 then withPort p (fun x => { x with receiver := .receiving l }) s
  else judgeFrame p l sending s

/-- OCTET_RECEIVED (R187). -/
def lnkOctet (p : Port) (x : Octet) (sending : Bool) (s : State) : State :=
  match (s.lnk.get p).receiver with
  | .hunting => if x = 0x3c then withPort p (fun y => { y with receiver := .receiving [] }) s else s
  | .receiving l => receiveOctet p (l ++ [x]) sending s

/-- FRAME_CHECKED (R187, R188): the frame whose check matched is placed. -/
def lnkFrameChecked (p : Port) (f : Frame) (sending : Bool) (s : State) : State :=
  placeFrame p f sending (withPort p (fun x => { x with receiver := .hunting }) s)

/-- FRAME_CHECK_FAILURE (R187). -/
def lnkCheckFailure (p : Port) (s : State) : State := withPort p PortState.checkFailure s

/-- The port after a gap of more than 5 ms inside a frame (R187). -/
def PortState.gap (x : PortState) : PortState :=
  match x.receiver with
  | .hunting => x
  | .receiving _ =>
    { x with receiver := .hunting, counters := { x.counters with timeouts := inc16 x.counters.timeouts } }

/-- OCTET_GAP_TIMEOUT (R187). -/
def lnkGap (p : Port) (s : State) : State := withPort p PortState.gap s

end Sys2Proof.Machine
end

