-- ==== Sys2Proof/Machine/SpeEnd.lean ====
section
/-! DEFINITION. The end of a request of the SPE (R50): the analysis of its mode, the delivery or the discard. -/

namespace Sys2Proof.Machine

/-- The stored rows of the buffer a request names. -/
def analysedRows (r : AnalysisRequest) (s : State) : List (List Int) :=
  match (bufferOf s r.buffer).record with
  | none => []
  | some c => c.samples

/-- The result record delivered to the source monitor (R50, R57, R61, R63). -/
def deliverResult (r : AnalysisRequest) (rows : List (List Int)) (s : State) : State :=
  match r.mode with
  | .bands n d speed list => gvmResult r (list.map (analyseBand (column rows 0) n d speed)) s
  | .harmonics c t stored => ghmResult r (analyseHarmonics rows c t stored) s
  | .peak n d fLo fHi floor => bimResult r (analysePeak (column rows 0) n d fLo fHi floor) s

/-- The end of the request in progress (R50): the monitor evaluates its result against the engine as step 4 left it. -/
def speEnd (s : State) : State :=
  match s.spe.inProgress with
  | none => s
  | some r =>
    if r.discard then finishRequest r s else deliverResult r (analysedRows r s) (finishRequest r s)

end Sys2Proof.Machine
end

