-- ==== Sys2Proof/Machine/EventCommands.lean ====
section
/-! DEFINITION. The meanings of the commands that are events: supply and reset, captures, edges, gates, timers and the
octets and frames of the ports. -/

namespace Sys2Proof.Machine

/-- An event reaches the part only while it operates (R178, R180, R183): without operation nothing changes. The check
words of the sections it changes are recomputed (R177). -/
def inOperation (f : State → State) (s : State) : Host.Outcome State Fault Refusal :=
  .next (if s.ret.operating then rechecked s (f s) else s)

/-- POWER_ON: main power is applied (R178, R179, R180). -/
def execPowerOn (corrupt : List RetSection) (straps : PerPort (BitVec 2)) (start : StartInput)
    (s : State) : Host.Outcome State Fault Refusal :=
  .next (retPowerOn corrupt straps start s)

/-- BATTERY_RETENTION_LOSS: the battery loses retention (R178). -/
def execBatteryRetentionLoss (s : State) : Host.Outcome State Fault Refusal := .next (retRetentionLoss s)

/-- RESET_RELEASE: the reset input is released (R183). -/
def execResetRelease (start : StartInput) (s : State) : Host.Outcome State Fault Refusal :=
  .next (rechecked s (retResetRelease start s))

/-- SERVICE_RESTART_START: the start after an accepted RESTART (R184). -/
def execServiceRestartStart (start : StartInput) (s : State) : Host.Outcome State Fault Refusal :=
  .next (rechecked s (retServiceRestart start s))

/-- BIAS_FAULT: a bias goes low or high (R4). -/
def execBiasFault (ch : Accel) (bias : Int) (s : State) : Host.Outcome State Fault Refusal :=
  inOperation (afeBiasFault ch bias) s

/-- BIAS_IN_RANGE: a bias comes back in range (R5). -/
def execBiasInRange (ch : Accel) (bias : Int) (s : State) : Host.Outcome State Fault Refusal :=
  inOperation (afeBiasInRange ch bias) s

/-- RECOVERY_QUALIFICATION_EXPIRY: the recovery qualification expires (R5). -/
def execRecoveryQualificationExpiry (ch : Accel) (s : State) : Host.Outcome State Fault Refusal :=
  inOperation (afeRecovery ch) s

/-- CONVERTER_CHECK: a converter check (R6, R7, R8). -/
def execConverterCheck (ch cq : Int) (s : State) : Host.Outcome State Fault Refusal := inOperation (afeCheck ch cq) s

/-- FIXED_CAPTURE_COMPLETE: a FIXED capture completes (R12, R13). -/
def execFixedCaptureComplete (buffer : BufferId) (segments : List (List Int))
    (s : State) : Host.Outcome State Fault Refusal :=
  inOperation (afeFixedComplete buffer segments) s

/-- WINDOW_LIMIT_REACHED: a WINDOW capture stores its 1,600th instant (R14). -/
def execWindowLimitReached (buffer : BufferId) (segments : List (List GridInstant))
    (s : State) : Host.Outcome State Fault Refusal :=
  inOperation (afeWindowLimit buffer segments) s

/-- PULSE_EDGE: an edge on a pulse input (R20, R21, R22); `segments` are the grid instants of the window it may end (R14, R91). -/
def execPulseEdge (input : Pulse) (tick : Nat) (segments : List (List GridInstant))
    (s : State) : Host.Outcome State Fault Refusal :=
  inOperation (ptuEdge input tick segments) s

/-- STALL: a stall of a pulse input (R24). -/
def execStall (input : Pulse) (s : State) : Host.Outcome State Fault Refusal := inOperation (ptuStall input) s

/-- GATE_END: the end of a conversion gate (R33). -/
def execGateEnd (count : Nat) (s : State) : Host.Outcome State Fault Refusal := inOperation (rchGateEnd count) s

/-- OPERATION_SECOND: a second of operation (R41, R157, R158). -/
def execOperationSecond (s : State) : Host.Outcome State Fault Refusal := inOperation operationSecond s

/-- REQUEST_END: the analysis in progress ends (R50). -/
def execRequestEnd (s : State) : Host.Outcome State Fault Refusal := inOperation speEnd s

/-- GVM_PERIOD_EXPIRY: the period timer expires (R70). -/
def execGvmPeriodExpiry (s : State) : Host.Outcome State Fault Refusal :=
  inOperation Sys2Proof.Machine.gvmPeriodExpiry s

/-- TEN_MINUTE_BOUNDARY: the calendar reaches a ten-minute boundary (R152). -/
def execTenMinuteBoundary (s : State) : Host.Outcome State Fault Refusal := inOperation tenMinuteBoundary s

/-- GHM_UNALIGNED_INTERVAL_END: an unaligned grid interval ends (R99, R100). -/
def execGhmUnalignedIntervalEnd (s : State) : Host.Outcome State Fault Refusal := inOperation ghmUnalignedEnd s

/-- MPL_UNDATED_INTERVAL_END: an undated accounting interval ends (R158, R160). -/
def execMplUndatedIntervalEnd (s : State) : Host.Outcome State Fault Refusal := inOperation mplUndatedEnd s

/-- BIM_STEP: the step timer of the BIM expires (R112). -/
def execBimStep (s : State) : Host.Outcome State Fault Refusal := inOperation bimStepExpiry s

/-- OVERRIDE_EXPIRY: an icing override reaches its end time (R130). -/
def execOverrideExpiry (s : State) : Host.Outcome State Fault Refusal := inOperation overrideExpiry s

/-- FRESHNESS_TIMEOUT: the freshness timer expires (R137). -/
def execFreshnessTimeout (s : State) : Host.Outcome State Fault Refusal := inOperation ccuFreshness s

/-- ACKNOWLEDGE_TIMER_EXPIRY: the acknowledge timer expires (R140). -/
def execAcknowledgeTimerExpiry (s : State) : Host.Outcome State Fault Refusal := inOperation ccuAckExpiry s

/-- PRESENCE_EXPIRY: a technician presence reaches its end time (R155). -/
def execPresenceExpiry (s : State) : Host.Outcome State Fault Refusal := inOperation presenceExpiry s

/-- FRAME_CHECKED: a frame whose check matched is placed (R187, R188); `sending` tells whether the reply to the request in work is being sent. -/
def execFrameChecked (port : Port) (frame : Frame) (sending : Bool) (s : State) : Host.Outcome State Fault Refusal :=
  inOperation (lnkFrameChecked port frame sending) s

/-- FRAME_CHECK_FAILURE: a frame with a bad length or check (R187). -/
def execFrameCheckFailure (port : Port) (s : State) : Host.Outcome State Fault Refusal :=
  inOperation (lnkCheckFailure port) s

/-- OCTET_GAP_TIMEOUT: a gap of more than 5 ms inside a frame (R187). -/
def execOctetGapTimeout (port : Port) (s : State) : Host.Outcome State Fault Refusal := inOperation (lnkGap port) s

/-- REPLY_SENT: a reply has been sent in full (R188). -/
def execReplySent (port : Port) (s : State) : Host.Outcome State Fault Refusal := inOperation (lnkReplySent port) s

/-- OCTET_RECEIVED: an octet arrives (R187); `sending` as in FRAME_CHECKED. -/
def execOctetReceived (port : Port) (octet : Octet) (sending : Bool) (s : State) : Host.Outcome State Fault Refusal :=
  inOperation (lnkOctet port octet sending) s

/-- BATTERY_CLOCK_SECOND: a second of the battery clock (R152), with or without operation. -/
def execBatteryClockSecond (s : State) : Host.Outcome State Fault Refusal := .next (batterySecond s)

end Sys2Proof.Machine
end

