-- ==== Sys2Proof/Machine/ReadCommands.lean ====
section
/-! DEFINITION. The meanings of the commands that are reads, each taken on the port it names (R189). -/

namespace Sys2Proof.Machine

/-- READ_STATUS (R197). -/
def execReadStatus (port : Port) (block : Block) (part : Nat) (s : State) : Host.Outcome State Fault Refusal :=
  inOperation (takeRequest port (.readStatus block part)) s

/-- READ_NOTICES (R192). -/
def execReadNotices (port : Port) (s : State) : Host.Outcome State Fault Refusal :=
  inOperation (takeRequest port .readNotices) s

/-- READ_CEILING (R141). -/
def execReadCeiling (port : Port) (s : State) : Host.Outcome State Fault Refusal :=
  inOperation (takeRequest port .readCeiling) s

/-- READ_ALARMS (R149, R197). -/
def execReadAlarms (port : Port) (skip : Nat) (s : State) : Host.Outcome State Fault Refusal :=
  inOperation (takeRequest port (.readAlarms skip)) s

/-- READ_SNAPSHOT (R149, R197). -/
def execReadSnapshot (port : Port) (slot : Selector) (skip : Nat) (s : State) : Host.Outcome State Fault Refusal :=
  inOperation (takeRequest port (.readSnapshot slot skip)) s

/-- READ_CONFIG (R198). -/
def execReadConfig (port : Port) (group index : Nat) (s : State) : Host.Outcome State Fault Refusal :=
  inOperation (takeRequest port (.readConfig group index)) s

/-- READ_BANDS (R85, R197). -/
def execReadBands (port : Port) (band : Selector) (skip : Nat) (s : State) : Host.Outcome State Fault Refusal :=
  inOperation (takeRequest port (.readBands band skip)) s

/-- READ_GRID_RECORDS (R109, R197). -/
def execReadGridRecords (port : Port) (intervalEnd : Timestamp) (count skip : Nat)
    (s : State) : Host.Outcome State Fault Refusal :=
  inOperation (takeRequest port (.readGridRecords intervalEnd count skip)) s

/-- READ_ICING (R132, R197). -/
def execReadIcing (port : Port) (part : Nat) (s : State) : Host.Outcome State Fault Refusal :=
  inOperation (takeRequest port (.readIcing part)) s

/-- READ_COMPONENTS (R174, R197). -/
def execReadComponents (port : Port) (index : Selector) (skip : Nat) (s : State) : Host.Outcome State Fault Refusal :=
  inOperation (takeRequest port (.readComponents index skip)) s

/-- READ_TASKS (R174, R197). -/
def execReadTasks (port : Port) (id : Selector) (skip : Nat) (s : State) : Host.Outcome State Fault Refusal :=
  inOperation (takeRequest port (.readTasks id skip)) s

/-- READ_DAY_SUMMARIES (R174, R197). -/
def execReadDaySummaries (port : Port) (day count skip : Nat) (s : State) : Host.Outcome State Fault Refusal :=
  inOperation (takeRequest port (.readDaySummaries day count skip)) s

/-- READ_HISTORY (R174, R197). -/
def execReadHistory (port : Port) (count skip : Nat) (s : State) : Host.Outcome State Fault Refusal :=
  inOperation (takeRequest port (.readHistory count skip)) s

end Sys2Proof.Machine
end

