-- ==== Sys2Proof/Machine/RequestCommands.lean ====
section
/-! DEFINITION. The meanings of the commands that are the other requests, each taken on the port it names (R189). -/

namespace Sys2Proof.Machine

/-- LEARN_BASELINE (R76). -/
def execLearnBaseline (port : Port) (target : LearnTarget) (s : State) : Host.Outcome State Fault Refusal :=
  inOperation (takeRequest port (.learnBaseline target)) s

/-- ICE_OVERRIDE_BEGIN (R129). -/
def execIceOverrideBegin (port : Port) (minutes : Nat) (s : State) : Host.Outcome State Fault Refusal :=
  inOperation (takeRequest port (.overrideBegin minutes)) s

/-- ICE_OVERRIDE_END (R130). -/
def execIceOverrideEnd (port : Port) (s : State) : Host.Outcome State Fault Refusal :=
  inOperation (takeRequest port .overrideEnd) s

/-- PIN_ICING_THRESHOLDS (R121). -/
def execPinIcingThresholds (port : Port) (set : ThresholdSet) (s : State) : Host.Outcome State Fault Refusal :=
  inOperation (takeRequest port (.pinThresholds set)) s

/-- UNPIN_ICING_THRESHOLDS (R121). -/
def execUnpinIcingThresholds (port : Port) (s : State) : Host.Outcome State Fault Refusal :=
  inOperation (takeRequest port .unpinThresholds) s

/-- OPERATING_REPORT (R135, R136). -/
def execOperatingReport (port : Port) (regime : Nat) (wind power : Int) (heater : Nat)
    (s : State) : Host.Outcome State Fault Refusal :=
  inOperation (takeRequest port (.operatingReport regime wind power heater)) s

/-- CEILING_ACK (R139). -/
def execCeilingAck (port : Port) (number : Nat) (s : State) : Host.Outcome State Fault Refusal :=
  inOperation (takeRequest port (.ceilingAck number)) s

/-- ACK_ALARM (R145). -/
def execAckAlarm (port : Port) (target : AckTarget) (s : State) : Host.Outcome State Fault Refusal :=
  inOperation (takeRequest port (.ackAlarm target)) s

/-- LOCK_SNAPSHOT (R148). -/
def execLockSnapshot (port : Port) (slot : Nat) (s : State) : Host.Outcome State Fault Refusal :=
  inOperation (takeRequest port (.lockSnapshot slot)) s

/-- UNLOCK_SNAPSHOT (R148). -/
def execUnlockSnapshot (port : Port) (slot : Nat) (s : State) : Host.Outcome State Fault Refusal :=
  inOperation (takeRequest port (.unlockSnapshot slot)) s

/-- SET_TIME (R153, R154, R106). -/
def execSetTime (port : Port) (day sec : Nat) (s : State) : Host.Outcome State Fault Refusal :=
  inOperation (takeRequest port (.setTime day sec)) s

/-- PRESENCE_BEGIN (R155). -/
def execPresenceBegin (port : Port) (technician hours : Nat) (s : State) : Host.Outcome State Fault Refusal :=
  inOperation (takeRequest port (.presenceBegin technician hours)) s

/-- PRESENCE_END (R155). -/
def execPresenceEnd (port : Port) (s : State) : Host.Outcome State Fault Refusal :=
  inOperation (takeRequest port .presenceEnd) s

/-- PLAN_TASK (R165). -/
def execPlanTask (port : Port) (fields : TaskFields) (s : State) : Host.Outcome State Fault Refusal :=
  inOperation (takeRequest port (.planTask fields)) s

/-- REMOVE_TASK (R166). -/
def execRemoveTask (port : Port) (id : Nat) (s : State) : Host.Outcome State Fault Refusal :=
  inOperation (takeRequest port (.removeTask id)) s

/-- DEFER_TASK (R171). -/
def execDeferTask (port : Port) (id days : Nat) (s : State) : Host.Outcome State Fault Refusal :=
  inOperation (takeRequest port (.deferTask id days)) s

/-- CLOSE_TASK (R172). -/
def execCloseTask (port : Port) (id : Nat) (outcome : CloseOutcome) (s : State) : Host.Outcome State Fault Refusal :=
  inOperation (takeRequest port (.closeTask id outcome)) s

/-- RESTART (R184). -/
def execRestart (port : Port) (s : State) : Host.Outcome State Fault Refusal :=
  inOperation (takeRequest port .restart) s

end Sys2Proof.Machine
end

