-- ==== Sys2Proof/Machine/WriteCommands.lean ====
section
/-! DEFINITION. The meanings of the commands that are configuration writes, each taken on the port it names (R189). -/

namespace Sys2Proof.Machine

/-- WRITE_OFFSET_TRIM (R2, R3). -/
def execWriteOffsetTrim (port : Port) (index : Nat) (value : Int) (s : State) : Host.Outcome State Fault Refusal :=
  inOperation (takeRequest port (.writeConfig (.trim index value))) s

/-- WRITE_PTU_ITEM (R26). -/
def execWritePtuItem (port : Port) (index value : Nat) (s : State) : Host.Outcome State Fault Refusal :=
  inOperation (takeRequest port (.writeConfig (.ptu index value))) s

/-- WRITE_RCH_ITEM (R40). -/
def execWriteRchItem (port : Port) (item : RchItem) (s : State) : Host.Outcome State Fault Refusal :=
  inOperation (takeRequest port (.writeConfig (.rch item))) s

/-- WRITE_MEASUREMENT_RECORD (R66, R83). -/
def execWriteMeasurementRecord (port : Port) (index : Nat) (value : MeasurementRecord)
    (s : State) : Host.Outcome State Fault Refusal :=
  inOperation (takeRequest port (.writeConfig (.measurement index value))) s

/-- WRITE_BAND_CONFIG (R67, R83). -/
def execWriteBandConfig (port : Port) (index : Nat) (value : BandConfig)
    (s : State) : Host.Outcome State Fault Refusal :=
  inOperation (takeRequest port (.writeConfig (.band index value))) s

/-- WRITE_GVM_ENABLE (R69). -/
def execWriteGvmEnable (port : Port) (value : Bool) (s : State) : Host.Outcome State Fault Refusal :=
  inOperation (takeRequest port (.writeConfig (.gvmEnable value))) s

/-- WRITE_MEASUREMENT_PERIOD (R70). -/
def execWriteMeasurementPeriod (port : Port) (value : Nat) (s : State) : Host.Outcome State Fault Refusal :=
  inOperation (takeRequest port (.writeConfig (.gvmPeriod value))) s

/-- WRITE_GHM_ENABLE (R108). -/
def execWriteGhmEnable (port : Port) (value : Bool) (s : State) : Host.Outcome State Fault Refusal :=
  inOperation (takeRequest port (.writeConfig (.ghmEnable value))) s

/-- WRITE_GHM_ITEM (R105, R107). -/
def execWriteGhmItem (port : Port) (item : GhmItem) (s : State) : Host.Outcome State Fault Refusal :=
  inOperation (takeRequest port (.writeConfig (.ghm item))) s

/-- WRITE_VOLTAGE_LIMIT (R107). -/
def execWriteVoltageLimit (port : Port) (order value : Nat) (s : State) : Host.Outcome State Fault Refusal :=
  inOperation (takeRequest port (.writeConfig (.voltageLimit order value))) s

/-- WRITE_BIM_ENABLE (R131). -/
def execWriteBimEnable (port : Port) (value : Bool) (s : State) : Host.Outcome State Fault Refusal :=
  inOperation (takeRequest port (.writeConfig (.bimEnable value))) s

/-- WRITE_BIM_PEAK_ITEM (R118). -/
def execWriteBimPeakItem (port : Port) (item : BimPeakItem) (s : State) : Host.Outcome State Fault Refusal :=
  inOperation (takeRequest port (.writeConfig (.bimPeak item))) s

/-- WRITE_POWER_CURVE (R114). -/
def execWritePowerCurve (port : Port) (rows : Vector Nat 40) (s : State) : Host.Outcome State Fault Refusal :=
  inOperation (takeRequest port (.writeConfig (.curve rows))) s

/-- WRITE_ICING_PROFILE (R120). -/
def execWriteIcingProfile (port : Port) (profile : Heater) (set : ThresholdSet)
    (s : State) : Host.Outcome State Fault Refusal :=
  inOperation (takeRequest port (.writeConfig (.profile profile set))) s

/-- WRITE_CCU_ITEM (R149). -/
def execWriteCcuItem (port : Port) (item : CcuItem) (s : State) : Host.Outcome State Fault Refusal :=
  inOperation (takeRequest port (.writeConfig (.ccu item))) s

/-- WRITE_COMPONENT_CONFIG (R156). -/
def execWriteComponentConfig (port : Port) (index : Nat) (value : ComponentConfig)
    (s : State) : Host.Outcome State Fault Refusal :=
  inOperation (takeRequest port (.writeConfig (.component index value))) s

/-- WRITE_NOTICE_MASK (R193). -/
def execWriteNoticeMask (port target : Port) (mask : NoticeSet) (s : State) : Host.Outcome State Fault Refusal :=
  inOperation (takeRequest port (.writeConfig (.mask target mask))) s

end Sys2Proof.Machine
end

