-- ==== Sys2Proof/Machine/CutShort.lean ====
section
/-! DEFINITION. A loss of main power and an assertion of the reset input (R177, R178, R183), which can cut an event short
between the updates of two retained sections. -/

namespace Sys2Proof.Machine

/-- The whole effect of an event that a loss of power or a reset may cut short: that of its command. The supply, the reset
input and the battery clock are no events of an owning block, and have none here (log entry 8). -/
def ownedEffect (c : Instr) (s : State) : Host.Outcome State Fault Refusal :=
  match c with
  | .powerOn _ _ _ => .next s
  | .mainPowerLoss => .next s
  | .batteryRetentionLoss => .next s
  | .resetAssert => .next s
  | .resetRelease start => execResetRelease start s
  | .serviceRestartStart start => execServiceRestartStart start s
  | .biasFault ch bias => execBiasFault ch bias s
  | .biasInRange ch bias => execBiasInRange ch bias s
  | .recoveryQualificationExpiry ch => execRecoveryQualificationExpiry ch s
  | .converterCheck ch cq => execConverterCheck ch cq s
  | .fixedCaptureComplete buffer segments => execFixedCaptureComplete buffer segments s
  | .windowLimitReached buffer segments => execWindowLimitReached buffer segments s
  | .pulseEdge input tick segments => execPulseEdge input tick segments s
  | .stall input => execStall input s
  | .gateEnd count => execGateEnd count s
  | .operationSecond => execOperationSecond s
  | .requestEnd => execRequestEnd s
  | .gvmPeriodExpiry => execGvmPeriodExpiry s
  | .learnBaseline port target => execLearnBaseline port target s
  | .tenMinuteBoundary => execTenMinuteBoundary s
  | .ghmUnalignedIntervalEnd => execGhmUnalignedIntervalEnd s
  | .mplUndatedIntervalEnd => execMplUndatedIntervalEnd s
  | .bimStep => execBimStep s
  | .overrideExpiry => execOverrideExpiry s
  | .iceOverrideBegin port minutes => execIceOverrideBegin port minutes s
  | .iceOverrideEnd port => execIceOverrideEnd port s
  | .pinIcingThresholds port set => execPinIcingThresholds port set s
  | .unpinIcingThresholds port => execUnpinIcingThresholds port s
  | .operatingReport port regime wind power heater => execOperatingReport port regime wind power heater s
  | .freshnessTimeout => execFreshnessTimeout s
  | .ceilingAck port number => execCeilingAck port number s
  | .acknowledgeTimerExpiry => execAcknowledgeTimerExpiry s
  | .ackAlarm port target => execAckAlarm port target s
  | .lockSnapshot port slot => execLockSnapshot port slot s
  | .unlockSnapshot port slot => execUnlockSnapshot port slot s
  | .setTime port day sec => execSetTime port day sec s
  | .presenceBegin port technician hours => execPresenceBegin port technician hours s
  | .presenceEnd port => execPresenceEnd port s
  | .presenceExpiry => execPresenceExpiry s
  | .planTask port fields => execPlanTask port fields s
  | .removeTask port id => execRemoveTask port id s
  | .deferTask port id days => execDeferTask port id days s
  | .closeTask port id outcome => execCloseTask port id outcome s
  | .restart port => execRestart port s
  | .writeOffsetTrim port index value => execWriteOffsetTrim port index value s
  | .writePtuItem port index value => execWritePtuItem port index value s
  | .writeRchItem port item => execWriteRchItem port item s
  | .writeMeasurementRecord port index value => execWriteMeasurementRecord port index value s
  | .writeBandConfig port index value => execWriteBandConfig port index value s
  | .writeGvmEnable port value => execWriteGvmEnable port value s
  | .writeMeasurementPeriod port value => execWriteMeasurementPeriod port value s
  | .writeGhmEnable port value => execWriteGhmEnable port value s
  | .writeGhmItem port item => execWriteGhmItem port item s
  | .writeVoltageLimit port order value => execWriteVoltageLimit port order value s
  | .writeBimEnable port value => execWriteBimEnable port value s
  | .writeBimPeakItem port item => execWriteBimPeakItem port item s
  | .writePowerCurve port rows => execWritePowerCurve port rows s
  | .writeIcingProfile port profile set => execWriteIcingProfile port profile set s
  | .writeCcuItem port item => execWriteCcuItem port item s
  | .writeComponentConfig port index value => execWriteComponentConfig port index value s
  | .writeNoticeMask port target mask => execWriteNoticeMask port target mask s
  | .readStatus port block part => execReadStatus port block part s
  | .readNotices port => execReadNotices port s
  | .readCeiling port => execReadCeiling port s
  | .readAlarms port skip => execReadAlarms port skip s
  | .readSnapshot port slot skip => execReadSnapshot port slot skip s
  | .readConfig port group index => execReadConfig port group index s
  | .readBands port band skip => execReadBands port band skip s
  | .readGridRecords port intervalEnd count skip => execReadGridRecords port intervalEnd count skip s
  | .readIcing port part => execReadIcing port part s
  | .readComponents port index skip => execReadComponents port index skip s
  | .readTasks port id skip => execReadTasks port id skip s
  | .readDaySummaries port day count skip => execReadDaySummaries port day count skip s
  | .readHistory port count skip => execReadHistory port count skip s
  | .frameChecked port frame sending => execFrameChecked port frame sending s
  | .frameCheckFailure port => execFrameCheckFailure port s
  | .octetGapTimeout port => execOctetGapTimeout port s
  | .replySent port => execReplySent port s
  | .octetReceived port octet sending => execOctetReceived port octet sending s
  | .batteryClockSecond => .next s

/-- The event that waits next is cut short after its updates of the sections in `cutAfter` (R177, R183); the others are not
made. With no section named nothing of it is done. -/
def cutShort (s : State) : State :=
  match s.pending with
  | [] => { s with cutAfter := [] }
  | c :: rest =>
    match ownedEffect c { s with pending := rest } with
    | .next t => withSections s.cutAfter t { s with cutAfter := [] }
    | .fault _ | .refused _ => { s with cutAfter := [] }

/-- MAIN_POWER_LOSS: main power is lost (R177, R178). -/
def execMainPowerLoss (s : State) : Host.Outcome State Fault Refusal :=
  .next (if s.ret.powered then rechecked s (losePower (cutShort s)) else s)

/-- RESET_ASSERT: the reset input is asserted (R183). -/
def execResetAssert (s : State) : Host.Outcome State Fault Refusal :=
  .next (if s.ret.resetAsserted then s else rechecked s (assertReset (cutShort s)))

end Sys2Proof.Machine
end

