-- ==== Sys2Proof/Machine/Dispatch.lean ====
section
/-! DEFINITION. The meaning of every command. -/

namespace Sys2Proof.Machine

def exec (i : Instr) (s : State) : Host.Outcome State Fault Refusal :=
  match i with
  | .powerOn corrupt straps start => Sys2Proof.Machine.execPowerOn corrupt straps start s
  | .mainPowerLoss => Sys2Proof.Machine.execMainPowerLoss s
  | .batteryRetentionLoss => Sys2Proof.Machine.execBatteryRetentionLoss s
  | .resetAssert => Sys2Proof.Machine.execResetAssert s
  | .resetRelease start => Sys2Proof.Machine.execResetRelease start s
  | .serviceRestartStart start => Sys2Proof.Machine.execServiceRestartStart start s
  | .biasFault ch bias => Sys2Proof.Machine.execBiasFault ch bias s
  | .biasInRange ch bias => Sys2Proof.Machine.execBiasInRange ch bias s
  | .recoveryQualificationExpiry ch => Sys2Proof.Machine.execRecoveryQualificationExpiry ch s
  | .converterCheck ch cq => Sys2Proof.Machine.execConverterCheck ch cq s
  | .fixedCaptureComplete buffer segments => Sys2Proof.Machine.execFixedCaptureComplete buffer segments s
  | .windowLimitReached buffer segments => Sys2Proof.Machine.execWindowLimitReached buffer segments s
  | .pulseEdge input tick segments => Sys2Proof.Machine.execPulseEdge input tick segments s
  | .stall input => Sys2Proof.Machine.execStall input s
  | .gateEnd count => Sys2Proof.Machine.execGateEnd count s
  | .operationSecond => Sys2Proof.Machine.execOperationSecond s
  | .requestEnd => Sys2Proof.Machine.execRequestEnd s
  | .gvmPeriodExpiry => Sys2Proof.Machine.execGvmPeriodExpiry s
  | .learnBaseline port target => Sys2Proof.Machine.execLearnBaseline port target s
  | .tenMinuteBoundary => Sys2Proof.Machine.execTenMinuteBoundary s
  | .ghmUnalignedIntervalEnd => Sys2Proof.Machine.execGhmUnalignedIntervalEnd s
  | .mplUndatedIntervalEnd => Sys2Proof.Machine.execMplUndatedIntervalEnd s
  | .bimStep => Sys2Proof.Machine.execBimStep s
  | .overrideExpiry => Sys2Proof.Machine.execOverrideExpiry s
  | .iceOverrideBegin port minutes => Sys2Proof.Machine.execIceOverrideBegin port minutes s
  | .iceOverrideEnd port => Sys2Proof.Machine.execIceOverrideEnd port s
  | .pinIcingThresholds port set => Sys2Proof.Machine.execPinIcingThresholds port set s
  | .unpinIcingThresholds port => Sys2Proof.Machine.execUnpinIcingThresholds port s
  | .operatingReport port regime wind power heater => Sys2Proof.Machine.execOperatingReport port regime wind power heater s
  | .freshnessTimeout => Sys2Proof.Machine.execFreshnessTimeout s
  | .ceilingAck port number => Sys2Proof.Machine.execCeilingAck port number s
  | .acknowledgeTimerExpiry => Sys2Proof.Machine.execAcknowledgeTimerExpiry s
  | .ackAlarm port target => Sys2Proof.Machine.execAckAlarm port target s
  | .lockSnapshot port slot => Sys2Proof.Machine.execLockSnapshot port slot s
  | .unlockSnapshot port slot => Sys2Proof.Machine.execUnlockSnapshot port slot s
  | .setTime port day sec => Sys2Proof.Machine.execSetTime port day sec s
  | .presenceBegin port technician hours => Sys2Proof.Machine.execPresenceBegin port technician hours s
  | .presenceEnd port => Sys2Proof.Machine.execPresenceEnd port s
  | .presenceExpiry => Sys2Proof.Machine.execPresenceExpiry s
  | .planTask port fields => Sys2Proof.Machine.execPlanTask port fields s
  | .removeTask port id => Sys2Proof.Machine.execRemoveTask port id s
  | .deferTask port id days => Sys2Proof.Machine.execDeferTask port id days s
  | .closeTask port id outcome => Sys2Proof.Machine.execCloseTask port id outcome s
  | .restart port => Sys2Proof.Machine.execRestart port s
  | .writeOffsetTrim port index value => Sys2Proof.Machine.execWriteOffsetTrim port index value s
  | .writePtuItem port index value => Sys2Proof.Machine.execWritePtuItem port index value s
  | .writeRchItem port item => Sys2Proof.Machine.execWriteRchItem port item s
  | .writeMeasurementRecord port index value => Sys2Proof.Machine.execWriteMeasurementRecord port index value s
  | .writeBandConfig port index value => Sys2Proof.Machine.execWriteBandConfig port index value s
  | .writeGvmEnable port value => Sys2Proof.Machine.execWriteGvmEnable port value s
  | .writeMeasurementPeriod port value => Sys2Proof.Machine.execWriteMeasurementPeriod port value s
  | .writeGhmEnable port value => Sys2Proof.Machine.execWriteGhmEnable port value s
  | .writeGhmItem port item => Sys2Proof.Machine.execWriteGhmItem port item s
  | .writeVoltageLimit port order value => Sys2Proof.Machine.execWriteVoltageLimit port order value s
  | .writeBimEnable port value => Sys2Proof.Machine.execWriteBimEnable port value s
  | .writeBimPeakItem port item => Sys2Proof.Machine.execWriteBimPeakItem port item s
  | .writePowerCurve port rows => Sys2Proof.Machine.execWritePowerCurve port rows s
  | .writeIcingProfile port profile set => Sys2Proof.Machine.execWriteIcingProfile port profile set s
  | .writeCcuItem port item => Sys2Proof.Machine.execWriteCcuItem port item s
  | .writeComponentConfig port index value => Sys2Proof.Machine.execWriteComponentConfig port index value s
  | .writeNoticeMask port target mask => Sys2Proof.Machine.execWriteNoticeMask port target mask s
  | .readStatus port block part => Sys2Proof.Machine.execReadStatus port block part s
  | .readNotices port => Sys2Proof.Machine.execReadNotices port s
  | .readCeiling port => Sys2Proof.Machine.execReadCeiling port s
  | .readAlarms port skip => Sys2Proof.Machine.execReadAlarms port skip s
  | .readSnapshot port slot skip => Sys2Proof.Machine.execReadSnapshot port slot skip s
  | .readConfig port group index => Sys2Proof.Machine.execReadConfig port group index s
  | .readBands port band skip => Sys2Proof.Machine.execReadBands port band skip s
  | .readGridRecords port intervalEnd count skip => Sys2Proof.Machine.execReadGridRecords port intervalEnd count skip s
  | .readIcing port part => Sys2Proof.Machine.execReadIcing port part s
  | .readComponents port index skip => Sys2Proof.Machine.execReadComponents port index skip s
  | .readTasks port id skip => Sys2Proof.Machine.execReadTasks port id skip s
  | .readDaySummaries port day count skip => Sys2Proof.Machine.execReadDaySummaries port day count skip s
  | .readHistory port count skip => Sys2Proof.Machine.execReadHistory port count skip s
  | .frameChecked port frame sending => Sys2Proof.Machine.execFrameChecked port frame sending s
  | .frameCheckFailure port => Sys2Proof.Machine.execFrameCheckFailure port s
  | .octetGapTimeout port => Sys2Proof.Machine.execOctetGapTimeout port s
  | .replySent port => Sys2Proof.Machine.execReplySent port s
  | .octetReceived port octet sending => Sys2Proof.Machine.execOctetReceived port octet sending s
  | .batteryClockSecond => Sys2Proof.Machine.execBatteryClockSecond s

end Sys2Proof.Machine
end

