-- ==== Sys2Proof/Safety.lean ====
section
/-! DEFINITION. The terms the statements use: a request answered on its port, who may send what, the invariants of the
part, and the real values behind the exact arithmetic of the spectral engine. -/

namespace Sys2Proof.Machine

/-! ## A request answered -/

/-- `s` after a request of a kind was taken on a port and answered: the request counted, the reply formed with the state
as it stands (R189, R190, R196). The tag of a request taken as a command is 0 (log entry 25). -/
def answered (p : Port) (kind : Octet) (a : Answer) (s : State) : State :=
  let x := s.lnk.get p
  let r : Reply :=
    { kind := kind + 0x80, tag := 0, status := a.status, overrun := x.overrun, replaced := a.replaced,
      notices := x.notices, content := a.content,
      ceiling := if p = .cp then some (s.ccu.ceiling.getD 0, s.mon.ceilingSeq, s.ccu.acknowledged) else none }
  { s with lnk :=
    s.lnk.set p { x with reply := some r, counters := { x.counters with taken := inc16 x.counters.taken } } }

/-- The answers without content. -/
def plain (status : Status) : Answer := { status := status }

/-- The farm port, or the service port while a technician presence holds (R195). -/
def FarmOrPresence (p : Port) (s : State) : Prop := p = .fp ∨ p = .sp ∧ s.mpl.presence.isSome

/-- The service port while a technician presence holds (R195). -/
def ServicePresence (p : Port) (s : State) : Prop := p = .sp ∧ s.mpl.presence.isSome

/-- The port and the kind of a request that is given as a row of its own (R196). -/
def requestRow : Instr → Option (Port × Nat)
  | .readStatus p _ _ => some (p, 0x01)
  | .readNotices p => some (p, 0x02)
  | .readCeiling p => some (p, 0x03)
  | .readAlarms p _ => some (p, 0x04)
  | .ackAlarm p _ => some (p, 0x05)
  | .readSnapshot p _ _ => some (p, 0x06)
  | .readConfig p _ _ => some (p, 0x07)
  | .readBands p _ _ => some (p, 0x08)
  | .readGridRecords p _ _ _ => some (p, 0x09)
  | .readIcing p _ => some (p, 0x0a)
  | .readComponents p _ _ => some (p, 0x0b)
  | .readTasks p _ _ => some (p, 0x0c)
  | .readDaySummaries p _ _ _ => some (p, 0x0d)
  | .readHistory p _ _ => some (p, 0x0e)
  | .operatingReport p _ _ _ _ => some (p, 0x20)
  | .ceilingAck p _ => some (p, 0x21)
  | .setTime p _ _ => some (p, 0x30)
  | .writeOffsetTrim p _ _ | .writePtuItem p _ _ | .writeRchItem p _ | .writeMeasurementRecord p _ _
  | .writeBandConfig p _ _ | .writeGvmEnable p _ | .writeMeasurementPeriod p _ | .writeGhmEnable p _ | .writeGhmItem p _
  | .writeVoltageLimit p _ _ | .writeBimEnable p _ | .writeBimPeakItem p _ | .writePowerCurve p _
  | .writeIcingProfile p _ _ | .writeCcuItem p _ | .writeComponentConfig p _ _ | .writeNoticeMask p _ _ => some (p, 0x31)
  | .learnBaseline p _ => some (p, 0x32)
  | .pinIcingThresholds p _ => some (p, 0x33)
  | .unpinIcingThresholds p => some (p, 0x34)
  | .planTask p _ => some (p, 0x35)
  | .removeTask p _ => some (p, 0x36)
  | .deferTask p _ _ => some (p, 0x37)
  | .iceOverrideBegin p _ => some (p, 0x38)
  | .iceOverrideEnd p => some (p, 0x39)
  | .presenceBegin p _ _ => some (p, 0x40)
  | .presenceEnd p => some (p, 0x41)
  | .closeTask p _ _ => some (p, 0x42)
  | .lockSnapshot p _ => some (p, 0x43)
  | .unlockSnapshot p _ => some (p, 0x44)
  | .restart p => some (p, 0x45)
  | .powerOn _ _ _ | .mainPowerLoss | .batteryRetentionLoss | .resetAssert | .resetRelease _ | .serviceRestartStart _
  | .biasFault _ _ | .biasInRange _ _ | .recoveryQualificationExpiry _ | .converterCheck _ _ | .fixedCaptureComplete _ _
  | .windowLimitReached _ _ | .pulseEdge _ _ _ | .stall _ | .gateEnd _ | .operationSecond | .requestEnd
  | .gvmPeriodExpiry | .tenMinuteBoundary | .ghmUnalignedIntervalEnd | .mplUndatedIntervalEnd | .bimStep
  | .overrideExpiry | .freshnessTimeout | .acknowledgeTimerExpiry | .presenceExpiry | .frameChecked _ _ _
  | .frameCheckFailure _ | .octetGapTimeout _ | .replySent _ | .octetReceived _ _ _ | .batteryClockSecond => none

/-! ## Projections, due dates and settled tasks -/

/-- The rate of a component on a day: the mean of its increments, floored, in the up to seven latest day summaries that lie
after its counting-since day and at or after the day 14 days before; the ring holds its days in rising order (R162, R164). -/
def rateBy (c : Fin 16) (day : Nat) (s : State) : Option Nat :=
  let counted (d : DaySummary) : Bool :=
    (s.plan.wear[c].countingSince.all fun x => x < d.day) && day ≤ d.day + 14
  let latest := (s.plan.days.reverse.filter counted).take 7
  if latest = [] then none else some ((latest.map fun d => d.record.damage[c]).sum / latest.length)

/-- The projected day of a component for a target: today plus the days to target, at most 65535 (R164). -/
def projectedBy (c : Fin 16) (day target : Nat) (s : State) : Option Nat :=
  let damage := s.plan.wear[c].damage
  if target ≤ damage then some (min day 65535)
  else match rateBy c day s with
    | none | some 0 => none
    | some r => some (min (day + min ((target - damage + (r - 1)) / r) 3650) 65535)

/-- The damage target of a task (R167). -/
def targetBy (x : Task) (s : State) : Nat :=
  min (x.damageRef + s.plan.config[x.component].damageLimit * x.fraction.getD 0 / 1000) 4294967295

/-- The due date of a task on a day (R167). -/
def dueBy (day : Nat) (x : Task) (s : State) : Option Nat :=
  let calendarPart : Option Nat := if x.trigger = .damage then none else x.intervalDays.map (x.lastDone + ·)
  let damagePart : Option Nat :=
    if x.trigger = .damage ∨ x.trigger = .both then
      match x.targetReached with
      | some d => some d
      | none =>
        if targetBy x s ≤ s.plan.wear[x.component].damage then some day
        else projectedBy x.component day (targetBy x s) s
    else none
  let base : Option Nat := match calendarPart, damagePart with
    | some a, some b => some (min a b)
    | some a, none => some a
    | none, b => b
  base.map fun b => min (max (b + x.deferred) x.lastDone) 65535

/-- The planner contribution on a day is the least ceiling among the tasks that are OVERDUE and past their grace, or 100
(R169). -/
def PlannerLeast (day : Nat) (t : State) : Prop :=
  let past (x : Task) : Prop := x.state = .overdue ∧ ∃ due, dueBy day x t = some due ∧ due + x.grace < day
  ∃ v, t.ccu.contributions.planner = some v ∧ v ≤ 100 ∧
    (∀ x ∈ t.plan.tasks, past x → ∀ d, x.derate = some d → v ≤ d) ∧
    (v = 100 ∨ ∃ x ∈ t.plan.tasks, past x ∧ x.derate = some v)

/-- After a recompute on a day: every task has the state that R168 gives to its due date, one whose damage is at its target
holds a target-reached day, and the planner contribution is that of R169 (R167, R168, R169). -/
def TasksSettled (t : State) : Prop :=
  ∀ day, today t = some day →
    (∀ x ∈ t.plan.tasks,
      (x.state = match dueBy day x t with
        | none => .planned
        | some due => if due < day then .overdue else if due ≤ day + x.notice then .due else .planned) ∧
      ((x.trigger = .damage ∨ x.trigger = .both) → targetBy x t ≤ t.plan.wear[x.component].damage →
        x.targetReached ≠ none)) ∧
    PlannerLeast day t

/-- The target-reached day that a recompute on a day gives to a task that held none (R167). -/
def reachedBy (day : Nat) (x : Task) (t : State) : Option Nat :=
  if (x.trigger = .damage ∨ x.trigger = .both) ∧ targetBy x t ≤ t.plan.wear[x.component].damage then some day else none

/-- The increment of a component at the end of the interval in progress, from the terms of R159. -/
def wearIncrement (c : Fin 16) (s : State) : Nat :=
  let i := s.plan.interval
  let x := i.comps[c]
  let cfg := s.plan.config[c]
  let mean : Nat := (max 0 (min 120 (Int.fdiv i.powerSum (10 * i.producing)))).toNat
  let load : Nat := match cfg.exponent with
    | 0 => 1000
    | 1 => 10 * mean
    | _ => mean ^ 3 / 1000
  let excess : Nat :=
    if cfg.tempChannel = none ∨ x.tempCount = 0 then 0
    else (max 0 (min 400 (Int.fdiv x.tempSum x.tempCount - cfg.thetaRef))).toNat
  let base := 16 * 2 ^ (excess / 100)
  let factor := base + base * (excess % 100 / 10) / 10
  if i.producing = 0 then 0
  else (i.producing - x.replacedOffset) * cfg.weight * load * 2 ^ x.worst * factor / 16000

/-- `q` is the day record `r` with the credit of the accounting interval in progress in `s` (R160, R161). -/
def Credited (s : State) (r q : DayRecord) : Prop :=
  q =
      { r with
        producing := min (r.producing + s.plan.interval.producing) 4294967295, damage := q.damage
        maxGrade := q.maxGrade } ∧
    ∀ c : Fin 16, q.damage[c] = min (r.damage[c] + wearIncrement c s) 4294967295 ∧
      q.maxGrade[c] = max r.maxGrade[c] s.plan.interval.comps[c].worst

/-- `q` is the day record `r` with the tally `u` folded into it (R163). -/
def Folded (u r q : DayRecord) : Prop :=
  q =
      { producing := min (r.producing + u.producing) 4294967295, damage := q.damage, maxGrade := q.maxGrade
        icedMinutes := min (r.icedMinutes + u.icedMinutes) 65535
        suspectMinutes := min (r.suspectMinutes + u.suspectMinutes) 65535
        exceedances := min (r.exceedances + u.exceedances) 65535
        disturbed := min (r.disturbed + u.disturbed) 65535
        alarms := min (r.alarms + u.alarms) 65535, skips := min (r.skips + u.skips) 65535 } ∧
    ∀ c : Fin 16, q.damage[c] = min (r.damage[c] + u.damage[c]) 4294967295 ∧
      q.maxGrade[c] = max r.maxGrade[c] u.maxGrade[c]

/-- `q` is the day record `r` after alarms were raised and, where it says so, a grid record with an exceedance set was
reported (R161). -/
def Reported (exceeded : Bool) (r q : DayRecord) : Prop :=
  q =
      { r with
        exceedances := if exceeded then min (r.exceedances + 1) 65535 else r.exceedances
        alarms := q.alarms } ∧
    min r.alarms 65535 ≤ q.alarms

/-! ## Alarms -/

/-- The alarm table holds an active entry for a code and source (R143). -/
def AlarmActive (code : AlarmCode) (source : Source) (s : State) : Prop :=
  ∃ e ∈ s.ccu.alarms, e.code = code ∧ e.source = source ∧ (e.state = .activeUnack ∨ e.state = .activeAck)

/-- The alarm table holds no active entry for a code and source (R144). -/
def AlarmQuiet (code : AlarmCode) (source : Source) (s : State) : Prop :=
  ∀ e ∈ s.ccu.alarms, e.code = code → e.source = source → e.state = .clearedUnack

/-- The alarm table has a free entry, or already holds one for a code and source: a raise leaves it active (R143). -/
def HasRoom (code : AlarmCode) (source : Source) (s : State) : Prop :=
  s.ccu.alarms.length < 32 ∨ ∃ e ∈ s.ccu.alarms, e.code = code ∧ e.source = source

/-! ## Aborted captures -/

/-- Measurement `m` is CAPTURING into the buffer `b` (R71, R72). -/
def CapturesInto (m : Fin 8) (b : BufferId) (s : State) : Prop :=
  s.gvm.work[m].work = .capturing ∧ ∃ c, s.gvm.work[m].context = some c ∧ c.buffer = b

/-- From `s` to `t` the captures of the buffers `hit` were aborted: the one measurement CAPTURING into a GVM buffer among them
is IDLE, its held write out of the holder, and the work of every other measurement is as it was (R71, R75, R84). -/
def GvmWorkAborted (hit : BufferId → Bool) (s t : State) : Prop :=
  ∀ m : Fin 8,
    let w := s.gvm.work[m]
    let w' := t.gvm.work[m]
    (∀ b, (b = .gvmA ∨ b = .gvmB) → hit b = true → CapturesInto m b s → (∀ k, CapturesInto k b s → k = m) →
      w'.work = .idle ∧ w'.outstanding = none ∧ w'.context = none ∧ w'.pending = none ∧
        (w.pending = none → w'.outcome = w.outcome) ∧
        (∀ i v, w.pending = some (.band i v) → w'.outcome = .applied) ∧
        ∀ v, w.pending = some (.measurement v) → w'.outcome = .applied ∨ w'.outcome = .dropped) ∧
    ((∀ b, (b = .gvmA ∨ b = .gvmB) → hit b = true → ¬ CapturesInto m b s) → w' = w)

/-- A 16-bit saturating abort counter of the GVM after the captures of `hit` were aborted: one more for each GVM buffer among
them that a measurement was filling (R75). -/
def abortsCounted (hit : BufferId → Bool) (s : State) (counter : Nat) : Nat :=
  let n := ([BufferId.gvmA, .gvmB].filter fun b => hit b && (capturingOn b s).isSome).length
  if n = 0 then counter else min (counter + n) 65535

/-! ## The end of a grid interval -/

/-- The grid interval as the completion of the open block leaves it (R98, R100). -/
def completedInterval (s : State) : GridInterval :=
  let i := s.ghm.interval
  let b := s.ghm.block
  let plus (q : SquareSum) (v : Option Nat) : SquareSum := match v with
    | none => q
    | some x => { sum := q.sum + x ^ 2, count := q.count + 1 }
  if b.analysed = 0 then i
  else { i with sums := i.sums.zip plus (b.sums.map SquareSum.root), values := i.values + 1 }

/-- The 10-minute ratio of an order: the greatest of the three phases (R101). -/
def tenMinuteRatio (i : GridInterval) (h : Nat) : Nat :=
  let phase (v : Vector SquareSum 39) : Nat := ((v.toList[h - 2]?).bind SquareSum.root).getD 0
  max (max (phase i.sums.ratio.a) (phase i.sums.ratio.b)) (phase i.sums.ratio.c)

/-- `r` is the compliance record of the interval that ends in the state `s` (R101). -/
def RecordOf (timeSet : Bool) (s : State) (r : ComplianceRecord) : Prop :=
  let i := completedInterval s
  r.intervalEnd = s.cal ∧ r.meanFreq = i.freqSum / i.freqCount ∧ r.vThd = i.sums.thd.map SquareSum.root ∧
    r.iThd = i.sums.currentThd.map SquareSum.root ∧ r.used = min i.values 255 ∧ (r.sparse = true ↔ i.values < 100) ∧
    r.unaligned = i.unaligned ∧ r.timeSet = timeSet ∧ r.disturbed = i.disturbed ∧
    2 ≤ r.worstOrder ∧ r.worstOrder ≤ 40 ∧ r.worstRatio = tenMinuteRatio i r.worstOrder ∧
    (∀ h, 2 ≤ h → h ≤ 40 → tenMinuteRatio i h ≤ r.worstRatio) ∧
    (∀ h, 2 ≤ h → h < r.worstOrder → tenMinuteRatio i h < r.worstRatio) ∧
    r.exceeded.Pairwise (· < ·) ∧
    ∀ h, h ∈ r.exceeded ↔ 2 ≤ h ∧ h ≤ 40 ∧ s.cfg.ghm.voltageLimit.toList.getD (h - 2) 0 < tenMinuteRatio i h

/-- `x` is the greatest current THD present in a record (R104). -/
def GreatestCurrentThd (r : ComplianceRecord) (x : Nat) : Prop :=
  some x ∈ r.iThd.toList ∧ ∀ y, some y ∈ r.iThd.toList → y ≤ x

/-- The current confirm counter a graded record leaves (R104). -/
def confirmedBy (x : Nat) (s : State) : Nat :=
  if s.cfg.ghm.iAlarm ≤ x then min (s.mon.currentConfirm + 1) 2 else 0

/-- The current grade a graded record leaves (R104). -/
def gradedBy (x : Nat) (s : State) : Nat :=
  let c := s.cfg.ghm
  match s.mon.currentGrade with
  | 0 => if confirmedBy x s = 2 then 2 else if c.iAlert ≤ x then 1 else 0
  | 1 => if confirmedBy x s = 2 then 2 else if x + c.iHyst < c.iAlert then 0 else 1
  | _ => if c.iAlarm ≤ x + c.iHyst then 2 else if x + c.iHyst < c.iAlert then 0 else 1

/-- From `s` to `t` a closed record is offered to the ring and graded; a change of grade reaches the Planner and the grid
contribution (R102, R104, R105). -/
def RecordJudged (r : ComplianceRecord) (s t : State) : Prop :=
  let ring := s.records.ring
  let c := s.ghm.counters
  let later : Prop :=
    ∃ e, r.intervalEnd = some e ∧ ∀ x n, ring.getLast? = some x → x.intervalEnd = some n → n.before e = true
  let kept : Prop := t.mpl.grades = s.mpl.grades ∧ t.ccu.contributions.grid = s.ccu.contributions.grid
  t.ghm.counters.closed = min (c.closed + 1) 65535 ∧
    (later → t.records.ring = (if ring.length = 144 then ring.drop 1 else ring) ++ [r] ∧
      t.ghm.counters.orderDropped = c.orderDropped ∧ ∀ p, (t.lnk.get p).notices &&& 0x040#16 = 0x040#16) ∧
    (¬ later → t.records.ring = ring ∧ t.ghm.counters.orderDropped = min (c.orderDropped + 1) 65535) ∧
    ((r.sparse = true ∨ ∀ x, ¬ GreatestCurrentThd r x) →
      t.mon.currentGrade = s.mon.currentGrade ∧ t.mon.currentConfirm = s.mon.currentConfirm ∧ kept) ∧
    ∀ x, r.sparse = false → GreatestCurrentThd r x →
      t.mon.currentConfirm = confirmedBy x s ∧ t.mon.currentGrade = gradedBy x s ∧
        (gradedBy x s = s.mon.currentGrade → kept) ∧
        (gradedBy x s ≠ s.mon.currentGrade →
          t.mpl.grades = { s.mpl.grades with current := gradedBy x s } ∧
            t.ccu.contributions.grid = some (if gradedBy x s = 2 then s.cfg.ghm.gridCeiling else 100))

/-- From `s` to `t` a closed record acts on the alarms of the grid monitor (R103, R104). -/
def RecordAlarms (r : ComplianceRecord) (s t : State) : Prop :=
  (r.sparse = false → r.exceeded ≠ [] → AlarmActive .gridVoltageExceed .ghm t) ∧
    (r.sparse = false → r.exceeded = [] → AlarmQuiet .gridVoltageExceed .ghm t) ∧
    ∀ x, r.sparse = false → GreatestCurrentThd r x → gradedBy x s ≠ s.mon.currentGrade →
      (gradedBy x s = 1 → AlarmActive .gridCurrentAlert .ghm t) ∧
        (gradedBy x s = 2 → AlarmActive .gridCurrentAlarm .ghm t) ∧
        (s.mon.currentGrade = 1 → AlarmQuiet .gridCurrentAlert .ghm t) ∧
        (s.mon.currentGrade = 2 → AlarmQuiet .gridCurrentAlarm .ghm t)

/-! ## A start -/

/-- The task table holds at most 32 tasks, in rising order of id (R165). -/
def TasksOrdered (s : State) : Prop :=
  s.plan.tasks.length ≤ 32 ∧ (s.plan.tasks.map (·.id)).Pairwise (· < ·)

/-- The planned end of an interval that starts at a reading: the first ten-minute boundary later, or 600 s of operation while
the calendar is unset (R99, R158). -/
def freshEnd : Option Timestamp → PlannedEnd
  | none => .seconds 600
  | some now =>
    let b := (now.sec / 600 + 1) * 600
    .boundary (if b < 86400 then ⟨now.day, b⟩ else ⟨now.day + 1, 0⟩)

/-- Whether a bias in millivolts is out of range (R4). -/
def outOfRange (mv : Int) : Bool := mv < 2000 || 22000 < mv

/-- Every block has the volatile values of a start, and each accelerometer channel the fault state of its first bias (R19,
R32, R44, R65, R86, R110, R133). -/
def StartValues (bias : PerAccel Int) (t : State) : Prop :=
  let accel (mv : Int) : AccelState :=
    { fault := if mv < 2000 then .openCircuit else if 22000 < mv then .shortCircuit else .none, qualification := none }
  let pulse (p : Pulse) : PulseState :=
    { meas := .waiting 0 (t.cfg.ptu.chan.get p).stallLimit, prevAccepted := none, latest := none, seqCount := 0
      rejected := 0, stallMark := false, stallIn := min (t.cfg.ptu.chan.get p).stallLimit 429 }
  t.afe =
      { sinceGrid := 0, converterFault := false, latestCheck := none, nextCheck := 1, failedChecks := 0
        accel := ⟨accel bias.g1, accel bias.g2, accel bias.g3, accel bias.g4, accel bias.n1⟩
        buffers := ⟨.free, .free, .free, .free, .free⟩ } ∧
    t.ptu =
      { chan := ⟨pulse .p0, pulse .p1, pulse .p2⟩, mismatchCounter := 0, mismatchFlag := false, mismatchEvents := 0 } ∧
    t.rch = { pos := .ref, cRef := none, rawRef := none, refFault := false, sensor := ⟨{}, {}, {}, {}⟩ } ∧
    t.spe = { inProgress := none, queue := [], marker := .bim, arrival := 0, counters := ⟨{}, {}, {}⟩ } ∧
    t.gvm =
      { period := t.cfg.gvmPeriod, periodTimer := if t.cfg.gvmEnable then some t.cfg.gvmPeriod else none, position := none
        work := Vector.replicate 8 { work := .idle, outstanding := none, context := none, pending := none, outcome := .none }
        skipMark := Vector.replicate 24 false
        lastLevel := Vector.replicate 24 { level := none, clipped := false, saturated := false, unresolved := false }
        counters := {} } ∧
    t.ghm =
      { window := if t.cfg.ghm.enable then .searching else .off, entries := [], nextWindow := 0, lastWindow := none
        disturbed := false, disturbances := 0, block := GridBlock.empty, lastSummary := none
        interval :=
          { sums := Quantities.all {}, unaligned := t.cal.isNone, planned := freshEnd t.cal, begunOff := !t.cfg.ghm.enable }
        counters := {} } ∧
    t.bim =
      { stepTimer := if t.cfg.bim.enable then some 60 else none, stepNumber := 0, recorded := 0, outstanding := none
        heldPeak := none, override := none, lastStep := none, counters := {} }

/-- MONITOR after a start from `old`, which is its defaults where it failed: the bands agree with the configuration and the
ceiling's number is counted (R87, R150). -/
def StartMonitor (old : MonitorSection) (t : State) : Prop :=
  t.mon = { old with bands := t.mon.bands, ceilingSeq := (old.ceilingSeq + 1) % 65536 } ∧
    ∀ b : Fin 24, t.mon.bands[b] =
      if t.cfg.bands[b].enabled = true ∧ owningMeasurement t.cfg b ≠ none then
        if old.bands[b].mode = .disabled then { mode := .learning, baseline := old.bands[b].baseline } else old.bands[b]
      else { mode := .disabled, baseline := old.bands[b].baseline }

/-- The grades and the contributions that the monitors post at a start (R81, R82, R88, R105, R111, R127, R128, R134), with
the planner contribution 100 while there is no today (R176). -/
def StartPosts (t : State) : Prop :=
  let g := t.mpl.grades
  let c := t.ccu.contributions
  let i := t.mon.icing
  (∀ k : Fin 16,
      (∀ b : Fin 24, t.mon.bands[b].mode = .armed → t.cfg.bands[b].component = some k.val →
        t.mon.bands[b].grade ≤ g.bands[k]) ∧
      (g.bands[k] = 0 ∨ ∃ b : Fin 24, t.mon.bands[b].mode = .armed ∧ t.cfg.bands[b].component = some k.val ∧
        t.mon.bands[b].grade = g.bands[k])) ∧
    g.current = t.mon.currentGrade ∧
    (∃ v, c.gearbox = some v ∧ v ≤ 100 ∧
      (∀ b : Fin 24, t.cfg.bands[b].derate = true → t.mon.bands[b].grade = 2 → v ≤ t.cfg.bands[b].derateCeiling) ∧
      (v = 100 ∨ ∃ b : Fin 24, t.cfg.bands[b].derate = true ∧ t.mon.bands[b].grade = 2 ∧
        v = t.cfg.bands[b].derateCeiling)) ∧
    c.grid = some (if t.mon.currentGrade = 2 then t.cfg.ghm.gridCeiling else 100) ∧
    (g.icing, c.icing) = (match i.state with
      | .clear => (0, some 100)
      | .suspect => (1, some i.active.suspectCeiling)
      | .iced => (2, some i.active.icedCeiling)
      | .shedding => (1, some i.active.sheddingCeiling)) ∧
    (t.cal = none → c.planner = some 100)

/-- The open day record, the day ring and the order-dropped count of a start: a record without a day takes today, and one of an
earlier day closes as its own day (R176 steps 1 and 2, R162 steps 1 and 3). -/
def daysAtStart (p : PlanSection) (now : Option Timestamp) : OpenDay × List DaySummary × Nat :=
  match now, p.openDay.day with
  | none, _ => (p.openDay, p.days, 0)
  | some now, none => ({ p.openDay with day := some now.day }, p.days, 0)
  | some now, some d =>
    let next : OpenDay := { day := some now.day, record := {} }
    if now.day ≤ d then (p.openDay, p.days, 0)
    else if p.days.getLast?.all fun x => x.day < d then
      (next, (if p.days.length = 31 then p.days.drop 1 else p.days) ++ [⟨d, p.openDay.record⟩], 0)
    else (next, p.days, 1)

/-- The tasks and the waiting marks of a start: every task is kept but for its state and target-reached day, and a component
at the full duration without a CONDITION task has one of the part, or waits where the table has no room, in order of index;
the tasks are settled (R170, R176 steps 3, 4 and 6). -/
def StartTasks (p : PlanSection) (t : State) : Prop :=
  let full (c : Fin 16) : Prop := t.plan.wear[c].grade2Duration = 86400
  let lacks (l : List Task) (c : Fin 16) : Prop := ∀ x ∈ l, x.trigger = .condition → x.component ≠ c
  let renewed (x y : Task) : Prop := y = { x with state := y.state, targetReached := y.targetReached }
  (t.cal = none → t.plan.tasks = p.tasks ∧ t.mpl.waiting = Vector.replicate 16 false) ∧
    (∀ x ∈ p.tasks, ∃ y ∈ t.plan.tasks, renewed x y) ∧
    (∀ y ∈ t.plan.tasks, (∃ x ∈ p.tasks, renewed x y) ∨
      ∃ now, t.cal = some now ∧ full y.component ∧ lacks p.tasks y.component ∧ 1 ≤ y.id ∧ y.id ≤ 255 ∧
        (∀ x ∈ p.tasks, x.id ≠ y.id) ∧ (∀ k, 1 ≤ k → k < y.id → ∃ z ∈ t.plan.tasks, z.id = k) ∧
        y =
          { id := y.id, component := y.component, kind := .inspect, trigger := .condition
            intervalDays := some p.config[y.component].conditionDays, fraction := none, notice := 0, grace := 0
            derate := none, lastDone := now.day, created := now.day, state := y.state, origin := .part }) ∧
    (∀ now, t.cal = some now → ∀ c : Fin 16, t.mpl.waiting[c] = true ↔ full c ∧ lacks t.plan.tasks c) ∧
    (∀ c k : Fin 16, t.mpl.waiting[c] = true → 32 ≤ t.plan.tasks.length ∧
      (c < k → full k → lacks p.tasks k → t.mpl.waiting[k] = true)) ∧
    TasksSettled t

/-- PLAN after a start from `p`, which is its defaults where it failed: a component below grade 2 has no grade-2 time, the
accounting interval goes on to a planned end set afresh, the days are those of R176, and the day record of the moment, or the
undated tally, has counted the alarm entries made (R157, R161, R175, R176). -/
def StartPlan (p : PlanSection) (t : State) : Prop :=
  let days := daysAtStart p t.cal
  let n := t.ccu.alarms.length
  let counted (r : DayRecord) : DayRecord := if n = 0 then r else { r with alarms := min (r.alarms + n) 65535 }
  t.plan =
      { config := p.config
        wear := t.plan.wear
        interval := { p.interval with planned := freshEnd t.cal }
        openDay := if t.cal = none then days.1 else { days.1 with record := counted days.1.record }
        undated := if t.cal = none then counted p.undated else p.undated
        days := days.2.1
        tasks := t.plan.tasks
        history := p.history } ∧
    (∀ c : Fin 16, t.plan.wear[c] =
      if componentGrade t c < 2 then { p.wear[c] with grade2Since := none, grade2Duration := 0 } else p.wear[c]) ∧
    t.mpl =
      { presence := none, grades := t.mpl.grades, waiting := t.mpl.waiting, prunedDays := 0, orderDropped := days.2.2 } ∧
    StartTasks p t

/-- The alarms implied at a start, in the order of their raises: RETAINED_LOST, those of the retained state that each owner
hands over, and the SENSOR_FAULTs of the first biases (R150, R182, R19). -/
def impliedAlarms (failed : List RetSection) (bias : PerAccel Int) (t : State) : List (AlarmCode × Source) :=
  let one (raised : Bool) (code : AlarmCode) (source : Source) : List (AlarmCode × Source) :=
    if raised then [(code, source)] else []
  let band (b : Fin 24) : List (AlarmCode × Source) :=
    let grade := t.mon.bands[b].grade
    one (grade = 1) .bandAlert (.band b.val) ++ one (grade = 2) .bandAlarm (.band b.val)
  let task (x : Task) : List (AlarmCode × Source) :=
    one (x.state = .due) .taskDue (.task x.id) ++ one (x.state = .overdue) .taskOverdue (.task x.id)
  let icing := t.mon.icing.state
  List.flatten
    [one (failed ≠ []) .retainedLost .ret,
      (List.finRange 24).flatMap band,
      one (t.mon.currentGrade = 1) .gridCurrentAlert .ghm,
      one (t.mon.currentGrade = 2) .gridCurrentAlarm .ghm,
      one (icing = .suspect) .iceSuspect .bim,
      one (icing = .iced || icing = .shedding) .iceDetected .bim,
      (t.plan.tasks.take 32).flatMap task,
      one ((List.finRange 16).any fun c => t.mpl.waiting[c]) .taskTableFull .mpl,
      [Accel.g1, .g2, .g3, .g4, .n1].flatMap fun c => one (outOfRange (bias.get c)) .sensorFault (.accel c)]

/-- The alarm table of a start, for tasks with ids of their own: an ACTIVE_UNACK entry for each implied alarm, in their order,
as far as the 32 places go, and an overflow for each later one (R143, R146, R150). -/
def StartAlarms (failed : List RetSection) (bias : PerAccel Int) (t : State) : Prop :=
  let implied := impliedAlarms failed bias t
  let entry (k : AlarmCode × Source) : AlarmEntry :=
    { code := k.1, source := k.2, state := .activeUnack, raisedAt := t.cal, lastChange := t.cal, ackBy := none
      occurrences := 1 }
  (t.plan.tasks.map (·.id)).Nodup → t.ccu.alarms = (implied.take 32).map entry ∧
    t.ccu.tableOverflow = decide (32 < implied.length) ∧ t.ccu.counters.overflows = implied.length - 32

/-- The operating record, the ceiling and the ports of a start: the ceiling is the least contribution, unacknowledged, and each
notice set holds START, CEILING_CHANGED, ALARM_RAISED if any alarm was implied, and SNAPSHOT_TAKEN if a SENSOR_FAULT took a
snapshot (R137, R150, R151, R180, R200). -/
def StartPorts (failed : List RetSection) (bias : PerAccel Int) (t : State) : Prop :=
  let c := t.ccu
  let notices : NoticeSet :=
    0x104#16 ||| (if impliedAlarms failed bias t = [] then 0#16 else 0x001#16) |||
      (if c.counters.snapshots = 0 then 0#16 else 0x010#16)
  c =
      { op := {}, sinceReport := none, freshness := some t.cfg.reportTimeout, contributions := c.contributions
        ceiling := some (leastContribution c.contributions), acknowledged := false, ackTimer := some 30
        alarms := c.alarms, tableOverflow := c.tableOverflow
        counters := { overflows := c.counters.overflows, snapshots := c.counters.snapshots } } ∧
    ∀ p, t.lnk.get p =
      { receiver := .hunting, inWork := none, waiting := none, overrun := false, overrunAgain := false, owed := none
        reply := none, transmitted := [], notices := notices, attention := (notices &&& t.cfg.masks.get p) != 0
        rate := (t.lnk.get p).rate, counters := {} }

/-- What a start that runs to its end leaves, from the state `s` before it, with the sections that failed: each of these has
its defaults and every other is as it was, but for what R87, R150 and R176 change; the compliance ring, and with no snapshot
of a SENSOR_FAULT all of RECORDS, is kept (R150, R179 to R182, R185). -/
def StartedFrom (cause : StartCause) (failed : List RetSection) (bias : PerAccel Int) (s t : State) : Prop :=
  let lost (k : RetSection) : Bool := failed.contains k
  let records := if lost .records then {} else s.records
  let faulty := ([Accel.g1, .g2, .g3, .g4, .n1].filter fun c => outOfRange (bias.get c)).length
  t.ret.operating = true ∧ t.ret.restartAccepted = false ∧
    t.ret.startRecord = some { cause := cause, lost := failed, time := t.cal } ∧
    t.cfg = (if lost .config then {} else s.cfg) ∧
    t.cal = (if lost .calendar then none else s.cal) ∧
    t.records.ring = records.ring ∧ t.ccu.counters.snapshots ≤ faulty ∧
    (t.ccu.counters.snapshots = 0 → t.records = records) ∧
    (lockedSlots records.slots ≤ 6 → t.cfg.snapshotThreshold ≤ 3 →
      t.ccu.counters.snapshots = (t.ccu.alarms.filter fun e => e.code = .sensorFault).length) ∧
    StartMonitor (if lost .monitor then { icing := { state := .suspect, active := t.cfg.bim.heaterOff } } else s.mon) t ∧
    StartPlan
      (if lost .plan then { wear := Vector.replicate 16 { countingSince := t.cal.map (·.day) } } else s.plan) t ∧
    StartValues bias t ∧ StartPosts t ∧ StartAlarms failed bias t ∧ StartPorts failed bias t ∧
    ((∃ e ∈ t.ccu.alarms, e.code = .retainedLost) ↔ failed ≠ []) ∧ (TasksOrdered s → TasksOrdered t)

/-- Whether the ceiling's number has been counted in a start cut short after `k` whole stages: sixty restorations come before
it in stage 5, those of RETAINED_LOST, of 24 bands, of the current grade, of the icing state, of 32 places of the task table
and of the components left waiting (R150, R177). -/
def numberCounted (k : Nat) (x : StartInput) : Bool :=
  4 < k || k = 4 && (60 < x.moments || x.moments = 60 && x.updated.contains .monitor)

/-- What a start cut short after `k` whole stages leaves, from `s`, whatever the stage, with the sections `done` at their
defaults: no work, no operation, and of CONFIG, MONITOR, PLAN, RECORDS and CALENDAR what was written by then (R177, R178,
R183). -/
def CutStart (done : RetSection → Bool) (k : Nat) (x : StartInput) (s t : State) : Prop :=
  t.ret.operating = false ∧ t.ret.startRecord = none ∧ t.ret.powerOnDue = none ∧ t.ccu.alarms = [] ∧ t.spe = {} ∧
    (∀ b, bufferOf t b = .free) ∧ (∀ p, (t.lnk.get p).attention = false) ∧
    t.cfg = (if done .config then {} else s.cfg) ∧ t.cal = (if done .calendar then none else s.cal) ∧
    t.mon.icing = (if done .monitor then { active := t.cfg.bim.heaterOff } else s.mon.icing) ∧
    t.mon.ceilingSeq =
      (let base := if done .monitor then 0 else s.mon.ceilingSeq
       if numberCounted k x then (base + 1) % 65536 else base) ∧
    t.records.ring = (if done .records then [] else s.records.ring) ∧
    t.plan.history = (if done .plan then [] else s.plan.history)

/-- What a loss of power or an assertion of the reset input leaves: every section and the reading as they were, and no
work, no alarm, no presence and no asserted line (R177, R183). -/
def HeldFrom (s t : State) : Prop :=
  t.ret.operating = false ∧ t.cfg = s.cfg ∧ t.mon = s.mon ∧ t.plan = s.plan ∧ t.records = s.records ∧ t.cal = s.cal ∧
    (∀ b, bufferOf t b = .free) ∧ t.spe = {} ∧ t.ccu.alarms = [] ∧ t.mpl.presence = none ∧ t.bim.override = none ∧
    ∀ p, (t.lnk.get p).attention = false ∧ (t.lnk.get p).inWork = none ∧ (t.lnk.get p).waiting = none ∧
      (t.lnk.get p).receiver = .hunting

/-! ## Invariants -/

/-- Every attention line follows its notice set and mask, and none is asserted without operation (R183, R193). -/
def LinesFollow (s : State) : Prop :=
  ∀ p, (s.lnk.get p).attention = (s.ret.operating && ((s.lnk.get p).notices &&& s.cfg.masks.get p) != 0)

/-- The alarm table holds at most 32 entries, with one entry for a code and source (R142, R143). -/
def AlarmsKeyed (s : State) : Prop :=
  s.ccu.alarms.length ≤ 32 ∧ (s.ccu.alarms.map fun e => (e.code, e.source)).Nodup

/-- While the part operates the ceiling is the least of the four contributions (R138). -/
def CeilingIsLeast (s : State) : Prop :=
  s.ret.operating = true → s.ccu.ceiling = some (leastContribution s.ccu.contributions)

/-- The engine is never IDLE while a request waits (R48). -/
def EngineServes (s : State) : Prop := s.spe.inProgress = none → s.spe.queue = []

/-- The part operates only with main power and with the reset input released (R178, R183). -/
def SupplyHolds (s : State) : Prop := s.ret.operating = true → s.ret.powered = true ∧ s.ret.resetAsserted = false

/-- The rings of the retained sections keep their sizes, the stored days rise, and at most six snapshots are locked (R102,
R115, R148, R162, R173). -/
def StoresBounded (s : State) : Prop :=
  s.records.ring.length ≤ 144 ∧ s.mon.icing.ring.length ≤ 10 ∧ s.plan.days.length ≤ 31 ∧ s.plan.history.length ≤ 64 ∧
    (s.plan.days.map (·.day)).Pairwise (· < ·) ∧ lockedSlots s.records.slots ≤ 6

/-! ## A full task table -/

/-- From `s`, whose table of 32 tasks loses the task `id`, to `t` the first waiting component `c` has taken the free entry: a
condition task with the lowest id not in use (R166, R170). -/
def ServedFromFull (id : Nat) (c : Fin 16) (today : Nat) (s t : State) : Prop :=
  t.plan.tasks.length = 32 ∧ t.mpl.waiting = s.mpl.waiting.set c false ∧
    (AlarmsKeyed s → (∀ k : Fin 16, k ≠ c → s.mpl.waiting[k] = false) → AlarmQuiet .taskTableFull .mpl t) ∧
    (∀ z ∈ s.plan.tasks, z.id ≠ id →
      ∃ y ∈ t.plan.tasks, y = { z with state := y.state, targetReached := y.targetReached }) ∧
    (∀ p, (t.lnk.get p).notices &&& 0x008#16 = 0x008#16) ∧
    ∃ y ∈ t.plan.tasks, y =
        { id := y.id, component := c, kind := .inspect, trigger := .condition
          intervalDays := some s.plan.config[c].conditionDays, fraction := none, notice := 0, grace := 0, derate := none
          lastDone := today, created := today, state := y.state, origin := .part } ∧
      1 ≤ y.id ∧ y.id ≤ 255 ∧ (∀ z ∈ s.plan.tasks, z.id ≠ id → z.id ≠ y.id) ∧
      ∀ k, 1 ≤ k → k < y.id → ∃ z ∈ s.plan.tasks, z.id = k ∧ z.id ≠ id

/-- The first waiting component, which has no condition task (R170). -/
def FirstWaiting (c : Fin 16) (s : State) : Prop :=
  s.mpl.waiting[c] = true ∧ (∀ k : Fin 16, k < c → s.mpl.waiting[k] = false) ∧
    ∀ x ∈ s.plan.tasks, x.trigger = .condition → x.component ≠ c

/-! ## Layouts (R199) -/

/-- The low octet of a number. -/
def low (n : Nat) : Octet := BitVec.ofNat 8 n

/-- Two octets, the high one first. -/
def two (n : Nat) : List Octet := [low (n / 256), low n]

/-- Four octets, the high one first. -/
def four (n : Nat) : List Octet := [low (n / 16777216), low (n / 65536), low (n / 256), low n]

/-- A signed number of two octets, in two's complement. -/
def twoSigned (x : Int) : List Octet := two (x % 65536).toNat

/-- A flag. -/
def flag (b : Bool) : List Octet := if b then [1] else [0]

/-- A field that may be absent: its presence octet, then its octets, which are 0 where it is absent. -/
def present {α : Type} (f : α → List Octet) (absent : List Octet) : Option α → List Octet
  | none => 0 :: absent
  | some x => 1 :: f x

/-- A number of one octet that may be absent. -/
def oneOr : Option Nat → List Octet := present (fun n => [low n]) [0]

/-- A number of two octets that may be absent. -/
def twoOr : Option Nat → List Octet := present two [0, 0]

/-- A number of four octets that may be absent. -/
def fourOr : Option Nat → List Octet := present four [0, 0, 0, 0]

/-- A timestamp, of two octets and four. -/
def stamp (t : Timestamp) : List Octet := two t.day ++ four t.sec

/-- A timestamp that may be absent: seven octets. -/
def stampOr : Option Timestamp → List Octet := present stamp [0, 0, 0, 0, 0, 0]

/-- The number of an alarm code in the table of R142, from SENSOR_FAULT 1. -/
def codeNumber : AlarmCode → Octet
  | .sensorFault => 1
  | .converterFault => 2
  | .tachoStall => 3
  | .tachoMismatch => 4
  | .tempOpen => 5
  | .tempShort => 6
  | .tempRefFault => 7
  | .bandAlert => 8
  | .bandAlarm => 9
  | .gridVoltageExceed => 10
  | .gridCurrentAlert => 11
  | .gridCurrentAlarm => 12
  | .iceSuspect => 13
  | .iceDetected => 14
  | .controllerSilent => 15
  | .ceilingUnheeded => 16
  | .taskDue => 17
  | .taskOverdue => 18
  | .taskTableFull => 19
  | .retainedLost => 20

/-- A source: its class and its index (R199). -/
def sourceOctets : Source → List Octet
  | .accel .g1 => [1, 0]
  | .accel .g2 => [1, 1]
  | .accel .g3 => [1, 2]
  | .accel .g4 => [1, 3]
  | .accel .n1 => [1, 4]
  | .afe => [2, 0]
  | .pulse .p0 => [3, 0]
  | .pulse .p1 => [3, 1]
  | .pulse .p2 => [3, 2]
  | .ptu => [4, 0]
  | .temp .s0 => [5, 0]
  | .temp .s1 => [5, 1]
  | .temp .s2 => [5, 2]
  | .temp .s3 => [5, 3]
  | .rch => [6, 0]
  | .band i => [7, low i]
  | .ghm => [8, 0]
  | .bim => [9, 0]
  | .ccu => [10, 0]
  | .task id => [11, low id]
  | .mpl => [12, 0]
  | .ret => [13, 0]

/-- The 21 octets of an alarm entry (R199). -/
def alarmOctets (e : AlarmEntry) : List Octet :=
  let state : Octet := match e.state with
    | .activeUnack => 0
    | .activeAck => 1
    | .clearedUnack => 2
  let by_ : Octet := match e.ackBy with
    | none => 0
    | some .cp => 1
    | some .fp => 2
    | some .sp => 3
  [codeNumber e.code] ++ sourceOctets e.source ++ [low (severity e.code), state] ++ stampOr e.raisedAt ++
    stampOr e.lastChange ++ [by_, low e.occurrences]

/-- A band configuration (R67). -/
def bandConfigOctets (v : BandConfig) : List Octet :=
  flag v.enabled ++ two v.centre ++ two v.halfWidth ++ two v.alertRise ++ two v.alarmRise ++ two v.hysteresis ++
    [low v.confirmCount] ++ flag v.derate ++ [low v.derateCeiling] ++ oneOr v.component

/-- A band record (R85). -/
def bandOctets (s : State) (b : Fin 24) : List Octet :=
  let x := s.mon.bands[b]
  let l := s.gvm.lastLevel[b]
  let mode : Octet := match x.mode with
    | .disabled => 0
    | .learning => 1
    | .armed => 2
  bandConfigOctets s.cfg.bands[b] ++ oneOr ((owningMeasurement s.cfg b).map Fin.val) ++ [mode] ++ two x.baseline ++
    [low x.learnCount, low x.confirm, low x.grade] ++ twoOr l.level ++ flag l.clipped ++ flag l.saturated ++
    flag l.unresolved ++ flag s.gvm.skipMark[b]

/-- A compliance record (R101). -/
def recordOctets (r : ComplianceRecord) : List Octet :=
  stampOr r.intervalEnd ++ four r.meanFreq ++ two (r.vThd.a.getD 0) ++ two (r.vThd.b.getD 0) ++ two (r.vThd.c.getD 0) ++
    [low r.worstOrder] ++ two r.worstRatio ++ twoOr r.iThd.a ++ twoOr r.iThd.b ++ twoOr r.iThd.c ++ [low r.used] ++
    flag r.sparse ++ flag r.unaligned ++ flag r.timeSet ++ two r.disturbed ++ [low r.exceeded.length] ++
    r.exceeded.map low

/-- A component configuration (R156). -/
def componentConfigOctets (c : ComponentConfig) : List Octet :=
  let source : Octet := match c.gradeSource with
    | .bands => 0
    | .gridCurrent => 1
    | .icing => 2
    | .none => 3
  let channel : List Octet := match c.tempChannel with
    | none => [0, 0]
    | some .s0 => [1, 0]
    | some .s1 => [1, 1]
    | some .s2 => [1, 2]
    | some .s3 => [1, 3]
  two c.nameCode ++ [source] ++ channel ++ twoSigned c.thetaRef ++ two c.weight ++ [low c.exponent] ++ four c.damageLimit ++
    [low c.conditionDays]

/-- A component record (R174). -/
def componentOctets (s : State) (c : Fin 16) : List Octet :=
  let w := s.plan.wear[c]
  componentConfigOctets s.plan.config[c] ++ [low (componentGrade s c), low s.plan.interval.comps[c].worst] ++
    stampOr w.grade2Since ++ four w.grade2Duration ++ four w.damage ++ twoOr w.countingSince ++
    fourOr ((today s).bind fun day => rateBy c day s) ++
    twoOr ((today s).bind fun day => projectedBy c day s.plan.config[c].damageLimit s)

/-- The code of a task kind in the order of R165. -/
def kindOctet : TaskKind → Octet
  | .inspect => 0
  | .oilSample => 1
  | .lubricate => 2
  | .replace => 3
  | .heaterCheck => 4

/-- A task record with its due date (R165, R174). -/
def taskOctets (s : State) (x : Task) : List Octet :=
  let trigger : Octet := match x.trigger with
    | .calendar => 0
    | .damage => 1
    | .both => 2
    | .condition => 3
  let state : Octet := match x.state with
    | .planned => 0
    | .due => 1
    | .overdue => 2
  let origin : Octet := match x.origin with
    | .farm => 0
    | .part => 1
  [low x.id, low x.component.val, kindOctet x.kind, trigger] ++ twoOr x.intervalDays ++ twoOr x.fraction ++
    four x.damageRef ++ twoOr x.targetReached ++ [low x.notice, low x.grace] ++ oneOr x.derate ++ two x.lastDone ++
    two x.created ++ [low x.deferred, low x.deferrals, state, origin] ++ twoOr (readDueDate x s)

/-- A service history entry (R173). -/
def historyOctets (e : HistoryEntry) : List Octet :=
  let outcome : Octet := match e.outcome with
    | .done => 0
    | .replaced => 1
  stamp e.time ++ [low e.id, low e.component.val, kindOctet e.kind, outcome] ++ two e.technician ++ four e.damage

/-- An operating record (section 8.1). -/
def operatingOctets (o : OperatingRecord) : List Octet :=
  let regime : Octet := match o.regime with
    | .parked => 0
    | .idling => 1
    | .producing => 2
    | .stopping => 3
    | .unknown => 4
  let heater : List Octet := match o.heater with
    | none => [0, 0]
    | some .off => [1, 0]
    | some .on => [1, 1]
  [regime] ++ present twoSigned [0, 0] o.wind ++ present twoSigned [0, 0] o.power ++ heater ++ stampOr o.reportTime ++
    flag o.clamped ++ two o.changes

/-- The CCU status (R149). -/
def ccuOctets (s : State) : List Octet :=
  let c := s.ccu.counters
  operatingOctets s.ccu.op ++ fourOr s.ccu.sinceReport ++ fourOr s.ccu.freshness ++ two c.accepted ++ two c.refused ++
    two c.clamped ++ two c.silences ++ two c.unheeded ++ two c.evictions ++ two c.overflows ++ two c.snapshots

/-- The RET status: the start record (R181). -/
def startOctets (r : StartRecord) : List Octet :=
  let cause : Octet := match r.cause with
    | .powerOn => 0
    | .powerOnLost => 1
    | .resetLine => 2
    | .serviceRestart => 3
  let section_ (x : RetSection) : Octet := match x with
    | .config => 0
    | .monitor => 1
    | .plan => 2
    | .records => 3
    | .calendar => 4
  [cause, low r.lost.length] ++ r.lost.map section_ ++ stampOr r.time

/-- A threshold set (R119). -/
def thresholdOctets (x : ThresholdSet) : List Octet :=
  two x.suspectOn ++ two x.suspectOff ++ two x.icedOn ++ two x.icedOff ++ twoSigned x.tIce ++ [low x.tHyst.toNat,
    low x.persistence] ++ two x.shedHold ++ two x.parkedAccretion ++
    [low x.suspectCeiling, low x.icedCeiling, low x.sheddingCeiling]

/-! ## The exact arithmetic of the engine -/

/-- The generator of level m as a real number: 2 cos(2π / 2^(m+2)). -/
noncomputable def cycGen (m : Nat) : ℝ := 2 * Real.cos (2 * Real.pi / 2 ^ (m + 2))

/-- The real number a number of level m stands for. -/
noncomputable def cycReal : (m : Nat) → Cyc m → ℝ
  | 0, x => ((show Int from x) : ℝ)
  | m + 1, x => cycReal m x.1 + cycReal m x.2 * cycGen (m + 1)

/-- Sample j of a record times the Hann window w_j (R55). -/
noncomputable def hannSample (n : Nat) (xs : List Int) (j : Nat) : ℝ :=
  ((1 - Real.cos (2 * Real.pi * j / n)) / 2) * (xs.getD j 0 : ℝ)

/-- |X_k|² of the windowed record over n samples (R55): the squares of its cosine and sine sums. -/
noncomputable def transformSquare (n : Nat) (xs : List Int) (k : Nat) : ℝ :=
  (∑ j ∈ Finset.range n, hannSample n xs j * Real.cos (2 * Real.pi * j * k / n)) ^ 2 +
    (∑ j ∈ Finset.range n, hannSample n xs j * Real.sin (2 * Real.pi * j * k / n)) ^ 2

/-- The one-sided power P_k of a record of n samples (R55). -/
noncomputable def binPower (n : Nat) (xs : List Int) (k : Nat) : ℝ :=
  (if k = 0 ∨ 2 * k = n then 1 else 2) * transformSquare n xs k / ((n : ℝ) ^ 2 * (3 / 8))

/-- Point j of a window resampled to 64 points a cycle, from s instants of a channel (R60). -/
noncomputable def gridPoint (xs : List Int) (s c t j : Nat) : ℝ :=
  let i := j * t / (100000 * c)
  let q := j * t % (100000 * c)
  if i + 1 ≤ s - 1 then
    (xs.getD i 0 : ℝ) + ((xs.getD (i + 1) 0 : ℝ) - (xs.getD i 0 : ℝ)) * q / (100000 * c)
  else (xs.getD (s - 1) 0 : ℝ)

/-- 256 √2 |Y_h| / (64 C) over the resampled points (R61). -/
noncomputable def harmonicMagnitude (xs : List Int) (s c t h : Nat) : ℝ :=
  256 * Real.sqrt 2 *
    Real.sqrt
      ((∑ j ∈ Finset.range (64 * c), gridPoint xs s c t j * Real.cos (2 * Real.pi * h * j / 64)) ^ 2 +
        (∑ j ∈ Finset.range (64 * c), gridPoint xs s c t j * Real.sin (2 * Real.pi * h * j / 64)) ^ 2) /
    (64 * c)

end Sys2Proof.Machine
end

