-- ==== Sys2Proof/WellFormed.lean ====
section
/-! DEFINITION. Well-formed commands: every operand is one the part can be given, on its pins (chapters 1 to 3) or in
the fields of a request (R196, R198, R199). Values inside their fields but outside their ranges are well formed: the part
refuses them. -/

namespace Sys2Proof

/-- A number of `k` octets. -/
def fitsNat (k n : Nat) : Bool := n < 256 ^ k

/-- A signed number of `k` octets. -/
def fitsInt (k : Nat) (x : Int) : Bool := -(256 ^ k / 2 : Nat) ≤ x && x < (256 ^ k / 2 : Nat)

/-- A field of `k` octets that may be absent. -/
def fitsOpt (k : Nat) : Option Nat → Bool
  | none => true
  | some n => fitsNat k n

/-- A selector of one of the items `lo..hi` or of all (R196). -/
def Selector.wellFormed (lo hi : Nat) : Selector → Bool
  | .one i => lo ≤ i && i ≤ hi
  | .all => true

/-- A calendar reading (00_scope 3.2). -/
def Timestamp.wellFormed (t : Timestamp) : Bool := t.day ≤ 65535 && t.sec ≤ 86399

/-- A start is cut short after fewer than its seven stages, stage 1 being one action, and what is told of the stage it
falls into is told only then (R180, R183). -/
def StartInput.wellFormed (x : StartInput) : Bool :=
  match x.abandonedAfter with
  | none => x.moments = 0 && x.updated = [] && !x.powerLost
  | some k => k ≤ 6 && x.moments ≤ 63 && (0 < k || x.moments = 0) && decide x.updated.Nodup

/-- The six raw values of a grid instant are 16-bit (R1). -/
def GridInstant.wellFormed (g : GridInstant) : Bool :=
  fitsInt 2 g.ua && fitsInt 2 g.ub && fitsInt 2 g.uc && fitsInt 2 g.ia && fitsInt 2 g.ib && fitsInt 2 g.ic

/-- The instants a capture converted, one segment for each trim in force, at least one (R1, R3). -/
def gridSegmentsOk (segments : List (List GridInstant)) : Bool :=
  segments.all fun seg => seg.all GridInstant.wellFormed

/-- The raw values a FIXED capture converted (R1, R3). -/
def rawSegmentsOk (segments : List (List Int)) : Bool := segments.all fun seg => seg.all (fitsInt 2)

/-- A source with the index its class has (R142, R199). -/
def Source.wellFormed : Source → Bool
  | .band i => i ≤ 23
  | .task id => 1 ≤ id && id ≤ 255
  | .accel _ | .afe | .pulse _ | .ptu | .temp _ | .rch | .ghm | .bim | .ccu | .mpl | .ret => true

/-- The target of an ACK_ALARM (R145). -/
def AckTarget.wellFormed : AckTarget → Bool
  | .all => true
  | .one _ source => source.wellFormed

/-- The target of a LEARN_BASELINE: an index of one octet (R76, R199). -/
def LearnTarget.wellFormed : LearnTarget → Bool
  | .band i | .measurement i => fitsNat 1 i

/-- The fields of a measurement record (R66); a list of more than 236 bands fits in no frame. -/
def MeasurementRecord.wellFormed (v : MeasurementRecord) : Bool :=
  fitsNat 1 v.decimation && fitsNat 4 v.length && v.bands.length ≤ 236 && v.bands.all (fitsNat 1) &&
    fitsNat 1 v.tolerance

/-- The fields of a band configuration (R67). -/
def BandConfig.wellFormed (v : BandConfig) : Bool :=
  fitsNat 2 v.centre && fitsNat 2 v.halfWidth && fitsNat 2 v.alertRise && fitsNat 2 v.alarmRise &&
    fitsNat 2 v.hysteresis && fitsNat 1 v.confirmCount && fitsNat 1 v.derateCeiling && fitsOpt 1 v.component

/-- The fields of a threshold set (R119). -/
def ThresholdSet.wellFormed (t : ThresholdSet) : Bool :=
  fitsNat 2 t.suspectOn && fitsNat 2 t.suspectOff && fitsNat 2 t.icedOn && fitsNat 2 t.icedOff && fitsInt 2 t.tIce &&
    0 ≤ t.tHyst && fitsNat 1 t.tHyst.toNat && fitsNat 1 t.persistence && fitsNat 2 t.shedHold &&
    fitsNat 2 t.parkedAccretion && fitsNat 1 t.suspectCeiling && fitsNat 1 t.icedCeiling && fitsNat 1 t.sheddingCeiling

/-- The fields of a component configuration (R156). -/
def ComponentConfig.wellFormed (c : ComponentConfig) : Bool :=
  fitsNat 2 c.nameCode && fitsInt 2 c.thetaRef && fitsNat 2 c.weight && fitsNat 1 c.exponent &&
    fitsNat 4 c.damageLimit && fitsNat 1 c.conditionDays

/-- The fields of a PLAN_TASK (R165). -/
def TaskFields.wellFormed (f : TaskFields) : Bool :=
  fitsNat 1 f.id && fitsNat 1 f.component && fitsOpt 2 f.intervalDays && fitsOpt 2 f.fraction && fitsNat 1 f.notice &&
    fitsNat 1 f.grace && fitsOpt 1 f.derate && fitsOpt 2 f.lastDone

/-- The octets of a PTU item's value, in the order of R198: the tooth count and the tolerance are of one octet, the gear
ratio of four, the others of two. -/
def ptuItemWidth (index : Nat) : Nat := if index = 8 ∨ index = 10 then 1 else if index = 9 then 4 else 2

/-- An RCH item (R40); R40 gives Sref no table. -/
def RchItem.wellFormed : RchItem → Bool
  | .refResistance v => fitsNat 4 v
  | .refWindow low high => fitsNat 4 low && fitsNat 4 high
  | .table _ points => points.toList.all fun p => fitsNat 4 p.1 && fitsInt 2 p.2
  | .srefTable => false

/-- A GHM item (R107). -/
def GhmItem.wellFormed : GhmItem → Bool
  | .nominalFrequency v | .gridCeiling v => fitsNat 1 v
  | .vNom v | .iRated v | .currentFloor v | .vtRatio v | .ctRatio v => fitsNat 2 v
  | .currentLimits alert alarm hyst => fitsNat 2 alert && fitsNat 2 alarm && fitsNat 2 hyst

/-- A peak item (R118). -/
def BimPeakItem.wellFormed : BimPeakItem → Bool
  | .fRef v => fitsNat 2 v
  | .searchRange lo hi => fitsNat 2 lo && fitsNat 2 hi
  | .powerFloor v => fitsNat 6 v

/-- A CCU item (R149). -/
def CcuItem.wellFormed : CcuItem → Bool
  | .reportTimeout v | .snapshotThreshold v => fitsNat 1 v

/-- A frame: kind, tag and body in at most 250 octets (R186). -/
def Frame.wellFormed (f : Frame) : Bool := f.body.length ≤ 248

/-- The well-formed commands. -/
def Instr.wellFormed : Instr → Bool
  | .powerOn corrupt _ start => decide corrupt.Nodup && start.wellFormed
  | .resetRelease start | .serviceRestartStart start => start.wellFormed
  | .biasFault _ bias => bias < 2000 || 22000 < bias
  | .biasInRange _ bias => 2000 ≤ bias && bias ≤ 22000
  | .converterCheck ch cq => fitsInt 2 ch && fitsInt 2 cq
  | .fixedCaptureComplete buffer segments => buffer ≠ .ghmA && buffer ≠ .ghmB && rawSegmentsOk segments
  | .windowLimitReached buffer segments => (buffer = .ghmA || buffer = .ghmB) && gridSegmentsOk segments
  | .pulseEdge input _ segments => gridSegmentsOk segments && (input = .p2 || segments = [])
  | .learnBaseline _ target => target.wellFormed
  | .iceOverrideBegin _ minutes => fitsNat 2 minutes
  | .pinIcingThresholds _ set => set.wellFormed
  | .operatingReport _ regime wind power heater =>
    fitsNat 1 regime && fitsInt 2 wind && fitsInt 2 power && fitsNat 1 heater
  | .ceilingAck _ number => fitsNat 2 number
  | .ackAlarm _ target => target.wellFormed
  | .lockSnapshot _ slot | .unlockSnapshot _ slot => slot ≤ 7
  | .setTime _ day sec => fitsNat 2 day && fitsNat 4 sec
  | .presenceBegin _ technician hours => fitsNat 2 technician && fitsNat 1 hours
  | .planTask _ fields => fields.wellFormed
  | .removeTask _ id => fitsNat 1 id
  | .deferTask _ id days => fitsNat 1 id && fitsNat 1 days
  | .closeTask _ id _ => fitsNat 1 id
  | .writeOffsetTrim _ index value => index ≤ 10 && fitsInt 2 value
  | .writePtuItem _ index value => index ≤ 10 && fitsNat (ptuItemWidth index) value
  | .writeRchItem _ item => item.wellFormed
  | .writeMeasurementRecord _ index value => index ≤ 7 && value.wellFormed
  | .writeBandConfig _ index value => index ≤ 23 && value.wellFormed
  | .writeMeasurementPeriod _ value => fitsNat 2 value
  | .writeGhmItem _ item => item.wellFormed
  | .writeVoltageLimit _ order value => 2 ≤ order && order ≤ 40 && fitsNat 2 value
  | .writeBimPeakItem _ item => item.wellFormed
  | .writePowerCurve _ rows => rows.toList.all (fitsNat 2)
  | .writeIcingProfile _ _ set => set.wellFormed
  | .writeCcuItem _ item => item.wellFormed
  | .writeComponentConfig _ index value => index ≤ 15 && value.wellFormed
  | .readStatus _ _ part | .readIcing _ part => fitsNat 1 part
  | .readAlarms _ skip => fitsNat 1 skip
  | .readSnapshot _ slot skip => slot.wellFormed 0 7 && fitsNat 1 skip
  | .readConfig _ group index => fitsNat 1 group && fitsNat 1 index
  | .readBands _ band skip => band.wellFormed 0 23 && fitsNat 1 skip
  | .readGridRecords _ t count skip => t.wellFormed && 1 ≤ count && count ≤ 144 && fitsNat 1 skip
  | .readComponents _ index skip => index.wellFormed 0 15 && fitsNat 1 skip
  | .readTasks _ id skip => id.wellFormed 0 255 && fitsNat 1 skip
  | .readDaySummaries _ day count skip => fitsNat 2 day && 1 ≤ count && count ≤ 31 && fitsNat 1 skip
  | .readHistory _ count skip => 1 ≤ count && count ≤ 64 && fitsNat 1 skip
  | .frameChecked _ frame _ => frame.wellFormed
  | .mainPowerLoss | .batteryRetentionLoss | .resetAssert | .recoveryQualificationExpiry _ | .stall _ | .gateEnd _
  | .operationSecond | .requestEnd | .gvmPeriodExpiry | .tenMinuteBoundary | .ghmUnalignedIntervalEnd
  | .mplUndatedIntervalEnd | .bimStep | .overrideExpiry | .iceOverrideEnd _ | .unpinIcingThresholds _
  | .freshnessTimeout | .acknowledgeTimerExpiry | .presenceEnd _ | .presenceExpiry | .restart _ | .writeGvmEnable _ _
  | .writeGhmEnable _ _ | .writeBimEnable _ _ | .writeNoticeMask _ _ _ | .readNotices _ | .readCeiling _
  | .frameCheckFailure _ | .octetGapTimeout _ | .replySent _ | .octetReceived _ _ _ | .batteryClockSecond => true

end Sys2Proof
end

