-- ==== Sys2Proof/Certificates/Slice0/Obligations.lean ====
section
/-! DEFINITION. The statements for the provers. -/

open Sys2Proof Sys2Proof.Machine

/-- On the farm port, or on the service port while a technician presence holds, WRITE_OFFSET_TRIM of the items 0..10
answers OK for an even value in -254..254, OK without any change where the trim already holds it, and RANGE for any
other value; a higher index is UNKNOWN_ITEM. An accepted new value is the trim in force at once and joins the trims
of the captures that are FILLING on its channel; nothing else changes but the port's reply, its count of requests
taken and, with an accepted new value, CONFIG's check word, which then matches. Model's choices: log entries 11, 25. -/
def Obligations.OffsetTrimWrite : Prop :=
  ∀ (p : Port) (index : Nat) (value : Int) (s : State), s.ret.operating = true → FarmOrPresence p s →
    exec (.writeOffsetTrim p index value) s = .next (rechecked s
      (if h : index < 11 then
        if value % 2 = 0 ∧ -254 ≤ value ∧ value ≤ 254 then
          answered p 0x31 (plain .ok)
            (if s.cfg.trims[index] = value then s
             else
              { s with
                cfg := { s.cfg with trims := s.cfg.trims.set index value }
                afe := { s.afe with buffers := s.afe.buffers.map (noteTrim (s.cfg.trims.set index value) index) } })
        else answered p 0x31 (plain .range) s
      else answered p 0x31 (plain .unknownItem) s))

/-- A FIXED capture of length n and decimation D under one trim, given at least n D raw values, completes with n stored
samples. The i-th is the sum of the i-th group of D samples divided by D, rounded toward zero, where a sample is the
raw value less the trim, saturated to 16 bits. The clipped flag is set exactly when, among those n D raw values, one
is at an extreme of the converter or was saturated by the trim. A capture that is FILLING and takes m conversions
one by one holds at every m the stored samples so far: floor(m / D) of them, by the same rule, with the clipped flag
set as soon as a stored one is clipped. A WINDOW capture that takes m grid instants one by one holds m stored
instants, each with the six samples in the order UA, UB, UC, IA, IB, IC. Model's choices: log entry 5. -/
def Obligations.StoredSamplesAreMeans : Prop :=
  (∀ (ch : Accel) (d n : Nat) (trim : Int) (raws : List Int), 1 ≤ d → n * d ≤ raws.length →
    ∃ r, completeFixed { kind := .fixed ch d n, trims := [[trim]] } [raws] = some r ∧
      r.stored = n ∧
      r.samples = (List.range n).map (fun i =>
        [Int.tdiv (((List.range d).map fun j =>
          max (-32768) (min 32767 (raws.getD (i * d + j) 0 - trim))).sum) d]) ∧
      (r.clipped = true ↔ ∃ x ∈ raws.take (n * d),
        x = -32768 ∨ x = 32767 ∨ x - trim < -32768 ∨ 32767 < x - trim)) ∧
  (∀ (ch : Accel) (d n : Nat) (trim : Int) (grid : Bool) (cs : List Conversion), 1 ≤ d →
    let raws := cs.map fun c => (c.accel.get ch).toInt
    let r := cs.foldl (fun r c => CaptureRecord.convert [trim] grid c r) { kind := .fixed ch d n, trims := [[trim]] }
    r.stored = cs.length / d ∧
      r.samples = (List.range (cs.length / d)).map (fun i =>
        [Int.tdiv (((List.range d).map fun j =>
          max (-32768) (min 32767 (raws.getD (i * d + j) 0 - trim))).sum) d]) ∧
      (r.clipped = true ↔ ∃ x ∈ raws.take (cs.length / d * d),
        x = -32768 ∨ x = 32767 ∨ x - trim < -32768 ∨ 32767 < x - trim)) ∧
  (∀ (a b c d e f : Int) (cs : List Conversion),
    let trims := [a, b, c, d, e, f]
    let r := cs.foldl (fun r x => CaptureRecord.convert trims true x r) { kind := .window, trims := [trims] }
    let sample (raw trim : Int) : Int := max (-32768) (min 32767 (raw - trim))
    r.stored = cs.length ∧
      r.samples = cs.map fun x =>
        [sample x.grid[0].toInt a, sample x.grid[1].toInt b, sample x.grid[2].toInt c, sample x.grid[3].toInt d,
          sample x.grid[4].toInt e, sample x.grid[5].toInt f])

/-- A BIAS_FAULT with the bias below 2 V sets the channel fault state to OPEN, above 22 V to SHORT, and returns a
running recovery qualification to idle. Every FILLING FIXED capture on that channel becomes FREE, and every other
buffer stays as it is. The measurement CAPTURING into a GVM buffer so freed is IDLE without outstanding arrival,
context or held write (a held band write is applied, a held measurement write applied or dropped), the GVM's
CHANNEL_FAULT abort counter goes up by one for each, and every other measurement's work stays; with BIM-A so freed
there is no outstanding step and the BIM's CHANNEL_FAULT abort counter goes up by one, and otherwise the BIM is
unchanged. SENSOR_FAULT of the channel is active afterwards where the alarm table had a free entry, or already held
one for the channel. The other accelerometer channels, the converter check, the pulse inputs, the resistance
channels, the spectral engine, the calendar, the compliance ring and the supply state are unchanged. -/
def Obligations.BiasFaultEffect : Prop :=
  ∀ (ch : Accel) (bias : Int) (s : State), s.ret.operating = true → (bias < 2000 ∨ 22000 < bias) →
    ∃ t, exec (.biasFault ch bias) s = .next t ∧
      t.afe.accel = s.afe.accel.set ch
        { fault := if bias < 2000 then .openCircuit else .shortCircuit, qualification := none } ∧
      (∀ b, (∃ r d n, bufferOf s b = .filling r ∧ r.kind = .fixed ch d n) → bufferOf t b = .free) ∧
      (∀ b, (¬ ∃ r d n, bufferOf s b = .filling r ∧ r.kind = .fixed ch d n) → bufferOf t b = bufferOf s b) ∧
      (let hit (b : BufferId) : Bool := fillsChannel ch (bufferOf s b)
       GvmWorkAborted hit s t ∧
        t.gvm.counters.abortChannelFault = abortsCounted hit s s.gvm.counters.abortChannelFault ∧
        t.gvm.counters.abortConverter = s.gvm.counters.abortConverter ∧
        t.bim = (if hit .bimA then
            { s.bim with
              outstanding := none
              counters :=
                { s.bim.counters with abortChannelFault := min (s.bim.counters.abortChannelFault + 1) 65535 } }
          else s.bim)) ∧
      (HasRoom .sensorFault (.accel ch) s → AlarmActive .sensorFault (.accel ch) t) ∧
      t.afe.converterFault = s.afe.converterFault ∧ t.afe.latestCheck = s.afe.latestCheck ∧
      t.afe.nextCheck = s.afe.nextCheck ∧ t.afe.failedChecks = s.afe.failedChecks ∧
      t.ptu = s.ptu ∧ t.rch = s.rch ∧ t.spe = s.spe ∧ t.cal = s.cal ∧ t.records.ring = s.records.ring ∧ t.ret = s.ret

/-- BIAS_IN_RANGE on a channel in OPEN or SHORT whose qualification is idle starts the 10 s and changes nothing else; on
a channel whose fault state is NONE it does nothing. RECOVERY_QUALIFICATION_EXPIRY of a qualification whose 10 s
have run out sets the fault state to NONE and the qualification to idle, leaves no active SENSOR_FAULT of that
channel, and leaves the other channels and the capture buffers as they are; of an idle one, or one with time still
to run, it changes nothing. Model's choices: log entries 12, 13, 14. -/
def Obligations.BiasRecovery : Prop :=
  (∀ (ch : Accel) (bias : Int) (s : State), s.ret.operating = true → 2000 ≤ bias → bias ≤ 22000 →
    ((s.afe.accel.get ch).fault ≠ .none → (s.afe.accel.get ch).qualification = none →
      exec (.biasInRange ch bias) s = .next
        { s with
          afe :=
            { s.afe with
              accel := s.afe.accel.set ch { fault := (s.afe.accel.get ch).fault, qualification := some 10 } } }) ∧
    ((s.afe.accel.get ch).fault = .none → exec (.biasInRange ch bias) s = .next s)) ∧
  (∀ (ch : Accel) (s : State), s.ret.operating = true → (s.afe.accel.get ch).qualification ≠ some 0 →
    exec (.recoveryQualificationExpiry ch) s = .next s) ∧
  (∀ (ch : Accel) (s : State), s.ret.operating = true → AlarmsKeyed s → (s.afe.accel.get ch).qualification = some 0 →
    ∃ t, exec (.recoveryQualificationExpiry ch) s = .next t ∧
      t.afe = { s.afe with accel := s.afe.accel.set ch { fault := .none, qualification := none } } ∧
      AlarmQuiet .sensorFault (.accel ch) t)

/-- CONVERTER_CHECK takes place where the seconds to the next check (1 at a start) have run out, and changes nothing
where they have not. It records CH and CQ as the latest check values and places the next check 60 s later. It passes
when CH is in 16056..16712 and CQ in 8028..8356; the state is then NORMAL, and otherwise CONVERTER_FAULT with the
failed-check counter incremented. Only a failure in NORMAL makes every FILLING buffer FREE; FULL and IN_ANALYSIS
buffers, and every buffer in the other cases, stay as they are. The measurement CAPTURING into a GVM buffer so freed
is IDLE without outstanding arrival, context or held write (a held band write is applied, a held measurement write
applied or dropped) and the GVM's CONVERTER abort counter goes up by one for each; with BIM-A so freed there is no
outstanding step and the BIM's CONVERTER abort counter goes up by one; the OPEN window of a grid buffer so freed,
the only one so freed and the only entry that holds it, stays listed without buffer or request, MISSED (ABORTED),
with that counter one higher. Every other measurement's work, and the GVM, BIM and GHM where no buffer of theirs is
freed, stay as they are. A failure in NORMAL raises CONVERTER_FAULT (active afterwards where the alarm table had a
free entry or already held it), a pass in CONVERTER_FAULT leaves no active CONVERTER_FAULT, and in the other two
cases the alarm table is unchanged. The accelerometer states, the pulse inputs, the resistance channels, the
spectral engine and the calendar are unchanged. Model's choices: log entries 12, 14. -/
def Obligations.ConverterCheckEffect : Prop :=
  (∀ (ch cq : Int) (s : State), s.ret.operating = true → s.afe.nextCheck ≠ 0 →
    exec (.converterCheck ch cq) s = .next s) ∧
  ∀ (ch cq : Int) (s : State), s.ret.operating = true → s.afe.nextCheck = 0 →
    let pass : Bool := 16056 ≤ ch && ch ≤ 16712 && 8028 ≤ cq && cq ≤ 8356
    ∃ t, exec (.converterCheck ch cq) s = .next t ∧
      t.afe.converterFault = !pass ∧ t.afe.latestCheck = some (ch, cq) ∧ t.afe.nextCheck = 60 ∧
      t.afe.failedChecks = (if pass then s.afe.failedChecks else min (s.afe.failedChecks + 1) 65535) ∧
      t.afe.accel = s.afe.accel ∧
      (∀ b, bufferOf t b =
        if s.afe.converterFault = false ∧ pass = false ∧ (bufferOf s b).isFilling = true then .free else bufferOf s b) ∧
      (let hit (b : BufferId) : Bool := !s.afe.converterFault && !pass && (bufferOf s b).isFilling
       GvmWorkAborted hit s t ∧
        t.gvm.counters.abortConverter = abortsCounted hit s s.gvm.counters.abortConverter ∧
        t.gvm.counters.abortChannelFault = s.gvm.counters.abortChannelFault ∧
        (hit .gvmA = false → hit .gvmB = false → t.gvm = s.gvm) ∧
        t.bim = (if hit .bimA then
            { s.bim with
              outstanding := none
              counters := { s.bim.counters with abortConverter := min (s.bim.counters.abortConverter + 1) 65535 } }
          else s.bim) ∧
        (hit .ghmA = false → hit .ghmB = false → t.ghm = s.ghm) ∧
        ∀ b, ∀ e ∈ s.ghm.entries, (b = .ghmA ∧ hit .ghmB = false ∨ b = .ghmB ∧ hit .ghmA = false) → hit b = true →
          e.buffer = some b → e.ended = false → (∀ x ∈ s.ghm.entries, x.buffer = some b → x = e) →
          { e with buffer := none, request := .none, outcome := some (.missed .aborted) } ∈ t.ghm.entries ∧
            t.ghm.window = s.ghm.window ∧
            t.ghm.counters.missedAborted = min (s.ghm.counters.missedAborted + 1) 65535) ∧
      (s.afe.converterFault = false → pass = false → HasRoom .converterFault .afe s → AlarmActive .converterFault .afe t) ∧
      (s.afe.converterFault = true → pass = true → AlarmsKeyed s → AlarmQuiet .converterFault .afe t) ∧
      (s.afe.converterFault = !pass → t.ccu.alarms = s.ccu.alarms) ∧
      t.ptu = s.ptu ∧ t.rch = s.rch ∧ t.spe = s.spe ∧ t.cal = s.cal ∧ t.ret = s.ret

/-- When BIM-A stores the last sample of the outstanding step's peak capture, the engine being idle with nothing
waiting, the BIM's PEAK request (that step as tag, n = 65,536, D = 16, the configured range and floor) is accepted
with the next arrival number and begins at once: the buffer is IN_ANALYSIS, the marker BIM, the accepted count one
higher; nothing else changes. When GVM-A or GVM-B stores the last sample for the one measurement m CAPTURING into it
(no write held), the record is judged in order: it is rejected REGIME unless the regime is PRODUCING with the change
counter of the start; UNSTEADY unless the shaft's latest result is VALID with a speed S_end >= 1 and |S_end -
S_start| x 1000 <= S_start x tolerance; DISTURBANCE unless the flag was and is clear and the counter that of the
start; MISMATCH unless the flag is clear and the event counter that of the start. A rejected record counts at its
reason, an accepted one with no listed band LEARNING or ARMED counts NO_BANDS; the buffer is then FREE, m IDLE, the
skip marks of its bands cleared, and nothing else changes. With such bands the BANDS request has tag m, the stored
length and decimation, the mean speed floor((S_start + S_end) / 2) and those bands in the order of the list with
centre and half-width. Inside R54's limits and with no request naming the buffer it is accepted with the next
arrival number, m's outstanding one: it begins at once where the engine is idle (m ANALYSING), and waits last
otherwise (m QUEUED). Where a request names the buffer it is refused: m is IDLE and ANALYSIS_SKIP counts. Model's
choices: log entry 5. -/
def Obligations.PeakCaptureCompletes : Prop :=
  (∀ (segments : List (List Int)) (r r' : CaptureRecord) (k : Nat) (s : State), s.ret.operating = true →
    bufferOf s .bimA = .filling r → r.kind = .fixed .n1 16 65536 → r.stored < 65536 → completeFixed r segments = some r' →
    s.bim.outstanding = some k → s.spe.inProgress = none → s.spe.queue = [] →
    s.cfg.bim.searchLo ≤ s.cfg.bim.searchHi → s.cfg.bim.searchHi ≤ 25000 → s.cfg.bim.powerFloor ≤ 281474976710655 →
    exec (.fixedCaptureComplete .bimA segments) s = .next
      { s with
        afe := { s.afe with buffers := { s.afe.buffers with bimA := .inAnalysis r' } }
        spe :=
          { inProgress := some
              { source := .bim, tag := k, buffer := .bimA,
                mode := .peak 65536 16 s.cfg.bim.searchLo s.cfg.bim.searchHi s.cfg.bim.powerFloor,
                clipped := r'.clipped, arrival := (s.spe.arrival + 1) % 4294967296 }
            queue := []
            marker := .bim
            arrival := (s.spe.arrival + 1) % 4294967296
            counters :=
              { s.spe.counters with
                bim := { s.spe.counters.bim with accepted := min (s.spe.counters.bim.accepted + 1) 65535 } } } }) ∧
  ∀ (b : BufferId) (segments : List (List Int)) (ch : Accel) (d n : Nat) (r r' : CaptureRecord) (m : Fin 8)
    (ctx : StartContext) (s : State), s.ret.operating = true → (b = .gvmA ∨ b = .gvmB) →
    bufferOf s b = .filling r → r.kind = .fixed ch d n → completeFixed r segments = some r' →
    s.gvm.work[m].work = .capturing → s.gvm.work[m].context = some ctx → ctx.buffer = b →
    (∀ k, CapturesInto k b s → k = m) → s.gvm.work[m].pending = none →
    (∀ i ∈ s.cfg.measurements[m].bands, i ≤ 23) →
    let v := s.cfg.measurements[m]
    let w := s.gvm.work[m]
    let c := s.gvm.counters
    let pulse : Pulse := match v.shaft with
      | .rotor => .p0
      | .hss => .p1
    let regimeOk : Prop := s.ccu.op.regime = .producing ∧ s.ccu.op.changes = ctx.regimeChanges
    let steadyAt (e : Nat) : Prop :=
      ∃ x, (s.ptu.chan.get pulse).latest = some x ∧ x.status = .valid ∧ x.derived = e ∧ 1 ≤ e ∧
        |(e : Int) - ctx.speed| * 1000 ≤ ctx.speed * v.tolerance
    let calm : Prop := ctx.disturbed = false ∧ s.ghm.disturbed = false ∧ s.ghm.disturbances = ctx.disturbances
    let matched : Prop := s.ptu.mismatchFlag = false ∧ s.ptu.mismatchEvents = ctx.mismatchEvents
    let list : List BandPlace :=
      (v.bands.filter fun i => s.mon.bands[Fin.ofNat 24 i].mode ≠ .disabled).map fun i =>
        { band := i, centre := s.cfg.bands[Fin.ofNat 24 i].centre, halfWidth := s.cfg.bands[Fin.ofNat 24 i].halfWidth }
    let free := s.afe.buffers.set b .free
    let ended (c' : GvmCounters) : Host.Outcome State Fault Refusal := .next
      { s with
        afe := { s.afe with buffers := free }
        gvm :=
          { s.gvm with
            work := s.gvm.work.set m { w with work := .idle, outstanding := none, context := none }
            skipMark := Vector.ofFn fun k => s.gvm.skipMark[k] && !v.bands.contains k.val
            counters := c' } }
    let after := exec (.fixedCaptureComplete b segments) s
    (¬ regimeOk → after = ended { c with rejectRegime := min (c.rejectRegime + 1) 65535 }) ∧
    (regimeOk → (∀ e, ¬ steadyAt e) → after = ended { c with rejectUnsteady := min (c.rejectUnsteady + 1) 65535 }) ∧
    ∀ e, regimeOk → steadyAt e →
      (¬ calm → after = ended { c with rejectDisturbance := min (c.rejectDisturbance + 1) 65535 }) ∧
      (calm → ¬ matched → after = ended { c with rejectMismatch := min (c.rejectMismatch + 1) 65535 }) ∧
      (calm → matched → list = [] → after = ended { c with noBands := min (c.noBands + 1) 65535 }) ∧
      (calm → matched → list ≠ [] →
        let named : Prop := (∃ q ∈ s.spe.queue, q.buffer = b) ∨ ∃ q, s.spe.inProgress = some q ∧ q.buffer = b
        let arrival := (s.spe.arrival + 1) % 4294967296
        let idle : Bool := s.spe.inProgress.isNone
        let request : AnalysisRequest :=
          { source := .gvm, tag := m.val, buffer := b, mode := .bands r'.stored d ((ctx.speed + e) / 2) list,
            clipped := r'.clipped, arrival := arrival }
        (named → ∃ t, after = .next t ∧ t.afe.buffers = free ∧ t.gvm.work[m].work = .idle ∧
          t.gvm.counters = { c with analysisSkip := min (c.analysisSkip + 1) 65535 } ∧
          t.spe.queue = s.spe.queue ∧ t.spe.inProgress = s.spe.inProgress) ∧
        (¬ named → r'.stored ∈ [4096, 8192, 16384, 32768, 65536] → ctx.speed ≤ 4294967295 → e ≤ 4294967295 →
          1 ≤ (ctx.speed + e) / 2 → list.length ≤ 6 → (∀ x ∈ list, x.centre ≤ 65535 ∧ x.halfWidth ≤ 65535) →
          (s.spe.inProgress = none → s.spe.queue = []) →
          ∃ t, after = .next t ∧
            t.afe.buffers = s.afe.buffers.set b (if idle then .inAnalysis r' else .full r') ∧
            t.gvm.work[m] = { w with work := if idle then .analysing else .queued, outstanding := some arrival } ∧
            t.gvm.counters = c ∧ t.gvm.skipMark = s.gvm.skipMark ∧
            t.spe =
              { inProgress := if idle then some request else s.spe.inProgress
                queue := if idle then [] else s.spe.queue ++ [request]
                marker := if idle then .gvm else s.spe.marker
                arrival := arrival
                counters :=
                  { s.spe.counters with
                    gvm := { s.spe.counters.gvm with accepted := min (s.spe.counters.gvm.accepted + 1) 65535 } } } ∧
            t.mon = s.mon ∧ t.cfg = s.cfg ∧ t.ccu = s.ccu ∧ t.ghm = s.ghm ∧ t.bim = s.bim))

/-- WINDOW_LIMIT_REACHED on a window buffer FILLING for a listed window whose instants number at least 1,600 frees that
buffer, leaves the others and the engine as they are, counts one invalid frequency, and leaves every listed entry of
that window without buffer and with the outcome INVALID_FREQUENCY. Model's choices: log entry 5. -/
def Obligations.WindowLimitSettles : Prop :=
  ∀ (b : BufferId) (segments : List (List GridInstant)) (r : CaptureRecord) (e : WindowEntry) (s : State),
    s.ret.operating = true → (b = .ghmA ∨ b = .ghmB) → bufferOf s b = .filling r → r.kind = .window →
    (fillWindow r segments).limitReached = true → s.ghm.entries.find? (fun x => x.buffer = some b) = some e →
    ∃ t, exec (.windowLimitReached b segments) s = .next t ∧ t.afe = { s.afe with buffers := s.afe.buffers.set b .free } ∧
      t.spe = s.spe ∧ t.ghm.window = s.ghm.window ∧
      t.ghm.counters.invalidFrequency = min (s.ghm.counters.invalidFrequency + 1) 65535 ∧
      ∀ x ∈ t.ghm.entries, x.number = e.number → x.buffer = none ∧ x.outcome = some .invalidFrequency

/-- An edge on P0, P1 or P2 in the tick of the previous accepted pulse, or fewer ticks after it than the minimum
spacing, increments the rejected-pulse counter and changes nothing else. An accepted edge becomes the previous
accepted pulse. In WAITING it begins a measurement with k = 0, the pulse count in force (for P2 the window cycle
count, 12 at a nominal 60 Hz and 10 otherwise) and the stall limit in force, all of whose seconds (up to 429, where
32 bits end) are then to run; in MEASURING with k + 1 below N it counts as one pulse. Nothing else changes. Model's
choices: log entries 12, 39. -/
def Obligations.EdgeWithoutResult : Prop :=
  ∀ (p : Pulse) (tick : Nat) (segments : List (List GridInstant)) (s : State), s.ret.operating = true →
    let x := s.ptu.chan.get p
    let spacing := (s.cfg.ptu.chan.get p).spacing
    let count : Nat := if p = .p2 then (if s.cfg.ghm.nominalFrequency = 60 then 12 else 10) else (s.cfg.ptu.chan.get p).n
    let put (y : PulseState) : State := { s with ptu := { s.ptu with chan := s.ptu.chan.set p y } }
    (∀ t, x.prevAccepted = some t → (tick ≤ t ∨ tick - t < spacing) →
      exec (.pulseEdge p tick segments) s = .next (put { x with rejected := min (x.rejected + 1) 65535 })) ∧
    ((∀ t, x.prevAccepted = some t → t < tick ∧ spacing ≤ tick - t) →
      (∀ since limit, x.meas = .waiting since limit →
        exec (.pulseEdge p tick segments) s = .next (put
          { x with
            prevAccepted := some tick
            meas := .measuring count 0 tick (s.cfg.ptu.chan.get p).stallLimit
            stallIn := min (s.cfg.ptu.chan.get p).stallLimit 429 })) ∧
      (∀ n k since limit, x.meas = .measuring n k since limit → k + 1 < n →
        exec (.pulseEdge p tick segments) s = .next (put
          { x with prevAccepted := some tick, meas := .measuring n (k + 1) since limit })))

/-- An accepted edge that is the N-th after the start pulse makes a VALID result the latest result of its channel: the
next sequence number, N, T the ticks since the start pulse (32-bit), f = floor(N x 10,000,000,000 / T) saturated at
32 bits, and the derived value f x 60 for P0, floor(f x 60 / teeth) for P1, f for P2. The stall-raised mark is
clear, with no active TACHO_STALL of the channel left where it was set; the edge is the start pulse of a new
measurement with the pulse count and stall limit in force, that limit's seconds (up to 429) all to run, and the
rejected-pulse counter and the other two channels are unchanged. On P0 and P1 the capture buffers, the engine, the
grid monitor and the resistance channels are unchanged. Model's choices: log entries 12, 39. -/
def Obligations.EndPulseIssuesResult : Prop :=
  ∀ (p : Pulse) (tick n k since limit : Nat) (segments : List (List GridInstant)) (s : State), s.ret.operating = true →
    (∀ t, (s.ptu.chan.get p).prevAccepted = some t → t < tick ∧ (s.cfg.ptu.chan.get p).spacing ≤ tick - t) →
    (s.ptu.chan.get p).meas = .measuring n k since limit → n ≤ k + 1 → since < tick →
    let x := s.ptu.chan.get p
    let ticks := min (tick - since) 4294967295
    let f := min (n * 10000000000 / ticks) 4294967295
    let count : Nat := if p = .p2 then (if s.cfg.ghm.nominalFrequency = 60 then 12 else 10) else (s.cfg.ptu.chan.get p).n
    let derived : Nat :=
      match p with
      | .p0 => min (f * 60) 4294967295
      | .p1 => min (f * 60 / s.cfg.ptu.teeth) 4294967295
      | .p2 => f
    let result : PulseResult :=
      { seq := (x.seqCount + 1) % 65536, n := n, t := ticks, status := .valid, freq := f, derived := derived }
    ∃ t, exec (.pulseEdge p tick segments) s = .next t ∧
      t.ptu.chan = s.ptu.chan.set p
        { meas := .measuring count 0 tick (s.cfg.ptu.chan.get p).stallLimit, prevAccepted := some tick,
          latest := some result, seqCount := result.seq, rejected := x.rejected, stallMark := false,
          stallIn := min (s.cfg.ptu.chan.get p).stallLimit 429 } ∧
      (x.stallMark = true → AlarmsKeyed s → AlarmQuiet .tachoStall (.pulse p) t) ∧
      t.rch = s.rch ∧ t.ret = s.ret ∧ t.cal = s.cal ∧ t.cfg = s.cfg ∧
      (p ≠ .p1 → t.ptu.mismatchCounter = s.ptu.mismatchCounter ∧ t.ptu.mismatchFlag = s.ptu.mismatchFlag ∧
        t.ptu.mismatchEvents = s.ptu.mismatchEvents) ∧
      (p ≠ .p2 → t.afe = s.afe ∧ t.spe = s.spe ∧ t.ghm = s.ghm ∧ t.gvm = s.gvm)

/-- When a P1 edge issues a VALID result while the latest P0 result is VALID, the HSS speed is compared with E =
floor(rotor speed x gear ratio / 1000): it is out of tolerance when |HSS - E| x 1000 > E x tolerance. Out of
tolerance, the counter goes up by one, saturating at 255, and at 3 the flag is set and the event counter goes up by
one, wrapping; where the flag was clear TACHO_MISMATCH is then raised (active afterwards where the alarm table had a
free entry or already held it). Within tolerance the counter is 0 and the flag clear, and where the flag was set no
active TACHO_MISMATCH is left. Where P0 has no VALID latest result all three are unchanged. -/
def Obligations.TachoConsistency : Prop :=
  ∀ (tick n k since limit : Nat) (s : State), s.ret.operating = true →
    (∀ t, s.ptu.chan.p1.prevAccepted = some t → t < tick ∧ s.cfg.ptu.chan.p1.spacing ≤ tick - t) →
    s.ptu.chan.p1.meas = .measuring n k since limit → n ≤ k + 1 → since < tick →
    ∃ t r, exec (.pulseEdge .p1 tick []) s = .next t ∧ t.ptu.chan.p1.latest = some r ∧
      (∀ r0, s.ptu.chan.p0.latest = some r0 → r0.status = .valid →
        let e : Int := (r0.derived * s.cfg.ptu.gearRatio / 1000 : Nat)
        let out : Prop := e * s.cfg.ptu.tolerance < |(r.derived : Int) - e| * 1000
        let c := min (s.ptu.mismatchCounter + 1) 255
        (out → t.ptu.mismatchCounter = c ∧
          (c = 3 → t.ptu.mismatchFlag = true ∧ t.ptu.mismatchEvents = (s.ptu.mismatchEvents + 1) % 65536 ∧
            (s.ptu.mismatchFlag = false → HasRoom .tachoMismatch .ptu s → AlarmActive .tachoMismatch .ptu t)) ∧
          (c ≠ 3 → t.ptu.mismatchFlag = s.ptu.mismatchFlag ∧ t.ptu.mismatchEvents = s.ptu.mismatchEvents)) ∧
        (¬ out → t.ptu.mismatchCounter = 0 ∧ t.ptu.mismatchFlag = false ∧
          t.ptu.mismatchEvents = s.ptu.mismatchEvents ∧
          (s.ptu.mismatchFlag = true → AlarmsKeyed s → AlarmQuiet .tachoMismatch .ptu t))) ∧
      ((∀ r0, s.ptu.chan.p0.latest = some r0 → r0.status = .stalled) →
        t.ptu.mismatchCounter = s.ptu.mismatchCounter ∧ t.ptu.mismatchFlag = s.ptu.mismatchFlag ∧
          t.ptu.mismatchEvents = s.ptu.mismatchEvents)

/-- A STALL happens where the seconds to the stall limit of the measurement or WAITING period have run out; with seconds
still to run, as behind the end pulse of its tick, it changes nothing. It issues a STALLED result: the next sequence
number, N the measurement's N in MEASURING and the configured pulse count in WAITING (for P2 the window cycle
count), T = the stall limit of that measurement or WAITING period x 10,000,000 ticks (32-bit), frequency and derived
value 0. The channel is WAITING with elapsed 0 and the stall limit in force, its seconds (up to 429) all to run. On
P0 and P1, with a regime other than PRODUCING or with the mark set, nothing else changes; while PRODUCING the mark
is set, and where it was clear TACHO_STALL of the channel is raised (active afterwards where the alarm table had a
free entry or already held it). On P2 with windows in use the grid monitor is SEARCHING with the disturbed flag set
and one more stall counted. Model's choices: log entries 12, 14, 39. -/
def Obligations.StallIssuesResult : Prop :=
  (∀ (p : Pulse) (s : State), s.ret.operating = true → (s.ptu.chan.get p).stallIn ≠ 0 →
    exec (.stall p) s = .next s) ∧
  ∀ (p : Pulse) (n since limit : Nat) (s : State), s.ret.operating = true → (s.ptu.chan.get p).stallIn = 0 →
    let x := s.ptu.chan.get p
    let count : Nat := if p = .p2 then (if s.cfg.ghm.nominalFrequency = 60 then 12 else 10) else (s.cfg.ptu.chan.get p).n
    ((∃ k, x.meas = .measuring n k since limit) ∨ x.meas = .waiting since limit ∧ n = count) →
    let ticks := min (limit * 10000000) 4294967295
    let seq := (x.seqCount + 1) % 65536
    let y : PulseState :=
      { x with
        meas := .waiting (since + ticks) (s.cfg.ptu.chan.get p).stallLimit
        stallIn := min (s.cfg.ptu.chan.get p).stallLimit 429
        latest := some { seq := seq, n := n, t := ticks, status := .stalled, freq := 0, derived := 0 }
        seqCount := seq }
    (p ≠ .p2 → s.ccu.op.regime ≠ .producing ∨ x.stallMark = true →
      exec (.stall p) s = .next { s with ptu := { s.ptu with chan := s.ptu.chan.set p y } }) ∧
    (∃ t, exec (.stall p) s = .next t ∧
      t.ptu = { s.ptu with
        chan := s.ptu.chan.set p { y with stallMark := x.stallMark || s.ccu.op.regime = .producing } } ∧
      (s.ccu.op.regime = .producing → x.stallMark = false → HasRoom .tachoStall (.pulse p) s →
        AlarmActive .tachoStall (.pulse p) t) ∧
      (p ≠ .p2 → t.afe = s.afe ∧ t.spe = s.spe ∧ t.ghm = s.ghm) ∧
      (p = .p2 → s.ghm.window ≠ .off →
        t.ghm.window = .searching ∧ t.ghm.disturbed = true ∧
          t.ghm.counters.stalls = min (s.ghm.counters.stalls + 1) 65535))

/-- At the end of a reference gate the count, saturated at 16,777,215, is the latest raw reference count and S0 is next.
In window it is the reference count and REF_FAULT is clear, with no active TEMP_REF_FAULT left where the flag was
set. Out of window REF_FAULT is set and the reference count kept; where the flag was clear, TEMP_REF_FAULT is raised
(active afterwards where the alarm table had a free entry or already held it), every GOOD record becomes STALE with
its value, flag and age, and every other record stays. Captures, pulse inputs, the engine, the accounting interval's
comps and the calendar are unchanged. -/
def Obligations.ReferenceResult : Prop :=
  ∀ (count : Nat) (s : State), s.ret.operating = true → s.rch.pos = .ref → AlarmsKeyed s →
    let c := min count 16777215
    let inWindow := s.cfg.rch.windowLow ≤ c ∧ c ≤ s.cfg.rch.windowHigh
    let stale (x : SensorState) : SensorState :=
      { x with record := { x.record with status := if x.record.status = .good then .stale else x.record.status } }
    ∃ t, exec (.gateEnd count) s = .next t ∧
      t.rch.pos = .sensor .s0 ∧ t.rch.rawRef = some c ∧
      (inWindow → t.rch.cRef = some c ∧ t.rch.refFault = false ∧ t.rch.sensor = s.rch.sensor ∧
        (s.rch.refFault = true → AlarmQuiet .tempRefFault .rch t)) ∧
      (¬ inWindow → t.rch.cRef = s.rch.cRef ∧ t.rch.refFault = true ∧
        (s.rch.refFault = true → t.rch.sensor = s.rch.sensor) ∧
        (s.rch.refFault = false → (HasRoom .tempRefFault .rch s → AlarmActive .tempRefFault .rch t) ∧ t.rch.sensor =
          ⟨stale s.rch.sensor.s0, stale s.rch.sensor.s1, stale s.rch.sensor.s2, stale s.rch.sensor.s3⟩)) ∧
      t.afe = s.afe ∧ t.ptu = s.ptu ∧ t.spe = s.spe ∧ t.plan.interval = s.plan.interval ∧ t.cal = s.cal ∧ t.ret = s.ret

/-- At the end of a sensor gate the next channel of S0, S1, S2, S3, Sref follows and the count is the channel's raw
count. With REF_FAULT set, whether or not a reference count has ever been taken, nothing else of the channels
changes, nor does the alarm table. With it clear, a count below 50 makes the channel OPEN and one above 20 x c_ref
SHORT, a GOOD record then becoming STALE; any other count makes the channel NONE with R = floor(R_ref x c_ref /
count), saturated at 32 bits, as last resistance and a GOOD record of age 0 with the table's temperature and out-of-
table flag. A channel that becomes OPEN raises TEMP_OPEN and one that becomes SHORT raises TEMP_SHORT (active
afterwards where the alarm table had a free entry); the alarm of the state a channel leaves is no longer active. The
other channels, c_ref and REF_FAULT are unchanged. Every component on the channel adds the value of a record that is
not NONE to its temperature sum. -/
def Obligations.SensorResult : Prop :=
  ∀ (ch : Temp) (count cref : Nat) (s : State), s.ret.operating = true → s.rch.pos = .sensor ch →
    (s.rch.refFault = false → s.rch.cRef = some cref) →
    let c := min count 16777215
    let x := s.rch.sensor.get ch
    let stale : TempRecord :=
      { x.record with status := if x.record.status = .good then .stale else x.record.status }
    let r := min (s.cfg.rch.refResistance * cref / c) 4294967295
    let v := temperatureOf (s.cfg.rch.table.get ch) r
    let after : SensorState :=
      if s.rch.refFault then { x with rawCount := some c }
      else if c < 50 then { x with rawCount := some c, fault := .openCircuit, record := stale }
      else if 20 * cref < c then { x with rawCount := some c, fault := .shortCircuit, record := stale }
      else
        { fault := .none, record := { value := some v.1, status := .good, outOfTable := v.2, age := some 0 }
          rawCount := some c, lastResistance := some r }
    ∃ t, exec (.gateEnd count) s = .next t ∧
      t.rch = { s.rch with
        sensor := s.rch.sensor.set ch after
        pos := match ch with
          | .s0 => .sensor .s1
          | .s1 => .sensor .s2
          | .s2 => .sensor .s3
          | .s3 => .ref } ∧
      (s.rch.refFault = true → t.ccu.alarms = s.ccu.alarms) ∧
      (AlarmsKeyed s → s.ccu.alarms.length < 32 →
        (after.fault = .openCircuit → x.fault ≠ .openCircuit → AlarmActive .tempOpen (.temp ch) t) ∧
        (after.fault = .shortCircuit → x.fault ≠ .shortCircuit → AlarmActive .tempShort (.temp ch) t) ∧
        (x.fault = .openCircuit → after.fault ≠ .openCircuit → AlarmQuiet .tempOpen (.temp ch) t) ∧
        (x.fault = .shortCircuit → after.fault ≠ .shortCircuit → AlarmQuiet .tempShort (.temp ch) t)) ∧
      (∀ i : Fin 16, t.plan.interval.comps[i] =
        match after.record.status, after.record.value with
        | .none, _ | _, none => s.plan.interval.comps[i]
        | _, some y =>
          if s.plan.config[i].tempChannel = some ch then
            { s.plan.interval.comps[i] with
              tempSum := s.plan.interval.comps[i].tempSum + y
              tempCount := s.plan.interval.comps[i].tempCount + 1 }
          else s.plan.interval.comps[i]) ∧
      t.afe = s.afe ∧ t.ptu = s.ptu ∧ t.spe = s.spe ∧ t.cal = s.cal ∧ t.ret = s.ret ∧ t.cfg = s.cfg

/-- For a table whose resistances rise strictly: below the first point the temperature is the first with the out-of-
table flag, above the last the last with the flag, at the last the last without it; with R_i at or below R and R
below the next point, it is the i-th temperature plus floor((R - R_i)(next temperature - i-th) / (next R - R_i)),
without the flag. It always lies between the least and the greatest temperature of the table. -/
def Obligations.TemperatureFromTable : Prop :=
  ∀ (table : Vector (Nat × Int) 8) (r : Nat), (∀ i j : Fin 8, i < j → table[i].1 < table[j].1) →
    (r < table[0].1 → temperatureOf table r = (table[0].2, true)) ∧
    (table[7].1 < r → temperatureOf table r = (table[7].2, true)) ∧
    (r = table[7].1 → temperatureOf table r = (table[7].2, false)) ∧
    (∀ i : Fin 7, table[i.castSucc].1 ≤ r → r < table[i.succ].1 →
      temperatureOf table r =
        (table[i.castSucc].2 +
          ((((r : Int) - table[i.castSucc].1) * (table[i.succ].2 - table[i.castSucc].2) : Int) /
            ((table[i.succ].1 : Int) - table[i.castSucc].1)), false)) ∧
    (∀ lo hi : Int, (∀ i : Fin 8, lo ≤ table[i].2 ∧ table[i].2 ≤ hi) →
      lo ≤ (temperatureOf table r).1 ∧ (temperatureOf table r).1 ≤ hi)

/-- On the farm port, or on the service port with presence: WRITE_PTU_ITEM of the items of R26, numbered 0..10, stores a
value in the item's range with OK and answers RANGE for a value outside it; the P2 pulse count (item 11) and every
higher index are UNKNOWN_ITEM. WRITE_RCH_ITEM stores a reference resistance in 1,000..10,000,000, a window with 100
<= low < high <= 16,777,215, or a table of eight points with resistances in 1..4,294,967,295 rising strictly and
temperatures in -600..2000; anything else is RANGE, and a table for Sref UNKNOWN_ITEM. Nothing else changes in any
case (no result, counter, flag, measurement in progress or held temperature) but CONFIG's check word, which matches
after a change. Model's choices: log entries 11, 25. -/
def Obligations.SensorItemWrites : Prop :=
  (∀ (p : Port) (index value : Nat) (s : State), s.ret.operating = true → FarmOrPresence p s →
      let c := s.cfg.ptu
      let item : Option (Nat × Nat × PtuConfig) :=
        match index with
        | 0 => some (1, 1023, { c with chan := { c.chan with p0 := { c.chan.p0 with n := value } } })
        | 1 => some (1, 1023, { c with chan := { c.chan with p1 := { c.chan.p1 with n := value } } })
        | 2 => some (0, 65535, { c with chan := { c.chan with p0 := { c.chan.p0 with spacing := value } } })
        | 3 => some (0, 65535, { c with chan := { c.chan with p1 := { c.chan.p1 with spacing := value } } })
        | 4 => some (0, 65535, { c with chan := { c.chan with p2 := { c.chan.p2 with spacing := value } } })
        | 5 => some (1, 429, { c with chan := { c.chan with p0 := { c.chan.p0 with stallLimit := value } } })
        | 6 => some (1, 429, { c with chan := { c.chan with p1 := { c.chan.p1 with stallLimit := value } } })
        | 7 => some (1, 429, { c with chan := { c.chan with p2 := { c.chan.p2 with stallLimit := value } } })
        | 8 => some (1, 255, { c with teeth := value })
        | 9 => some (1000, 500000, { c with gearRatio := value })
        | 10 => some (5, 100, { c with tolerance := value })
        | _ => none
      exec (.writePtuItem p index value) s = .next (rechecked s
        (match item with
        | none => answered p 0x31 (plain .unknownItem) s
        | some (lo, hi, c') =>
          if lo ≤ value ∧ value ≤ hi then answered p 0x31 (plain .ok) { s with cfg := { s.cfg with ptu := c' } }
          else answered p 0x31 (plain .range) s))) ∧
  (∀ (p : Port) (item : RchItem) (s : State), s.ret.operating = true → FarmOrPresence p s →
      let store (ok : Prop) [Decidable ok] (c : RchConfig) : State :=
        if ok then answered p 0x31 (plain .ok) { s with cfg := { s.cfg with rch := c } } else answered p 0x31 (plain .range) s
      exec (.writeRchItem p item) s = .next (rechecked s
        (match item with
        | .refResistance v => store (1000 ≤ v ∧ v ≤ 10000000) { s.cfg.rch with refResistance := v }
        | .refWindow lo hi =>
          store (100 ≤ lo ∧ lo < hi ∧ hi ≤ 16777215) { s.cfg.rch with windowLow := lo, windowHigh := hi }
        | .table ch points =>
          store ((∀ i : Fin 8, 1 ≤ points[i].1 ∧ points[i].1 ≤ 4294967295 ∧ -600 ≤ points[i].2 ∧ points[i].2 ≤ 2000) ∧
              ∀ i : Fin 7, points[i.castSucc].1 < points[i.succ].1)
            { s.cfg.rch with table := s.cfg.rch.table.set ch points }
        | .srefTable => answered p 0x31 (plain .unknownItem) s)))

/-- REQUEST_END with a request in progress counts it as discarded where its discard mark is set and as delivered
otherwise, and makes its buffer FREE. The next request in progress is the first GHM request of the queue; else the
first of the source opposite to the last-served marker; else the first of the other source; it leaves the queue, its
FULL buffer becomes IN_ANALYSIS, and the marker takes its source unless that is the GHM. With none of these the
engine is IDLE. The arrival number, the pulse inputs, the resistance channels and the calendar are unchanged; a
discarded request with nothing waiting changes nothing else at all. A BANDS result delivered to a measurement that
awaits it (no write held, no band twice in its list, room in the alarm table for a raise of each entry) sets each
band's last level and flags; a LEARNING band without skip mark takes a RESOLVED, unsaturated, unclipped level; an
ARMED band takes the confirm counter and grade of a RESOLVED entry, and a changed grade leaves the alarm of the new
grade active and that of the old one not; RESULTS goes up by one, the sixteen component grades held by the MPL and
the gearbox contribution are those of R81 and R82 over the bands then, and the measurement is IDLE. A PEAK result
for the outstanding step becomes the held peak with its PEAK or NO_PEAK count, and the step is no longer
outstanding. Any other BANDS or PEAK result only counts DISCARDED at its monitor. -/
def Obligations.RequestEndSelectsNext : Prop :=
  ∀ (r : AnalysisRequest) (s : State), s.ret.operating = true → s.spe.inProgress = some r →
    let counted : PerMonitor SpeCounters :=
      s.spe.counters.set r.source
        (if r.discard then
          { s.spe.counters.get r.source with discarded := min ((s.spe.counters.get r.source).discarded + 1) 65535 }
        else
          { s.spe.counters.get r.source with delivered := min ((s.spe.counters.get r.source).delivered + 1) 65535 })
    let first (m : Monitor) : Option AnalysisRequest := s.spe.queue.find? fun q => q.source = m
    let next : Option AnalysisRequest :=
      ((first .ghm).or (first (if s.spe.marker = .gvm then .bim else .gvm))).or
        (first (if s.spe.marker = .gvm then .gvm else .bim))
    let freed := s.afe.buffers.set r.buffer .free
    ∃ t, exec .requestEnd s = .next t ∧ t.spe.inProgress = next ∧ t.spe.arrival = s.spe.arrival ∧
      t.spe.counters = counted ∧
      t.spe.queue = (match next with
        | none => s.spe.queue
        | some q => s.spe.queue.eraseP (fun x => x.arrival = q.arrival)) ∧
      t.spe.marker = (match next.map (·.source) with
        | some .gvm => .gvm
        | some .bim => .bim
        | _ => s.spe.marker) ∧
      (next = none → t.afe.buffers = freed) ∧
      (∀ q c, next = some q → freed.get q.buffer = .full c → t.afe.buffers = freed.set q.buffer (.inAnalysis c)) ∧
      t.ptu = s.ptu ∧ t.rch = s.rch ∧ t.cal = s.cal ∧ t.ret = s.ret ∧
      (r.discard = true → next = none → t =
        { s with
          afe := { s.afe with buffers := freed }
          spe := { s.spe with inProgress := none, counters := counted } }) ∧
      (∀ (c : CaptureRecord), r.discard = false → bufferOf s r.buffer = .inAnalysis c →
        let xs := c.samples.map fun row => row.getD 0 0
        (∀ (n d speed : Nat) (list : List BandPlace) (m : Fin 8), r.mode = .bands n d speed list → r.tag = m.val →
          (s.gvm.work[m].outstanding ≠ some r.arrival →
            t.gvm.counters = { s.gvm.counters with discarded := min (s.gvm.counters.discarded + 1) 65535 } ∧
              t.gvm.lastLevel = s.gvm.lastLevel ∧ t.mon = s.mon ∧ t.ccu = s.ccu ∧ t.mpl = s.mpl) ∧
          (s.gvm.work[m].outstanding = some r.arrival → s.gvm.work[m].pending = none → (list.map (·.band)).Nodup →
            (∀ p ∈ list, p.band ≤ 23) →
            t.gvm.counters = { s.gvm.counters with
              results := min (s.gvm.counters.results + 1) 65535, learnIgnored := t.gvm.counters.learnIgnored } ∧
            t.gvm.work[m].work = .idle ∧ t.gvm.work[m].outstanding = none ∧ t.gvm.work[m].context = none ∧
            (∀ b : Fin 24, (∀ p ∈ list, p.band ≠ b.val) →
              t.mon.bands[b] = s.mon.bands[b] ∧ t.gvm.lastLevel[b] = s.gvm.lastLevel[b]) ∧
            (∀ b : Fin 24, ∀ p ∈ list, p.band = b.val →
              let e := analyseBand xs n d speed p
              let old := s.mon.bands[b]
              let new := t.mon.bands[b]
              let rise : Int := (e.level : Int) - old.baseline
              let confirm := confirmAfter s.cfg.bands[b] r.clipped rise old.confirm
              t.gvm.lastLevel[b] =
                { level := if e.resolved then some e.level else none, clipped := r.clipped,
                  saturated := e.saturated, unresolved := !e.resolved } ∧
              (old.mode = .disabled → new = old) ∧
              (old.mode = .learning → new =
                if s.gvm.skipMark[b] = false ∧ e.resolved = true ∧ e.saturated = false ∧ r.clipped = false then
                  old.learn e.level
                else old) ∧
              (old.mode = .armed → new =
                if e.resolved then
                  { old with
                    confirm := confirm, grade := gradeAfter s.cfg.bands[b] r.clipped rise confirm old.grade }
                else old) ∧
              (old.mode = .armed → new.grade ≠ old.grade → AlarmsKeyed s → s.ccu.alarms.length + list.length ≤ 32 →
                (new.grade = 1 → AlarmActive .bandAlert (.band b.val) t) ∧
                (new.grade = 2 → AlarmActive .bandAlarm (.band b.val) t) ∧
                (old.grade = 1 → AlarmQuiet .bandAlert (.band b.val) t) ∧
                (old.grade = 2 → AlarmQuiet .bandAlarm (.band b.val) t))) ∧
            (∀ k : Fin 16,
              (∀ b : Fin 24, t.mon.bands[b].mode = .armed → s.cfg.bands[b].component = some k.val →
                t.mon.bands[b].grade ≤ t.mpl.grades.bands[k]) ∧
              (t.mpl.grades.bands[k] = 0 ∨ ∃ b : Fin 24, t.mon.bands[b].mode = .armed ∧
                s.cfg.bands[b].component = some k.val ∧ t.mon.bands[b].grade = t.mpl.grades.bands[k])) ∧
            (∃ g, t.ccu.contributions.gearbox = some g ∧ g ≤ 100 ∧
              (∀ b : Fin 24, s.cfg.bands[b].derate = true → t.mon.bands[b].grade = 2 →
                g ≤ s.cfg.bands[b].derateCeiling) ∧
              (g = 100 ∨ ∃ b : Fin 24, s.cfg.bands[b].derate = true ∧ t.mon.bands[b].grade = 2 ∧
                g = s.cfg.bands[b].derateCeiling)))) ∧
        (∀ (n d lo hi floor : Nat), r.mode = .peak n d lo hi floor →
          let p := analysePeak xs n d lo hi floor
          (s.bim.outstanding = some r.tag → t.bim =
            { s.bim with
              outstanding := none
              heldPeak := some { step := r.tag, peak := p.peak, freq := p.freq, power := p.power, clipped := r.clipped }
              counters :=
                { s.bim.counters with
                  peak := if p.peak then min (s.bim.counters.peak + 1) 65535 else s.bim.counters.peak
                  noPeak := if p.peak then s.bim.counters.noPeak else min (s.bim.counters.noPeak + 1) 65535 } }) ∧
          (s.bim.outstanding ≠ some r.tag → t.bim =
            { s.bim with counters :=
              { s.bim.counters with discarded := min (s.bim.counters.discarded + 1) 65535 } })))

/-- For an entry of a BANDS result that is RESOLVED with energy E: L is 0 with the no-energy flag where E = 0; L is
14434 where the saturated flag is set; otherwise L = 301 b + T[m], with b the position of the highest set bit of E
and m = floor(16 E / 2^b) - 16 in 0..15. T[m] is 1000 log10(1 + m/16) rounded to the nearest whole number, and has
the values of the table. The no-energy flag is set exactly where E = 0, and the level lies in 0..14434 for every E
below 2^48. -/
def Obligations.LevelConversion : Prop :=
  (∀ (xs : List Int) (n d speed : Nat) (p : BandPlace), (analyseBand xs n d speed p).resolved = true →
    let e := analyseBand xs n d speed p
    (e.noEnergy = true ↔ e.energy = 0) ∧
    (e.energy = 0 → e.level = 0) ∧
    (e.energy ≠ 0 → e.saturated = true → e.level = 14434) ∧
    (e.energy ≠ 0 → e.saturated = false →
      ∃ b m, 2 ^ b ≤ e.energy ∧ e.energy < 2 ^ (b + 1) ∧ m = e.energy * 16 / 2 ^ b - 16 ∧ m ≤ 15 ∧
        e.level = 301 * b + levelFraction m)) ∧
  (∀ m : Nat, m ≤ 15 → |1000 * Real.logb 10 (1 + (m : ℝ) / 16) - (levelFraction m : ℝ)| ≤ 1 / 2) ∧
  (List.range 16).map levelFraction = [0, 26, 51, 75, 97, 118, 138, 158, 176, 194, 211, 227, 243, 258, 273, 287] ∧
  (∀ e sat, e < 2 ^ 48 → levelFor e sat ≤ 14434)

/-- For a band with centre c and half-width w, speed S, record length n and decimation D: the edge orders are c - w (0
where c < w) and c + w; the edge frequencies are the floors of order x S / 6000; k_lo is the ceiling of f_lo n D /
25,600,000 raised to 1 if it is 0, and k_hi the floor of f_hi n D / 25,600,000 lowered to n/2. The entry is RESOLVED
exactly when k_lo <= k_hi, and its bins are k_lo and k_hi; its energy and its saturated flag are then the band
energy over exactly these bins (that of BandEnergyIsExact) and its level that of this energy, and an entry not
RESOLVED has energy and level 0 and neither flag. -/
def Obligations.BandPlacement : Prop :=
  ∀ (xs : List Int) (n d speed : Nat) (p : BandPlace),
    let lower : Nat := if p.halfWidth ≤ p.centre then p.centre - p.halfWidth else 0
    let upper : Nat := p.centre + p.halfWidth
    let fLo : Nat := ⌊(lower * speed : ℚ) / 6000⌋₊
    let fHi : Nat := ⌊(upper * speed : ℚ) / 6000⌋₊
    let kLo : Nat := if ⌈(fLo * n * d : ℚ) / 25600000⌉₊ = 0 then 1 else ⌈(fLo * n * d : ℚ) / 25600000⌉₊
    let kHi : Nat := if n / 2 < ⌊(fHi * n * d : ℚ) / 25600000⌋₊ then n / 2 else ⌊(fHi * n * d : ℚ) / 25600000⌋₊
    let e := analyseBand xs n d speed p
    e.band = p.band ∧ e.kLo = kLo ∧ e.kHi = kHi ∧ (e.resolved = true ↔ kLo ≤ kHi) ∧
      (e.resolved = true → (e.energy, e.saturated) = bandEnergy xs n kLo kHi ∧
        e.level = levelFor e.energy e.saturated ∧ (e.noEnergy = true ↔ e.energy = 0)) ∧
      (e.resolved = false → e.energy = 0 ∧ e.saturated = false ∧ e.level = 0 ∧ e.noEnergy = false)

/-- A number of level m stands for a real number of the field generated by 2 cos(2 pi / 2^(m+2)). The sum, the
difference and the product of two such numbers stand for the sum, the difference and the product, and the sign
computed with integers alone is 1, 0 or -1 as the real number is positive, zero or negative. Every floor and
comparison of the engine rests on this. -/
def Obligations.ExactSigns : Prop :=
  ∀ (m : Nat) (x y : Cyc m),
    cycReal m (cycAdd m x y) = cycReal m x + cycReal m y ∧
    cycReal m (cycSub m x y) = cycReal m x - cycReal m y ∧
    cycReal m (cycMul m x y) = cycReal m x * cycReal m y ∧
    (cycSign m x = 1 ↔ 0 < cycReal m x) ∧
    (cycSign m x = 0 ↔ cycReal m x = 0) ∧
    (cycSign m x = -1 ↔ cycReal m x < 0)

/-- For a record of n = 2^(m+2) samples and bins k_lo <= k_hi <= n/2, let E be 2500 times the sum over these bins of P_k
= c_k |X_k|^2 / (n^2 x 3/8), with X the discrete Fourier transform of the Hann-windowed record, over the real
numbers. The saturated flag is set exactly when E reaches 2^48; the energy is then 2^48 - 1, and otherwise floor(E).
So are the energy and the flag of every RESOLVED entry of a BANDS result, over the bins k_lo..k_hi the entry names. -/
def Obligations.BandEnergyIsExact : Prop :=
  ∀ (m : Nat) (xs : List Int), xs.length = 2 ^ (m + 2) →
    let n := 2 ^ (m + 2)
    let exact (kLo kHi energy : Nat) (saturated : Bool) : Prop :=
      let e : ℝ := 2500 * ∑ k ∈ Finset.Icc kLo kHi, binPower n xs k
      (saturated = true ↔ (2 : ℝ) ^ 48 ≤ e) ∧ (e < 2 ^ 48 → energy = ⌊e⌋₊) ∧ ((2 : ℝ) ^ 48 ≤ e → energy = 2 ^ 48 - 1)
    (∀ kLo kHi : Nat, kLo ≤ kHi → kHi ≤ 2 ^ (m + 1) →
      exact kLo kHi (bandEnergy xs n kLo kHi).1 (bandEnergy xs n kLo kHi).2) ∧
    (∀ (d speed : Nat) (p : BandPlace),
      let r := analyseBand xs n d speed p
      r.resolved = true → exact r.kLo r.kHi r.energy r.saturated)

/-- For a window of C cycles with T ticks and s stored instants of a channel, 2 <= s, and an order h in 1..40: where 256
sqrt(2) |Y_h| / (64 C) over the 64 C resampled points is below 2^32, the magnitude M_h of the result is its floor. -/
def Obligations.MagnitudeIsExact : Prop :=
  ∀ (xs : List Int) (s c t h : Nat), xs.length = s → 2 ≤ s → 1 ≤ c → 1 ≤ h → h ≤ 40 →
    harmonicMagnitude xs s c t h < 2 ^ 32 →
    (channelMagnitudes xs s c t)[h - 1]? = some ⌊harmonicMagnitude xs s c t h⌋₊

/-- For a record of n = 2^(m+2) samples and a search range that holds the bins k_lo..k_hi, the PEAK result names a bin
k* of the range whose real power P_k* is at least that of every bin of the range and greater than that of every
lower one. Its power is floor(2500 P_k*) where that is below 2^48; below the power floor the outcome is NO_PEAK with
frequency 0, and otherwise PEAK with frequency floor(k* x 25,600,000 / (n D)). A range that holds no bin gives
NO_PEAK with the empty-range flag, frequency 0, no bin and power 0. -/
def Obligations.PeakIsExact : Prop :=
  ∀ (m d fLo fHi floor : Nat) (xs : List Int), xs.length = 2 ^ (m + 2) → 1 ≤ d → floor < 2 ^ 48 →
    let n := 2 ^ (m + 2)
    let k := binLimits fLo fHi n d
    let r := analysePeak xs n d fLo fHi floor
    (k.2 < k.1 → r = { peak := false, emptyRange := true, freq := 0, bin := none, power := 0 }) ∧
    (k.1 ≤ k.2 → ∃ j, r.bin = some j ∧ k.1 ≤ j ∧ j ≤ k.2 ∧ r.emptyRange = false ∧
      (∀ i, k.1 ≤ i → i ≤ k.2 → binPower n xs i ≤ binPower n xs j) ∧
      (∀ i, k.1 ≤ i → i < j → binPower n xs i < binPower n xs j) ∧
      (2500 * binPower n xs j < 2 ^ 48 → r.power = ⌊2500 * binPower n xs j⌋₊) ∧
      ((2 : ℝ) ^ 48 ≤ 2500 * binPower n xs j → r.power = 2 ^ 48 - 1) ∧
      (r.peak = true ↔ floor ≤ r.power) ∧
      r.freq = if r.peak then j * 25600000 / (n * d) else 0)

/-- GVM_PERIOD_EXPIRY with the timer stopped, or with time still to run, changes nothing; where its time has run out the
timer restarts with the configured period, which is the period in force from then on. With no measurement enabled
nothing else changes. Otherwise the enabled measurement m nearest after the round-robin position in cyclic order
becomes the position. Then, by the first of these that holds, only a skip counter goes up by one: OVERRUN if its
work is not IDLE; REGIME if the regime is not PRODUCING; NO_SPEED if the latest result of the reference shaft is not
VALID with at least 1 milli-rpm; MISMATCH if the mismatch flag is set; then the AFE's refusal: PARAMETER for a
decimation or length outside R10, CONVERTER in the converter fault, CHANNEL_FAULT with the channel in a fault state,
NO_BUFFER with neither GVM buffer FREE. While PRODUCING, with a VALID result of at least 1 milli-rpm on the
reference shaft, the mismatch flag clear, the converter and the channel without fault and a GVM buffer FREE, the
first FREE of GVM-A and GVM-B becomes FILLING with m's channel, decimation and length under the trim in force, and m
is CAPTURING with the start context as it stands; nothing else changes. Model's choices: log entries 12, 14. -/
def Obligations.PeriodExpiryTakesSlot : Prop :=
  (∀ (s : State), s.ret.operating = true → s.gvm.periodTimer ≠ some 0 → exec .gvmPeriodExpiry s = .next s) ∧
  ∀ (s : State), s.ret.operating = true → s.gvm.periodTimer = some 0 →
    let timer : Option Nat := some s.cfg.gvmPeriod
    let distance (k : Fin 8) : Nat :=
      match s.gvm.position with
      | none => k.val
      | some p => (k.val + 7 - p.val) % 8
    ((∀ k : Fin 8, s.cfg.measurements[k].enabled = false) →
      exec .gvmPeriodExpiry s = .next { s with gvm := { s.gvm with period := s.cfg.gvmPeriod, periodTimer := timer } }) ∧
    (∀ m : Fin 8, s.cfg.measurements[m].enabled = true →
      (∀ k : Fin 8, s.cfg.measurements[k].enabled = true → distance m ≤ distance k) →
      let c := s.gvm.counters
      let v := s.cfg.measurements[m]
      let pulse : Pulse := match v.shaft with
        | .rotor => .p0
        | .hss => .p1
      let ch : Accel := match v.channel with
        | .g1 => .g1
        | .g2 => .g2
        | .g3 => .g3
        | .g4 => .g4
      let speed : Prop := ∃ r, (s.ptu.chan.get pulse).latest = some r ∧ r.status = .valid ∧ 1 ≤ r.derived
      let asked : Prop := v.decimation ∈ [1, 2, 4, 8, 16] ∧ 1 ≤ v.length ∧ v.length ≤ 65536
      let skip (c' : GvmCounters) : Host.Outcome State Fault Refusal := .next
        { s with gvm :=
          { s.gvm with
            period := s.cfg.gvmPeriod, periodTimer := timer, position := some m, counters := c' } }
      (s.gvm.work[m].work ≠ .idle →
        exec .gvmPeriodExpiry s = skip { c with skipOverrun := min (c.skipOverrun + 1) 65535 }) ∧
      (s.gvm.work[m].work = .idle → s.ccu.op.regime ≠ .producing →
        exec .gvmPeriodExpiry s = skip { c with skipRegime := min (c.skipRegime + 1) 65535 }) ∧
      (s.gvm.work[m].work = .idle → s.ccu.op.regime = .producing → ¬ speed →
        exec .gvmPeriodExpiry s = skip { c with skipNoSpeed := min (c.skipNoSpeed + 1) 65535 }) ∧
      (s.gvm.work[m].work = .idle → s.ccu.op.regime = .producing → speed → s.ptu.mismatchFlag = true →
        exec .gvmPeriodExpiry s = skip { c with skipMismatch := min (c.skipMismatch + 1) 65535 }) ∧
      (s.gvm.work[m].work = .idle → s.ccu.op.regime = .producing → speed → s.ptu.mismatchFlag = false →
        (¬ asked → exec .gvmPeriodExpiry s = skip { c with skipParameter := min (c.skipParameter + 1) 65535 }) ∧
        (asked → s.afe.converterFault = true →
          exec .gvmPeriodExpiry s = skip { c with skipConverter := min (c.skipConverter + 1) 65535 }) ∧
        (asked → s.afe.converterFault = false → (s.afe.accel.get ch).fault ≠ .none →
          exec .gvmPeriodExpiry s = skip { c with skipChannelFault := min (c.skipChannelFault + 1) 65535 }) ∧
        (asked → s.afe.converterFault = false → (s.afe.accel.get ch).fault = .none →
          s.afe.buffers.gvmA ≠ .free → s.afe.buffers.gvmB ≠ .free →
          exec .gvmPeriodExpiry s = skip { c with skipNoBuffer := min (c.skipNoBuffer + 1) 65535 })) ∧
      (∀ (r : PulseResult) (b : BufferId), s.gvm.work[m].work = .idle → s.ccu.op.regime = .producing →
        (s.ptu.chan.get pulse).latest = some r → r.status = .valid → 1 ≤ r.derived → s.ptu.mismatchFlag = false →
        asked → s.afe.converterFault = false → (s.afe.accel.get ch).fault = .none →
        (b = .gvmA ∧ s.afe.buffers.gvmA = .free ∨
          b = .gvmB ∧ s.afe.buffers.gvmA ≠ .free ∧ s.afe.buffers.gvmB = .free) →
        let context : StartContext :=
          { buffer := b, time := s.cal, regimeChanges := s.ccu.op.changes, speed := r.derived, seq := r.seq,
            disturbances := s.ghm.disturbances, disturbed := s.ghm.disturbed, mismatchEvents := s.ptu.mismatchEvents }
        let record : CaptureRecord :=
          { kind := .fixed ch v.decimation v.length, trims := [[s.cfg.trims[trimIndex ch]]] }
        exec .gvmPeriodExpiry s = .next
          { s with
            afe := { s.afe with buffers := s.afe.buffers.set b (.filling record) }
            gvm :=
              { s.gvm with
                period := s.cfg.gvmPeriod, periodTimer := timer, position := some m
                work := s.gvm.work.set m { s.gvm.work[m] with work := .capturing, context := some context } } }))

/-- The checks are the ranges of R66 and R67. On the farm port, or on the service port with presence: an index outside
0..7 or 0..23 is UNKNOWN_ITEM and a value that fails its check (for a measurement also a list that names a band of
another measurement) is RANGE, each without change. While the measurement concerned is busy, an accepted write,
unless it disables an enabled measurement, changes only the holder: OK_DEFERRED, and if the holder held a write,
that write is discarded, PENDING_REPLACED goes up by one and the reply carries the replaced indication. While it is
IDLE, or for a band that no measurement owns, the record is replaced at once with OK, and every other measurement
record and band configuration stays. A write that disables a busy measurement (no write held) is never held: it
takes effect with OK, the measurement is IDLE, its FILLING capture is FREE, its waiting requests are withdrawn and
one in progress gets the discard mark. At the end of a measurement's work by a result, a held write leaves the
holder: a measurement write whose list names a band of another measurement is dropped with PENDING_DROPPED one
higher and no configuration changed; any other held write replaces its record with PENDING_APPLIED one higher.
Model's choices: log entry 25. -/
def Obligations.MeasurementAndBandWrites : Prop :=
  (∀ v, measurementOk v = true ↔
    v.decimation ∈ [1, 2, 4, 8, 16] ∧ v.length ∈ [4096, 8192, 16384, 32768, 65536] ∧ v.bands.length ≤ 6 ∧
      (∀ b ∈ v.bands, b ≤ 23) ∧ v.bands.Nodup ∧ 10 ≤ v.tolerance ∧ v.tolerance ≤ 100) ∧
  (∀ v, bandOk v = true ↔
    v.centre ≤ 65535 ∧ v.halfWidth ≤ 65535 ∧ 1 ≤ v.alertRise ∧ v.alertRise ≤ 9999 ∧ v.alertRise < v.alarmRise ∧
      v.alarmRise ≤ 9999 ∧ v.hysteresis < v.alertRise ∧ 1 ≤ v.confirmCount ∧ v.confirmCount ≤ 4 ∧
      v.derateCeiling ≤ 100 ∧ ∀ c, v.component = some c → c ≤ 15) ∧
  (∀ (r : AnalysisRequest) (n d speed : Nat) (list : List BandPlace) (m : Fin 8) (s : State),
    s.ret.operating = true → s.spe.inProgress = some r → r.discard = false → r.mode = .bands n d speed list →
    r.tag = m.val → s.gvm.work[m].outstanding = some r.arrival →
    ∃ t, exec .requestEnd s = .next t ∧ t.gvm.work[m].work = .idle ∧ t.gvm.work[m].pending = none ∧
      let c := s.gvm.counters
      (s.gvm.work[m].pending = none → t.cfg = s.cfg ∧ t.gvm.work[m].outcome = s.gvm.work[m].outcome) ∧
      (∀ v, s.gvm.work[m].pending = some (.measurement v) →
        ((∃ k : Fin 8, k ≠ m ∧ ∃ b ∈ v.bands, b ∈ s.cfg.measurements[k].bands) →
          t.cfg = s.cfg ∧ t.gvm.work[m].outcome = .dropped ∧
            t.gvm.counters.pendingDropped = min (c.pendingDropped + 1) 65535 ∧
            t.gvm.counters.pendingApplied = c.pendingApplied) ∧
        ((∀ k : Fin 8, k ≠ m → ∀ b ∈ v.bands, b ∉ s.cfg.measurements[k].bands) →
          t.cfg = { s.cfg with measurements := s.cfg.measurements.set m v } ∧ t.gvm.work[m].outcome = .applied ∧
            t.gvm.counters.pendingApplied = min (c.pendingApplied + 1) 65535 ∧
            t.gvm.counters.pendingDropped = c.pendingDropped)) ∧
      (∀ b v, s.gvm.work[m].pending = some (.band b v) →
        t.cfg = { s.cfg with bands := s.cfg.bands.set b v } ∧ t.gvm.work[m].outcome = .applied ∧
          t.gvm.counters.pendingApplied = min (c.pendingApplied + 1) 65535)) ∧
  ∀ (p : Port) (s : State), s.ret.operating = true → FarmOrPresence p s →
    let held (m : Fin 8) (w : PendingWrite) : State :=
      let x := s.gvm.work[m]
      match x.pending with
      | none =>
        answered p 0x31 (plain .okDeferred)
          { s with gvm := { s.gvm with work := s.gvm.work.set m { x with pending := some w } } }
      | some _ =>
        answered p 0x31 { status := .okDeferred, replaced := true }
          { s with gvm :=
            { s.gvm with
              work := s.gvm.work.set m { x with pending := some w, outcome := .replaced }
              counters :=
                { s.gvm.counters with pendingReplaced := min (s.gvm.counters.pendingReplaced + 1) 65535 } } }
    (∀ (i : Nat) (v : MeasurementRecord),
      (8 ≤ i → exec (.writeMeasurementRecord p i v) s = .next (answered p 0x31 (plain .unknownItem) s)) ∧
      (∀ m : Fin 8, i = m.val →
        ((measurementOk v = false ∨ ∃ k : Fin 8, k ≠ m ∧ ∃ b ∈ v.bands, b ∈ s.cfg.measurements[k].bands) →
          exec (.writeMeasurementRecord p i v) s = .next (answered p 0x31 (plain .range) s)) ∧
        (measurementOk v = true → (∀ k : Fin 8, k ≠ m → ∀ b ∈ v.bands, b ∉ s.cfg.measurements[k].bands) →
          (s.gvm.work[m].work ≠ .idle → (s.cfg.measurements[m].enabled = true → v.enabled = true) →
            exec (.writeMeasurementRecord p i v) s = .next (held m (.measurement v))) ∧
          (s.gvm.work[m].work ≠ .idle → s.gvm.work[m].pending = none → s.cfg.measurements[m].enabled = true →
            v.enabled = false →
            ∃ t, exec (.writeMeasurementRecord p i v) s = .next t ∧
              t.cfg = { s.cfg with measurements := s.cfg.measurements.set m v } ∧
              t.gvm.work[m].work = .idle ∧ t.gvm.work[m].outstanding = none ∧ t.gvm.work[m].context = none ∧
              (∀ c r, s.gvm.work[m].work = .capturing → s.gvm.work[m].context = some c →
                bufferOf s c.buffer = .filling r → bufferOf t c.buffer = .free) ∧
              t.spe.queue = s.spe.queue.filter (fun q => !(q.source = .gvm && q.tag = m.val)) ∧
              t.spe.inProgress = s.spe.inProgress.map
                (fun r => if r.source = .gvm ∧ r.tag = m.val then { r with discard := true } else r) ∧
              (t.lnk.get p).reply.map (·.status) = some .ok) ∧
          (s.gvm.work[m].work = .idle →
            ∃ t, exec (.writeMeasurementRecord p i v) s = .next t ∧
              t.cfg = { s.cfg with measurements := s.cfg.measurements.set m v } ∧
              (t.lnk.get p).reply.map (·.status) = some .ok ∧ t.gvm.work = s.gvm.work)))) ∧
    (∀ (i : Nat) (v : BandConfig),
      (24 ≤ i → exec (.writeBandConfig p i v) s = .next (answered p 0x31 (plain .unknownItem) s)) ∧
      (∀ b : Fin 24, i = b.val →
        (bandOk v = false → exec (.writeBandConfig p i v) s = .next (answered p 0x31 (plain .range) s)) ∧
        (∀ m : Fin 8, bandOk v = true → owningMeasurement s.cfg b = some m → s.gvm.work[m].work ≠ .idle →
          exec (.writeBandConfig p i v) s = .next (held m (.band b v))) ∧
        (bandOk v = true → (∀ m : Fin 8, owningMeasurement s.cfg b = some m → s.gvm.work[m].work = .idle) →
          ∃ t, exec (.writeBandConfig p i v) s = .next t ∧
            t.cfg = { s.cfg with bands := s.cfg.bands.set b v } ∧
            (t.lnk.get p).reply.map (·.status) = some .ok ∧ t.gvm.work = s.gvm.work)))

/-- After an accepted measurement write to an IDLE measurement, and after an accepted band write to a band that no busy
measurement owns, each of the 24 bands has the state R68 gives it: a band not enabled or without an owning
measurement is DISABLED; an enabled owned band enters LEARNING if it was DISABLED, if the write changed its owning
measurement, or if it changed the channel or the reference shaft of that measurement, or the centre or half-width of
the band; any other band keeps its whole retained state. A band that enters LEARNING, or DISABLED from another
state, has grade 0, confirm counter 0, and learning count and sum 0, and keeps its baseline. -/
def Obligations.BandStatesFollowWrites : Prop :=
  (∀ (p : Port) (m : Fin 8) (v : MeasurementRecord) (s : State), s.ret.operating = true → FarmOrPresence p s →
    measurementOk v = true → (∀ k : Fin 8, k ≠ m → ∀ b ∈ v.bands, b ∉ s.cfg.measurements[k].bands) →
    s.gvm.work[m].work = .idle →
    let owner' (b : Fin 24) : Option (Fin 8) :=
      (List.finRange 8).find? fun k => (if k = m then v else s.cfg.measurements[k]).bands.contains b.val
    ∃ t, exec (.writeMeasurementRecord p m.val v) s = .next t ∧
      ∀ b : Fin 24,
        let old := s.mon.bands[b]
        let entered (mode : BandMode) : BandState := { mode := mode, baseline := old.baseline }
        ((s.cfg.bands[b].enabled = false ∨ owner' b = none) →
          t.mon.bands[b] = if old.mode = .disabled then old else entered .disabled) ∧
        (∀ k, s.cfg.bands[b].enabled = true → owner' b = some k →
          t.mon.bands[b] =
            if old.mode = .disabled ∨ owningMeasurement s.cfg b ≠ some k ∨
                k = m ∧ (s.cfg.measurements[m].channel ≠ v.channel ∨ s.cfg.measurements[m].shaft ≠ v.shaft) then
              entered .learning
            else old)) ∧
  (∀ (p : Port) (w : Fin 24) (v : BandConfig) (s : State), s.ret.operating = true → FarmOrPresence p s →
    bandOk v = true → (∀ m : Fin 8, owningMeasurement s.cfg w = some m → s.gvm.work[m].work = .idle) →
    ∃ t, exec (.writeBandConfig p w.val v) s = .next t ∧
      ∀ b : Fin 24,
        let old := s.mon.bands[b]
        let entered (mode : BandMode) : BandState := { mode := mode, baseline := old.baseline }
        let enabled : Bool := if b = w then v.enabled else s.cfg.bands[b].enabled
        ((enabled = false ∨ owningMeasurement s.cfg b = none) →
          t.mon.bands[b] = if old.mode = .disabled then old else entered .disabled) ∧
        (enabled = true → owningMeasurement s.cfg b ≠ none →
          t.mon.bands[b] =
            if old.mode = .disabled ∨
                b = w ∧ (s.cfg.bands[w].centre ≠ v.centre ∨ s.cfg.bands[w].halfWidth ≠ v.halfWidth) then
              entered .learning
            else old))

/-- On the farm port, or on the service port with presence: a band outside 0..23 or a measurement outside 0..7 is
UNKNOWN_ITEM; a DISABLED band, or a measurement whose list has no band in LEARNING or ARMED, is STATE; each without
change. A band in LEARNING or ARMED answers OK and enters LEARNING with grade, confirm counter, learning count and
sum 0 and its baseline kept; its skip mark is set if its owning measurement's work is not IDLE; for a measurement
whose list (of band indices 0..23) has such a band, every such band of the list does so. Every other band, every
other skip mark, the configuration, the work of the measurements, the captures and the engine are unchanged. Model's
choices: log entry 25. -/
def Obligations.LearnBaselineRequest : Prop :=
  ∀ (p : Port) (s : State), s.ret.operating = true → FarmOrPresence p s →
    (∀ i, 24 ≤ i → exec (.learnBaseline p (.band i)) s = .next (answered p 0x32 (plain .unknownItem) s)) ∧
    (∀ i, 8 ≤ i → exec (.learnBaseline p (.measurement i)) s = .next (answered p 0x32 (plain .unknownItem) s)) ∧
    (∀ b : Fin 24, s.mon.bands[b].mode = .disabled →
      exec (.learnBaseline p (.band b.val)) s = .next (answered p 0x32 (plain .state) s)) ∧
    (∀ m : Fin 8, (∀ i ∈ s.cfg.measurements[m].bands, s.mon.bands[Fin.ofNat 24 i].mode = .disabled) →
      exec (.learnBaseline p (.measurement m.val)) s = .next (answered p 0x32 (plain .state) s)) ∧
    (∀ b : Fin 24, s.mon.bands[b].mode ≠ .disabled →
      let mark : Bool := s.gvm.skipMark[b] ||
        match owningMeasurement s.cfg b with
        | none => false
        | some m => s.gvm.work[m].work ≠ .idle
      ∃ t, exec (.learnBaseline p (.band b.val)) s = .next t ∧
        t.mon.bands = s.mon.bands.set b { mode := .learning, baseline := s.mon.bands[b].baseline } ∧
        t.gvm = { s.gvm with skipMark := s.gvm.skipMark.set b mark } ∧
        t.cfg = s.cfg ∧ t.afe = s.afe ∧ t.spe = s.spe ∧ (t.lnk.get p).reply.map (·.status) = some .ok) ∧
    (∀ m : Fin 8, (∀ i ∈ s.cfg.measurements[m].bands, i ≤ 23) →
      (∃ i ∈ s.cfg.measurements[m].bands, s.mon.bands[Fin.ofNat 24 i].mode ≠ .disabled) →
      let taught (b : Fin 24) : Prop := b.val ∈ s.cfg.measurements[m].bands ∧ s.mon.bands[b].mode ≠ .disabled
      let busy (b : Fin 24) : Prop := ∃ k, owningMeasurement s.cfg b = some k ∧ s.gvm.work[k].work ≠ .idle
      ∃ t, exec (.learnBaseline p (.measurement m.val)) s = .next t ∧
        (∀ b : Fin 24,
          (taught b → t.mon.bands[b] = { mode := .learning, baseline := s.mon.bands[b].baseline }) ∧
          (¬ taught b → t.mon.bands[b] = s.mon.bands[b]) ∧
          (t.gvm.skipMark[b] = true ↔ s.gvm.skipMark[b] = true ∨ taught b ∧ busy b)) ∧
        t.gvm = { s.gvm with skipMark := t.gvm.skipMark } ∧
        t.cfg = s.cfg ∧ t.afe = s.afe ∧ t.spe = s.spe ∧ (t.lnk.get p).reply.map (·.status) = some .ok)

/-- On the farm port, or on the service port with presence: a write that does not change the item answers OK and changes
nothing; enabling sets it and restarts the timer with the full configured period, which is then in force, changing
nothing else but CONFIG's check word, which then matches. Disabling answers OK, stops the timer, leaves every
measurement IDLE with an empty holder wherever it was busy and the buffer FREE that such a measurement was filling,
leaves a buffer that no measurement's context and no waiting GVM request names as it is, leaves no waiting GVM
request and a discard mark on a GVM request in progress named by the tag of a measurement that was busy; the
requests of the other sources, the period, the enable items of the other monitors and the pulse inputs are
unchanged. Model's choices: log entries 11, 20, 25. -/
def Obligations.GvmEnableWrite : Prop :=
  ∀ (p : Port) (s : State), s.ret.operating = true → FarmOrPresence p s →
    (∀ v, v = s.cfg.gvmEnable → exec (.writeGvmEnable p v) s = .next (answered p 0x31 (plain .ok) s)) ∧
    (s.cfg.gvmEnable = false →
      exec (.writeGvmEnable p true) s = .next (rechecked s (answered p 0x31 (plain .ok)
        { s with
          cfg := { s.cfg with gvmEnable := true }
          gvm := { s.gvm with period := s.cfg.gvmPeriod, periodTimer := some s.cfg.gvmPeriod } }))) ∧
    (s.cfg.gvmEnable = true →
      ∃ t, exec (.writeGvmEnable p false) s = .next t ∧ t.cfg.gvmEnable = false ∧ t.gvm.periodTimer = none ∧
        (∀ m : Fin 8, s.gvm.work[m].work = .idle → t.gvm.work[m] = s.gvm.work[m]) ∧
        (∀ m : Fin 8, s.gvm.work[m].work ≠ .idle → t.gvm.work[m].work = .idle ∧ t.gvm.work[m].outstanding = none ∧
          t.gvm.work[m].context = none ∧ t.gvm.work[m].pending = none) ∧
        (∀ (m : Fin 8) b r, CapturesInto m b s → bufferOf s b = .filling r → bufferOf t b = .free) ∧
        (∀ b, (∀ (m : Fin 8) c, s.gvm.work[m].context = some c → c.buffer ≠ b) →
          (∀ q ∈ s.spe.queue, q.source = .gvm → q.buffer ≠ b) → bufferOf t b = bufferOf s b) ∧
        (∀ q ∈ t.spe.queue, q ∈ s.spe.queue) ∧
        (∀ q ∈ s.spe.queue, q.source ≠ .gvm → q ∈ t.spe.queue) ∧
        (∀ (m : Fin 8), s.gvm.work[m].work ≠ .idle → ∀ q ∈ t.spe.queue, ¬ (q.source = .gvm ∧ q.tag = m.val)) ∧
        (∀ r (m : Fin 8), s.spe.inProgress = some r → r.source = .gvm → r.tag = m.val → s.gvm.work[m].work ≠ .idle →
          t.spe.inProgress = some { r with discard := true }) ∧
        t.cfg.gvmPeriod = s.cfg.gvmPeriod ∧ t.cfg.ghm = s.cfg.ghm ∧ t.cfg.bim = s.cfg.bim ∧ t.ptu = s.ptu ∧
        (t.lnk.get p).reply.map (·.status) = some .ok)

/-- A band that has just entered LEARNING and takes k levels is still LEARNING with count k and their sum while k < 16,
and at the sixteenth is ARMED with baseline floor(sum / 16), grade 0, confirm counter 0, count and sum 0. For an
ARMED band with limits of R67: the confirm counter goes up by one, saturating at 4, when the rise reaches the alarm
rise, and otherwise is 0, or unchanged under a clipped result; a clipped result never lowers the grade; grade 2 is
reached from 0 or 1 exactly when the confirm counter reaches the confirm count; a grade of 1 or 2 falls to 0 exactly
when the result is not clipped and the rise is below alert rise less hysteresis; an unclipped grade 2 stays exactly
when the rise is at or above alarm rise less hysteresis; and grade 0 with the counter below the confirm count
becomes 1 exactly when the rise reaches the alert rise. Together these fix the new grade in every row. -/
def Obligations.LearningAndGrading : Prop :=
  (∀ (base : Nat) (levels : List Nat), levels.length ≤ 16 →
    let fresh : BandState := { mode := .learning, baseline := base }
    levels.foldl (fun b l => b.learn l) fresh =
      if levels.length = 16 then { mode := .armed, baseline := levels.sum / 16 }
      else { mode := .learning, baseline := base, learnCount := levels.length, learnSum := levels.sum }) ∧
  (∀ (cfg : BandConfig) (clipped : Bool) (rise : Int) (confirm grade : Nat), bandOk cfg = true → grade ≤ 2 →
    let c := confirmAfter cfg clipped rise confirm
    let g := gradeAfter cfg clipped rise c grade
    ((cfg.alarmRise : Int) ≤ rise → c = min (confirm + 1) 4) ∧
    (rise < cfg.alarmRise → c = if clipped then confirm else 0) ∧
    g ≤ 2 ∧ (clipped = true → grade ≤ g) ∧
    (grade ≤ 1 → (g = 2 ↔ cfg.confirmCount ≤ c)) ∧
    (1 ≤ grade → (g = 0 ↔ clipped = false ∧ rise < (cfg.alertRise : Int) - cfg.hysteresis)) ∧
    (grade = 2 → clipped = false → (g = 2 ↔ (cfg.alarmRise : Int) - cfg.hysteresis ≤ rise)) ∧
    (grade = 0 → c < cfg.confirmCount → (g = 1 ↔ (cfg.alertRise : Int) ≤ rise)))

/-- Take an edge that issues a VALID P2 result. OFF, the GHM, AFE and SPE stay as they are. In SEARCHING and RUNNING a
window is opened: an OPEN entry with the next window number joins the list and one more is counted; it takes GHM-A
if that is FREE, else GHM-B if that is, FILLING under the trims in force; while the converter is in fault, or with
neither FREE, it has no buffer and the refusal CONVERTER or NO_BUFFER. In SEARCHING that is all, and the state is
RUNNING. In RUNNING the OPEN entry, last in the list after ENDED unsettled ones, ends first. An entry settled before
is removed and settled no second time. One without a buffer is settled MISSED with its refusal, a skip in the day
record. One whose capture fills a buffer with 2..1,599 instants is ENDED with that result and the calendar reading.
A frequency outside 45,000..65,000 mHz settles it INVALID_FREQUENCY and frees its buffer, the engine unchanged.
Otherwise its HARMONICS request has the window's number, N, T, the instants stored and the next arrival number: with
the engine IDLE it begins, the buffer IN_ANALYSIS; with another request in progress it waits last in the queue, the
buffer FULL and the entry's request QUEUED; with a request already naming its buffer it is refused, the buffer freed
and the window settled MISSED (QUEUE), a skip. Each settlement is one slot of the block, which completes at its
15th. Nothing else of the GHM, the AFE or the SPE changes. Model's choices: log entries 18, 41. -/
def Obligations.GridWindowEdge : Prop :=
  ∀ (tick n k since limit : Nat) (segments : List (List GridInstant)) (s : State), s.ret.operating = true →
    (∀ t, s.ptu.chan.p2.prevAccepted = some t → t < tick ∧ s.cfg.ptu.chan.p2.spacing ≤ tick - t) →
    s.ptu.chan.p2.meas = .measuring n k since limit → n ≤ k + 1 → since < tick →
    let up (x : Nat) : Nat := min (x + 1) 65535
    let g := s.ghm
    let buffers := s.afe.buffers
    let trims : List (List Int) :=
      [[s.cfg.trims[5], s.cfg.trims[6], s.cfg.trims[7], s.cfg.trims[8], s.cfg.trims[9], s.cfg.trims[10]]]
    let day (x : State) : DayRecord := if s.cal = none then x.plan.undated else x.plan.openDay.record
    let choice (bs : PerBuffer Buffer) : Option BufferId × Option WindowRefusal :=
      if s.afe.converterFault then (none, some .converter)
      else if bs.ghmA = .free then (some .ghmA, none)
      else if bs.ghmB = .free then (some .ghmB, none)
      else (none, some .noBuffer)
    let filled (bs : PerBuffer Buffer) : PerBuffer Buffer := match (choice bs).1 with
      | none => bs
      | some b => bs.set b (.filling { kind := .window, trims := trims })
    let opened (bs : PerBuffer Buffer) : WindowEntry :=
      { number := g.nextWindow, buffer := (choice bs).1, refusal := (choice bs).2 }
    let left (bs : PerBuffer Buffer) (l : List WindowEntry) (t : State) : Prop :=
      t.afe = { s.afe with buffers := filled bs } ∧ t.ghm.window = .running ∧ t.ghm.entries = l ++ [opened bs] ∧
        t.ghm.nextWindow = (g.nextWindow + 1) % 65536 ∧ t.ghm.lastWindow = g.lastWindow ∧
        t.ghm.disturbed = g.disturbed ∧ t.ghm.disturbances = g.disturbances
    let unsettled (t : State) : Prop :=
      t.ghm.counters = { g.counters with opened := up g.counters.opened } ∧ t.ghm.block = g.block ∧
        t.ghm.interval = g.interval ∧ t.ghm.lastSummary = g.lastSummary ∧ t.plan = s.plan
    let settled (counted : GhmCounters) (t : State) : Prop :=
      t.ghm.counters = { counted with opened := up g.counters.opened, emptyBlock := t.ghm.counters.emptyBlock } ∧
        (g.block.slots = 14 → t.ghm.block = GridBlock.empty) ∧
        (g.block.slots ≠ 14 →
          t.ghm.block = { g.block with slots := g.block.slots + 1 } ∧ t.ghm.interval = g.interval ∧
            t.ghm.lastSummary = g.lastSummary ∧ t.ghm.counters.emptyBlock = g.counters.emptyBlock)
    let skipped (t : State) : Prop := day t = { day s with skips := up (day s).skips }
    ∃ t result, exec (.pulseEdge .p2 tick segments) s = .next t ∧ t.ptu.chan.p2.latest = some result ∧
      result.status = .valid ∧
      (g.window = .off → t.ghm = g ∧ t.afe = s.afe ∧ t.spe = s.spe) ∧
      (g.window = .searching → left buffers g.entries t ∧ unsettled t ∧ t.spe = s.spe) ∧
      (∀ (prior : List WindowEntry) (e : WindowEntry), g.window = .running → g.entries = prior ++ [e] →
        e.ended = false → (∀ x ∈ prior, x.ended = true ∧ x.outcome = none ∧ x.number ≠ e.number) →
        (e.outcome ≠ none → left buffers prior t ∧ unsettled t ∧ t.spe = s.spe) ∧
        (∀ why, e.outcome = none → e.buffer = none → e.refusal = some why →
          left buffers prior t ∧ skipped t ∧ t.spe = s.spe ∧
            settled (match why with
              | .noBuffer => { g.counters with missedNoBuffer := up g.counters.missedNoBuffer }
              | .converter => { g.counters with missedConverter := up g.counters.missedConverter }) t) ∧
        (∀ (b : BufferId) (r : CaptureRecord), e.outcome = none → e.buffer = some b → (b = .ghmA ∨ b = .ghmB) →
          bufferOf s b = .filling r → r.kind = .window → (n = 10 ∨ n = 12) →
          let full := fillWindow r segments
          let arrival := (s.spe.arrival + 1) % 4294967296
          let request : AnalysisRequest :=
            { source := .ghm, tag := e.number, buffer := b, mode := .harmonics result.n result.t full.stored,
              clipped := full.clipped, arrival := arrival }
          let closed (x : WindowRequest) : WindowEntry :=
            { e with ended := true, closing := some result, endTime := s.cal, request := x }
          let counters (f : SpeCounters → SpeCounters) : PerMonitor SpeCounters :=
            s.spe.counters.set .ghm (f (s.spe.counters.get .ghm))
          let accepted := counters fun c => { c with accepted := up c.accepted }
          let named : Prop := (∃ q, s.spe.inProgress = some q ∧ q.buffer = b) ∨ ∃ q ∈ s.spe.queue, q.buffer = b
          let freed := buffers.set b .free
          2 ≤ full.stored → full.stored < 1600 →
          ((result.freq < 45000 ∨ 65000 < result.freq) →
            left freed prior t ∧ t.spe = s.spe ∧ t.plan = s.plan ∧
              settled { g.counters with invalidFrequency := up g.counters.invalidFrequency } t) ∧
          (45000 ≤ result.freq → result.freq ≤ 65000 →
            (named →
              left freed prior t ∧ skipped t ∧
                settled { g.counters with missedQueue := up g.counters.missedQueue } t ∧
                t.spe = { s.spe with counters := counters fun c => { c with refusedBuffer := up c.refusedBuffer } }) ∧
            (s.spe.inProgress = none → s.spe.queue = [] → (∀ x ∈ prior, x.request ≠ .queued arrival) →
              left (buffers.set b (.inAnalysis full)) (prior ++ [closed (.analysing arrival)]) t ∧ unsettled t ∧
                t.spe = { s.spe with inProgress := some request, arrival := arrival, counters := accepted }) ∧
            (s.spe.inProgress ≠ none → ¬ named →
              left (buffers.set b (.full full)) (prior ++ [closed (.queued arrival)]) t ∧ unsettled t ∧
                t.spe =
                  { s.spe with queue := s.spe.queue ++ [request], arrival := arrival, counters := accepted }))))

/-- For a channel whose fundamental magnitude M1 is not 0, the THD is the floor of 10,000 times the square root of the
sum of the squares of M2..M40 divided by M1, at most 65535, and each harmonic ratio is the floor of 10,000 M_h / M1,
at most 65535. The value of a sum of squares with its count, where their quotient is below 2^32, is the floor of the
square root of the quotient, and there is none when the count is 0. A HARMONICS result that an ENDED window awaits
is evaluated: with the three voltage levels v_p, the disturbance flag is set by a v_p below 9000 or above 11000,
cleared by every v_p in 9200..10800, else kept; the counter goes up by one where the flag goes from clear to set; a
v_p below 1000 counts NO_FUNDAMENTAL. With the flag set the window counts EXCLUDED and disturbed, in the interval
and in the day record of the moment, and only its closing frequency joins; else it counts ANALYSED, becomes the last
window values with the levels, ratios, THDs (none for a phase under the current floor) and primary values, and its
squares and its frequency join the block. The slot joins the block, which completes at its 15th: with an ANALYSED
window its value joins the interval and becomes the last summary, else EMPTY_BLOCK goes up. The entry is gone, with
any other both ended and settled. A result that no entry awaits only counts DISCARDED. Every other entry stays as it
was, but that the one whose GHM request waited longest is ANALYSING. -/
def Obligations.GridValuesAreExact : Prop :=
  (∀ (mags : List (List Nat)) (ch : Nat), magnitudeAt mags ch 1 ≠ 0 →
    let m (h : Nat) : ℝ := magnitudeAt mags ch h
    thdOf mags ch = min 65535 ⌊10000 * Real.sqrt (∑ h ∈ Finset.Icc 2 40, m h ^ 2) / m 1⌋₊ ∧
    ∀ h, 2 ≤ h → h ≤ 40 →
      (harmonicRatios mags ch).toList[h - 2]? = some (min 65535 ⌊10000 * m h / m 1⌋₊)) ∧
  (∀ q : SquareSum, q.count = 0 → q.root = none) ∧
  (∀ q : SquareSum, q.count ≠ 0 → q.sum < 4294967296 * q.count →
    q.root = some ⌊Real.sqrt ((q.sum : ℝ) / q.count)⌋₊) ∧
  (∀ (s : State) (r : AnalysisRequest) (c tk stored : Nat) (cap : CaptureRecord), s.ret.operating = true →
    s.spe.inProgress = some r → r.discard = false → r.mode = .harmonics c tk stored →
    bufferOf s r.buffer = .inAnalysis cap →
    let up (x : Nat) : Nat := min (x + 1) 65535
    let day (x : State) : DayRecord := if s.cal = none then x.plan.undated else x.plan.openDay.record
    let g := s.ghm
    let begun (x : WindowEntry) : WindowEntry := match s.spe.queue.find? fun q => q.source = .ghm with
      | some q => if x.request = .queued q.arrival then { x with request := .analysing q.arrival } else x
      | none => x
    let cfg := s.cfg.ghm
    let mags := analyseHarmonics cap.samples c tk stored
    let m1 (ch : Nat) : Nat := magnitudeAt mags ch 1
    let volt (ch : Nat) : Nat := m1 ch * 50000 / (256 * cfg.vNom)
    let amp (ch : Nat) : Nat := m1 ch * 10000 / (256 * cfg.iRated)
    let present {α : Type} (ch : Nat) (x : α) : Option α := if amp ch < cfg.currentFloor then none else some x
    let plus (q : SquareSum) (v : Option Nat) : SquareSum := match v with
      | none => q
      | some x => { sum := q.sum + x ^ 2, count := q.count + 1 }
    ((∀ e ∈ g.entries, e.number = r.tag → e.request ≠ .queued r.arrival ∧ e.request ≠ .analysing r.arrival) →
      ∃ t, exec .requestEnd s = .next t ∧
        t.ghm = { g with entries := g.entries.map begun, counters := { g.counters with discarded := up g.counters.discarded } } ∧
        t.plan = s.plan) ∧
    (∀ (e : WindowEntry) (closing : PulseResult), e ∈ g.entries → (∀ x ∈ g.entries, x.number = e.number → x = e) →
      e.number = r.tag → e.request = .analysing r.arrival → e.ended = true → e.closing = some closing →
      let disturbing : Bool := [0, 1, 2].any fun ch => volt ch < 9000 || 11000 < volt ch
      let clean : Bool := [0, 1, 2].all fun ch => 9200 ≤ volt ch && volt ch ≤ 10800
      let noFundamental : Bool := [0, 1, 2].any fun ch => volt ch < 1000
      let f := closing.freq
      let w : LastWindow :=
        { number := e.number
          freq := f
          vLevel := ⟨volt 0, volt 1, volt 2⟩
          iLevel := ⟨amp 3, amp 4, amp 5⟩
          vRatio := ⟨harmonicRatios mags 0, harmonicRatios mags 1, harmonicRatios mags 2⟩
          vThd := ⟨thdOf mags 0, thdOf mags 1, thdOf mags 2⟩
          iRatio :=
            ⟨present 3 (harmonicRatios mags 3), present 4 (harmonicRatios mags 4), present 5 (harmonicRatios mags 5)⟩
          iThd := ⟨present 3 (thdOf mags 3), present 4 (thdOf mags 4), present 5 (thdOf mags 5)⟩
          primary :=
            #v[m1 0 * cfg.vtRatio * 5 / 25600, m1 1 * cfg.vtRatio * 5 / 25600, m1 2 * cfg.vtRatio * 5 / 25600,
              m1 3 * cfg.ctRatio / 256000, m1 4 * cfg.ctRatio / 256000, m1 5 * cfg.ctRatio / 256000] }
      let quantities : Quantities (Option Nat) :=
        ⟨w.vRatio.map (vmap some), w.vThd.map some, w.iThd⟩
      ∃ t : State, ∃ block : GridBlock, exec .requestEnd s = .next t ∧
        t.ghm.disturbed = (if disturbing then true else if clean then false else g.disturbed) ∧
        t.ghm.disturbances = (if disturbing && !g.disturbed then (g.disturbances + 1) % 65536 else g.disturbances) ∧
        t.ghm.window = g.window ∧ t.ghm.nextWindow = g.nextWindow ∧
        t.ghm.entries =
          (g.entries.filter fun x => x.number ≠ e.number && !(x.ended && x.outcome.isSome)).map begun ∧
        t.ghm.lastWindow = (if t.ghm.disturbed then g.lastWindow else some w) ∧
        block =
          { sums := if t.ghm.disturbed then g.block.sums else g.block.sums.zip plus quantities
            freqSum := g.block.freqSum + f
            freqCount := g.block.freqCount + 1
            slots := g.block.slots + 1
            analysed := if t.ghm.disturbed then g.block.analysed else g.block.analysed + 1 } ∧
        t.ghm.counters =
          { g.counters with
            noFundamental := if noFundamental then up g.counters.noFundamental else g.counters.noFundamental
            excluded := if t.ghm.disturbed then up g.counters.excluded else g.counters.excluded
            analysed := if t.ghm.disturbed then g.counters.analysed else up g.counters.analysed
            emptyBlock :=
              if block.slots = 15 ∧ block.analysed = 0 then up g.counters.emptyBlock else g.counters.emptyBlock } ∧
        t.ghm.block = (if block.slots = 15 then GridBlock.empty else block) ∧
        t.ghm.lastSummary =
          (if block.slots = 15 ∧ block.analysed ≠ 0 then
            some
              { vThd := block.sums.thd.map SquareSum.root, iThd := block.sums.currentThd.map SquareSum.root
                freq := block.freqSum / block.freqCount }
          else g.lastSummary) ∧
        t.ghm.interval =
          { g.interval with
            sums :=
              if block.slots = 15 ∧ block.analysed ≠ 0 then g.interval.sums.zip plus (block.sums.map SquareSum.root)
              else g.interval.sums
            values := if block.slots = 15 ∧ block.analysed ≠ 0 then g.interval.values + 1 else g.interval.values
            freqSum := g.interval.freqSum + f
            freqCount := g.interval.freqCount + 1
            disturbed := if t.ghm.disturbed then up g.interval.disturbed else g.interval.disturbed } ∧
        (day t).disturbed = (if t.ghm.disturbed then up (day s).disturbed else (day s).disturbed) ∧
        t.cfg = s.cfg ∧ t.mon = s.mon ∧ t.ccu = s.ccu ∧ t.records = s.records))

/-- On the farm port, or on the service port with presence: a write that does not change the item answers OK and changes
nothing; enabling sets it and enters SEARCHING; the interval in progress stays open, but one that began while the
GHM was OFF gives way to a new empty one (log entry 46), unaligned with 600 s to go if the calendar is unset and
otherwise ending at the next ten-minute boundary; nothing else changes but CONFIG's check word, which then matches.
Disabling answers OK, enters OFF with no window entry, an empty block and the disturbance flag clear, leaves neither
window buffer FILLING, no GHM request waiting, and the discard mark on a GHM request in progress. The disturbance
counter, the current grade and confirm counter, the interval's planned end, and the other sources' requests are
unchanged. Model's choices: log entries 11, 20, 25, 46, 76. -/
def Obligations.GhmEnableWrite : Prop :=
  ∀ (p : Port) (s : State), s.ret.operating = true → FarmOrPresence p s →
    (∀ v, v = s.cfg.ghm.enable → exec (.writeGhmEnable p v) s = .next (answered p 0x31 (plain .ok) s)) ∧
    (s.cfg.ghm.enable = false →
      exec (.writeGhmEnable p true) s = .next (rechecked s (answered p 0x31 (plain .ok)
        { s with
          cfg := { s.cfg with ghm := { s.cfg.ghm with enable := true } }
          ghm :=
            { s.ghm with
              window := .searching
              interval :=
                if s.ghm.interval.begunOff then
                  { sums := Quantities.all {}, unaligned := s.cal.isNone,
                    planned := match s.cal with
                      | none => .seconds 600
                      | some now =>
                        let b := (now.sec / 600 + 1) * 600
                        .boundary (if b < 86400 then ⟨now.day, b⟩ else ⟨now.day + 1, 0⟩) }
                else s.ghm.interval } }))) ∧
    (s.cfg.ghm.enable = true →
      ∃ t, exec (.writeGhmEnable p false) s = .next t ∧
        t.cfg = { s.cfg with ghm := { s.cfg.ghm with enable := false } } ∧
        t.ghm.window = .off ∧ t.ghm.entries = [] ∧ t.ghm.block = GridBlock.empty ∧ t.ghm.disturbed = false ∧
        (∀ r, bufferOf t .ghmA ≠ .filling r ∧ bufferOf t .ghmB ≠ .filling r) ∧
        t.spe.queue = s.spe.queue.filter (fun q => q.source ≠ .ghm) ∧
        t.spe.inProgress = s.spe.inProgress.map
          (fun r => if r.source = .ghm then { r with discard := true } else r) ∧
        t.ghm.disturbances = s.ghm.disturbances ∧ t.mon = s.mon ∧
        t.ghm.interval.planned = s.ghm.interval.planned ∧ t.ghm.interval.unaligned = s.ghm.interval.unaligned ∧
        t.ghm.interval.begunOff = s.ghm.interval.begunOff ∧ t.records = s.records ∧ (t.lnk.get p).reply.map (·.status) = some .ok)

/-- GHM_UNALIGNED_INTERVAL_END where the planned end counts seconds of operation and these have run out completes the
open block and starts an empty interval, unaligned with 600 s to go if the calendar is unset, and otherwise ending
at the first ten-minute boundary later than now. With neither a 3-second value nor an ANALYSED window in the block,
EMPTY_BLOCK and EMPTY_INTERVAL go up by one and nothing else changes. Otherwise the interval, with the block's value
joined, closes into the record whose every field is that of R101. It is appended to the ring, whose oldest goes at
145, with GRID_RECORD on every port, if it has an interval end later than the newest record's, and else counted
ORDER_DROPPED; a record with an exceedance set is reported to the day record; one that is not SPARSE, with room in a
keyed alarm table, leaves GRID_VOLTAGE_EXCEED active or not; one with a current THD sets the confirm counter and the
grade of R104, and a changed grade moves its alarms, the grade held by the Planner and the grid contribution. While
the planned end is a boundary of the calendar, or has seconds still to run, the command has no effect. Model's
choices: log entries 12, 14, 46, 76. -/
def Obligations.UnalignedGridIntervalEnds : Prop :=
  ∀ (s : State), s.ret.operating = true →
    let c := s.ghm.counters
    let fresh : GridInterval :=
      { sums := Quantities.all {}, unaligned := s.cal.isNone,
        planned := match s.cal with
          | none => .seconds 600
          | some now =>
            let b := (now.sec / 600 + 1) * 600
            .boundary (if b < 86400 then ⟨now.day, b⟩ else ⟨now.day + 1, 0⟩),
        begunOff := !s.cfg.ghm.enable }
    let day (x : State) : DayRecord := if s.cal = none then x.plan.undated else x.plan.openDay.record
    (s.ghm.interval.planned ≠ .seconds 0 → exec .ghmUnalignedIntervalEnd s = .next s) ∧
    (s.ghm.interval.planned = .seconds 0 →
      (s.ghm.interval.values = 0 → s.ghm.block.analysed = 0 →
        exec .ghmUnalignedIntervalEnd s = .next
          { s with ghm :=
            { s.ghm with
              block := GridBlock.empty, interval := fresh
              counters :=
                { c with emptyBlock := min (c.emptyBlock + 1) 65535, emptyInterval := min (c.emptyInterval + 1) 65535 } } }) ∧
      ((s.ghm.interval.values ≠ 0 ∨ s.ghm.block.analysed ≠ 0) →
        ∃ t r, exec .ghmUnalignedIntervalEnd s = .next t ∧ t.ghm.block = GridBlock.empty ∧ t.ghm.interval = fresh ∧
          RecordOf false s r ∧ RecordJudged r s t ∧
          (AlarmsKeyed s → s.ccu.alarms.length ≤ 30 → RecordAlarms r s t) ∧
          (day t).exceedances =
            (if r.exceeded = [] then (day s).exceedances else min ((day s).exceedances + 1) 65535) ∧
          t.ghm.lastSummary =
            (if s.ghm.block.analysed = 0 then s.ghm.lastSummary
            else
              some
                { vThd := s.ghm.block.sums.thd.map SquareSum.root
                  iThd := s.ghm.block.sums.currentThd.map SquareSum.root
                  freq := s.ghm.block.freqSum / s.ghm.block.freqCount }) ∧
          t.ghm.counters.emptyBlock =
            (if s.ghm.block.analysed = 0 then min (c.emptyBlock + 1) 65535 else c.emptyBlock) ∧
          t.afe = s.afe ∧ t.spe = s.spe ∧ t.ptu = s.ptu ∧ t.rch = s.rch ∧ t.cal = s.cal ∧ t.cfg = s.cfg))

/-- BIM_STEP where the step timer has run out restarts the 60 s, takes the next step number, counts a step and records
the disturbance counter. The first failing condition of R113, in its order, is counted, the score ring then keeps
its scores and no capture is requested; with none failing the step is counted evaluable and the score joins the
ring, which keeps the latest ten: deficit + 4 x drop, at most 2000, with the deficit and the drop clamped to 0..1000
and rounded toward zero, and a drop only from a held PEAK captured at the previous step. The last step record holds
the step's number and what stopped it. The expected power is 0 below a wind of 30, row 39 from 225, and otherwise
interpolated between two rows, rounding toward zero. At an evaluable step a converter fault, else a fault of N1,
else a BIM-A that is not FREE refuses the peak capture, counted by that reason with no step outstanding and the
captures as they were; otherwise BIM-A is FILLING with N1, D = 16, n = 65,536 under the trim in force, and the step
is outstanding. The step reports a minute of the state after it: the ICED or SUSPECT minutes of the open day record
(the undated tally under an unset calendar) go up by one, saturating, in these states only. With the timer stopped,
or with time still to run, the command has no effect. Model's choices: log entries 12, 14, 64. -/
def Obligations.IcingStepScores : Prop :=
  (∀ (curve : Vector Nat 40) (w : Int),
    (w < 30 → expectedPower curve w = 0) ∧ (225 ≤ w → expectedPower curve w = curve[39]) ∧
    ∀ i r row next : Nat, i < 39 → r < 5 → w = 30 + 5 * i + r → curve.toList[i]? = some row →
      curve.toList[i + 1]? = some next →
      (expectedPower curve w : Int) = row + Int.tdiv (((next : Int) - row) * r) 5) ∧
  ∀ (s : State), s.ret.operating = true →
    (s.bim.stepTimer ≠ some 0 → exec .bimStep s = .next s) ∧
    (s.bim.stepTimer = some 0 →
      let op := s.ccu.op
      let expected := expectedPower s.cfg.bim.curve (op.wind.getD 0)
      let clamp (x : Int) : Int := max 0 (min 1000 x)
      let deficit := clamp (Int.tdiv (1000 * ((expected : Int) - op.power.getD 0)) expected)
      let number := (s.bim.stepNumber + 1) % 65536
      let drop : Int :=
        match s.bim.heldPeak with
        | none => 0
        | some h =>
          if h.peak = true ∧ (h.step + 1) % 65536 = number ∧ h.step < 65536 then
            clamp (Int.tdiv (1000 * ((s.cfg.bim.fRef : Int) - h.freq)) s.cfg.bim.fRef)
          else 0
      let score := (min 2000 (deficit + 4 * drop)).toNat
      let stop : Option StepStop :=
        if op.regime ≠ .producing then some .regime
        else if s.ghm.disturbed = true ∨ s.ghm.disturbances ≠ s.bim.recorded then some .disturbance
        else if s.rch.sensor.s0.record.status = .none then some .noAmbient
        else if expected < 50 then some .lowWind
        else none
      let c := s.bim.counters
      let up (b : Bool) (x : Nat) : Nat := if b then min (x + 1) 65535 else x
      let refusal : Option CaptureRefusal :=
        if stop ≠ none then none
        else if s.afe.converterFault then some .converter
        else if s.afe.accel.n1.fault ≠ .none then some .channelFault
        else if s.afe.buffers.bimA ≠ .free then some .noBuffer
        else none
      let accepted : Bool := stop = none && refusal = none
      let day (x : State) : DayRecord := if s.cal = none then x.plan.undated else x.plan.openDay.record
      stepStop s = stop ∧
      ∃ t, exec .bimStep s = .next t ∧ t.bim.stepTimer = some 60 ∧ t.bim.stepNumber = number ∧
        t.bim.recorded = s.ghm.disturbances ∧ t.bim.heldPeak = s.bim.heldPeak ∧
        t.bim.counters =
          { c with
            steps := up true c.steps, evaluable := up (stop = none) c.evaluable
            regime := up (stop = some .regime) c.regime, disturbance := up (stop = some .disturbance) c.disturbance
            noAmbient := up (stop = some .noAmbient) c.noAmbient, lowWind := up (stop = some .lowWind) c.lowWind
            refusedConverter := up (refusal = some .converter) c.refusedConverter
            refusedChannelFault := up (refusal = some .channelFault) c.refusedChannelFault
            refusedNoBuffer := up (refusal = some .noBuffer) c.refusedNoBuffer } ∧
        t.bim.lastStep.map (fun r => (r.number, r.stop)) = some (number, stop) ∧
        t.bim.outstanding = (if stop ≠ none then s.bim.outstanding else if accepted then some number else none) ∧
        t.afe =
          (if accepted then
            { s.afe with buffers :=
              { s.afe.buffers with
                bimA := .filling { kind := .fixed .n1 16 65536, trims := [[s.cfg.trims[4]]] } } }
          else s.afe) ∧
        (day t).icedMinutes = up (t.mon.icing.state = .iced) (day s).icedMinutes ∧
        (day t).suspectMinutes = up (t.mon.icing.state = .suspect) (day s).suspectMinutes ∧
        (stop ≠ none → t.mon.icing.ring = s.mon.icing.ring) ∧
        (stop = none → s.mon.icing.ring.length ≤ 10 →
          t.mon.icing.ring = (s.mon.icing.ring ++ [score]).drop (s.mon.icing.ring.length - 9)) ∧
        t.spe = s.spe ∧ t.ghm = s.ghm ∧ t.ptu = s.ptu ∧ t.rch = s.rch)

/-- At a BIM_STEP where the step timer has run out, with the mean of the ring after the step where the step is
evaluable: CLEAR becomes SUSPECT when, parked and cold, the accretion count reaches its limit, or when an evaluable
step is cold with mean at or above suspect_on. SUSPECT becomes CLEAR when warm; otherwise, at an evaluable step,
ICED when the iced count reaches the persistence, or CLEAR below suspect_off. ICED becomes SHEDDING when warm or
when the clear count reaches the persistence. SHEDDING becomes ICED at an evaluable step at or above iced_on unless
warm, and CLEAR when the shed-hold count of producing steps reaches the shed hold. No other transition is made. On
entry the counter of the new state is 0 (the iced persistence of SUSPECT, the parked accretion of CLEAR, the clear
persistence of ICED, the shed-hold of SHEDDING). In a keyed alarm table with room CLEAR leaves ICE_SUSPECT active,
SUSPECT leaves it not active and, into ICED, ICE_DETECTED active, SHEDDING into CLEAR leaves ICE_DETECTED not
active; between ICED and SHEDDING the alarms of the BIM stay. The icing grade held by the Planner is that of the new
state where it differs from the old state's; the override is gone in CLEAR and from SHEDDING into ICED, and else
stays; the icing contribution is 100 with an override, else that of the new state in the active set; ICING_STATE is
in each notice set. A step without transition leaves the ceiling unit, its alarms, the Planner's state and the
override as they were. Model's choices: log entry 12. -/
def Obligations.IcingStepTransitions : Prop :=
  ∀ (s : State), s.ret.operating = true → s.bim.stepTimer = some 0 →
    let i := s.mon.icing
    let a := i.active
    let r := s.rch.sensor.s0.record
    let usable : Prop := r.status = .good ∨ (r.status = .stale ∧ r.age.getD 0 ≤ 600)
    let cold : Prop := usable ∧ ∃ v, r.value = some v ∧ v ≤ a.tIce
    let warm : Prop := usable ∧ ∃ v, r.value = some v ∧ a.tIce + a.tHyst < v
    let evaluable : Prop := stepStop s = none
    let producing : Prop := s.ccu.op.regime = .producing
    ∃ t, exec .bimStep s = .next t ∧
      let mean := t.mon.icing.ring.sum / t.mon.icing.ring.length
      let parked := if s.ccu.op.regime = .parked then min (i.parkedCount + 1) 65535 else 0
      let iced := if a.icedOn ≤ mean then min (i.icedCount + 1) 255 else 0
      let clear := if mean < a.icedOff then min (i.clearCount + 1) 255 else 0
      let shed := min (i.shedCount + 1) 65535
      t.mon.icing.active = a ∧
      (i.state = .clear → (t.mon.icing.state = .suspect ↔
        (cold ∧ s.ccu.op.regime = .parked ∧ a.parkedAccretion ≤ parked) ∨ (evaluable ∧ cold ∧ a.suspectOn ≤ mean))) ∧
      (i.state = .clear → t.mon.icing.state = .clear ∨ t.mon.icing.state = .suspect) ∧
      (i.state = .suspect →
        (warm → t.mon.icing.state = .clear) ∧
        (¬ warm → ¬ evaluable → t.mon.icing.state = .suspect ∧ t.mon.icing.icedCount = i.icedCount) ∧
        (¬ warm → evaluable →
          (a.persistence ≤ iced → t.mon.icing.state = .iced) ∧
          (iced < a.persistence → mean < a.suspectOff → t.mon.icing.state = .clear) ∧
          (iced < a.persistence → a.suspectOff ≤ mean → t.mon.icing.state = .suspect ∧ t.mon.icing.icedCount = iced))) ∧
      (i.state = .iced →
        (warm → t.mon.icing.state = .shedding) ∧
        (¬ warm → ¬ evaluable → t.mon.icing.state = .iced ∧ t.mon.icing.clearCount = i.clearCount) ∧
        (¬ warm → evaluable →
          (a.persistence ≤ clear → t.mon.icing.state = .shedding) ∧
          (clear < a.persistence → t.mon.icing.state = .iced ∧ t.mon.icing.clearCount = clear))) ∧
      (i.state = .shedding →
        (¬ warm → evaluable → a.icedOn ≤ mean → t.mon.icing.state = .iced) ∧
        (¬ (¬ warm ∧ evaluable ∧ a.icedOn ≤ mean) →
          (¬ producing → t.mon.icing.state = .shedding ∧ t.mon.icing.shedCount = i.shedCount) ∧
          (producing → evaluable → a.suspectOn ≤ mean → t.mon.icing.state = .shedding ∧ t.mon.icing.shedCount = 0) ∧
          (producing → ¬ (evaluable ∧ a.suspectOn ≤ mean) →
            (a.shedHold ≤ shed → t.mon.icing.state = .clear) ∧
            (shed < a.shedHold → t.mon.icing.state = .shedding ∧ t.mon.icing.shedCount = shed)))) ∧
      (i.state = .clear →
        (cold ∧ s.ccu.op.regime = .parked → t.mon.icing.parkedCount = parked) ∧
        (¬ (cold ∧ s.ccu.op.regime = .parked) → t.mon.icing.parkedCount = 0)) ∧
      (let new := t.mon.icing.state
        let grade (x : IcingState) : Nat := match x with
          | .clear => 0
          | .suspect => 1
          | .iced => 2
          | .shedding => 1
        (new = i.state →
          t.ccu = s.ccu ∧ t.mpl = s.mpl ∧ t.plan.wear = s.plan.wear ∧ t.bim.override = s.bim.override) ∧
        (new ≠ i.state →
          (new = .suspect → t.mon.icing.icedCount = 0) ∧ (new = .clear → t.mon.icing.parkedCount = 0) ∧
          (new = .iced → t.mon.icing.clearCount = 0) ∧ (new = .shedding → t.mon.icing.shedCount = 0) ∧
          t.mpl.grades =
            { s.mpl.grades with icing := if grade i.state = grade new then s.mpl.grades.icing else grade new } ∧
          t.bim.override = (if new = .clear ∨ (i.state = .shedding ∧ new = .iced) then none else s.bim.override) ∧
          t.ccu.contributions.icing = some
            (if t.bim.override ≠ none then 100
            else match new with
              | .clear => 100
              | .suspect => a.suspectCeiling
              | .iced => a.icedCeiling
              | .shedding => a.sheddingCeiling) ∧
          (AlarmsKeyed s → s.ccu.alarms.length < 32 →
            (i.state = .clear → AlarmActive .iceSuspect .bim t) ∧
            (i.state = .suspect → AlarmQuiet .iceSuspect .bim t ∧ (new = .iced → AlarmActive .iceDetected .bim t)) ∧
            (i.state = .shedding → new = .clear → AlarmQuiet .iceDetected .bim t)) ∧
          ((i.state = .iced ∨ new = .iced ∧ i.state = .shedding) →
            ∀ e : AlarmEntry, e.source = .bim → (e ∈ t.ccu.alarms ↔ e ∈ s.ccu.alarms)) ∧
          ∀ p, (t.lnk.get p).notices &&& 0x020#16 = 0x020#16))

/-- ICE_OVERRIDE_BEGIN on the farm port is refused RANGE for a duration of 0, STATE in CLEAR or SUSPECT and ON_SITE
while a technician presence holds, in this order and without change; otherwise it answers OK with d, the duration
clamped to 120, in two octets, puts the override in force for d x 60 s and makes the icing contribution 100.
ICE_OVERRIDE_END is refused STATE without an override; with one it answers OK, and it ends, as it does at an
OVERRIDE_EXPIRY where its time has run out: the override is none and the contribution is 100, or the suspect, iced
or shedding ceiling of the active set by the icing state. Without an override, or with time still to run, the expiry
has no effect. The icing state and its active set do not change. Model's choices: log entries 12, 14, 25, 53. -/
def Obligations.IcingOverride : Prop :=
  ∀ (s : State), s.ret.operating = true →
    let byState : Nat :=
      match s.mon.icing.state with
      | .clear => 100
      | .suspect => s.mon.icing.active.suspectCeiling
      | .iced => s.mon.icing.active.icedCeiling
      | .shedding => s.mon.icing.active.sheddingCeiling
    (exec (.iceOverrideBegin .fp 0) s = .next (answered .fp 0x38 (plain .range) s)) ∧
    (∀ d, 1 ≤ d →
      ((s.mon.icing.state = .clear ∨ s.mon.icing.state = .suspect) →
        exec (.iceOverrideBegin .fp d) s = .next (answered .fp 0x38 (plain .state) s)) ∧
      ((s.mon.icing.state = .iced ∨ s.mon.icing.state = .shedding) →
        (s.mpl.presence ≠ none → exec (.iceOverrideBegin .fp d) s = .next (answered .fp 0x38 (plain .onSite) s)) ∧
        (s.mpl.presence = none →
          ∃ t r, exec (.iceOverrideBegin .fp d) s = .next t ∧
            t.bim = { s.bim with override := some (min d 120 * 60) } ∧ t.ccu.contributions.icing = some 100 ∧
            t.lnk.fp.reply = some r ∧ r.status = .ok ∧ r.content = [0x00#8, BitVec.ofNat 8 (min d 120)] ∧
            t.mon.icing = s.mon.icing ∧ t.mpl = s.mpl ∧ t.plan = s.plan ∧ t.cfg = s.cfg))) ∧
    (s.bim.override = none →
      exec (.iceOverrideEnd .fp) s = .next (answered .fp 0x39 (plain .state) s)) ∧
    (s.bim.override ≠ some 0 → exec .overrideExpiry s = .next s) ∧
    (s.bim.override ≠ none → ∀ c : Instr, (c = .iceOverrideEnd .fp ∨ c = .overrideExpiry ∧ s.bim.override = some 0) →
      ∃ t, exec c s = .next t ∧ t.bim = { s.bim with override := none } ∧ t.ccu.contributions.icing = some byState ∧
        (c = .iceOverrideEnd .fp → t.lnk.fp.reply.map (·.status) = some .ok) ∧
        t.mon.icing = s.mon.icing ∧ t.mpl = s.mpl ∧ t.plan = s.plan ∧ t.cfg = s.cfg)

/-- PIN_ICING_THRESHOLDS on the farm port is refused RANGE without change for a set that fails the check of R119, and
otherwise makes it the pinned active set. UNPIN_ICING_THRESHOLDS is refused STATE without change while the flag is
clear; otherwise the flag is clear and the active set is the profile of the heater state last reported, or of the
loaded profile where there is no report, which is the loaded profile. WRITE_ICING_PROFILE, where farm or service
with presence may write, is refused RANGE without change for a set that fails the check, and otherwise stores the
profile (CONFIG's check word then matches if its contents changed); if it is the loaded one and nothing is pinned,
it is the active set at once. The icing state, the counts and the score ring never change, and the contribution held
is that of the new set. The check of R119 passes exactly for suspect_on in 1..2000, suspect_off below suspect_on,
iced_on in suspect_on..2000, iced_off below iced_on, T_ice in -300..300, T_hyst in 0..200, persistence 1..60, shed
hold 1..720, parked accretion 10..2880 and the three ceilings at most 100. Model's choices: log entries 11, 25. -/
def Obligations.ThresholdSets : Prop :=
  (∀ x : ThresholdSet, thresholdsOk x = true ↔
    1 ≤ x.suspectOn ∧ x.suspectOn ≤ 2000 ∧ x.suspectOff < x.suspectOn ∧ x.suspectOn ≤ x.icedOn ∧ x.icedOn ≤ 2000 ∧
      x.icedOff < x.icedOn ∧ -300 ≤ x.tIce ∧ x.tIce ≤ 300 ∧ 0 ≤ x.tHyst ∧ x.tHyst ≤ 200 ∧ 1 ≤ x.persistence ∧
      x.persistence ≤ 60 ∧ 1 ≤ x.shedHold ∧ x.shedHold ≤ 720 ∧ 10 ≤ x.parkedAccretion ∧ x.parkedAccretion ≤ 2880 ∧
      x.suspectCeiling ≤ 100 ∧ x.icedCeiling ≤ 100 ∧ x.sheddingCeiling ≤ 100) ∧
  ∀ (s : State), s.ret.operating = true →
    let i := s.mon.icing
    let profile (h : Heater) : ThresholdSet := match h with
      | .off => s.cfg.bim.heaterOff
      | .on => s.cfg.bim.heaterOn
    let stored (h : Heater) (x : ThresholdSet) : BimConfig := match h with
      | .off => { s.cfg.bim with heaterOff := x }
      | .on => { s.cfg.bim with heaterOn := x }
    let posted (t : State) (p : Port) : Prop :=
      t.ccu.contributions.icing = some (icingContribution t) ∧ t.bim = s.bim ∧
        (t.lnk.get p).reply.map (·.status) = some .ok
    (∀ x, thresholdsOk x = false → exec (.pinIcingThresholds .fp x) s = .next (answered .fp 0x33 (plain .range) s)) ∧
    (∀ x, thresholdsOk x = true → ∃ t, exec (.pinIcingThresholds .fp x) s = .next t ∧
      t.mon.icing = { i with active := x, pinned := true } ∧ t.cfg = s.cfg ∧ posted t .fp) ∧
    (i.pinned = false → exec (.unpinIcingThresholds .fp) s = .next (answered .fp 0x34 (plain .state) s)) ∧
    (i.pinned = true → ∃ t, exec (.unpinIcingThresholds .fp) s = .next t ∧
      t.mon.icing =
        { i with
          active := profile (s.ccu.op.heater.getD i.loaded), pinned := false
          loaded := s.ccu.op.heater.getD i.loaded } ∧ t.cfg = s.cfg ∧ posted t .fp) ∧
    (∀ (p : Port) (h : Heater) (x : ThresholdSet), FarmOrPresence p s →
      (thresholdsOk x = false → exec (.writeIcingProfile p h x) s = .next (answered p 0x31 (plain .range) s)) ∧
      (thresholdsOk x = true → (i.loaded ≠ h ∨ i.pinned = true) →
        exec (.writeIcingProfile p h x) s = .next
          (rechecked s (answered p 0x31 (plain .ok) { s with cfg := { s.cfg with bim := stored h x } }))) ∧
      (thresholdsOk x = true → i.loaded = h → i.pinned = false →
        ∃ t, exec (.writeIcingProfile p h x) s = .next t ∧ t.mon.icing = { i with active := x } ∧
          t.cfg = { s.cfg with bim := stored h x } ∧ posted t p))

/-- On the farm port, or on the service port with presence: a write that does not change the item answers OK and changes
nothing; enabling sets it, restarts the step timer with a full 60 s, takes the disturbance counter as recorded, and
changes nothing else but CONFIG's check word, which then matches. Disabling answers OK, stops the step timer, holds
no outstanding step and no held peak, leaves no BIM request waiting, the discard mark on a BIM request in progress,
and BIM-A neither FILLING nor FULL. The icing state, counts, ring, sets, the override, the contributions, the alarms
and the other buffers are unchanged. Model's choices: log entries 11, 20, 25. -/
def Obligations.BimEnableWrite : Prop :=
  ∀ (p : Port) (s : State), s.ret.operating = true → FarmOrPresence p s →
    (∀ v, v = s.cfg.bim.enable → exec (.writeBimEnable p v) s = .next (answered p 0x31 (plain .ok) s)) ∧
    (s.cfg.bim.enable = false →
      exec (.writeBimEnable p true) s = .next (rechecked s (answered p 0x31 (plain .ok)
        { s with
          cfg := { s.cfg with bim := { s.cfg.bim with enable := true } }
          bim := { s.bim with stepTimer := some 60, recorded := s.ghm.disturbances } }))) ∧
    (s.cfg.bim.enable = true → (∀ q ∈ s.spe.queue, q.source = .bim → q.buffer = .bimA) →
      ∃ t, exec (.writeBimEnable p false) s = .next t ∧
        t.cfg = { s.cfg with bim := { s.cfg.bim with enable := false } } ∧
        t.bim.stepTimer = none ∧ t.bim.outstanding = none ∧ t.bim.heldPeak = none ∧
        t.bim.override = s.bim.override ∧ t.bim.stepNumber = s.bim.stepNumber ∧
        t.spe.queue = s.spe.queue.filter (fun q => q.source ≠ .bim) ∧
        t.spe.inProgress = s.spe.inProgress.map
          (fun r => if r.source = .bim then { r with discard := true } else r) ∧
        (∀ r, t.afe.buffers.bimA ≠ .filling r ∧ t.afe.buffers.bimA ≠ .full r) ∧
        (∀ b, b ≠ .bimA → bufferOf t b = bufferOf s b) ∧
        t.mon = s.mon ∧ t.ccu = s.ccu ∧ t.mpl = s.mpl ∧ t.plan = s.plan ∧
        (t.lnk.get p).reply.map (·.status) = some .ok)

/-- On the farm port, or on the service port with presence: a measurement period, GHM item, voltage limit, BIM peak
item, power curve or CCU item outside its range is answered RANGE (a voltage limit of an order outside 2..40
UNKNOWN_ITEM) and nothing else changes. In its range it is answered OK and the configuration holds it, nothing else
changing but CONFIG's check word, which matches after a change; a write of the grid ceiling also makes the grid
contribution the ceiling written at current grade 2 and 100 at any other, every other contribution, monitor, record
and plan as it was; where the ceiling in force was the least contribution, it moves, with a new number,
unacknowledged and with CEILING_CHANGED on every port, exactly if the least has moved. Model's choices: log entries
11, 25. -/
def Obligations.PlainItemWrites : Prop :=
  ∀ (p : Port) (s : State), s.ret.operating = true → FarmOrPresence p s →
    let ok (cfg : ConfigSection) : Host.Outcome State Fault Refusal :=
      .next (rechecked s (answered p 0x31 (plain .ok) { s with cfg := cfg }))
    let refused (st : Status) : Host.Outcome State Fault Refusal := .next (answered p 0x31 (plain st) s)
    let g := s.cfg.ghm
    let withG (g : GhmConfig) : ConfigSection := { s.cfg with ghm := g }
    let withB (b : BimConfig) : ConfigSection := { s.cfg with bim := b }
    (∀ v, exec (.writeMeasurementPeriod p v) s =
      if 60 ≤ v ∧ v ≤ 3600 then ok { s.cfg with gvmPeriod := v } else refused .range) ∧
    (∀ v, exec (.writeGhmItem p (.nominalFrequency v)) s =
      if v = 50 ∨ v = 60 then ok (withG { g with nominalFrequency := v }) else refused .range) ∧
    (∀ v, exec (.writeGhmItem p (.vNom v)) s =
      if 1000 ≤ v ∧ v ≤ 30000 then ok (withG { g with vNom := v }) else refused .range) ∧
    (∀ v, exec (.writeGhmItem p (.iRated v)) s =
      if 100 ≤ v ∧ v ≤ 10000 then ok (withG { g with iRated := v }) else refused .range) ∧
    (∀ v, exec (.writeGhmItem p (.currentFloor v)) s =
      if v ≤ 10000 then ok (withG { g with currentFloor := v }) else refused .range) ∧
    (∀ v, exec (.writeGhmItem p (.vtRatio v)) s =
      if 1 ≤ v ∧ v ≤ 65535 then ok (withG { g with vtRatio := v }) else refused .range) ∧
    (∀ v, exec (.writeGhmItem p (.ctRatio v)) s =
      if 1 ≤ v ∧ v ≤ 65535 then ok (withG { g with ctRatio := v }) else refused .range) ∧
    (∀ a b h, exec (.writeGhmItem p (.currentLimits a b h)) s =
      if 1 ≤ a ∧ a ≤ 65534 ∧ a < b ∧ b ≤ 65535 ∧ h < a then ok (withG { g with iAlert := a, iAlarm := b, iHyst := h })
      else refused .range) ∧
    (∀ v, 100 < v → exec (.writeGhmItem p (.gridCeiling v)) s = refused .range) ∧
    (∀ v, v ≤ 100 → ∃ t, exec (.writeGhmItem p (.gridCeiling v)) s = .next t ∧ t.cfg = withG { g with gridCeiling := v } ∧
      (t.lnk.get p).reply.map (·.status) = some .ok ∧ t.ghm = s.ghm ∧ t.gvm = s.gvm ∧ t.bim = s.bim ∧ t.spe = s.spe ∧
      t.afe = s.afe ∧ t.plan = s.plan ∧ t.records = s.records ∧ t.mpl = s.mpl ∧ t.ccu.alarms = s.ccu.alarms ∧
      (let posted := { s.ccu.contributions with grid := some (if s.mon.currentGrade = 2 then v else 100) }
       t.ccu.contributions = posted ∧
        (s.ccu.ceiling = some (leastContribution posted) → CeilingIsLeast s →
          t.mon = s.mon ∧ t.ccu = { s.ccu with contributions := posted }) ∧
        (s.ccu.ceiling ≠ some (leastContribution posted) → CeilingIsLeast s →
          t.mon = { s.mon with ceilingSeq := (s.mon.ceilingSeq + 1) % 65536 } ∧
          t.ccu =
            { s.ccu with
              contributions := posted, ceiling := some (leastContribution posted), acknowledged := false
              ackTimer := some 30 } ∧
          ∀ q, (t.lnk.get q).notices &&& 0x004#16 = 0x004#16))) ∧
    (∀ o v, (o < 2 ∨ 40 < o) → exec (.writeVoltageLimit p o v) s = refused .unknownItem) ∧
    (∀ (o : Fin 39) v, exec (.writeVoltageLimit p (o.val + 2) v) s =
      if 1 ≤ v ∧ v ≤ 65535 then ok (withG { g with voltageLimit := g.voltageLimit.set o v }) else refused .range) ∧
    (∀ v, exec (.writeBimPeakItem p (.fRef v)) s =
      if 100 ≤ v ∧ v ≤ 10000 then ok (withB { s.cfg.bim with fRef := v }) else refused .range) ∧
    (∀ a b, exec (.writeBimPeakItem p (.searchRange a b)) s =
      if a < b ∧ b ≤ 25000 then ok (withB { s.cfg.bim with searchLo := a, searchHi := b })
      else refused .range) ∧
    (∀ v, exec (.writeBimPeakItem p (.powerFloor v)) s =
      if v < 2 ^ 48 then ok (withB { s.cfg.bim with powerFloor := v }) else refused .range) ∧
    (∀ rows, exec (.writePowerCurve p rows) s =
      if ∀ i : Fin 40, rows[i] ≤ 1200 then ok (withB { s.cfg.bim with curve := rows }) else refused .range) ∧
    (∀ v, exec (.writeCcuItem p (.reportTimeout v)) s =
      if 2 ≤ v ∧ v ≤ 60 then ok { s.cfg with reportTimeout := v } else refused .range) ∧
    (∀ v, exec (.writeCcuItem p (.snapshotThreshold v)) s =
      if 1 ≤ v ∧ v ≤ 3 then ok { s.cfg with snapshotThreshold := v } else refused .range)

/-- On the control port a report whose regime code is above 3 or whose heater code is above 1 answers RANGE and only
counts as refused. Any other report answers OK: the record takes the regime, the wind clamped to 0..500, the power
clamped to -100..1200, the heater, the reading and the CLAMPED flag; the change counter moves exactly if the regime
differs from the one held; the freshness timer restarts; the counters of R135 move; with the table keyed, no
CONTROLLER_SILENT entry stays active; the active icing set follows R120 and R121; configuration, plan, grades,
captures, engine and sensors are unchanged. FRESHNESS_TIMEOUT where the timer has run out stops it, makes the regime
UNKNOWN with a move of the counter unless it was UNKNOWN, keeps the other fields, counts a silence and, where the
keyed table has room, leaves an active CONTROLLER_SILENT entry; while the timer is stopped or has time to run, as
after a report that restarted it, it has no effect. Model's choices: log entries 12, 14, 25. -/
def Obligations.OperatingReport : Prop :=
  ∀ (s : State), s.ret.operating = true →
    let c := s.ccu.counters
    let op := s.ccu.op
    let clamp (lo hi x : Int) : Int := max lo (min hi x)
    (∀ r w q h, (3 < r ∨ 1 < h) →
      exec (.operatingReport .cp r w q h) s = .next (answered .cp 0x20 (plain .range)
        { s with ccu := { s.ccu with counters := { c with refused := min (c.refused + 1) 65535 } } })) ∧
    (∀ (r : Fin 4) (w q : Int) (h : Bool), AlarmsKeyed s →
      let regime : Regime := match r with
        | 0 => .parked
        | 1 => .idling
        | 2 => .producing
        | 3 => .stopping
      let heater : Heater := if h then .on else .off
      let profile : ThresholdSet := if h then s.cfg.bim.heaterOn else s.cfg.bim.heaterOff
      let clamped : Bool := clamp 0 500 w ≠ w ∨ clamp (-100) 1200 q ≠ q
      let i := s.mon.icing
      ∃ t, exec (.operatingReport .cp r.val w q h.toNat) s = .next t ∧
        t.ccu.op =
          { regime := regime, wind := some (clamp 0 500 w), power := some (clamp (-100) 1200 q), heater := some heater
            reportTime := s.cal, clamped := clamped
            changes := if op.regime = regime then op.changes else (op.changes + 1) % 65536 } ∧
        t.ccu.freshness = some s.cfg.reportTimeout ∧ t.ccu.sinceReport = some 0 ∧
        (s.cfg.reportTimeout ≠ 0 → exec .freshnessTimeout t = .next t) ∧
        t.ccu.counters =
          { c with
            accepted := min (c.accepted + 1) 65535
            clamped := if clamped then min (c.clamped + 1) 65535 else c.clamped } ∧
        (∀ e ∈ t.ccu.alarms, e.code = .controllerSilent → e.source = .ccu → e.state = .clearedUnack) ∧
        t.mon.icing =
          (if i.pinned then
            if regime = .parked ∧ op.regime ≠ .parked then
              { i with active := profile, pinned := false, loaded := heater }
            else i
          else if heater = i.loaded then i
          else { i with active := profile, loaded := heater }) ∧
        t.cfg = s.cfg ∧ t.plan = s.plan ∧ t.mpl = s.mpl ∧ t.afe = s.afe ∧ t.spe = s.spe ∧ t.gvm = s.gvm ∧
        t.ghm = s.ghm ∧ t.ptu = s.ptu ∧ t.rch = s.rch ∧ t.lnk.cp.reply.map (·.status) = some .ok) ∧
    (s.ccu.freshness ≠ some 0 → exec .freshnessTimeout s = .next s) ∧
    (s.ccu.freshness = some 0 →
      ∃ t, exec .freshnessTimeout s = .next t ∧ t.ccu.freshness = none ∧
        t.ccu.op =
          { op with
            regime := .unknown
            changes := if op.regime = .unknown then op.changes else (op.changes + 1) % 65536 } ∧
        t.ccu.counters.silences = min (c.silences + 1) 65535 ∧
        (AlarmsKeyed s → s.ccu.alarms.length < 32 →
          ∃ e ∈ t.ccu.alarms, e.code = .controllerSilent ∧ e.source = .ccu ∧ e.state ≠ .clearedUnack) ∧
        t.ccu.contributions = s.ccu.contributions ∧ t.ccu.ceiling = s.ccu.ceiling ∧ t.ccu.ackTimer = s.ccu.ackTimer ∧
        t.cfg = s.cfg ∧ t.mon = s.mon ∧ t.mpl = s.mpl ∧ t.afe = s.afe ∧ t.spe = s.spe ∧ t.gvm = s.gvm ∧
        t.ghm = s.ghm ∧ t.bim = s.bim ∧ t.ptu = s.ptu ∧ t.rch = s.rch)

/-- A post of a contribution during operation replaces it. If the least of the four equals the ceiling held, nothing
else changes. If it differs, the ceiling takes it, the sequence number goes up by one modulo 65,536, the
acknowledged flag is cleared, the timer has a full 30 s, CEILING_CHANGED is in the set of each port, and nothing
else changes but the attention lines. ACKNOWLEDGE_TIMER_EXPIRY where the timer has run out stops it, counts an
unheeded expiry, leaves ceiling, number, flag and contributions as they are, and, where the keyed table has room,
leaves an active CEILING_UNHEEDED entry; while the timer is stopped or has time to run it has no effect. Model's
choices: log entries 12, 14. -/
def Obligations.CeilingPost : Prop :=
  (∀ (who : Contributor) (v a b g d : Nat) (s : State),
    s.ccu.contributions.set who v = ⟨some a, some b, some g, some d⟩ →
    let least := min a (min b (min g d))
    let t := postContribution who v s
    let posted := { s.ccu with contributions := ⟨some a, some b, some g, some d⟩ }
    (s.ccu.ceiling = some least → t = { s with ccu := posted }) ∧
    (s.ccu.ceiling ≠ some least →
      t =
        { s with
          ccu := { posted with ceiling := some least, acknowledged := false, ackTimer := some 30 }
          mon := { s.mon with ceilingSeq := (s.mon.ceilingSeq + 1) % 65536 }
          lnk := t.lnk } ∧
      ∀ p, ∃ line, t.lnk.get p =
        { s.lnk.get p with notices := (s.lnk.get p).notices ||| 0x004#16, attention := line })) ∧
  (∀ (s : State), s.ret.operating = true →
    (s.ccu.ackTimer ≠ some 0 → exec .acknowledgeTimerExpiry s = .next s) ∧
    (s.ccu.ackTimer = some 0 →
      ∃ t, exec .acknowledgeTimerExpiry s = .next t ∧ t.ccu.ackTimer = none ∧
        t.ccu.acknowledged = s.ccu.acknowledged ∧ t.ccu.ceiling = s.ccu.ceiling ∧
        t.ccu.contributions = s.ccu.contributions ∧ t.ccu.op = s.ccu.op ∧
        t.ccu.counters.unheeded = min (s.ccu.counters.unheeded + 1) 65535 ∧
        (AlarmsKeyed s → s.ccu.alarms.length < 32 →
          ∃ e ∈ t.ccu.alarms, e.code = .ceilingUnheeded ∧ e.source = .ccu ∧ e.state ≠ .clearedUnack) ∧
        t.cfg = s.cfg ∧ t.mon = s.mon ∧ t.mpl = s.mpl ∧ t.afe = s.afe ∧ t.spe = s.spe ∧ t.gvm = s.gvm ∧
        t.ghm = s.ghm ∧ t.bim = s.bim ∧ t.ptu = s.ptu ∧ t.rch = s.rch))

/-- On the control port, a CEILING_ACK of another number than the one held answers STALE and changes nothing, whatever
the flag. One of the number held answers OK: if the flag was set nothing changes; if it was clear the flag is set,
the timer is stopped and CEILING_UNHEEDED (source CCU) is cleared, and nothing else changes. Every such reply
carries the ceiling, the number and the flag. If a post that moves the ceiling is taken first, an acknowledgement of
the number held before it is answered STALE with the new ceiling and number, and the wait for the new number keeps
its full time; if the acknowledgement is taken first, the post that follows it clears the flag and starts a new wait
under a new number. The reply's tag 0 is the model's choice (log entry 25). -/
def Obligations.CeilingAck : Prop :=
  ∀ (s : State), s.ret.operating = true →
    let heeded : State := clearAlarm .ceilingUnheeded .ccu
      { s with ccu := { s.ccu with acknowledged := true, ackTimer := none } }
    (∀ n, n ≠ s.mon.ceilingSeq → exec (.ceilingAck .cp n) s = .next (answered .cp 0x21 (plain .stale) s)) ∧
    (s.ccu.acknowledged = true →
      exec (.ceilingAck .cp s.mon.ceilingSeq) s = .next (answered .cp 0x21 (plain .ok) s)) ∧
    (s.ccu.acknowledged = false →
      exec (.ceilingAck .cp s.mon.ceilingSeq) s = .next (answered .cp 0x21 (plain .ok) heeded)) ∧
    heeded.ccu.acknowledged = true ∧ heeded.ccu.ackTimer = none ∧ heeded.mon = s.mon ∧ heeded.cfg = s.cfg ∧
    heeded.ccu.contributions = s.ccu.contributions ∧ heeded.ccu.ceiling = s.ccu.ceiling ∧
    (AlarmsKeyed s →
      ∀ e ∈ heeded.ccu.alarms, e.code = .ceilingUnheeded → e.source = .ccu → e.state = .clearedUnack) ∧
    (∀ (who : Contributor) (v : Nat), s.ccu.ceiling ≠ some (leastContribution (s.ccu.contributions.set who v)) →
      let n' := (s.mon.ceilingSeq + 1) % 65536
      let moved := postContribution who v s
      exec (.ceilingAck .cp s.mon.ceilingSeq) moved = .next (answered .cp 0x21 (plain .stale) moved) ∧
      moved.mon.ceilingSeq = n' ∧ moved.ccu.acknowledged = false ∧ moved.ccu.ackTimer = some 30 ∧
      (s.ccu.acknowledged = false →
        ∀ t, exec (.ceilingAck .cp s.mon.ceilingSeq) s = .next t →
          let after := postContribution who v t
          after.mon.ceilingSeq = n' ∧ after.ccu.acknowledged = false ∧ after.ccu.ackTimer = some 30))

/-- Each code has the severity of the table of R142. In a table that is keyed (R143): a raise on an active entry only
adds an occurrence, up to 255, and the time of change. On a CLEARED_UNACK entry it makes the entry ACTIVE_UNACK in
its place, with one more occurrence and nobody as acknowledger. Without an entry it appends a fresh ACTIVE_UNACK
entry: at once below 32 entries; with 32, after removing the oldest CLEARED_UNACK entry, or else the oldest
ACTIVE_ACK entry of lower severity, with one eviction counted; and else it enters nothing, counts an overflow and
sets TABLE_OVERFLOW. Every case but the first sets ALARM_RAISED on all ports; every entry into ACTIVE_UNACK counts
in the open day record (the tally while undated), and takes a snapshot exactly if the severity reaches the threshold
and a slot is not locked. -/
def Obligations.RaiseTable : Prop :=
  (∀ code : AlarmCode,
      (code ∈ [.sensorFault, .converterFault, .tempRefFault, .ceilingUnheeded, .retainedLost] → severity code = 3) ∧
      (code ∈ [.tachoMismatch, .tempOpen, .tempShort, .bandAlarm, .gridCurrentAlarm, .iceDetected, .controllerSilent,
        .taskOverdue, .taskTableFull] → severity code = 2) ∧
      (code ∈ [.tachoStall, .bandAlert, .gridVoltageExceed, .gridCurrentAlert, .iceSuspect, .taskDue] →
        severity code = 1)) ∧
  ∀ (code : AlarmCode) (source : Source) (s : State), AlarmsKeyed s →
    let t := raise code source s
    let isKey (e : AlarmEntry) : Bool := e.code = code ∧ e.source = source
    let fresh : AlarmEntry :=
      { code := code, source := source, state := .activeUnack, raisedAt := s.cal, lastChange := s.cal, ackBy := none,
        occurrences := 1 }
    let raised : Prop := ∀ p, (t.lnk.get p).notices &&& 0x001#16 = 0x001#16
    let count (r : DayRecord) : DayRecord := { r with alarms := min (r.alarms + 1) 65535 }
    let entered : Prop := raised ∧
      t.plan =
        (match s.cal with
          | some _ => { s.plan with openDay := { s.plan.openDay with record := count s.plan.openDay.record } }
          | none => { s.plan with undated := count s.plan.undated }) ∧
      (severity code < s.cfg.snapshotThreshold → t.records = s.records) ∧
      (s.cfg.snapshotThreshold ≤ severity code →
        (∃ i : Fin 8, ∀ x, s.records.slots[i] = some x → x.locked = false) →
        t.records.snapshotNumber = (s.records.snapshotNumber + 1) % 65536)
    let frame : Prop :=
      t.cfg = s.cfg ∧ t.mon = s.mon ∧ t.cal = s.cal ∧ t.mpl = s.mpl ∧ t.ret = s.ret ∧ t.ccu.op = s.ccu.op ∧
        t.ccu.ceiling = s.ccu.ceiling ∧ t.ccu.contributions = s.ccu.contributions
    let again (x : AlarmEntry) : AlarmEntry :=
      if isKey x then { x with occurrences := min (x.occurrences + 1) 255, lastChange := s.cal } else x
    let cleared (e : AlarmEntry) : Bool := e.state = .clearedUnack
    let lower (e : AlarmEntry) : Bool := e.state = .activeAck ∧ severity e.code < severity code
    frame ∧
    (∀ e ∈ s.ccu.alarms, isKey e = true →
      (e.state ≠ .clearedUnack →
        t = { s with ccu := { s.ccu with alarms := s.ccu.alarms.map again } }) ∧
      (e.state = .clearedUnack →
        t.ccu.alarms = s.ccu.alarms.map (fun x =>
          if isKey x then
            { x with
              state := .activeUnack, occurrences := min (x.occurrences + 1) 255, ackBy := none, raisedAt := s.cal
              lastChange := s.cal }
          else x) ∧ entered)) ∧
    ((∀ e ∈ s.ccu.alarms, isKey e = false) →
      (s.ccu.alarms.length < 32 → t.ccu.alarms = s.ccu.alarms ++ [fresh] ∧ entered) ∧
      (s.ccu.alarms.length = 32 →
        if s.ccu.alarms.any cleared then
          t.ccu.alarms = s.ccu.alarms.eraseP cleared ++ [fresh] ∧
            t.ccu.counters.evictions = min (s.ccu.counters.evictions + 1) 65535 ∧ entered
        else if s.ccu.alarms.any lower then
          t.ccu.alarms = s.ccu.alarms.eraseP lower ++ [fresh] ∧
            t.ccu.counters.evictions = min (s.ccu.counters.evictions + 1) 65535 ∧ entered
        else
          t.ccu.alarms = s.ccu.alarms ∧ t.ccu.tableOverflow = true ∧
            t.ccu.counters.overflows = min (s.ccu.counters.overflows + 1) 65535 ∧ raised ∧
            t.plan = s.plan ∧ t.records = s.records))

/-- In a keyed table: a clear makes an ACTIVE_UNACK entry CLEARED_UNACK and removes an ACTIVE_ACK one, each with
ALARM_CLEARED on every port; without an entry, or on a CLEARED_UNACK one, it changes nothing. ACK_ALARM of one key,
from any port: without an entry it answers UNKNOWN_ITEM and changes nothing; an ACTIVE_UNACK entry becomes
ACTIVE_ACK with that port as acknowledger, unless it is RETAINED_LOST, which leaves the table; an ACTIVE_ACK entry
stays; a CLEARED_UNACK entry is removed. ACK_ALARM of all does the same to every entry in order and its reply counts
the entries that were ACTIVE_UNACK and the entries removed. A removal clears TABLE_OVERFLOW. Operating record,
ceiling, configuration, plan and records are unchanged. Model's choices: log entry 25. -/
def Obligations.ClearAndAcknowledge : Prop :=
  ∀ (s : State), AlarmsKeyed s →
    let kept (x : Option AlarmEntry) : List AlarmEntry := x.toList
    let frame (t : State) : Prop :=
      t.cfg = s.cfg ∧ t.mon = s.mon ∧ t.cal = s.cal ∧ t.plan = s.plan ∧ t.records = s.records ∧ t.mpl = s.mpl ∧
        t.ccu.op = s.ccu.op ∧ t.ccu.ceiling = s.ccu.ceiling ∧ t.ccu.counters = s.ccu.counters
    let acked (p : Port) (e : AlarmEntry) : Option AlarmEntry :=
      match e.state with
      | .activeUnack =>
        if e.code = .retainedLost then none else some { e with state := .activeAck, ackBy := some p, lastChange := s.cal }
      | .activeAck => some e
      | .clearedUnack => none
    (∀ (code : AlarmCode) (source : Source),
      let t := clearAlarm code source s
      let isKey (e : AlarmEntry) : Bool := e.code = code ∧ e.source = source
      frame t ∧
      ((∀ e ∈ s.ccu.alarms, isKey e = true → e.state = .clearedUnack) → t = s) ∧
      (∀ e ∈ s.ccu.alarms, isKey e = true → e.state = .activeUnack →
        t.ccu.alarms = s.ccu.alarms.map (fun x =>
          if isKey x then { x with state := .clearedUnack, lastChange := s.cal } else x) ∧
        t.ccu.tableOverflow = s.ccu.tableOverflow ∧ ∀ p, (t.lnk.get p).notices &&& 0x002#16 = 0x002#16) ∧
      (∀ e ∈ s.ccu.alarms, isKey e = true → e.state = .activeAck →
        t.ccu.alarms = s.ccu.alarms.filter (fun x => !isKey x) ∧ t.ccu.tableOverflow = false ∧
        ∀ p, (t.lnk.get p).notices &&& 0x002#16 = 0x002#16)) ∧
    (∀ (p : Port), s.ret.operating = true →
      (∀ (code : AlarmCode) (source : Source),
        let isKey (e : AlarmEntry) : Bool := e.code = code ∧ e.source = source
        ((∀ e ∈ s.ccu.alarms, isKey e = false) →
          exec (.ackAlarm p (.one code source)) s = .next (answered p 0x05 (plain .unknownItem) s)) ∧
        (∀ e ∈ s.ccu.alarms, isKey e = true →
          ∃ t, exec (.ackAlarm p (.one code source)) s = .next t ∧ frame t ∧
            (t.lnk.get p).reply.map (·.status) = some .ok ∧
            t.ccu.alarms = s.ccu.alarms.flatMap (fun x => if isKey x then kept (acked p x) else [x]) ∧
            t.ccu.tableOverflow = (s.ccu.tableOverflow && (acked p e).isSome))) ∧
      (∃ t, exec (.ackAlarm p .all) s = .next t ∧ frame t ∧
        t.ccu.alarms = s.ccu.alarms.filterMap (acked p) ∧
        t.ccu.tableOverflow = (s.ccu.tableOverflow && s.ccu.alarms.all fun e => (acked p e).isSome) ∧
        (t.lnk.get p).reply.map (fun r => (r.status, r.content)) = some (.ok,
          [BitVec.ofNat 8 (s.ccu.alarms.filter fun e => e.state = .activeUnack).length,
           BitVec.ofNat 8 (s.ccu.alarms.filter fun e => (acked p e).isNone).length])))

/-- Where some slot is empty or unlocked, a snapshot fills the lowest-numbered empty slot, or without one the unlocked
slot whose snapshot was taken earliest, unlocked, with the next number, the reading, the trigger, the operating
record, the two speed results, the four temperature records with their fault fields, each band's last level and
grade, the grid summary, the icing state with the mean score (none for an empty ring), the ceiling and its number as
they stand; SNAPSHOT_TAKEN is on every port, the snapshot counter goes up, and every other slot stays. On the
service port with presence, LOCK_SNAPSHOT and UNLOCK_SNAPSHOT answer as the table of R148 states (RANGE for a slot
above 7); a lock and an unlock change the lock mark of the slot named and nothing else but the check word of
RECORDS, which then matches, and a reply OK to a lock names the snapshot's number. The model's choices: 'taken
earliest' is told by the model's own count of snapshots taken (log entry 6), a slot above 7 is answered RANGE (log
entry 65), the check word is held as a match (log entry 11), and the reply has tag 0 (log entry 25). -/
def Obligations.SnapshotSlots : Prop :=
  (∀ (code : AlarmCode) (source : Source) (s : State),
    (∃ i : Fin 8, ∀ x, s.records.slots[i] = some x → x.locked = false) →
    let t := takeSnapshot code source s
    let number := (s.records.snapshotNumber + 1) % 65536
    ∃ (i : Fin 8) (x : SnapshotSlot),
      t.records =
        { s.records with
          slots := s.records.slots.set i (some x), snapshotNumber := number, taken := s.records.taken + 1 } ∧
      (if ∃ j : Fin 8, s.records.slots[j] = none then
        s.records.slots[i] = none ∧ ∀ j : Fin 8, j < i → s.records.slots[j] ≠ none
      else
        ∃ y, s.records.slots[i] = some y ∧ y.locked = false ∧
          ∀ (j : Fin 8) (z : SnapshotSlot), s.records.slots[j] = some z → z.locked = false → y.order ≤ z.order) ∧
      x.locked = false ∧ x.order = s.records.taken ∧ x.record.number = number ∧ x.record.time = s.cal ∧
      x.record.code = code ∧ x.record.source = source ∧ x.record.op = s.ccu.op ∧
      x.record.p0 = s.ptu.chan.p0.latest ∧ x.record.p1 = s.ptu.chan.p1.latest ∧ x.record.grid = s.ghm.lastSummary ∧
      x.record.icing = s.mon.icing.state ∧ x.record.ceiling = s.ccu.ceiling ∧ x.record.ceilingSeq = s.mon.ceilingSeq ∧
      (∀ k : Temp, (x.record.temps.get k).record = (s.rch.sensor.get k).record ∧
        (x.record.temps.get k).ref = s.rch.refFault ∧ (x.record.temps.get k).fault = (s.rch.sensor.get k).fault) ∧
      x.record.mean =
        (if s.mon.icing.ring = [] then none else some (s.mon.icing.ring.sum / s.mon.icing.ring.length)) ∧
      (∀ b : Fin 24, x.record.bands[b] = (s.gvm.lastLevel[b].level, s.mon.bands[b].grade)) ∧
      t.ccu = { s.ccu with counters :=
        { s.ccu.counters with snapshots := min (s.ccu.counters.snapshots + 1) 65535 } } ∧
      (∀ p, (t.lnk.get p).notices &&& 0x010#16 = 0x010#16) ∧
      t.cfg = s.cfg ∧ t.mon = s.mon ∧ t.plan = s.plan ∧ t.cal = s.cal) ∧
  (∀ (s : State), s.ret.operating = true → s.mpl.presence.isSome →
    let locked (i : Fin 8) (x : SnapshotSlot) (v : Bool) : State :=
      { s with records := { s.records with slots := s.records.slots.set i (some { x with locked := v }) } }
    let lockCount := ((List.finRange 8).filter fun i => (s.records.slots[i].map (·.locked)).getD false).length
    (∀ n, 8 ≤ n → exec (.lockSnapshot .sp n) s = .next (answered .sp 0x43 (plain .range) s) ∧
      exec (.unlockSnapshot .sp n) s = .next (answered .sp 0x44 (plain .range) s)) ∧
    (∀ i : Fin 8, s.records.slots[i] = none →
      exec (.lockSnapshot .sp i.val) s = .next (answered .sp 0x43 (plain .unknownItem) s) ∧
      exec (.unlockSnapshot .sp i.val) s = .next (answered .sp 0x44 (plain .unknownItem) s)) ∧
    (∀ (i : Fin 8) (x : SnapshotSlot), s.records.slots[i] = some x →
      let named : Answer := { status := .ok, content := encNat 2 x.record.number }
      (x.locked = true →
        exec (.lockSnapshot .sp i.val) s = .next (answered .sp 0x43 named s) ∧
        exec (.unlockSnapshot .sp i.val) s = .next (rechecked s (answered .sp 0x44 (plain .ok) (locked i x false)))) ∧
      (x.locked = false →
        exec (.unlockSnapshot .sp i.val) s = .next (answered .sp 0x44 (plain .state) s) ∧
        exec (.lockSnapshot .sp i.val) s =
          if 6 ≤ lockCount then .next (answered .sp 0x43 (plain .full) s)
          else .next (rechecked s (answered .sp 0x43 named (locked i x true))))))

/-- On the farm port, or the service port with presence: a day above 65535, a second above 86399, or on the farm port a
day before today, answers RANGE and changes nothing. Any other SET_TIME answers OK and the calendar reads it. Every
damage grows by the increment of the interval ended, saturating, and the interval's credit goes to the open day
record if the calendar was set, else to the undated tally; a new interval ends at the first boundary later. The
record so credited is closed as its own day by a later day, into the ring where the newest summary is earlier (of 32
the oldest goes), else counted as order-dropped, with DAY_CLOSED on every port and a new, empty record open;
otherwise it goes on. A backward set prunes the summaries of the new day and after, counted; else the ring stays. A
tally of an unset calendar, so credited, is then folded into the open record and is empty; else it stays. What is
reported later is an alarm raised or the exceedance of the grid record. No task keeps a target-reached day later
than today, and the tasks are settled. The grid ring loses the records later than the new time, counted as pruned,
the open block is completed, and a new aligned interval starts: with a 3-second value the one ended closes into the
record of R101 with the new time and TIME_SET, offered to that ring, graded and, in a table with room and no task to
be recomputed or created, judged by its alarms; without one EMPTY_INTERVAL goes up. Configuration, history,
captures, engine, gearbox and sensor state are unchanged. Model's choices: log entries 19, 21, 25, 76. -/
def Obligations.SetTime : Prop :=
  ∀ (p : Port) (day sec : Nat) (s : State), s.ret.operating = true → FarmOrPresence p s →
    let now : Timestamp := ⟨day, sec⟩
    let refused : Prop := 65535 < day ∨ 86399 < sec ∨ (p = .fp ∧ ∃ t, s.cal = some t ∧ day < t.day)
    let boundary : PlannedEnd :=
      let b := (sec / 600 + 1) * 600
      .boundary (if b < 86400 then ⟨day, b⟩ else ⟨day + 1, 0⟩)
    let later (r : ComplianceRecord) : Bool := r.intervalEnd.any fun e => now.before e
    let pruned : State :=
      { s with cal := some now, records := { s.records with ring := s.records.ring.filter fun r => !later r } }
    (refused → exec (.setTime p day sec) s = .next (answered p 0x30 (plain .range) s)) ∧
    (¬ refused →
      ∃ t credit tally opened base,
        exec (.setTime p day sec) s = .next t ∧ t.cal = some now ∧ (t.lnk.get p).reply.map (·.status) = some .ok ∧
        (∀ c : Fin 16, t.plan.wear[c].damage = min (s.plan.wear[c].damage + wearIncrement c s) 4294967295) ∧
        t.plan.interval.producing = 0 ∧ t.plan.interval.powerSum = 0 ∧ t.plan.interval.planned = boundary ∧
        (∀ c : Fin 16, t.plan.interval.comps[c].tempSum = 0 ∧ t.plan.interval.comps[c].tempCount = 0 ∧
          t.plan.interval.comps[c].replacedOffset = 0) ∧
        (s.cal ≠ none → Credited s s.plan.openDay.record credit ∧ tally = s.plan.undated) ∧
        (s.cal = none → credit = s.plan.openDay.record ∧ Credited s s.plan.undated tally) ∧
        t.plan.openDay.day = some day ∧
        ((s.plan.openDay.day = none ∨ s.plan.openDay.day = some day) →
          opened = credit ∧ t.plan.days = s.plan.days ∧ t.mpl.orderDropped = s.mpl.orderDropped ∧
            t.mpl.prunedDays = s.mpl.prunedDays) ∧
        (∀ d, s.plan.openDay.day = some d → day < d →
          opened = credit ∧ t.plan.days = s.plan.days.filter (fun x => x.day < day) ∧
          t.mpl.orderDropped = s.mpl.orderDropped ∧
          t.mpl.prunedDays =
            min (s.mpl.prunedDays + (s.plan.days.filter fun x => day ≤ x.day).length) 65535) ∧
        (∀ d, s.plan.openDay.day = some d → d < day →
          opened = {} ∧ (∀ q, (t.lnk.get q).notices &&& 0x080#16 = 0x080#16) ∧ t.mpl.prunedDays = s.mpl.prunedDays ∧
          if ∀ x ∈ s.plan.days.getLast?, x.day < d then
            t.plan.days = (let l := s.plan.days ++ [⟨d, credit⟩]; if l.length = 32 then l.drop 1 else l) ∧
              t.mpl.orderDropped = s.mpl.orderDropped
          else
            t.plan.days = s.plan.days ∧ t.mpl.orderDropped = min (s.mpl.orderDropped + 1) 65535) ∧
        (s.cal ≠ none → base = opened ∧ t.plan.undated = s.plan.undated) ∧
        (s.cal = none → Folded tally opened base ∧ t.plan.undated = {}) ∧
        (∀ x ∈ t.plan.tasks, ∀ d, x.targetReached = some d → d ≤ day) ∧ TasksSettled t ∧
        t.ghm.block = GridBlock.empty ∧
        t.ghm.interval =
          { sums := Quantities.all {}, unaligned := false, planned := boundary, begunOff := !s.cfg.ghm.enable } ∧
        t.ghm.counters.pruned =
          min (s.ghm.counters.pruned + (s.records.ring.filter fun r => later r).length) 65535 ∧
        ((completedInterval s).values = 0 →
          t.ghm.counters.emptyInterval = min (s.ghm.counters.emptyInterval + 1) 65535 ∧
            t.records.ring = pruned.records.ring ∧ t.mon.currentGrade = s.mon.currentGrade ∧
            Reported false base t.plan.openDay.record) ∧
        ((completedInterval s).values ≠ 0 →
          ∃ x, RecordOf true pruned x ∧ RecordJudged x pruned t ∧
            Reported (x.exceeded ≠ []) base t.plan.openDay.record ∧
            (AlarmsKeyed s → s.ccu.alarms.length ≤ 30 → s.plan.tasks = [] →
              (∀ c : Fin 16, s.plan.wear[c].grade2Duration ≠ 86400) → RecordAlarms x s t)) ∧
        t.cfg = s.cfg ∧ t.plan.config = s.plan.config ∧ t.plan.history = s.plan.history ∧ t.afe = s.afe ∧
        t.spe = s.spe ∧ t.gvm = s.gvm ∧ t.bim = s.bim ∧ t.ptu = s.ptu ∧ t.rch = s.rch ∧ t.ret = s.ret ∧
        t.mon.bands = s.mon.bands ∧ t.mon.icing = s.mon.icing)

/-- On the service port, with or without a presence: a technician number outside 1..9999 or 0 hours answers RANGE and
changes nothing; otherwise PRESENCE_BEGIN answers OK with the hours granted, at most 12, and the presence is the
number with those hours in seconds of operation; without an override in force nothing else changes, and an override
in force has ended, the icing state, the plan, the configuration and the alarms unchanged. PRESENCE_END answers
STATE without change where no presence holds, and otherwise OK with the presence gone and nothing else changed.
PRESENCE_EXPIRY leaves no presence where its time has run out and changes nothing else; with time still to run, or
without a presence, it changes nothing. Model's choices: log entries 12, 25. -/
def Obligations.PresenceRequests : Prop :=
  ∀ (s : State), s.ret.operating = true →
    let granted (n : Nat) : Nat := if n < 12 then n else 12
    let held (n h : Nat) : MplState := { s.mpl with presence := some ⟨n, granted h * 3600⟩ }
    let reply (h : Nat) : Answer := { status := .ok, content := [BitVec.ofNat 8 (granted h)] }
    (∀ n h, (n = 0 ∨ 9999 < n ∨ h = 0) →
      exec (.presenceBegin .sp n h) s = .next (answered .sp 0x40 (plain .range) s)) ∧
    (∀ n h, 1 ≤ n → n ≤ 9999 → 1 ≤ h → s.bim.override = none →
      exec (.presenceBegin .sp n h) s = .next (answered .sp 0x40 (reply h) { s with mpl := held n h })) ∧
    (∀ n h, 1 ≤ n → n ≤ 9999 → 1 ≤ h → s.bim.override ≠ none →
      ∃ t, exec (.presenceBegin .sp n h) s = .next t ∧ t.mpl = held n h ∧ t.bim = { s.bim with override := none } ∧
        t.lnk.sp.reply.map (fun r => (r.status, r.content)) = some (.ok, (reply h).content) ∧
        t.ccu.contributions.icing = some (icingContribution t) ∧ t.ccu.alarms = s.ccu.alarms ∧
        t.mon.icing = s.mon.icing ∧ t.plan = s.plan ∧ t.cfg = s.cfg ∧ t.records = s.records) ∧
    (s.mpl.presence = none → exec (.presenceEnd .sp) s = .next (answered .sp 0x41 (plain .state) s)) ∧
    (s.mpl.presence ≠ none →
      exec (.presenceEnd .sp) s = .next (answered .sp 0x41 (plain .ok)
        { s with mpl := { s.mpl with presence := none } })) ∧
    (s.mpl.presence = none → exec .presenceExpiry s = .next s) ∧
    (∀ x, s.mpl.presence = some x → x.left ≠ 0 → exec .presenceExpiry s = .next s) ∧
    (∀ x, s.mpl.presence = some x → x.left = 0 →
      exec .presenceExpiry s = .next { s with mpl := { s.mpl with presence := none } })

/-- On a set calendar, a component's rate is the floored mean of its increments in the last seven stored days after its
counting-since day and within 14 days, none without one; its projected day for a target is today plus the days to
target of R164, at most 65535, none without a rate above 0; a task's due date is the earlier of last done + interval
and its target-reached day (today with the damage at its target, else the projected day), deferred, not before the
last done day, at most 65535. Tasks are SETTLED when each state is that of R168 by this due date, a damage at its
target has a target-reached day, and the planner contribution is the least ceiling among the tasks OVERDUE and past
their grace, 100 without one. On the farm port: while a presence holds both answer ON_SITE. PLAN_TASK then answers
NO_DATE under an unset calendar, RANGE for a field outside the ranges of R165, STATE for the id of a task of the
part, FULL for a new id with 32 tasks, each without change. Otherwise it answers OK: a new task has the fields
given, created today, last done as given or today, nothing deferred; a known one takes the fields given, keeps
created day and deferrals, and its last done day unless given. REMOVE_TASK answers UNKNOWN_ITEM without change for
an unknown id, and otherwise OK: the task is gone, with no active alarm of it left where the table is keyed; from 32
tasks the first waiting component takes the free entry with a condition task under the lowest free id, loses its
mark, and with no other waiting TASK_TABLE_FULL is not active. Both leave every other task's fields, set TASK_STATE
on every port; PLAN_TASK, and a removal that serves a component, leave the tasks settled; any other removal leaves
the tasks as they are, with the contribution that of R169 on a set calendar and unchanged on an unset one. Damage,
days, history and configuration are unchanged. Model's choices: log entries 25, 42. -/
def Obligations.PlanAndRemoveTask : Prop :=
  ∀ (s : State), s.ret.operating = true → TasksOrdered s →
    let frame (t : State) : Prop :=
      t.cfg = s.cfg ∧ t.plan.config = s.plan.config ∧ t.plan.days = s.plan.days ∧ t.plan.history = s.plan.history ∧
        (∀ c : Fin 16, t.plan.wear[c].damage = s.plan.wear[c].damage) ∧ t.cal = s.cal ∧ t.gvm = s.gvm ∧
        t.ghm = s.ghm ∧ t.bim = s.bim ∧ t.afe = s.afe ∧ t.spe = s.spe ∧ t.lnk.fp.reply.map (·.status) = some .ok ∧
        ∀ p, (t.lnk.get p).notices &&& 0x008#16 = 0x008#16
    let others (id : Nat) (t : State) : Prop :=
      ∀ x ∈ s.plan.tasks, x.id ≠ id →
        ∃ y ∈ t.plan.tasks, y = { x with state := y.state, targetReached := y.targetReached }
    (∀ day, today s = some day →
      (∀ c, rate c day s = rateBy c day s) ∧ (∀ c target, projectedDay c day target s = projectedBy c day target s) ∧
        ∀ x, readDueDate x s = dueBy day x s) ∧
    (∀ f : TaskFields,
      let needs (a : Option Nat) (lo hi : Nat) : Prop := ∃ x, a = some x ∧ lo ≤ x ∧ x ≤ hi
      let inside (a : Option Nat) (lo hi : Nat) : Prop := ∀ x, a = some x → lo ≤ x ∧ x ≤ hi
      let fieldsOk (today : Nat) : Prop :=
        1 ≤ f.id ∧ f.id ≤ 255 ∧ f.component ≤ 15 ∧ f.trigger ≠ .condition ∧ f.notice ≤ 60 ∧ f.grace ≤ 30 ∧
          (∀ d, f.derate = some d → d ≤ 100) ∧ (∀ d, f.lastDone = some d → d ≤ today) ∧
          inside f.intervalDays 1 3650 ∧ inside f.fraction 1 1000 ∧
          (f.trigger ≠ .damage → needs f.intervalDays 1 3650) ∧ (f.trigger ≠ .calendar → needs f.fraction 1 1000)
      let answer (st : Status) : Prop := exec (.planTask .fp f) s = .next (answered .fp 0x35 (plain st) s)
      let same (x y : Task) : Prop :=
        x = { y with state := x.state, targetReached := x.targetReached, damageRef := x.damageRef }
      let interval := if f.trigger = .damage then none else f.intervalDays
      let fraction := if f.trigger = .calendar then none else f.fraction
      let component : Fin 16 := Fin.ofNat 16 f.component
      (s.mpl.presence ≠ none → answer .onSite) ∧
      (s.mpl.presence = none → s.cal = none → answer .noDate) ∧
      (∀ now, s.mpl.presence = none → s.cal = some now →
        (¬ fieldsOk now.day → answer .range) ∧
        (fieldsOk now.day →
          (∀ x ∈ s.plan.tasks, x.id = f.id → x.origin = .part → answer .state) ∧
          ((∀ x ∈ s.plan.tasks, x.id ≠ f.id) → s.plan.tasks.length = 32 → answer .full) ∧
          ((∀ x ∈ s.plan.tasks, x.id ≠ f.id) → s.plan.tasks.length < 32 →
            ∃ t, exec (.planTask .fp f) s = .next t ∧ frame t ∧ others f.id t ∧ TasksSettled t ∧
              t.plan.tasks.length = s.plan.tasks.length + 1 ∧
              ∃ x ∈ t.plan.tasks, x.damageRef = 0 ∧ same x
                { id := f.id, component := component, kind := f.kind, trigger := f.trigger, intervalDays := interval,
                  fraction := fraction, notice := f.notice, grace := f.grace, derate := f.derate,
                  lastDone := f.lastDone.getD now.day, created := now.day, deferred := 0, deferrals := 0,
                  origin := .farm }) ∧
          (∀ x ∈ s.plan.tasks, x.id = f.id → x.origin = .farm →
            ∃ t, exec (.planTask .fp f) s = .next t ∧ frame t ∧ others f.id t ∧ TasksSettled t ∧
              t.plan.tasks.length = s.plan.tasks.length ∧
              ∃ y ∈ t.plan.tasks,
                y.damageRef = (if x.component = component ∧ x.fraction = fraction then x.damageRef else 0) ∧
                same y
                  { x with
                    component := component, kind := f.kind, trigger := f.trigger, intervalDays := interval
                    fraction := fraction, notice := f.notice, grace := f.grace, derate := f.derate
                    lastDone := f.lastDone.getD x.lastDone })))) ∧
    (∀ id : Nat,
      (s.mpl.presence ≠ none → exec (.removeTask .fp id) s = .next (answered .fp 0x36 (plain .onSite) s)) ∧
      (s.mpl.presence = none → (∀ x ∈ s.plan.tasks, x.id ≠ id) →
        exec (.removeTask .fp id) s = .next (answered .fp 0x36 (plain .unknownItem) s)) ∧
      (∀ x ∈ s.plan.tasks, x.id = id → s.mpl.presence = none →
        (s.plan.tasks.length < 32 ∨ ∀ c : Fin 16, s.mpl.waiting[c] = false) →
        ∃ t, exec (.removeTask .fp id) s = .next t ∧ frame t ∧ t.plan.tasks = s.plan.tasks.filter (fun y => y.id ≠ id) ∧
          (x.trigger = .condition → t.plan.wear[x.component].grade2Duration = 0) ∧
          (x.trigger ≠ .condition → t.plan.wear = s.plan.wear) ∧
          (AlarmsKeyed s → ∀ e ∈ t.ccu.alarms, e.source = .task id → (e.code = .taskDue ∨ e.code = .taskOverdue) →
            e.state = .clearedUnack) ∧
          (s.cal = none → t.ccu.contributions.planner = s.ccu.contributions.planner) ∧
          ∀ day, today s = some day → PlannerLeast day t) ∧
      (∀ x ∈ s.plan.tasks, x.id = id → s.mpl.presence = none → s.plan.tasks.length = 32 →
        ∀ (c : Fin 16) (now : Timestamp), s.cal = some now → FirstWaiting c s →
        ∃ t, exec (.removeTask .fp id) s = .next t ∧ t.lnk.fp.reply.map (·.status) = some .ok ∧
          ServedFromFull id c now.day s t ∧ TasksSettled t))

/-- DEFER_TASK on the farm port answers RANGE for days outside 1..30, UNKNOWN_ITEM, NOT_DUE for a PLANNED task,
CONDITION while its component has grade 2, LIMIT with two deferrals made, each without change; otherwise OK with the
days granted, the deferred days and the count grown, and the tasks settled if the calendar is set. CLOSE_TASK on the
service port with presence answers UNKNOWN_ITEM, RANGE for REPLACED on a task that is not REPLACE, NO_DATE under an
unset calendar, each without change; otherwise OK: the history has a new last entry with the damage before any
change and at most 64 entries; a REPLACED component has damage 0, counting since today and its replaced offset at
the producing seconds; a CONDITION task is gone with the duration at 0; any other has last done today, no deferral
and, for DONE, the damage as reference; with REPLACED every task of the component has reference 0; these and the
task closed have a target-reached day only if the recompute finds the damage at the target today; every other task
keeps its fields; the tasks are settled. A CONDITION task done in a table of 32 gives its entry to the first waiting
component, as for REMOVE_TASK. Model's choices: log entry 25, and log entry 69 for the order of CLOSE_TASK's
refusals. -/
def Obligations.DeferAndCloseTask : Prop :=
  ∀ (s : State), s.ret.operating = true → TasksOrdered s →
    (∀ id days : Nat,
      let answer (st : Status) : Prop := exec (.deferTask .fp id days) s = .next (answered .fp 0x37 (plain st) s)
      ((days = 0 ∨ 30 < days) → answer .range) ∧
      (1 ≤ days → days ≤ 30 →
        ((∀ x ∈ s.plan.tasks, x.id ≠ id) → answer .unknownItem) ∧
        (∀ x ∈ s.plan.tasks, x.id = id →
          (x.state = .planned → answer .notDue) ∧
          (x.state ≠ .planned → componentGrade s x.component = 2 → answer .condition) ∧
          (x.state ≠ .planned → componentGrade s x.component ≠ 2 → 2 ≤ x.deferrals → answer .limit) ∧
          (x.state ≠ .planned → componentGrade s x.component ≠ 2 → x.deferrals < 2 →
            ∃ t, exec (.deferTask .fp id days) s = .next t ∧
              t.lnk.fp.reply.map (fun r => (r.status, r.content)) = some (.ok, [BitVec.ofNat 8 days]) ∧
              (∃ y ∈ t.plan.tasks, y =
                { x with
                  deferred := x.deferred + days, deferrals := x.deferrals + 1, state := y.state
                  targetReached := y.targetReached }) ∧
              (∀ z ∈ s.plan.tasks, z.id ≠ id →
                ∃ y ∈ t.plan.tasks, y = { z with state := y.state, targetReached := y.targetReached }) ∧
              t.plan.tasks.length = s.plan.tasks.length ∧ TasksSettled t ∧
              t.plan.wear = s.plan.wear ∧ t.plan.history = s.plan.history ∧ t.cfg = s.cfg)))) ∧
    (∀ (id : Nat) (o : CloseOutcome), s.mpl.presence ≠ none →
      let answer (st : Status) : Prop := exec (.closeTask .sp id o) s = .next (answered .sp 0x42 (plain st) s)
      ((∀ x ∈ s.plan.tasks, x.id ≠ id) → answer .unknownItem) ∧
      (∀ x ∈ s.plan.tasks, x.id = id →
        (o = .replaced → x.kind ≠ .replace → answer .range) ∧
        ((o = .done ∨ x.kind = .replace) → s.cal = none → answer .noDate) ∧
        (∀ now who, (o = .done ∨ x.kind = .replace) → s.cal = some now → s.mpl.presence = some who →
          (s.plan.tasks.length < 32 ∨ ∀ c : Fin 16, s.mpl.waiting[c] = false) →
          let old := s.plan.wear[x.component]
          let damage := if o = .replaced then 0 else old.damage
          let entry : HistoryEntry :=
            { time := now, id := id, component := x.component, kind := x.kind, outcome := o
              technician := who.technician, damage := old.damage }
          ∃ t, exec (.closeTask .sp id o) s = .next t ∧ t.lnk.sp.reply.map (·.status) = some .ok ∧ TasksSettled t ∧
            (s.plan.history.length < 64 → t.plan.history = s.plan.history ++ [entry]) ∧
            (s.plan.history.length = 64 → t.plan.history = s.plan.history.drop 1 ++ [entry]) ∧
            t.plan.wear[x.component] =
              { old with
                damage := damage
                countingSince := if o = .replaced then some now.day else old.countingSince
                grade2Duration := if x.trigger = .condition then 0 else old.grade2Duration } ∧
            (∀ c : Fin 16, c ≠ x.component → t.plan.wear[c] = s.plan.wear[c]) ∧
            t.plan.interval.comps[x.component].replacedOffset =
              (if o = .replaced then s.plan.interval.producing
              else s.plan.interval.comps[x.component].replacedOffset) ∧
            (x.trigger = .condition → ∀ y ∈ t.plan.tasks, y.id ≠ id) ∧
            (x.trigger ≠ .condition →
              ∃ y ∈ t.plan.tasks, y =
                { x with
                  state := y.state, targetReached := reachedBy now.day y t, lastDone := now.day, deferred := 0
                  deferrals := 0, damageRef := if o = .done then damage else 0 }) ∧
            (∀ z ∈ s.plan.tasks, z.id ≠ id →
              ∃ y ∈ t.plan.tasks,
                y =
                  { z with
                    state := y.state, targetReached := y.targetReached
                    damageRef := if o = .replaced ∧ z.component = x.component then 0 else z.damageRef } ∧
                (o = .replaced → z.component = x.component → y.targetReached = reachedBy now.day y t)) ∧
            (∀ p, (t.lnk.get p).notices &&& 0x008#16 = 0x008#16) ∧ t.cfg = s.cfg ∧ t.cal = s.cal ∧
            t.mpl.presence = s.mpl.presence) ∧
        (∀ (c : Fin 16) (now : Timestamp), o = .done → s.cal = some now → x.trigger = .condition →
          s.plan.tasks.length = 32 → FirstWaiting c s →
          ∃ t, exec (.closeTask .sp id o) s = .next t ∧ t.lnk.sp.reply.map (·.status) = some .ok ∧
            ServedFromFull id c now.day s t ∧ TasksSettled t ∧ t.plan.wear[x.component].grade2Duration = 0)))

/-- On the farm port, or the service port with presence: an index above 15 answers UNKNOWN_ITEM and a field outside the
ranges of R156 answers RANGE, each without change. Otherwise the reply is OK and the component has the configuration
written, every other component its own. Its temperature sum and count restart at 0; if its grade changes, its worst
grade is at least the new grade, and grade-2 since and duration are the reading and 0 on a change to grade 2, none
and 0 on a change below 2; if its grade stays, its wear stays. No damage, producing second, day, history entry or
other configuration item changes, and the tasks are settled if the calendar is set. The reply's tag 0 is the model's
choice (log entry 25). -/
def Obligations.ComponentConfigWrite : Prop :=
  ∀ (p : Port) (v : ComponentConfig) (s : State), s.ret.operating = true → FarmOrPresence p s →
    let fieldsOk : Prop :=
      v.nameCode ≤ 65535 ∧ -600 ≤ v.thetaRef ∧ v.thetaRef ≤ 2000 ∧ v.weight ≤ 1000 ∧
        (v.exponent = 0 ∨ v.exponent = 1 ∨ v.exponent = 3) ∧ 1 ≤ v.damageLimit ∧ v.damageLimit ≤ 4294967295 ∧
        1 ≤ v.conditionDays ∧ v.conditionDays ≤ 60
    (∀ i, 16 ≤ i → exec (.writeComponentConfig p i v) s = .next (answered p 0x31 (plain .unknownItem) s)) ∧
    (∀ c : Fin 16,
      (¬ fieldsOk → exec (.writeComponentConfig p c.val v) s = .next (answered p 0x31 (plain .range) s)) ∧
      (fieldsOk →
        let old := componentGrade s c
        let new := match v.gradeSource with
          | .bands => s.mpl.grades.bands[c]
          | .gridCurrent => s.mpl.grades.current
          | .icing => s.mpl.grades.icing
          | .none => 0
        let part := s.plan.interval.comps[c]
        let w := s.plan.wear[c]
        ∃ t, exec (.writeComponentConfig p c.val v) s = .next t ∧ (t.lnk.get p).reply.map (·.status) = some .ok ∧
          t.plan.config = s.plan.config.set c v ∧
          t.plan.interval.producing = s.plan.interval.producing ∧
          t.plan.interval.powerSum = s.plan.interval.powerSum ∧
          t.plan.interval.comps[c].tempSum = 0 ∧ t.plan.interval.comps[c].tempCount = 0 ∧
          t.plan.interval.comps[c].worst = (if old = new then part.worst else max part.worst new) ∧
          (∀ k : Fin 16, k ≠ c →
            t.plan.interval.comps[k] = s.plan.interval.comps[k] ∧ t.plan.wear[k] = s.plan.wear[k]) ∧
          (old = new → t.plan.wear[c] = w) ∧
          (old ≠ new → new = 2 → t.plan.wear[c] = { w with grade2Since := s.cal, grade2Duration := 0 }) ∧
          (old ≠ new → new ≠ 2 → t.plan.wear[c] = { w with grade2Since := none, grade2Duration := 0 }) ∧
          t.plan.days = s.plan.days ∧ t.plan.history = s.plan.history ∧ t.cfg = s.cfg ∧ t.mpl.grades = s.mpl.grades ∧
          t.gvm = s.gvm ∧ t.ghm = s.ghm ∧ t.bim = s.bim ∧ t.afe = s.afe ∧ t.spe = s.spe ∧ TasksSettled t))

/-- MPL_UNDATED_INTERVAL_END has no effect while the planned end is a boundary of the calendar or has seconds to run;
otherwise every damage grows by the increment of R159, saturating, the producing seconds, increments and worst
grades are credited to the tally (unset calendar; else to the open day record), nothing else of it changing, and a
new interval starts. TEN_MINUTE_BOUNDARY has no effect under an unset calendar or off a boundary. On one, the
accounting interval ends in the same way exactly if its planned end is reached, its credit going to the open day
record, which further takes only alarms raised and the exceedance below, and the tasks are settled; the grid
interval ends exactly if its planned end is reached: with a 3-second value it closes into the record of R101,
offered to the ring, graded and, in a table with room and no task, judged by its alarms, and reported to the day
record if its exceedance set is not empty; without one EMPTY_INTERVAL goes up; and at second 0 of a day after the
first, where the accounting interval ends, the record so credited closes as the day before, whatever day it held:
into the ring where the newest summary is earlier, else counted as order-dropped; DAY_CLOSED is on every port, the
open record takes the new day and the tasks are settled. Else ring, open day and that counter stay. The
configuration, captures, engine and sensors are unchanged. Model's choices: log entries 12, 14, 19, 46, 61, 76. -/
def Obligations.IntervalEndsAndRollover : Prop :=
  ∀ (s : State), s.ret.operating = true →
    let fresh (now : Option Timestamp) : PlannedEnd := match now with
      | none => .seconds 600
      | some now =>
        let b := (now.sec / 600 + 1) * 600
        .boundary (if b < 86400 then ⟨now.day, b⟩ else ⟨now.day + 1, 0⟩)
    let grown (c : Fin 16) : Nat := min (s.plan.wear[c].damage + wearIncrement c s) 4294967295
    let ended (t : State) : Prop :=
      (∀ c : Fin 16, t.plan.wear[c].damage = grown c) ∧ t.plan.interval.producing = 0 ∧
        t.plan.interval.powerSum = 0 ∧ t.plan.interval.planned = fresh s.cal ∧
        ∀ c : Fin 16, t.plan.interval.comps[c].tempSum = 0 ∧ t.plan.interval.comps[c].tempCount = 0 ∧
          t.plan.interval.comps[c].replacedOffset = 0
    let frame (t : State) : Prop :=
      t.cfg = s.cfg ∧ t.cal = s.cal ∧ t.afe = s.afe ∧ t.spe = s.spe ∧ t.gvm = s.gvm ∧ t.bim = s.bim ∧ t.ptu = s.ptu ∧
        t.rch = s.rch ∧ t.plan.config = s.plan.config ∧ t.plan.history = s.plan.history
    (s.plan.interval.planned ≠ .seconds 0 → exec .mplUndatedIntervalEnd s = .next s) ∧
    (s.plan.interval.planned = .seconds 0 →
      ∃ t, exec .mplUndatedIntervalEnd s = .next t ∧ ended t ∧ frame t ∧ t.ghm = s.ghm ∧ t.plan.days = s.plan.days ∧
        (s.cal = none →
          Credited s s.plan.undated t.plan.undated ∧ t.plan.openDay = s.plan.openDay ∧ t.ccu = s.ccu ∧
            t.mon = s.mon) ∧
        (s.cal ≠ none →
          t.plan.undated = s.plan.undated ∧ t.plan.openDay.day = s.plan.openDay.day ∧ TasksSettled t ∧
            ∃ q, Credited s s.plan.openDay.record q ∧ Reported false q t.plan.openDay.record)) ∧
    (s.cal = none → exec .tenMinuteBoundary s = .next s) ∧
    (∀ now, s.cal = some now → now.sec % 600 ≠ 0 → exec .tenMinuteBoundary s = .next s) ∧
    (∀ now, s.cal = some now → now.sec % 600 = 0 →
      let reached (e : PlannedEnd) : Prop := ∃ b, e = .boundary b ∧ now.before b = false
      let r := s.plan.openDay.record
      let stays : Prop := now.sec ≠ 0 ∨ now.day = 0 ∨ ¬ reached s.plan.interval.planned
      ∃ t credit total exceeded, exec .tenMinuteBoundary s = .next t ∧ frame t ∧ t.plan.undated = s.plan.undated ∧
        (reached s.plan.interval.planned → ended t ∧ TasksSettled t ∧ Credited s r credit) ∧
        (¬ reached s.plan.interval.planned →
          credit = r ∧ (∀ c : Fin 16, t.plan.wear[c].damage = s.plan.wear[c].damage) ∧
          t.plan.interval.producing = s.plan.interval.producing) ∧
        Reported exceeded credit total ∧
        (reached s.ghm.interval.planned → t.ghm.block = GridBlock.empty ∧
          t.ghm.interval =
            { sums := Quantities.all {}, unaligned := false, planned := fresh s.cal, begunOff := !s.cfg.ghm.enable } ∧
          ((completedInterval s).values = 0 →
            t.ghm.counters.emptyInterval = min (s.ghm.counters.emptyInterval + 1) 65535 ∧
              t.records.ring = s.records.ring ∧ t.mon.currentGrade = s.mon.currentGrade ∧ exceeded = false) ∧
          ((completedInterval s).values ≠ 0 →
            ∃ x, RecordOf false s x ∧ RecordJudged x s t ∧ exceeded = decide (x.exceeded ≠ []) ∧
              (AlarmsKeyed s → s.ccu.alarms.length ≤ 30 → s.plan.tasks = [] → RecordAlarms x s t))) ∧
        (¬ reached s.ghm.interval.planned → t.ghm = s.ghm ∧ exceeded = false) ∧
        (∀ d, now = ⟨d + 1, 0⟩ → reached s.plan.interval.planned →
          t.plan.openDay.day = some (d + 1) ∧ Reported false {} t.plan.openDay.record ∧
          (∀ p, (t.lnk.get p).notices &&& 0x080#16 = 0x080#16) ∧
          (if ∀ x ∈ s.plan.days.getLast?, x.day < d then
            t.mpl.orderDropped = s.mpl.orderDropped ∧
              t.plan.days = (let l := s.plan.days ++ [⟨d, total⟩]; if l.length = 32 then l.drop 1 else l)
          else
            t.plan.days = s.plan.days ∧ t.mpl.orderDropped = min (s.mpl.orderDropped + 1) 65535)) ∧
        (stays → t.plan.openDay.record = total ∧ t.plan.days = s.plan.days ∧
          t.plan.openDay.day = s.plan.openDay.day ∧ t.mpl.orderDropped = s.mpl.orderDropped))

/-- OPERATION_SECOND while no component stands at grade 2 with a duration of 86,399 changes exactly this: a producing
second (up to 600) and the active power if the regime is PRODUCING; the age of each held temperature, up to 65535;
the duration of each component at grade 2, up to 86,400; each running timer less one second, those to the converter
check and the stalls of P0 to P2 among them; the time since the report plus one. A component that reaches 86,400
with the calendar set and no CONDITION task of its own gets one, due after its condition due days, where the table
has room beside one task for each component of lower index that reaches it in this second without one; else it is
marked waiting, and in a table of 32 tasks TASK_TABLE_FULL is then active where there is room, and no task changes.
BATTERY_CLOCK_SECOND, with or without operation, moves a set calendar to the next second where main power is present
or the battery retains, across midnight to the next day, not beyond (65535, 86399), and changes nothing else;
OPERATION_SECOND leaves PLAN's check word matching where PLAN changed. Model's choices: log entries 11, 12 and 40;
that every held age grows at this one command, a second common to all, and before a duration acts, is the model's
own (log entry 59), and so is the order of index among components that reach 86,400 together (log entry 75). -/
def Obligations.SecondsOfOperationAndClock : Prop :=
  (∀ (s : State), s.ret.operating = true →
    let i := s.plan.interval
    let down (x : Option Nat) : Option Nat := x.map (· - 1)
    let planned (e : PlannedEnd) : PlannedEnd := match e with
      | .seconds n => .seconds (n - 1)
      | .boundary b => .boundary b
    let older (x : SensorState) : SensorState :=
      { x with record :=
        { x.record with
          age := if x.record.value = none then x.record.age else x.record.age.map fun n => min (n + 1) 65535 } }
    let rested (x : AccelState) : AccelState := { x with qualification := down x.qualification }
    let a := s.afe.accel
    let p := s.ptu.chan
    let q := s.rch.sensor
    let nearer (x : PulseState) : PulseState := { x with stallIn := x.stallIn - 1 }
    let before (c : Fin 16) : Nat := ((List.finRange 16).filter fun k =>
      k < c && (componentGrade s k = 2 && s.plan.wear[k].grade2Duration = 86399 &&
        s.plan.tasks.all fun x => x.trigger ≠ .condition || x.component ≠ k)).length
    ((∀ c : Fin 16, componentGrade s c = 2 → s.plan.wear[c].grade2Duration ≠ 86399) →
      ∃ wear : Vector ComponentWear 16,
        (∀ c : Fin 16, wear[c] =
          { s.plan.wear[c] with
            grade2Duration :=
              if componentGrade s c = 2 ∧ s.plan.wear[c].grade2Duration < 86400 then s.plan.wear[c].grade2Duration + 1
              else s.plan.wear[c].grade2Duration }) ∧
        exec .operationSecond s = .next (rechecked s
          { s with
            afe :=
              { s.afe with
                nextCheck := s.afe.nextCheck - 1
                accel := ⟨rested a.g1, rested a.g2, rested a.g3, rested a.g4, rested a.n1⟩ }
            ptu := { s.ptu with chan := ⟨nearer p.p0, nearer p.p1, nearer p.p2⟩ }
            rch := { s.rch with sensor := ⟨older q.s0, older q.s1, older q.s2, older q.s3⟩ }
            gvm := { s.gvm with periodTimer := down s.gvm.periodTimer }
            bim := { s.bim with stepTimer := down s.bim.stepTimer, override := down s.bim.override }
            ccu :=
              { s.ccu with
                freshness := down s.ccu.freshness, ackTimer := down s.ccu.ackTimer
                sinceReport := s.ccu.sinceReport.map (· + 1) }
            ghm := { s.ghm with interval := { s.ghm.interval with planned := planned s.ghm.interval.planned } }
            mpl := { s.mpl with presence := s.mpl.presence.map fun x => { x with left := x.left - 1 } }
            plan :=
              { s.plan with
                wear := wear
                interval :=
                  { i with
                    planned := planned i.planned
                    producing := if s.ccu.op.regime = .producing then min (i.producing + 1) 600 else i.producing
                    powerSum :=
                      if s.ccu.op.regime = .producing then i.powerSum + s.ccu.op.power.getD 0 else i.powerSum } } })) ∧
    (∀ (c : Fin 16) (now : Timestamp), TasksOrdered s → s.cal = some now → componentGrade s c = 2 →
      s.plan.wear[c].grade2Duration = 86399 → s.plan.tasks.length + before c < 32 →
      (∀ x ∈ s.plan.tasks, x.trigger = .condition → x.component ≠ c) →
      ∃ t, exec .operationSecond s = .next t ∧ t.plan.wear[c].grade2Duration = 86400 ∧
        ∃ x ∈ t.plan.tasks, x.trigger = .condition ∧ x.component = c ∧ x.origin = .part ∧ x.kind = .inspect ∧
          x.intervalDays = some s.plan.config[c].conditionDays ∧ x.lastDone = now.day ∧ x.created = now.day ∧
          x.notice = 0 ∧ x.grace = 0 ∧ x.derate = none ∧ ∀ y ∈ s.plan.tasks, y.id ≠ x.id) ∧
    (∀ (c : Fin 16) (now : Timestamp), s.cal = some now → componentGrade s c = 2 →
      s.plan.wear[c].grade2Duration = 86399 → s.plan.tasks.length ≤ 32 → 32 ≤ s.plan.tasks.length + before c →
      (∀ x ∈ s.plan.tasks, x.trigger = .condition → x.component ≠ c) →
      ∃ t, exec .operationSecond s = .next t ∧ t.plan.wear[c].grade2Duration = 86400 ∧ t.mpl.waiting[c] = true ∧
        (s.plan.tasks.length = 32 → t.plan.tasks = s.plan.tasks ∧
          (HasRoom .taskTableFull .mpl s → AlarmActive .taskTableFull .mpl t)))) ∧
  (∀ (s : State),
    let next (t : Timestamp) : Timestamp :=
      if t.sec < 86399 then ⟨t.day, t.sec + 1⟩ else if t.day < 65535 then ⟨t.day + 1, 0⟩ else t
    (s.ret.powered = false → s.ret.retention = false → exec .batteryClockSecond s = .next s) ∧
    ((s.ret.powered = true ∨ s.ret.retention = true) →
      exec .batteryClockSecond s = .next { s with cal := s.cal.map next }))

/-- MAIN_POWER_LOSS has no effect without main power; with it the part is without power and operation, every retained
section and the reading are as they were, and no capture, request, alarm, presence, override, held frame or asserted
line is left; the reset input is as it was, and the retention indication too unless the battery fell while main
power was present, which is seen now. RESET_ASSERT has no effect while the input is asserted and otherwise does the
same with the input asserted and the supply and the indication as they were. Where the event that waits next is cut
short after its updates of some sections (log entry 8), each of these is as that event's command leaves it, and
every other as it was. After any command but POWER_ON, RESET_RELEASE and BATTERY_CLOCK_SECOND, a section's check
word matches exactly if it matched before or the command changed the section. BATTERY_RETENTION_LOSS clears the
retention indication without main power; with it, it leaves the indication and every section as they are and is only
remembered. While the part does not operate, every command other than POWER_ON, MAIN_POWER_LOSS,
BATTERY_RETENTION_LOSS, RESET_ASSERT, RESET_RELEASE and BATTERY_CLOCK_SECOND has no effect. Model's choices: log
entries 8, 11, 14, 43, 49. -/
def Obligations.SupplyAndReset : Prop :=
  ∀ (s : State),
    let words (t : State) : CheckWords :=
      { config := s.check.config || t.cfg ≠ s.cfg
        monitor := s.check.monitor || t.mon ≠ s.mon
        plan := s.check.plan || t.plan ≠ s.plan
        records := s.check.records || t.records ≠ s.records
        calendar := s.check.calendar || t.cal ≠ s.cal }
    let supplies (c : Instr) : Prop :=
      (∃ k r b, c = .powerOn k r b) ∨ c = .mainPowerLoss ∨ c = .batteryRetentionLoss ∨ c = .resetAssert ∨
        c = .batteryClockSecond
    let made (k : RetSection) : Bool := s.cutAfter.contains k
    let cut (u : State) : State :=
      { s with
        cfg := if made .config then u.cfg else s.cfg
        mon := if made .monitor then u.mon else s.mon
        plan := if made .plan then u.plan else s.plan
        records := if made .records then u.records else s.records
        cal := if made .calendar then u.cal else s.cal }
    let lost (u t : State) : Prop :=
      HeldFrom u t ∧ t.ret.powered = false ∧ t.ret.retention = (s.ret.retention && !s.ret.batteryFell) ∧
        t.ret.batteryFell = false ∧ t.ret.resetAsserted = s.ret.resetAsserted ∧ t.cutAfter = []
    let held (u t : State) : Prop :=
      HeldFrom u t ∧ t.ret.resetAsserted = true ∧ t.ret.powered = s.ret.powered ∧ t.ret.retention = s.ret.retention ∧
        t.ret.batteryFell = s.ret.batteryFell ∧ t.cutAfter = []
    let whole : Prop := s.cutAfter = [] ∨ s.pending = [] ∨ ∃ c rest, s.pending = c :: rest ∧ supplies c
    (∀ (c : Instr) (t : State), (∀ k r b, c ≠ .powerOn k r b) → (∀ b, c ≠ .resetRelease b) → c ≠ .batteryClockSecond →
      exec c s = .next t → t.check = words t) ∧
    (s.ret.powered = false → exec .mainPowerLoss s = .next s) ∧
    (s.ret.powered = true →
      (whole → ∃ t, exec .mainPowerLoss s = .next t ∧ lost s t) ∧
      (∀ c rest u, s.pending = c :: rest → ¬ supplies c → exec c { s with pending := rest } = .next u →
        ∃ t, exec .mainPowerLoss s = .next t ∧ lost (cut u) t)) ∧
    (s.ret.resetAsserted = true → exec .resetAssert s = .next s) ∧
    (s.ret.resetAsserted = false →
      (whole → ∃ t, exec .resetAssert s = .next t ∧ held s t) ∧
      (∀ c rest u, s.pending = c :: rest → ¬ supplies c → exec c { s with pending := rest } = .next u →
        ∃ t, exec .resetAssert s = .next t ∧ held (cut u) t)) ∧
    exec .batteryRetentionLoss s =
      .next (if s.ret.powered then { s with ret := { s.ret with batteryFell := true } }
        else { s with ret := { s.ret with retention := false } }) ∧
    (s.ret.operating = false →
      ∀ c : Instr, (∀ k r b, c ≠ .powerOn k r b) → c ≠ .mainPowerLoss → c ≠ .batteryRetentionLoss → c ≠ .resetAssert →
        (∀ b, c ≠ .resetRelease b) → c ≠ .batteryClockSecond → exec c s = .next s)

/-- POWER_ON without main power, the reset input released, starts the part: all five sections fail without retention,
otherwise those damaged without power and those whose check word mismatches; every word then matches, the cause is
POWER_ON or, where one failed, POWER_ON_LOST, and the ports have the strapped rates. RESET_RELEASE of an asserted
input with main power starts it as RESET_LINE with nothing lost, unless power came under reset;
SERVICE_RESTART_START after an accepted RESTART whose reply is sent as SERVICE_RESTART. Each start leaves
(StartedFrom): the failed sections at their defaults and the others as they were, bands agreeing with the
configuration, the ceiling's number counted; in PLAN the planned end afresh, grade-2 time only at grade 2, the open
day dated or closed, and the tasks of R176, settled; PTU, GHM, GVM, BIM, AFE, SPE, RCH, operating record and ports
at their start values, and each channel in the fault state of its first bias; the grades and contributions posted,
the ceiling their least; an alarm for each one implied, in order, until the table is full, then overflows; START,
CEILING_CHANGED and, with an alarm, ALARM_RAISED. A start cut short, by the reset input (the part is held under
reset) or a loss of power, leaves no work and the defaults written by then, the others keeping contents their check
words do not match; the configuration, reading, icing state, ring and history are otherwise as they were, the
ceiling's number counted exactly if stage 5 has come to its last action and its update of MONITOR. POWER_ON with
main power, RESET_RELEASE of a released input, and SERVICE_RESTART_START without an accepted RESTART have no effect.
RESTART with presence answers OK and only awaits its start. Model's choices: log entries 7, 8, 9, 11, 14, 16, 17,
24, 25, 35, 46, 47, 57, 66, 76, 77. -/
def Obligations.Starts : Prop :=
  ∀ (s : State),
    let words (t : State) : CheckWords :=
      { config := s.check.config || t.cfg ≠ s.cfg
        monitor := s.check.monitor || t.mon ≠ s.mon
        plan := s.check.plan || t.plan ≠ s.plan
        records := s.check.records || t.records ≠ s.records
        calendar := s.check.calendar || t.cal ≠ s.cal }
    let matching (l : List RetSection) : CheckWords :=
      { config := !l.contains .config, monitor := !l.contains .monitor, plan := !l.contains .plan
        records := !l.contains .records, calendar := !l.contains .calendar }
    let started (r : RetState) (t : State) : RetState :=
      { r with operating := true, restartAccepted := false, startRecord := t.ret.startRecord }
    (∀ (corrupt : List RetSection) (straps : PerPort (BitVec 2)) (x : StartInput),
      let all : List RetSection := [.config, .monitor, .plan, .records, .calendar]
      let failed := if s.ret.retention then
          all.filter fun k => corrupt.contains k || match k with
            | .config => !s.check.config
            | .monitor => !s.check.monitor
            | .plan => !s.check.plan
            | .records => !s.check.records
            | .calendar => !s.check.calendar
        else all
      let cause : StartCause := if failed = [] then .powerOn else .powerOnLost
      (s.ret.powered = true → exec (.powerOn corrupt straps x) s = .next s) ∧
      (s.ret.powered = false → s.ret.resetAsserted = false → x.abandonedAfter = none →
        ∃ t, exec (.powerOn corrupt straps x) s = .next t ∧ StartedFrom cause failed x.bias s t ∧
          t.ret = started { s.ret with powered := true, retention := true, powerOnDue := none } t ∧ t.check = {} ∧
          ∀ p, (t.lnk.get p).rate = straps.get p) ∧
      (∀ k, s.ret.powered = false → s.ret.resetAsserted = false → x.abandonedAfter = some k →
        let done (c : RetSection) : Bool := failed.contains c && (1 ≤ k || x.updated.contains c)
        ∃ t, exec (.powerOn corrupt straps x) s = .next t ∧ CutStart done k x s t ∧
          t.ret.resetAsserted = !x.powerLost ∧ t.ret.powered = !x.powerLost ∧
          t.ret.retention = !(x.powerLost && s.ret.batteryFell) ∧
          t.check = matching (failed.filter fun c => !done c)) ∧
      (s.ret.powered = false → s.ret.resetAsserted = true →
        ∃ t, exec (.powerOn corrupt straps x) s = .next t ∧ t.ret.powered = true ∧ t.ret.retention = true ∧
          t.ret.powerOnDue = some failed ∧ t.check = matching failed ∧ t.ret.operating = s.ret.operating ∧ t.cfg = s.cfg ∧
          t.mon = s.mon ∧ t.plan = s.plan ∧ t.records = s.records ∧ t.cal = s.cal)) ∧
    (∀ x : StartInput,
      (s.ret.resetAsserted = false → exec (.resetRelease x) s = .next s) ∧
      (s.ret.resetAsserted = true → s.ret.powered = false →
        exec (.resetRelease x) s = .next { s with ret := { s.ret with resetAsserted := false } }) ∧
      (s.ret.resetAsserted = true → s.ret.powered = true → x.abandonedAfter = none →
        ∃ t, exec (.resetRelease x) s = .next t ∧
          t.ret = started { s.ret with resetAsserted := false, powerOnDue := none } t ∧
          (∀ p, (t.lnk.get p).rate = (s.lnk.get p).rate) ∧
          (s.ret.powerOnDue = none → StartedFrom .resetLine [] x.bias s t ∧ t.check = words t) ∧
          (∀ failed, s.ret.powerOnDue = some failed →
            StartedFrom (if failed = [] then .powerOn else .powerOnLost) failed x.bias s t ∧ t.check = {})) ∧
      (∀ k, s.ret.resetAsserted = true → s.ret.powered = true → x.abandonedAfter = some k →
        ∃ t, exec (.resetRelease x) s = .next t ∧ t.ret.resetAsserted = !x.powerLost ∧ t.ret.powered = !x.powerLost ∧
          (s.ret.powerOnDue = none → CutStart (fun _ => false) k x s t ∧ t.check = words t) ∧
          (∀ failed, s.ret.powerOnDue = some failed →
            let done (c : RetSection) : Bool := failed.contains c && (1 ≤ k || x.updated.contains c)
            CutStart done k x s t ∧ t.check = matching (failed.filter fun c => !done c))) ∧
      (¬ (s.ret.operating = true ∧ s.ret.restartAccepted = true ∧ s.lnk.sp.inWork = none) →
        exec (.serviceRestartStart x) s = .next s) ∧
      (s.ret.operating = true → s.ret.restartAccepted = true → s.lnk.sp.inWork = none →
        (x.abandonedAfter = none →
          ∃ t, exec (.serviceRestartStart x) s = .next t ∧ StartedFrom .serviceRestart [] x.bias s t ∧
            t.ret = started s.ret t ∧ ∀ p, (t.lnk.get p).rate = (s.lnk.get p).rate) ∧
        (∀ k, s.ret.powerOnDue = none → x.abandonedAfter = some k →
          ∃ t, exec (.serviceRestartStart x) s = .next t ∧ CutStart (fun _ => false) k x s t))) ∧
    (s.ret.operating = true → s.mpl.presence ≠ none →
      exec (.restart .sp) s = .next (answered .sp 0x45 (plain .ok)
        { s with ret := { s.ret with restartAccepted := true } }))

/-- A checked frame, with no request in work, is taken, counted and answered with its kind + 80h and its tag:
UNKNOWN_KIND for a kind outside the catalogue; REFUSED_PORT, counted, for one R195 does not admit on this port with
the presence held; RANGE or UNKNOWN_ITEM for a body that does not fit; otherwise as its owner judges, with the
owner's status, replaced flag and effect on the whole of the state but the ports' holding, and the owner's content
with OK and OK_DEFERRED only. A request that is a row of its own, on a port R195 does not admit, is answered and
counted REFUSED_PORT and nothing else changes. With a request in work and none waiting the frame waits; with both it
is dropped, counted, with the overrun flag for the next reply that has not begun and LINK_OVERRUN on this port
alone. REPLY_SENT without a request in work has no effect; otherwise the reply counts as sent with the flag as it
stood, its frame is on the line (3Ch, L, kind, tag, status, flags, notices, the ceiling on the control port,
content, CRC-16 high octet first), the flag is cleared but for a drop during the reply, and the waiting frame, if
any, is taken. After an accepted RESTART the service port takes no further frame. The other ports' holding is never
touched. Model's choices: log entries 25 (a row's reply stands apart from the reply the port owes to the request in
work), 33, 34, and 60 for the reply kind to a kind of 80h or above. -/
def Obligations.PortHolding : Prop :=
  ∀ (p : Port) (s : State), s.ret.operating = true →
    let x := s.lnk.get p
    let mayTake : Prop := p ≠ .sp ∨ s.ret.restartAccepted = false
    let k (f : Frame) : Nat := f.kind.toNat
    let known (n : Nat) : Prop :=
      1 ≤ n ∧ n ≤ 0x0e ∨ n = 0x20 ∨ n = 0x21 ∨ 0x30 ≤ n ∧ n ≤ 0x39 ∨ 0x40 ≤ n ∧ n ≤ 0x45
    let admitted (n : Nat) (s : State) : Prop :=
      1 ≤ n ∧ n ≤ 0x0e ∨ (n = 0x20 ∨ n = 0x21) ∧ p = .cp ∨ 0x30 ≤ n ∧ n ≤ 0x32 ∧ FarmOrPresence p s ∨
        0x33 ≤ n ∧ n ≤ 0x39 ∧ p = .fp ∨ (n = 0x40 ∨ n = 0x41) ∧ p = .sp ∨
        0x42 ≤ n ∧ n ≤ 0x45 ∧ ServicePresence p s
    let judged (f : Frame) (s t : State) : Prop :=
      let reply := (t.lnk.get p).owed
      let bare (st : Status) : Prop :=
        reply.map (fun r => (r.status, r.replaced, r.content)) = some (st, false, []) ∧ t = { s with lnk := t.lnk } ∧
          t.lnk.get p = { s.lnk.get p with inWork := some f, owed := reply, counters := (t.lnk.get p).counters } ∧
          ∀ q, q ≠ p → t.lnk.get q = s.lnk.get q
      (t.lnk.get p).inWork = some f ∧
        reply.map (fun r => (r.kind, r.tag)) = some (f.kind + 0x80, f.tag) ∧
        reply.map (·.notices) = some (t.lnk.get p).notices ∧
        reply.bind (·.ceiling) =
          (if p = .cp then some (t.ccu.ceiling.getD 0, t.mon.ceilingSeq, t.ccu.acknowledged) else none) ∧
        (t.lnk.get p).counters.taken = min ((s.lnk.get p).counters.taken + 1) 65535 ∧
        (¬ known (k f) → bare .unknownKind) ∧
        (known (k f) → ¬ admitted (k f) s →
          bare .refusedPort ∧
            (t.lnk.get p).counters.refusedPort = min ((s.lnk.get p).counters.refusedPort + 1) 65535) ∧
        (admitted (k f) s → ∀ st, parseRequest f.kind f.body = .error st → bare st ∧ (st = .range ∨ st = .unknownItem)) ∧
        (admitted (k f) s → ∀ r, parseRequest f.kind f.body = .ok r →
          ∃ x a, handle p r (withPort p (fun y =>
              { y with inWork := some f, counters := { y.counters with taken := min (y.counters.taken + 1) 65535 } }) s) =
                (x, a) ∧
            reply.map (fun r => (r.status, r.replaced, r.content)) =
              some (a.status, a.replaced, if a.status = .ok ∨ a.status = .okDeferred then a.content else []) ∧
            t = rechecked s { x with lnk := t.lnk } ∧ (∀ q, q ≠ p → t.lnk.get q = x.lnk.get q) ∧
            t.lnk.get p = { x.lnk.get p with owed := reply })
    let octets (r : Reply) : List Octet :=
      let header : List Octet :=
        [BitVec.ofNat 8 (statusCode r.status), BitVec.ofNat 8 (r.overrun.toNat + 2 * r.replaced.toNat)] ++
          encNat 2 r.notices.toNat ++ (match r.ceiling with
            | none => []
            | some (v, n, ack) => [BitVec.ofNat 8 v] ++ encNat 2 n ++ [if ack then 1 else 0])
      let covered := BitVec.ofNat 8 (2 + header.length + r.content.length) :: r.kind :: r.tag :: (header ++ r.content)
      [0x3c] ++ covered ++ encNat 2 (crc16 covered).toNat
    let sent : State := withPort p (fun y =>
      { y with
        inWork := none
        owed := none
        transmitted := match y.owed with
          | none => y.transmitted
          | some r => octets { r with overrun := y.overrun }
        overrun := y.overrunAgain
        overrunAgain := false
        counters := { y.counters with sent := min (y.counters.sent + 1) 65535 } }) s
    let listening : State := withPort p (fun y => { y with receiver := .hunting }) s
    (∀ (c : Instr) (n : Nat), requestRow c = some (p, n) → known n ∧
      (¬ admitted n s →
        exec c s = .next (answered p (BitVec.ofNat 8 n) (plain .refusedPort) (withPort p (fun y =>
          { y with counters := { y.counters with refusedPort := min (y.counters.refusedPort + 1) 65535 } }) s)))) ∧
    (∀ (f : Frame) (sending : Bool),
      (x.inWork = none → mayTake →
        ∃ t, exec (.frameChecked p f sending) s = .next t ∧ judged f listening t ∧
          (t.lnk.get p).waiting = x.waiting ∧ (t.lnk.get p).receiver = .hunting) ∧
      ((x.inWork ≠ none ∨ ¬ mayTake) → x.waiting = none →
        exec (.frameChecked p f sending) s = .next
          (withPort p (fun y => { y with receiver := .hunting, waiting := some f }) s)) ∧
      ((x.inWork ≠ none ∨ ¬ mayTake) → x.waiting ≠ none →
        ∃ t, exec (.frameChecked p f sending) s = .next t ∧ t = { s with lnk := t.lnk } ∧
          (t.lnk.get p).inWork = x.inWork ∧ (t.lnk.get p).waiting = x.waiting ∧
          (t.lnk.get p).overrun = (x.overrun || !sending) ∧
          (t.lnk.get p).overrunAgain = (x.overrunAgain || sending) ∧
          (t.lnk.get p).counters = { x.counters with overruns := min (x.counters.overruns + 1) 65535 } ∧
          (t.lnk.get p).notices = x.notices ||| 0x200#16 ∧
          ∀ q, q ≠ p → (t.lnk.get q).notices = (s.lnk.get q).notices ∧ (t.lnk.get q).inWork = (s.lnk.get q).inWork ∧
            (t.lnk.get q).waiting = (s.lnk.get q).waiting)) ∧
    (x.inWork = none → exec (.replySent p) s = .next s) ∧
    (x.inWork ≠ none → (x.waiting = none ∨ ¬ mayTake) → exec (.replySent p) s = .next sent) ∧
    (∀ f, x.inWork ≠ none → x.waiting = some f → mayTake →
      ∃ t, exec (.replySent p) s = .next t ∧ (t.lnk.get p).waiting = none ∧
        judged f (withPort p (fun y => { y with waiting := none }) sent) t)

/-- OCTET_RECEIVED while HUNTING starts a frame on 3Ch and otherwise changes nothing. The first octet after it is the
length: 0 or above 250 returns to HUNTING with one check failure; any other length L is kept and L + 2 more octets
are collected, whatever their values. At the last of them, if the two last octets are the CRC-16 of the octets from
the length on and L is at least 2, the effect is that of FRAME_CHECKED with their kind, tag and body; otherwise the
receiver is HUNTING with one check failure counted and nothing else changed. FRAME_CHECK_FAILURE does just that.
OCTET_GAP_TIMEOUT while RECEIVING returns to HUNTING and counts a timeout, and while HUNTING changes nothing. The
CRC-16 is FFFFh over no octet, and a further octet is joined to the high half of the check by exclusive or, followed
by eight steps that each shift left by one and, where a 1 leaves, join 1021h. Model's choices: log entry 32. -/
def Obligations.ReceiverFrames : Prop :=
  crc16 [] = 0xffff#16 ∧
  (∀ (l : List Octet) (x : Octet),
    let shifted (c : BitVec 16) : BitVec 16 := if c.getLsbD 15 then (c <<< 1) ^^^ 0x1021#16 else c <<< 1
    crc16 (l ++ [x]) = shifted^[8] (crc16 l ^^^ (x.setWidth 16 <<< 8))) ∧
  ∀ (p : Port) (s : State), s.ret.operating = true →
    let x := s.lnk.get p
    let failed : State := withPort p (fun y =>
      { y with
        receiver := .hunting
        counters := { y.counters with checkFailures := min (y.counters.checkFailures + 1) 65535 } }) s
    exec (.frameCheckFailure p) s = .next failed ∧
    (x.receiver = .hunting → exec (.octetGapTimeout p) s = .next s) ∧
    (x.receiver ≠ .hunting →
      exec (.octetGapTimeout p) s = .next (withPort p (fun y =>
        { y with
          receiver := .hunting
          counters := { y.counters with timeouts := min (y.counters.timeouts + 1) 65535 } }) s)) ∧
    (∀ (o : Octet) (sending : Bool),
      let collecting (l : List Octet) : State := withPort p (fun y => { y with receiver := .receiving l }) s
      (x.receiver = .hunting →
        exec (.octetReceived p o sending) s = .next (if o = 0x3c then collecting [] else s)) ∧
      (x.receiver = .receiving [] →
        exec (.octetReceived p o sending) s =
          .next (if 1 ≤ o.toNat ∧ o.toNat ≤ 250 then collecting [o] else failed)) ∧
      (∀ (len : Octet) (l : List Octet), x.receiver = .receiving (len :: l) → 1 ≤ len.toNat → len.toNat ≤ 250 →
        (l.length < len.toNat + 1 →
          exec (.octetReceived p o sending) s = .next (collecting (len :: l ++ [o]))) ∧
        (∀ (inner : List Octet) (hi : Octet), l = inner ++ [hi] → inner.length = len.toNat →
          (crc16 (len :: inner) = hi ++ o → ∀ kind tag body, inner = kind :: tag :: body →
            exec (.octetReceived p o sending) s = exec (.frameChecked p ⟨kind, tag, body⟩ sending) s) ∧
          ((crc16 (len :: inner) ≠ hi ++ o ∨ len.toNat = 1) →
            exec (.octetReceived p o sending) s = .next failed))))

/-- On any port: a collection read (alarms, snapshots, bands, grid records, components, tasks, history) passes over the
items skipped, answers as many whole items as fit in the reply with their count, and the number left, and changes
nothing else; READ_DAY_SUMMARIES takes up to the count of the stored days at or after the one named, oldest first,
each with the ten fields of R161, and gives the open day and the undated tally where none is left and they fit.
READ_STATUS and READ_ICING answer the part named with its number and the number of parts, RANGE for a part at or
beyond it. READ_CONFIG answers the item's value or UNKNOWN_ITEM, READ_CEILING the ceiling, number, flag,
contributions and wait. READ_NOTICES answers the port's set as it stood and empties it, with the header showing it
emptied and no other set changed. WRITE of a notice mask, where farm or service with presence may write, answers
RANGE without change with any of bits 10..15 set, and otherwise holds the mask, the line following it and CONFIG's
check word matching after a change, and no set changes. The octets are those of R199, high octet first: an alarm
entry takes 21; an empty slot is a presence octet 0 and 212 zeros, a filled one 1, its lock mark and its record from
number, time, trigger and operating record on; a band, a compliance record, a component, a task and a history entry
have the fields of R85, R101, R174, R165 and R173 in order; so have the CCU status, the start record, and as
configuration items the trims, the band configurations, the HEATER_OFF set and the component configurations. Model's
choices: log entries 11, 25, 36, 37, 38, 56, 63, 65 and 68; that READ_GRID_RECORDS answers OK for every timestamp, a
second above 86399 included, is the model's own (log entry 54). -/
def Obligations.ReadsAndMasks : Prop :=
  ∀ (p : Port) (s : State), s.ret.operating = true →
    let room : Nat := if p = .cp then 240 else 244
    let o1 (n : Nat) : Octet := BitVec.ofNat 8 n
    let collection (kind : Octet) (before : List Octet) (skip : Nat) (items : List (List Octet)) (c : Instr) : Prop :=
      let rest := items.drop skip
      ∃ k left,
        exec c s = .next (answered p kind
          { status := .ok, content := before ++ [o1 k] ++ (rest.take k).flatten ++ [o1 left] } s) ∧
        k + left = items.length - skip ∧ before.length + 2 + (rest.take k).flatten.length ≤ room ∧
        (0 < left → room < before.length + 2 + (rest.take (k + 1)).flatten.length)
    let part (kind : Octet) (before status : List Octet) (n : Nat) (c : Instr) : Prop :=
      let parts := (status.length + 235) / 236
      exec c s = .next (answered p kind
        (if n < parts then
          { status := .ok, content := before ++ [o1 n, o1 parts] ++ (status.drop (n * 236)).take 236 }
        else plain .range) s)
    (∀ n, collection 0x04
      ([o1 s.ccu.alarms.length, if s.ccu.tableOverflow then 1 else 0] ++ encNat 2 s.ccu.counters.overflows) n
      (s.ccu.alarms.map encAlarm) (.readAlarms p n)) ∧
    (∀ n, collection 0x06 [] n (s.records.slots.toList.map encSlot) (.readSnapshot p .all n)) ∧
    (∀ (i : Fin 8) n, collection 0x06 [] n [encSlot s.records.slots[i]] (.readSnapshot p (.one i.val) n)) ∧
    (∀ n, collection 0x08 [] n ((List.finRange 24).map (encBand s)) (.readBands p .all n)) ∧
    (∀ (i : Fin 24) n, collection 0x08 [] n [encBand s i] (.readBands p (.one i.val) n)) ∧
    (∀ t count n, 1 ≤ count → count ≤ 144 →
      collection 0x09 [] n
        (((s.records.ring.filter fun r => (r.intervalEnd.map fun e => !e.before t).getD false).take count).map encRecord)
        (.readGridRecords p t count n)) ∧
    (∀ n, collection 0x0b [] n ((List.finRange 16).map (encComponentRecord s)) (.readComponents p .all n)) ∧
    (∀ (i : Fin 16) n, collection 0x0b [] n [encComponentRecord s i] (.readComponents p (.one i.val) n)) ∧
    (∀ n, collection 0x0c [] n (s.plan.tasks.map (encTask s)) (.readTasks p .all n)) ∧
    (∀ x n, findTask x.id s = some x → collection 0x0c [] n [encTask s x] (.readTasks p (.one x.id) n)) ∧
    (∀ count n, 1 ≤ count → count ≤ 64 →
      collection 0x0e [] n ((s.plan.history.drop (s.plan.history.length - count)).map encHistory)
        (.readHistory p count n)) ∧
    (∀ day count n, 1 ≤ count → count ≤ 31 →
      let fields (r : DayRecord) : List Octet :=
        encNat 4 r.producing ++ r.damage.toList.flatMap (encNat 4) ++ r.maxGrade.toList.map o1 ++
          ([r.icedMinutes, r.suspectMinutes, r.exceedances, r.disturbed, r.alarms, r.skips].flatMap (encNat 2))
      let tail : List Octet :=
        (match s.plan.openDay.day with
          | none => [0, 0, 0]
          | some d => [1] ++ encNat 2 d) ++ fields s.plan.openDay.record ++ fields s.plan.undated
      let items := (((s.plan.days.filter fun d => day ≤ d.day).take count).map
        fun d => encNat 2 d.day ++ fields d.record)
      let rest := items.drop n
      ∃ k left,
        exec (.readDaySummaries p day count n) s = .next (answered p 0x0d
          { status := .ok
            content := [o1 k] ++ (rest.take k).flatten ++
              (if left = 0 ∧ 2 + (rest.take k).flatten.length + tail.length ≤ room then tail else []) ++ [o1 left] } s) ∧
        k + left = items.length - n ∧ 2 + (rest.take k).flatten.length ≤ room ∧
        (0 < left → room < 2 + (rest.take (k + 1)).flatten.length)) ∧
    (∀ e, encAlarm e = alarmOctets e ∧ (encAlarm e).length = 21) ∧
    encSlot none = List.replicate 213 0 ∧
    (∀ x, ∃ rest, (encSlot (some x)).length = 213 ∧ encSlot (some x) =
      [1] ++ flag x.locked ++ two x.record.number ++ stampOr x.record.time ++ [codeNumber x.record.code] ++
        sourceOctets x.record.source ++ operatingOctets x.record.op ++ rest) ∧
    (∀ b, encBand s b = bandOctets s b) ∧ (∀ r, encRecord r = recordOctets r) ∧
    (∀ c, encComponentRecord s c = componentOctets s c) ∧ (∀ x, encTask s x = taskOctets s x) ∧
    (∀ e, encHistory e = historyOctets e) ∧
    blockStatus .ccu s = ccuOctets s ∧ (∀ r, s.ret.startRecord = some r → blockStatus .ret s = startOctets r) ∧
    (∀ i : Fin 11, readItem s 1 i.val = some (twoSigned s.cfg.trims[i])) ∧
    (∀ i : Fin 24, readItem s 5 i.val = some (bandConfigOctets s.cfg.bands[i])) ∧
    readItem s 9 5 = some (thresholdOctets s.cfg.bim.heaterOff) ∧
    (∀ i : Fin 16, readItem s 11 i.val = some (componentConfigOctets s.plan.config[i])) ∧
    (∀ b n, part 0x01 [o1 (blockCode b)] (blockStatus b s) n (.readStatus p b n)) ∧
    (∀ n, part 0x0a [] (bimStatus s) n (.readIcing p n)) ∧
    (∀ g i, exec (.readConfig p g i) s = .next (answered p 0x07
      (match readItem s g i with
        | none => plain .unknownItem
        | some v => { status := .ok, content := v }) s)) ∧
    exec (.readCeiling p) s = .next (answered p 0x03
      { status := .ok
        content :=
          [o1 (s.ccu.ceiling.getD 0)] ++ encNat 2 s.mon.ceilingSeq ++ [if s.ccu.acknowledged then 1 else 0] ++
          [o1 (s.ccu.contributions.icing.getD 0), o1 (s.ccu.contributions.gearbox.getD 0),
            o1 (s.ccu.contributions.grid.getD 0), o1 (s.ccu.contributions.planner.getD 0)] ++
          (match s.ccu.ackTimer with
            | none => [0, 0, 0, 0, 0]
            | some n => [1] ++ encNat 4 n) } s) ∧
    (∃ t, exec (.readNotices p) s = .next t ∧ t = { s with lnk := t.lnk } ∧ (t.lnk.get p).notices = 0 ∧
      (t.lnk.get p).attention = false ∧
      (t.lnk.get p).reply.map (fun r => (r.status, r.notices, r.content)) =
        some (.ok, 0, encNat 2 (s.lnk.get p).notices.toNat) ∧
      ∀ q, q ≠ p → (t.lnk.get q).notices = (s.lnk.get q).notices) ∧
    (∀ (target : Port) (m : NoticeSet), FarmOrPresence p s →
      (m &&& 0xfc00#16 ≠ 0 → exec (.writeNoticeMask p target m) s = .next (answered p 0x31 (plain .range) s)) ∧
      (m &&& 0xfc00#16 = 0 →
        ∃ t, exec (.writeNoticeMask p target m) s = .next t ∧
          t = rechecked s { s with cfg := { s.cfg with masks := s.cfg.masks.set target m }, lnk := t.lnk } ∧
          (t.lnk.get target).attention = ((s.lnk.get target).notices &&& m != 0) ∧
          (t.lnk.get p).reply.map (·.status) = some .ok ∧ ∀ q, (t.lnk.get q).notices = (s.lnk.get q).notices))

/-- For every command c, queue rest and state s: the step of s with c at the front of its queue and rest behind it is
exec of c on s with the queue rest. On an empty queue with a conversion instant to come, the step takes it: without
operation nothing else changes; in operation every capture that is FILLING takes it under the trims in force, the
grid ones at every fourth instant (R1), and where none of them then has its last sample nothing else changes. With
no conversion to come the step answers the same state. That a step on an empty queue takes a conversion or idles is
the model's choice (log entry 2). -/
def Obligations.StepTakesFront : Prop :=
  (∀ (c : Instr) (rest : List Instr) (s : State),
    step { s with pending := c :: rest } = exec c { s with pending := rest }) ∧
  (∀ s : State, s.pending = [] → s.conversions = [] → step s = .next s) ∧
  (∀ (c : Conversion) (rest : List Conversion) (s : State), s.pending = [] → s.conversions = c :: rest →
    (s.ret.operating = false → step s = .next { s with conversions := rest }) ∧
    (s.ret.operating = true →
      let grid : Bool := s.afe.sinceGrid = 0
      let t : State :=
        { s with
          conversions := rest
          afe :=
            { s.afe with
              sinceGrid := (s.afe.sinceGrid + 1) % 4
              buffers := s.afe.buffers.map fun b => match b with
                | .filling r =>
                  .filling (r.convert (match r.kind with
                    | .fixed ch _ _ => [s.cfg.trims[trimIndex ch]]
                    | .window =>
                      [s.cfg.trims[5], s.cfg.trims[6], s.cfg.trims[7], s.cfg.trims[8], s.cfg.trims[9], s.cfg.trims[10]])
                    grid c)
                | b => b } }
      (∀ (b : BufferId) (r : CaptureRecord), bufferOf t b = .filling r →
        (∀ ch d n, r.kind = .fixed ch d n → r.group.length < (n - r.stored) * d) ∧
        (r.kind = .window → r.stored < 1600)) →
      step s = .next t))

/-- Right after reset each attention line follows its set and mask, the alarm table is keyed, the ceiling is the least
contribution, no request waits on an idle engine, the supply and the reset input allow operation, the tasks are in
order, and the stores are within their sizes. The reset state is that of log entry 1: a power-on at which every
section was found lost, with every bias in range. -/
def Obligations.ResetMeetsInvariants : Prop :=
  LinesFollow State.reset ∧ AlarmsKeyed State.reset ∧ CeilingIsLeast State.reset ∧ EngineServes State.reset ∧
    SupplyHolds State.reset ∧ TasksOrdered State.reset ∧ StoresBounded State.reset

/-- From every state that meets them, a step that answers a next state answers one in which the part operates only with
main power and with the reset input released; each port's attention line is asserted exactly while the part operates
and some category is both in the port's set and in its mask; and, while the part operates, the ceiling is the least
of the four contributions. The queue of the next state is the queue without its front command. -/
def Obligations.StepKeepsPublishedState : Prop :=
  ∀ s t : State, SupplyHolds s → LinesFollow s → CeilingIsLeast s → step s = .next t →
    SupplyHolds t ∧ LinesFollow t ∧ CeilingIsLeast t ∧ t.pending = s.pending.tail

/-- From every state that meets them, a step that answers a next state answers one in which the alarm table has at most
32 entries with no two of one code and source; the task table has at most 32 tasks in rising order of id (that it is
kept in this order is the model's choice, log entry 7; R165 says that no two ids are the same); the compliance ring
has at most 144 records, the score ring 10 scores, the day ring 31 summaries with rising days, the history 64
entries, and at most 6 snapshots are locked; and no request waits while the engine is IDLE. -/
def Obligations.StepKeepsStores : Prop :=
  ∀ s t : State, AlarmsKeyed s → TasksOrdered s → StoresBounded s → EngineServes s → step s = .next t →
    AlarmsKeyed t ∧ TasksOrdered t ∧ StoresBounded t ∧ EngineServes t
end

