-- ==== Sys2Proof/Laws/State.lean ====
section
/-! SUPPORT. What the plain updates of the state leave alone and what they write: one lemma for each field of each
update, true by unfolding, so that no proof unfolds a record update. -/

namespace Sys2Proof.Machine

/-! `refreshLines` -/

@[simp] theorem refreshLines_pending (s : State) : (refreshLines s).pending = s.pending := rfl
@[simp] theorem refreshLines_conversions (s : State) : (refreshLines s).conversions = s.conversions := rfl
@[simp] theorem refreshLines_cutAfter (s : State) : (refreshLines s).cutAfter = s.cutAfter := rfl
@[simp] theorem refreshLines_cfg (s : State) : (refreshLines s).cfg = s.cfg := rfl
@[simp] theorem refreshLines_mon (s : State) : (refreshLines s).mon = s.mon := rfl
@[simp] theorem refreshLines_plan (s : State) : (refreshLines s).plan = s.plan := rfl
@[simp] theorem refreshLines_records (s : State) : (refreshLines s).records = s.records := rfl
@[simp] theorem refreshLines_cal (s : State) : (refreshLines s).cal = s.cal := rfl
@[simp] theorem refreshLines_check (s : State) : (refreshLines s).check = s.check := rfl
@[simp] theorem refreshLines_afe (s : State) : (refreshLines s).afe = s.afe := rfl
@[simp] theorem refreshLines_ptu (s : State) : (refreshLines s).ptu = s.ptu := rfl
@[simp] theorem refreshLines_rch (s : State) : (refreshLines s).rch = s.rch := rfl
@[simp] theorem refreshLines_spe (s : State) : (refreshLines s).spe = s.spe := rfl
@[simp] theorem refreshLines_gvm (s : State) : (refreshLines s).gvm = s.gvm := rfl
@[simp] theorem refreshLines_ghm (s : State) : (refreshLines s).ghm = s.ghm := rfl
@[simp] theorem refreshLines_bim (s : State) : (refreshLines s).bim = s.bim := rfl
@[simp] theorem refreshLines_ccu (s : State) : (refreshLines s).ccu = s.ccu := rfl
@[simp] theorem refreshLines_mpl (s : State) : (refreshLines s).mpl = s.mpl := rfl
@[simp] theorem refreshLines_ret (s : State) : (refreshLines s).ret = s.ret := rfl

/-! `setNotice` -/

@[simp] theorem setNotice_pending (n : Notice) (s : State) : (setNotice n s).pending = s.pending := rfl
@[simp] theorem setNotice_conversions (n : Notice) (s : State) : (setNotice n s).conversions = s.conversions := rfl
@[simp] theorem setNotice_cutAfter (n : Notice) (s : State) : (setNotice n s).cutAfter = s.cutAfter := rfl
@[simp] theorem setNotice_cfg (n : Notice) (s : State) : (setNotice n s).cfg = s.cfg := rfl
@[simp] theorem setNotice_mon (n : Notice) (s : State) : (setNotice n s).mon = s.mon := rfl
@[simp] theorem setNotice_plan (n : Notice) (s : State) : (setNotice n s).plan = s.plan := rfl
@[simp] theorem setNotice_records (n : Notice) (s : State) : (setNotice n s).records = s.records := rfl
@[simp] theorem setNotice_cal (n : Notice) (s : State) : (setNotice n s).cal = s.cal := rfl
@[simp] theorem setNotice_check (n : Notice) (s : State) : (setNotice n s).check = s.check := rfl
@[simp] theorem setNotice_afe (n : Notice) (s : State) : (setNotice n s).afe = s.afe := rfl
@[simp] theorem setNotice_ptu (n : Notice) (s : State) : (setNotice n s).ptu = s.ptu := rfl
@[simp] theorem setNotice_rch (n : Notice) (s : State) : (setNotice n s).rch = s.rch := rfl
@[simp] theorem setNotice_spe (n : Notice) (s : State) : (setNotice n s).spe = s.spe := rfl
@[simp] theorem setNotice_gvm (n : Notice) (s : State) : (setNotice n s).gvm = s.gvm := rfl
@[simp] theorem setNotice_ghm (n : Notice) (s : State) : (setNotice n s).ghm = s.ghm := rfl
@[simp] theorem setNotice_bim (n : Notice) (s : State) : (setNotice n s).bim = s.bim := rfl
@[simp] theorem setNotice_ccu (n : Notice) (s : State) : (setNotice n s).ccu = s.ccu := rfl
@[simp] theorem setNotice_mpl (n : Notice) (s : State) : (setNotice n s).mpl = s.mpl := rfl
@[simp] theorem setNotice_ret (n : Notice) (s : State) : (setNotice n s).ret = s.ret := rfl

/-! `setPortNotice` -/

@[simp] theorem setPortNotice_pending (p : Port) (n : Notice) (s : State) : (setPortNotice p n s).pending = s.pending := rfl
@[simp] theorem setPortNotice_conversions (p : Port) (n : Notice) (s : State) : (setPortNotice p n s).conversions = s.conversions := rfl
@[simp] theorem setPortNotice_cutAfter (p : Port) (n : Notice) (s : State) : (setPortNotice p n s).cutAfter = s.cutAfter := rfl
@[simp] theorem setPortNotice_cfg (p : Port) (n : Notice) (s : State) : (setPortNotice p n s).cfg = s.cfg := rfl
@[simp] theorem setPortNotice_mon (p : Port) (n : Notice) (s : State) : (setPortNotice p n s).mon = s.mon := rfl
@[simp] theorem setPortNotice_plan (p : Port) (n : Notice) (s : State) : (setPortNotice p n s).plan = s.plan := rfl
@[simp] theorem setPortNotice_records (p : Port) (n : Notice) (s : State) : (setPortNotice p n s).records = s.records := rfl
@[simp] theorem setPortNotice_cal (p : Port) (n : Notice) (s : State) : (setPortNotice p n s).cal = s.cal := rfl
@[simp] theorem setPortNotice_check (p : Port) (n : Notice) (s : State) : (setPortNotice p n s).check = s.check := rfl
@[simp] theorem setPortNotice_afe (p : Port) (n : Notice) (s : State) : (setPortNotice p n s).afe = s.afe := rfl
@[simp] theorem setPortNotice_ptu (p : Port) (n : Notice) (s : State) : (setPortNotice p n s).ptu = s.ptu := rfl
@[simp] theorem setPortNotice_rch (p : Port) (n : Notice) (s : State) : (setPortNotice p n s).rch = s.rch := rfl
@[simp] theorem setPortNotice_spe (p : Port) (n : Notice) (s : State) : (setPortNotice p n s).spe = s.spe := rfl
@[simp] theorem setPortNotice_gvm (p : Port) (n : Notice) (s : State) : (setPortNotice p n s).gvm = s.gvm := rfl
@[simp] theorem setPortNotice_ghm (p : Port) (n : Notice) (s : State) : (setPortNotice p n s).ghm = s.ghm := rfl
@[simp] theorem setPortNotice_bim (p : Port) (n : Notice) (s : State) : (setPortNotice p n s).bim = s.bim := rfl
@[simp] theorem setPortNotice_ccu (p : Port) (n : Notice) (s : State) : (setPortNotice p n s).ccu = s.ccu := rfl
@[simp] theorem setPortNotice_mpl (p : Port) (n : Notice) (s : State) : (setPortNotice p n s).mpl = s.mpl := rfl
@[simp] theorem setPortNotice_ret (p : Port) (n : Notice) (s : State) : (setPortNotice p n s).ret = s.ret := rfl

/-! `withPort` -/

@[simp] theorem withPort_pending (p : Port) (f : PortState → PortState) (s : State) : (withPort p f s).pending = s.pending := rfl
@[simp] theorem withPort_conversions (p : Port) (f : PortState → PortState) (s : State) : (withPort p f s).conversions = s.conversions := rfl
@[simp] theorem withPort_cutAfter (p : Port) (f : PortState → PortState) (s : State) : (withPort p f s).cutAfter = s.cutAfter := rfl
@[simp] theorem withPort_cfg (p : Port) (f : PortState → PortState) (s : State) : (withPort p f s).cfg = s.cfg := rfl
@[simp] theorem withPort_mon (p : Port) (f : PortState → PortState) (s : State) : (withPort p f s).mon = s.mon := rfl
@[simp] theorem withPort_plan (p : Port) (f : PortState → PortState) (s : State) : (withPort p f s).plan = s.plan := rfl
@[simp] theorem withPort_records (p : Port) (f : PortState → PortState) (s : State) : (withPort p f s).records = s.records := rfl
@[simp] theorem withPort_cal (p : Port) (f : PortState → PortState) (s : State) : (withPort p f s).cal = s.cal := rfl
@[simp] theorem withPort_check (p : Port) (f : PortState → PortState) (s : State) : (withPort p f s).check = s.check := rfl
@[simp] theorem withPort_afe (p : Port) (f : PortState → PortState) (s : State) : (withPort p f s).afe = s.afe := rfl
@[simp] theorem withPort_ptu (p : Port) (f : PortState → PortState) (s : State) : (withPort p f s).ptu = s.ptu := rfl
@[simp] theorem withPort_rch (p : Port) (f : PortState → PortState) (s : State) : (withPort p f s).rch = s.rch := rfl
@[simp] theorem withPort_spe (p : Port) (f : PortState → PortState) (s : State) : (withPort p f s).spe = s.spe := rfl
@[simp] theorem withPort_gvm (p : Port) (f : PortState → PortState) (s : State) : (withPort p f s).gvm = s.gvm := rfl
@[simp] theorem withPort_ghm (p : Port) (f : PortState → PortState) (s : State) : (withPort p f s).ghm = s.ghm := rfl
@[simp] theorem withPort_bim (p : Port) (f : PortState → PortState) (s : State) : (withPort p f s).bim = s.bim := rfl
@[simp] theorem withPort_ccu (p : Port) (f : PortState → PortState) (s : State) : (withPort p f s).ccu = s.ccu := rfl
@[simp] theorem withPort_mpl (p : Port) (f : PortState → PortState) (s : State) : (withPort p f s).mpl = s.mpl := rfl
@[simp] theorem withPort_ret (p : Port) (f : PortState → PortState) (s : State) : (withPort p f s).ret = s.ret := rfl

/-! `countPort` -/

@[simp] theorem countPort_pending (p : Port) (f : PortCounters → PortCounters) (s : State) : (countPort p f s).pending = s.pending := rfl
@[simp] theorem countPort_conversions (p : Port) (f : PortCounters → PortCounters) (s : State) : (countPort p f s).conversions = s.conversions := rfl
@[simp] theorem countPort_cutAfter (p : Port) (f : PortCounters → PortCounters) (s : State) : (countPort p f s).cutAfter = s.cutAfter := rfl
@[simp] theorem countPort_cfg (p : Port) (f : PortCounters → PortCounters) (s : State) : (countPort p f s).cfg = s.cfg := rfl
@[simp] theorem countPort_mon (p : Port) (f : PortCounters → PortCounters) (s : State) : (countPort p f s).mon = s.mon := rfl
@[simp] theorem countPort_plan (p : Port) (f : PortCounters → PortCounters) (s : State) : (countPort p f s).plan = s.plan := rfl
@[simp] theorem countPort_records (p : Port) (f : PortCounters → PortCounters) (s : State) : (countPort p f s).records = s.records := rfl
@[simp] theorem countPort_cal (p : Port) (f : PortCounters → PortCounters) (s : State) : (countPort p f s).cal = s.cal := rfl
@[simp] theorem countPort_check (p : Port) (f : PortCounters → PortCounters) (s : State) : (countPort p f s).check = s.check := rfl
@[simp] theorem countPort_afe (p : Port) (f : PortCounters → PortCounters) (s : State) : (countPort p f s).afe = s.afe := rfl
@[simp] theorem countPort_ptu (p : Port) (f : PortCounters → PortCounters) (s : State) : (countPort p f s).ptu = s.ptu := rfl
@[simp] theorem countPort_rch (p : Port) (f : PortCounters → PortCounters) (s : State) : (countPort p f s).rch = s.rch := rfl
@[simp] theorem countPort_spe (p : Port) (f : PortCounters → PortCounters) (s : State) : (countPort p f s).spe = s.spe := rfl
@[simp] theorem countPort_gvm (p : Port) (f : PortCounters → PortCounters) (s : State) : (countPort p f s).gvm = s.gvm := rfl
@[simp] theorem countPort_ghm (p : Port) (f : PortCounters → PortCounters) (s : State) : (countPort p f s).ghm = s.ghm := rfl
@[simp] theorem countPort_bim (p : Port) (f : PortCounters → PortCounters) (s : State) : (countPort p f s).bim = s.bim := rfl
@[simp] theorem countPort_ccu (p : Port) (f : PortCounters → PortCounters) (s : State) : (countPort p f s).ccu = s.ccu := rfl
@[simp] theorem countPort_mpl (p : Port) (f : PortCounters → PortCounters) (s : State) : (countPort p f s).mpl = s.mpl := rfl
@[simp] theorem countPort_ret (p : Port) (f : PortCounters → PortCounters) (s : State) : (countPort p f s).ret = s.ret := rfl

/-! `updateAlarm` -/

@[simp] theorem updateAlarm_pending (c : AlarmCode) (x : Source) (f : AlarmEntry → AlarmEntry) (s : State) : (updateAlarm c x f s).pending = s.pending := rfl
@[simp] theorem updateAlarm_conversions (c : AlarmCode) (x : Source) (f : AlarmEntry → AlarmEntry) (s : State) : (updateAlarm c x f s).conversions = s.conversions := rfl
@[simp] theorem updateAlarm_cutAfter (c : AlarmCode) (x : Source) (f : AlarmEntry → AlarmEntry) (s : State) : (updateAlarm c x f s).cutAfter = s.cutAfter := rfl
@[simp] theorem updateAlarm_cfg (c : AlarmCode) (x : Source) (f : AlarmEntry → AlarmEntry) (s : State) : (updateAlarm c x f s).cfg = s.cfg := rfl
@[simp] theorem updateAlarm_mon (c : AlarmCode) (x : Source) (f : AlarmEntry → AlarmEntry) (s : State) : (updateAlarm c x f s).mon = s.mon := rfl
@[simp] theorem updateAlarm_plan (c : AlarmCode) (x : Source) (f : AlarmEntry → AlarmEntry) (s : State) : (updateAlarm c x f s).plan = s.plan := rfl
@[simp] theorem updateAlarm_records (c : AlarmCode) (x : Source) (f : AlarmEntry → AlarmEntry) (s : State) : (updateAlarm c x f s).records = s.records := rfl
@[simp] theorem updateAlarm_cal (c : AlarmCode) (x : Source) (f : AlarmEntry → AlarmEntry) (s : State) : (updateAlarm c x f s).cal = s.cal := rfl
@[simp] theorem updateAlarm_check (c : AlarmCode) (x : Source) (f : AlarmEntry → AlarmEntry) (s : State) : (updateAlarm c x f s).check = s.check := rfl
@[simp] theorem updateAlarm_afe (c : AlarmCode) (x : Source) (f : AlarmEntry → AlarmEntry) (s : State) : (updateAlarm c x f s).afe = s.afe := rfl
@[simp] theorem updateAlarm_ptu (c : AlarmCode) (x : Source) (f : AlarmEntry → AlarmEntry) (s : State) : (updateAlarm c x f s).ptu = s.ptu := rfl
@[simp] theorem updateAlarm_rch (c : AlarmCode) (x : Source) (f : AlarmEntry → AlarmEntry) (s : State) : (updateAlarm c x f s).rch = s.rch := rfl
@[simp] theorem updateAlarm_spe (c : AlarmCode) (x : Source) (f : AlarmEntry → AlarmEntry) (s : State) : (updateAlarm c x f s).spe = s.spe := rfl
@[simp] theorem updateAlarm_gvm (c : AlarmCode) (x : Source) (f : AlarmEntry → AlarmEntry) (s : State) : (updateAlarm c x f s).gvm = s.gvm := rfl
@[simp] theorem updateAlarm_ghm (c : AlarmCode) (x : Source) (f : AlarmEntry → AlarmEntry) (s : State) : (updateAlarm c x f s).ghm = s.ghm := rfl
@[simp] theorem updateAlarm_bim (c : AlarmCode) (x : Source) (f : AlarmEntry → AlarmEntry) (s : State) : (updateAlarm c x f s).bim = s.bim := rfl
@[simp] theorem updateAlarm_mpl (c : AlarmCode) (x : Source) (f : AlarmEntry → AlarmEntry) (s : State) : (updateAlarm c x f s).mpl = s.mpl := rfl
@[simp] theorem updateAlarm_ret (c : AlarmCode) (x : Source) (f : AlarmEntry → AlarmEntry) (s : State) : (updateAlarm c x f s).ret = s.ret := rfl
@[simp] theorem updateAlarm_lnk (c : AlarmCode) (x : Source) (f : AlarmEntry → AlarmEntry) (s : State) : (updateAlarm c x f s).lnk = s.lnk := rfl

/-! `removeAlarm` -/

@[simp] theorem removeAlarm_pending (c : AlarmCode) (x : Source) (s : State) : (removeAlarm c x s).pending = s.pending := rfl
@[simp] theorem removeAlarm_conversions (c : AlarmCode) (x : Source) (s : State) : (removeAlarm c x s).conversions = s.conversions := rfl
@[simp] theorem removeAlarm_cutAfter (c : AlarmCode) (x : Source) (s : State) : (removeAlarm c x s).cutAfter = s.cutAfter := rfl
@[simp] theorem removeAlarm_cfg (c : AlarmCode) (x : Source) (s : State) : (removeAlarm c x s).cfg = s.cfg := rfl
@[simp] theorem removeAlarm_mon (c : AlarmCode) (x : Source) (s : State) : (removeAlarm c x s).mon = s.mon := rfl
@[simp] theorem removeAlarm_plan (c : AlarmCode) (x : Source) (s : State) : (removeAlarm c x s).plan = s.plan := rfl
@[simp] theorem removeAlarm_records (c : AlarmCode) (x : Source) (s : State) : (removeAlarm c x s).records = s.records := rfl
@[simp] theorem removeAlarm_cal (c : AlarmCode) (x : Source) (s : State) : (removeAlarm c x s).cal = s.cal := rfl
@[simp] theorem removeAlarm_check (c : AlarmCode) (x : Source) (s : State) : (removeAlarm c x s).check = s.check := rfl
@[simp] theorem removeAlarm_afe (c : AlarmCode) (x : Source) (s : State) : (removeAlarm c x s).afe = s.afe := rfl
@[simp] theorem removeAlarm_ptu (c : AlarmCode) (x : Source) (s : State) : (removeAlarm c x s).ptu = s.ptu := rfl
@[simp] theorem removeAlarm_rch (c : AlarmCode) (x : Source) (s : State) : (removeAlarm c x s).rch = s.rch := rfl
@[simp] theorem removeAlarm_spe (c : AlarmCode) (x : Source) (s : State) : (removeAlarm c x s).spe = s.spe := rfl
@[simp] theorem removeAlarm_gvm (c : AlarmCode) (x : Source) (s : State) : (removeAlarm c x s).gvm = s.gvm := rfl
@[simp] theorem removeAlarm_ghm (c : AlarmCode) (x : Source) (s : State) : (removeAlarm c x s).ghm = s.ghm := rfl
@[simp] theorem removeAlarm_bim (c : AlarmCode) (x : Source) (s : State) : (removeAlarm c x s).bim = s.bim := rfl
@[simp] theorem removeAlarm_mpl (c : AlarmCode) (x : Source) (s : State) : (removeAlarm c x s).mpl = s.mpl := rfl
@[simp] theorem removeAlarm_ret (c : AlarmCode) (x : Source) (s : State) : (removeAlarm c x s).ret = s.ret := rfl
@[simp] theorem removeAlarm_lnk (c : AlarmCode) (x : Source) (s : State) : (removeAlarm c x s).lnk = s.lnk := rfl

/-! `recordContribution` -/

@[simp] theorem recordContribution_pending (w : Contributor) (v : Nat) (s : State) : (recordContribution w v s).pending = s.pending := rfl
@[simp] theorem recordContribution_conversions (w : Contributor) (v : Nat) (s : State) : (recordContribution w v s).conversions = s.conversions := rfl
@[simp] theorem recordContribution_cutAfter (w : Contributor) (v : Nat) (s : State) : (recordContribution w v s).cutAfter = s.cutAfter := rfl
@[simp] theorem recordContribution_cfg (w : Contributor) (v : Nat) (s : State) : (recordContribution w v s).cfg = s.cfg := rfl
@[simp] theorem recordContribution_mon (w : Contributor) (v : Nat) (s : State) : (recordContribution w v s).mon = s.mon := rfl
@[simp] theorem recordContribution_plan (w : Contributor) (v : Nat) (s : State) : (recordContribution w v s).plan = s.plan := rfl
@[simp] theorem recordContribution_records (w : Contributor) (v : Nat) (s : State) : (recordContribution w v s).records = s.records := rfl
@[simp] theorem recordContribution_cal (w : Contributor) (v : Nat) (s : State) : (recordContribution w v s).cal = s.cal := rfl
@[simp] theorem recordContribution_check (w : Contributor) (v : Nat) (s : State) : (recordContribution w v s).check = s.check := rfl
@[simp] theorem recordContribution_afe (w : Contributor) (v : Nat) (s : State) : (recordContribution w v s).afe = s.afe := rfl
@[simp] theorem recordContribution_ptu (w : Contributor) (v : Nat) (s : State) : (recordContribution w v s).ptu = s.ptu := rfl
@[simp] theorem recordContribution_rch (w : Contributor) (v : Nat) (s : State) : (recordContribution w v s).rch = s.rch := rfl
@[simp] theorem recordContribution_spe (w : Contributor) (v : Nat) (s : State) : (recordContribution w v s).spe = s.spe := rfl
@[simp] theorem recordContribution_gvm (w : Contributor) (v : Nat) (s : State) : (recordContribution w v s).gvm = s.gvm := rfl
@[simp] theorem recordContribution_ghm (w : Contributor) (v : Nat) (s : State) : (recordContribution w v s).ghm = s.ghm := rfl
@[simp] theorem recordContribution_bim (w : Contributor) (v : Nat) (s : State) : (recordContribution w v s).bim = s.bim := rfl
@[simp] theorem recordContribution_mpl (w : Contributor) (v : Nat) (s : State) : (recordContribution w v s).mpl = s.mpl := rfl
@[simp] theorem recordContribution_ret (w : Contributor) (v : Nat) (s : State) : (recordContribution w v s).ret = s.ret := rfl
@[simp] theorem recordContribution_lnk (w : Contributor) (v : Nat) (s : State) : (recordContribution w v s).lnk = s.lnk := rfl

/-! `publishCeiling` -/

@[simp] theorem publishCeiling_pending (v : Nat) (s : State) : (publishCeiling v s).pending = s.pending := rfl
@[simp] theorem publishCeiling_conversions (v : Nat) (s : State) : (publishCeiling v s).conversions = s.conversions := rfl
@[simp] theorem publishCeiling_cutAfter (v : Nat) (s : State) : (publishCeiling v s).cutAfter = s.cutAfter := rfl
@[simp] theorem publishCeiling_cfg (v : Nat) (s : State) : (publishCeiling v s).cfg = s.cfg := rfl
@[simp] theorem publishCeiling_plan (v : Nat) (s : State) : (publishCeiling v s).plan = s.plan := rfl
@[simp] theorem publishCeiling_records (v : Nat) (s : State) : (publishCeiling v s).records = s.records := rfl
@[simp] theorem publishCeiling_cal (v : Nat) (s : State) : (publishCeiling v s).cal = s.cal := rfl
@[simp] theorem publishCeiling_check (v : Nat) (s : State) : (publishCeiling v s).check = s.check := rfl
@[simp] theorem publishCeiling_afe (v : Nat) (s : State) : (publishCeiling v s).afe = s.afe := rfl
@[simp] theorem publishCeiling_ptu (v : Nat) (s : State) : (publishCeiling v s).ptu = s.ptu := rfl
@[simp] theorem publishCeiling_rch (v : Nat) (s : State) : (publishCeiling v s).rch = s.rch := rfl
@[simp] theorem publishCeiling_spe (v : Nat) (s : State) : (publishCeiling v s).spe = s.spe := rfl
@[simp] theorem publishCeiling_gvm (v : Nat) (s : State) : (publishCeiling v s).gvm = s.gvm := rfl
@[simp] theorem publishCeiling_ghm (v : Nat) (s : State) : (publishCeiling v s).ghm = s.ghm := rfl
@[simp] theorem publishCeiling_bim (v : Nat) (s : State) : (publishCeiling v s).bim = s.bim := rfl
@[simp] theorem publishCeiling_mpl (v : Nat) (s : State) : (publishCeiling v s).mpl = s.mpl := rfl
@[simp] theorem publishCeiling_ret (v : Nat) (s : State) : (publishCeiling v s).ret = s.ret := rfl

/-! `countCcu` -/

@[simp] theorem countCcu_pending (f : CcuCounters → CcuCounters) (s : State) : (countCcu f s).pending = s.pending := rfl
@[simp] theorem countCcu_conversions (f : CcuCounters → CcuCounters) (s : State) : (countCcu f s).conversions = s.conversions := rfl
@[simp] theorem countCcu_cutAfter (f : CcuCounters → CcuCounters) (s : State) : (countCcu f s).cutAfter = s.cutAfter := rfl
@[simp] theorem countCcu_cfg (f : CcuCounters → CcuCounters) (s : State) : (countCcu f s).cfg = s.cfg := rfl
@[simp] theorem countCcu_mon (f : CcuCounters → CcuCounters) (s : State) : (countCcu f s).mon = s.mon := rfl
@[simp] theorem countCcu_plan (f : CcuCounters → CcuCounters) (s : State) : (countCcu f s).plan = s.plan := rfl
@[simp] theorem countCcu_records (f : CcuCounters → CcuCounters) (s : State) : (countCcu f s).records = s.records := rfl
@[simp] theorem countCcu_cal (f : CcuCounters → CcuCounters) (s : State) : (countCcu f s).cal = s.cal := rfl
@[simp] theorem countCcu_check (f : CcuCounters → CcuCounters) (s : State) : (countCcu f s).check = s.check := rfl
@[simp] theorem countCcu_afe (f : CcuCounters → CcuCounters) (s : State) : (countCcu f s).afe = s.afe := rfl
@[simp] theorem countCcu_ptu (f : CcuCounters → CcuCounters) (s : State) : (countCcu f s).ptu = s.ptu := rfl
@[simp] theorem countCcu_rch (f : CcuCounters → CcuCounters) (s : State) : (countCcu f s).rch = s.rch := rfl
@[simp] theorem countCcu_spe (f : CcuCounters → CcuCounters) (s : State) : (countCcu f s).spe = s.spe := rfl
@[simp] theorem countCcu_gvm (f : CcuCounters → CcuCounters) (s : State) : (countCcu f s).gvm = s.gvm := rfl
@[simp] theorem countCcu_ghm (f : CcuCounters → CcuCounters) (s : State) : (countCcu f s).ghm = s.ghm := rfl
@[simp] theorem countCcu_bim (f : CcuCounters → CcuCounters) (s : State) : (countCcu f s).bim = s.bim := rfl
@[simp] theorem countCcu_mpl (f : CcuCounters → CcuCounters) (s : State) : (countCcu f s).mpl = s.mpl := rfl
@[simp] theorem countCcu_ret (f : CcuCounters → CcuCounters) (s : State) : (countCcu f s).ret = s.ret := rfl
@[simp] theorem countCcu_lnk (f : CcuCounters → CcuCounters) (s : State) : (countCcu f s).lnk = s.lnk := rfl

/-! `updateRecord` -/

@[simp] theorem updateRecord_pending (r : Regime) (w q : Int) (h : Heater) (s : State) : (updateRecord r w q h s).pending = s.pending := rfl
@[simp] theorem updateRecord_conversions (r : Regime) (w q : Int) (h : Heater) (s : State) : (updateRecord r w q h s).conversions = s.conversions := rfl
@[simp] theorem updateRecord_cutAfter (r : Regime) (w q : Int) (h : Heater) (s : State) : (updateRecord r w q h s).cutAfter = s.cutAfter := rfl
@[simp] theorem updateRecord_cfg (r : Regime) (w q : Int) (h : Heater) (s : State) : (updateRecord r w q h s).cfg = s.cfg := rfl
@[simp] theorem updateRecord_mon (r : Regime) (w q : Int) (h : Heater) (s : State) : (updateRecord r w q h s).mon = s.mon := rfl
@[simp] theorem updateRecord_plan (r : Regime) (w q : Int) (h : Heater) (s : State) : (updateRecord r w q h s).plan = s.plan := rfl
@[simp] theorem updateRecord_records (r : Regime) (w q : Int) (h : Heater) (s : State) : (updateRecord r w q h s).records = s.records := rfl
@[simp] theorem updateRecord_cal (r : Regime) (w q : Int) (h : Heater) (s : State) : (updateRecord r w q h s).cal = s.cal := rfl
@[simp] theorem updateRecord_check (r : Regime) (w q : Int) (h : Heater) (s : State) : (updateRecord r w q h s).check = s.check := rfl
@[simp] theorem updateRecord_afe (r : Regime) (w q : Int) (h : Heater) (s : State) : (updateRecord r w q h s).afe = s.afe := rfl
@[simp] theorem updateRecord_ptu (r : Regime) (w q : Int) (h : Heater) (s : State) : (updateRecord r w q h s).ptu = s.ptu := rfl
@[simp] theorem updateRecord_rch (r : Regime) (w q : Int) (h : Heater) (s : State) : (updateRecord r w q h s).rch = s.rch := rfl
@[simp] theorem updateRecord_spe (r : Regime) (w q : Int) (h : Heater) (s : State) : (updateRecord r w q h s).spe = s.spe := rfl
@[simp] theorem updateRecord_gvm (r : Regime) (w q : Int) (h : Heater) (s : State) : (updateRecord r w q h s).gvm = s.gvm := rfl
@[simp] theorem updateRecord_ghm (r : Regime) (w q : Int) (h : Heater) (s : State) : (updateRecord r w q h s).ghm = s.ghm := rfl
@[simp] theorem updateRecord_bim (r : Regime) (w q : Int) (h : Heater) (s : State) : (updateRecord r w q h s).bim = s.bim := rfl
@[simp] theorem updateRecord_mpl (r : Regime) (w q : Int) (h : Heater) (s : State) : (updateRecord r w q h s).mpl = s.mpl := rfl
@[simp] theorem updateRecord_ret (r : Regime) (w q : Int) (h : Heater) (s : State) : (updateRecord r w q h s).ret = s.ret := rfl
@[simp] theorem updateRecord_lnk (r : Regime) (w q : Int) (h : Heater) (s : State) : (updateRecord r w q h s).lnk = s.lnk := rfl

/-! `writeLock` -/

@[simp] theorem writeLock_pending (i : Fin 8) (c : SnapshotSlot) (v : Bool) (s : State) : (writeLock i c v s).pending = s.pending := rfl
@[simp] theorem writeLock_conversions (i : Fin 8) (c : SnapshotSlot) (v : Bool) (s : State) : (writeLock i c v s).conversions = s.conversions := rfl
@[simp] theorem writeLock_cutAfter (i : Fin 8) (c : SnapshotSlot) (v : Bool) (s : State) : (writeLock i c v s).cutAfter = s.cutAfter := rfl
@[simp] theorem writeLock_cfg (i : Fin 8) (c : SnapshotSlot) (v : Bool) (s : State) : (writeLock i c v s).cfg = s.cfg := rfl
@[simp] theorem writeLock_mon (i : Fin 8) (c : SnapshotSlot) (v : Bool) (s : State) : (writeLock i c v s).mon = s.mon := rfl
@[simp] theorem writeLock_plan (i : Fin 8) (c : SnapshotSlot) (v : Bool) (s : State) : (writeLock i c v s).plan = s.plan := rfl
@[simp] theorem writeLock_cal (i : Fin 8) (c : SnapshotSlot) (v : Bool) (s : State) : (writeLock i c v s).cal = s.cal := rfl
@[simp] theorem writeLock_check (i : Fin 8) (c : SnapshotSlot) (v : Bool) (s : State) : (writeLock i c v s).check = s.check := rfl
@[simp] theorem writeLock_afe (i : Fin 8) (c : SnapshotSlot) (v : Bool) (s : State) : (writeLock i c v s).afe = s.afe := rfl
@[simp] theorem writeLock_ptu (i : Fin 8) (c : SnapshotSlot) (v : Bool) (s : State) : (writeLock i c v s).ptu = s.ptu := rfl
@[simp] theorem writeLock_rch (i : Fin 8) (c : SnapshotSlot) (v : Bool) (s : State) : (writeLock i c v s).rch = s.rch := rfl
@[simp] theorem writeLock_spe (i : Fin 8) (c : SnapshotSlot) (v : Bool) (s : State) : (writeLock i c v s).spe = s.spe := rfl
@[simp] theorem writeLock_gvm (i : Fin 8) (c : SnapshotSlot) (v : Bool) (s : State) : (writeLock i c v s).gvm = s.gvm := rfl
@[simp] theorem writeLock_ghm (i : Fin 8) (c : SnapshotSlot) (v : Bool) (s : State) : (writeLock i c v s).ghm = s.ghm := rfl
@[simp] theorem writeLock_bim (i : Fin 8) (c : SnapshotSlot) (v : Bool) (s : State) : (writeLock i c v s).bim = s.bim := rfl
@[simp] theorem writeLock_ccu (i : Fin 8) (c : SnapshotSlot) (v : Bool) (s : State) : (writeLock i c v s).ccu = s.ccu := rfl
@[simp] theorem writeLock_mpl (i : Fin 8) (c : SnapshotSlot) (v : Bool) (s : State) : (writeLock i c v s).mpl = s.mpl := rfl
@[simp] theorem writeLock_ret (i : Fin 8) (c : SnapshotSlot) (v : Bool) (s : State) : (writeLock i c v s).ret = s.ret := rfl
@[simp] theorem writeLock_lnk (i : Fin 8) (c : SnapshotSlot) (v : Bool) (s : State) : (writeLock i c v s).lnk = s.lnk := rfl

/-! `setBuffer` -/

@[simp] theorem setBuffer_pending (b : BufferId) (x : Buffer) (s : State) : (setBuffer b x s).pending = s.pending := rfl
@[simp] theorem setBuffer_conversions (b : BufferId) (x : Buffer) (s : State) : (setBuffer b x s).conversions = s.conversions := rfl
@[simp] theorem setBuffer_cutAfter (b : BufferId) (x : Buffer) (s : State) : (setBuffer b x s).cutAfter = s.cutAfter := rfl
@[simp] theorem setBuffer_cfg (b : BufferId) (x : Buffer) (s : State) : (setBuffer b x s).cfg = s.cfg := rfl
@[simp] theorem setBuffer_mon (b : BufferId) (x : Buffer) (s : State) : (setBuffer b x s).mon = s.mon := rfl
@[simp] theorem setBuffer_plan (b : BufferId) (x : Buffer) (s : State) : (setBuffer b x s).plan = s.plan := rfl
@[simp] theorem setBuffer_records (b : BufferId) (x : Buffer) (s : State) : (setBuffer b x s).records = s.records := rfl
@[simp] theorem setBuffer_cal (b : BufferId) (x : Buffer) (s : State) : (setBuffer b x s).cal = s.cal := rfl
@[simp] theorem setBuffer_check (b : BufferId) (x : Buffer) (s : State) : (setBuffer b x s).check = s.check := rfl
@[simp] theorem setBuffer_ptu (b : BufferId) (x : Buffer) (s : State) : (setBuffer b x s).ptu = s.ptu := rfl
@[simp] theorem setBuffer_rch (b : BufferId) (x : Buffer) (s : State) : (setBuffer b x s).rch = s.rch := rfl
@[simp] theorem setBuffer_spe (b : BufferId) (x : Buffer) (s : State) : (setBuffer b x s).spe = s.spe := rfl
@[simp] theorem setBuffer_gvm (b : BufferId) (x : Buffer) (s : State) : (setBuffer b x s).gvm = s.gvm := rfl
@[simp] theorem setBuffer_ghm (b : BufferId) (x : Buffer) (s : State) : (setBuffer b x s).ghm = s.ghm := rfl
@[simp] theorem setBuffer_bim (b : BufferId) (x : Buffer) (s : State) : (setBuffer b x s).bim = s.bim := rfl
@[simp] theorem setBuffer_ccu (b : BufferId) (x : Buffer) (s : State) : (setBuffer b x s).ccu = s.ccu := rfl
@[simp] theorem setBuffer_mpl (b : BufferId) (x : Buffer) (s : State) : (setBuffer b x s).mpl = s.mpl := rfl
@[simp] theorem setBuffer_ret (b : BufferId) (x : Buffer) (s : State) : (setBuffer b x s).ret = s.ret := rfl
@[simp] theorem setBuffer_lnk (b : BufferId) (x : Buffer) (s : State) : (setBuffer b x s).lnk = s.lnk := rfl

/-! `setAccel` -/

@[simp] theorem setAccel_pending (ch : Accel) (a : AccelState) (s : State) : (setAccel ch a s).pending = s.pending := rfl
@[simp] theorem setAccel_conversions (ch : Accel) (a : AccelState) (s : State) : (setAccel ch a s).conversions = s.conversions := rfl
@[simp] theorem setAccel_cutAfter (ch : Accel) (a : AccelState) (s : State) : (setAccel ch a s).cutAfter = s.cutAfter := rfl
@[simp] theorem setAccel_cfg (ch : Accel) (a : AccelState) (s : State) : (setAccel ch a s).cfg = s.cfg := rfl
@[simp] theorem setAccel_mon (ch : Accel) (a : AccelState) (s : State) : (setAccel ch a s).mon = s.mon := rfl
@[simp] theorem setAccel_plan (ch : Accel) (a : AccelState) (s : State) : (setAccel ch a s).plan = s.plan := rfl
@[simp] theorem setAccel_records (ch : Accel) (a : AccelState) (s : State) : (setAccel ch a s).records = s.records := rfl
@[simp] theorem setAccel_cal (ch : Accel) (a : AccelState) (s : State) : (setAccel ch a s).cal = s.cal := rfl
@[simp] theorem setAccel_check (ch : Accel) (a : AccelState) (s : State) : (setAccel ch a s).check = s.check := rfl
@[simp] theorem setAccel_ptu (ch : Accel) (a : AccelState) (s : State) : (setAccel ch a s).ptu = s.ptu := rfl
@[simp] theorem setAccel_rch (ch : Accel) (a : AccelState) (s : State) : (setAccel ch a s).rch = s.rch := rfl
@[simp] theorem setAccel_spe (ch : Accel) (a : AccelState) (s : State) : (setAccel ch a s).spe = s.spe := rfl
@[simp] theorem setAccel_gvm (ch : Accel) (a : AccelState) (s : State) : (setAccel ch a s).gvm = s.gvm := rfl
@[simp] theorem setAccel_ghm (ch : Accel) (a : AccelState) (s : State) : (setAccel ch a s).ghm = s.ghm := rfl
@[simp] theorem setAccel_bim (ch : Accel) (a : AccelState) (s : State) : (setAccel ch a s).bim = s.bim := rfl
@[simp] theorem setAccel_ccu (ch : Accel) (a : AccelState) (s : State) : (setAccel ch a s).ccu = s.ccu := rfl
@[simp] theorem setAccel_mpl (ch : Accel) (a : AccelState) (s : State) : (setAccel ch a s).mpl = s.mpl := rfl
@[simp] theorem setAccel_ret (ch : Accel) (a : AccelState) (s : State) : (setAccel ch a s).ret = s.ret := rfl
@[simp] theorem setAccel_lnk (ch : Accel) (a : AccelState) (s : State) : (setAccel ch a s).lnk = s.lnk := rfl

/-! `recordCheck` -/

@[simp] theorem recordCheck_pending (ch cq : Int) (s : State) : (recordCheck ch cq s).pending = s.pending := rfl
@[simp] theorem recordCheck_conversions (ch cq : Int) (s : State) : (recordCheck ch cq s).conversions = s.conversions := rfl
@[simp] theorem recordCheck_cutAfter (ch cq : Int) (s : State) : (recordCheck ch cq s).cutAfter = s.cutAfter := rfl
@[simp] theorem recordCheck_cfg (ch cq : Int) (s : State) : (recordCheck ch cq s).cfg = s.cfg := rfl
@[simp] theorem recordCheck_mon (ch cq : Int) (s : State) : (recordCheck ch cq s).mon = s.mon := rfl
@[simp] theorem recordCheck_plan (ch cq : Int) (s : State) : (recordCheck ch cq s).plan = s.plan := rfl
@[simp] theorem recordCheck_records (ch cq : Int) (s : State) : (recordCheck ch cq s).records = s.records := rfl
@[simp] theorem recordCheck_cal (ch cq : Int) (s : State) : (recordCheck ch cq s).cal = s.cal := rfl
@[simp] theorem recordCheck_check (ch cq : Int) (s : State) : (recordCheck ch cq s).check = s.check := rfl
@[simp] theorem recordCheck_ptu (ch cq : Int) (s : State) : (recordCheck ch cq s).ptu = s.ptu := rfl
@[simp] theorem recordCheck_rch (ch cq : Int) (s : State) : (recordCheck ch cq s).rch = s.rch := rfl
@[simp] theorem recordCheck_spe (ch cq : Int) (s : State) : (recordCheck ch cq s).spe = s.spe := rfl
@[simp] theorem recordCheck_gvm (ch cq : Int) (s : State) : (recordCheck ch cq s).gvm = s.gvm := rfl
@[simp] theorem recordCheck_ghm (ch cq : Int) (s : State) : (recordCheck ch cq s).ghm = s.ghm := rfl
@[simp] theorem recordCheck_bim (ch cq : Int) (s : State) : (recordCheck ch cq s).bim = s.bim := rfl
@[simp] theorem recordCheck_ccu (ch cq : Int) (s : State) : (recordCheck ch cq s).ccu = s.ccu := rfl
@[simp] theorem recordCheck_mpl (ch cq : Int) (s : State) : (recordCheck ch cq s).mpl = s.mpl := rfl
@[simp] theorem recordCheck_ret (ch cq : Int) (s : State) : (recordCheck ch cq s).ret = s.ret := rfl
@[simp] theorem recordCheck_lnk (ch cq : Int) (s : State) : (recordCheck ch cq s).lnk = s.lnk := rfl

/-! `failCheck` -/

@[simp] theorem failCheck_pending (s : State) : (failCheck s).pending = s.pending := rfl
@[simp] theorem failCheck_conversions (s : State) : (failCheck s).conversions = s.conversions := rfl
@[simp] theorem failCheck_cutAfter (s : State) : (failCheck s).cutAfter = s.cutAfter := rfl
@[simp] theorem failCheck_cfg (s : State) : (failCheck s).cfg = s.cfg := rfl
@[simp] theorem failCheck_mon (s : State) : (failCheck s).mon = s.mon := rfl
@[simp] theorem failCheck_plan (s : State) : (failCheck s).plan = s.plan := rfl
@[simp] theorem failCheck_records (s : State) : (failCheck s).records = s.records := rfl
@[simp] theorem failCheck_cal (s : State) : (failCheck s).cal = s.cal := rfl
@[simp] theorem failCheck_check (s : State) : (failCheck s).check = s.check := rfl
@[simp] theorem failCheck_ptu (s : State) : (failCheck s).ptu = s.ptu := rfl
@[simp] theorem failCheck_rch (s : State) : (failCheck s).rch = s.rch := rfl
@[simp] theorem failCheck_spe (s : State) : (failCheck s).spe = s.spe := rfl
@[simp] theorem failCheck_gvm (s : State) : (failCheck s).gvm = s.gvm := rfl
@[simp] theorem failCheck_ghm (s : State) : (failCheck s).ghm = s.ghm := rfl
@[simp] theorem failCheck_bim (s : State) : (failCheck s).bim = s.bim := rfl
@[simp] theorem failCheck_ccu (s : State) : (failCheck s).ccu = s.ccu := rfl
@[simp] theorem failCheck_mpl (s : State) : (failCheck s).mpl = s.mpl := rfl
@[simp] theorem failCheck_ret (s : State) : (failCheck s).ret = s.ret := rfl
@[simp] theorem failCheck_lnk (s : State) : (failCheck s).lnk = s.lnk := rfl

/-! `setPulse` -/

@[simp] theorem setPulse_pending (p : Pulse) (x : PulseState) (s : State) : (setPulse p x s).pending = s.pending := rfl
@[simp] theorem setPulse_conversions (p : Pulse) (x : PulseState) (s : State) : (setPulse p x s).conversions = s.conversions := rfl
@[simp] theorem setPulse_cutAfter (p : Pulse) (x : PulseState) (s : State) : (setPulse p x s).cutAfter = s.cutAfter := rfl
@[simp] theorem setPulse_cfg (p : Pulse) (x : PulseState) (s : State) : (setPulse p x s).cfg = s.cfg := rfl
@[simp] theorem setPulse_mon (p : Pulse) (x : PulseState) (s : State) : (setPulse p x s).mon = s.mon := rfl
@[simp] theorem setPulse_plan (p : Pulse) (x : PulseState) (s : State) : (setPulse p x s).plan = s.plan := rfl
@[simp] theorem setPulse_records (p : Pulse) (x : PulseState) (s : State) : (setPulse p x s).records = s.records := rfl
@[simp] theorem setPulse_cal (p : Pulse) (x : PulseState) (s : State) : (setPulse p x s).cal = s.cal := rfl
@[simp] theorem setPulse_check (p : Pulse) (x : PulseState) (s : State) : (setPulse p x s).check = s.check := rfl
@[simp] theorem setPulse_afe (p : Pulse) (x : PulseState) (s : State) : (setPulse p x s).afe = s.afe := rfl
@[simp] theorem setPulse_rch (p : Pulse) (x : PulseState) (s : State) : (setPulse p x s).rch = s.rch := rfl
@[simp] theorem setPulse_spe (p : Pulse) (x : PulseState) (s : State) : (setPulse p x s).spe = s.spe := rfl
@[simp] theorem setPulse_gvm (p : Pulse) (x : PulseState) (s : State) : (setPulse p x s).gvm = s.gvm := rfl
@[simp] theorem setPulse_ghm (p : Pulse) (x : PulseState) (s : State) : (setPulse p x s).ghm = s.ghm := rfl
@[simp] theorem setPulse_bim (p : Pulse) (x : PulseState) (s : State) : (setPulse p x s).bim = s.bim := rfl
@[simp] theorem setPulse_ccu (p : Pulse) (x : PulseState) (s : State) : (setPulse p x s).ccu = s.ccu := rfl
@[simp] theorem setPulse_mpl (p : Pulse) (x : PulseState) (s : State) : (setPulse p x s).mpl = s.mpl := rfl
@[simp] theorem setPulse_ret (p : Pulse) (x : PulseState) (s : State) : (setPulse p x s).ret = s.ret := rfl
@[simp] theorem setPulse_lnk (p : Pulse) (x : PulseState) (s : State) : (setPulse p x s).lnk = s.lnk := rfl

/-! `withPtuConfig` -/

@[simp] theorem withPtuConfig_pending (f : PtuConfig → PtuConfig) (s : State) : (withPtuConfig f s).pending = s.pending := rfl
@[simp] theorem withPtuConfig_conversions (f : PtuConfig → PtuConfig) (s : State) : (withPtuConfig f s).conversions = s.conversions := rfl
@[simp] theorem withPtuConfig_cutAfter (f : PtuConfig → PtuConfig) (s : State) : (withPtuConfig f s).cutAfter = s.cutAfter := rfl
@[simp] theorem withPtuConfig_mon (f : PtuConfig → PtuConfig) (s : State) : (withPtuConfig f s).mon = s.mon := rfl
@[simp] theorem withPtuConfig_plan (f : PtuConfig → PtuConfig) (s : State) : (withPtuConfig f s).plan = s.plan := rfl
@[simp] theorem withPtuConfig_records (f : PtuConfig → PtuConfig) (s : State) : (withPtuConfig f s).records = s.records := rfl
@[simp] theorem withPtuConfig_cal (f : PtuConfig → PtuConfig) (s : State) : (withPtuConfig f s).cal = s.cal := rfl
@[simp] theorem withPtuConfig_check (f : PtuConfig → PtuConfig) (s : State) : (withPtuConfig f s).check = s.check := rfl
@[simp] theorem withPtuConfig_afe (f : PtuConfig → PtuConfig) (s : State) : (withPtuConfig f s).afe = s.afe := rfl
@[simp] theorem withPtuConfig_ptu (f : PtuConfig → PtuConfig) (s : State) : (withPtuConfig f s).ptu = s.ptu := rfl
@[simp] theorem withPtuConfig_rch (f : PtuConfig → PtuConfig) (s : State) : (withPtuConfig f s).rch = s.rch := rfl
@[simp] theorem withPtuConfig_spe (f : PtuConfig → PtuConfig) (s : State) : (withPtuConfig f s).spe = s.spe := rfl
@[simp] theorem withPtuConfig_gvm (f : PtuConfig → PtuConfig) (s : State) : (withPtuConfig f s).gvm = s.gvm := rfl
@[simp] theorem withPtuConfig_ghm (f : PtuConfig → PtuConfig) (s : State) : (withPtuConfig f s).ghm = s.ghm := rfl
@[simp] theorem withPtuConfig_bim (f : PtuConfig → PtuConfig) (s : State) : (withPtuConfig f s).bim = s.bim := rfl
@[simp] theorem withPtuConfig_ccu (f : PtuConfig → PtuConfig) (s : State) : (withPtuConfig f s).ccu = s.ccu := rfl
@[simp] theorem withPtuConfig_mpl (f : PtuConfig → PtuConfig) (s : State) : (withPtuConfig f s).mpl = s.mpl := rfl
@[simp] theorem withPtuConfig_ret (f : PtuConfig → PtuConfig) (s : State) : (withPtuConfig f s).ret = s.ret := rfl
@[simp] theorem withPtuConfig_lnk (f : PtuConfig → PtuConfig) (s : State) : (withPtuConfig f s).lnk = s.lnk := rfl

/-! `setSensor` -/

@[simp] theorem setSensor_pending (t : Temp) (x : SensorState) (s : State) : (setSensor t x s).pending = s.pending := rfl
@[simp] theorem setSensor_conversions (t : Temp) (x : SensorState) (s : State) : (setSensor t x s).conversions = s.conversions := rfl
@[simp] theorem setSensor_cutAfter (t : Temp) (x : SensorState) (s : State) : (setSensor t x s).cutAfter = s.cutAfter := rfl
@[simp] theorem setSensor_cfg (t : Temp) (x : SensorState) (s : State) : (setSensor t x s).cfg = s.cfg := rfl
@[simp] theorem setSensor_mon (t : Temp) (x : SensorState) (s : State) : (setSensor t x s).mon = s.mon := rfl
@[simp] theorem setSensor_plan (t : Temp) (x : SensorState) (s : State) : (setSensor t x s).plan = s.plan := rfl
@[simp] theorem setSensor_records (t : Temp) (x : SensorState) (s : State) : (setSensor t x s).records = s.records := rfl
@[simp] theorem setSensor_cal (t : Temp) (x : SensorState) (s : State) : (setSensor t x s).cal = s.cal := rfl
@[simp] theorem setSensor_check (t : Temp) (x : SensorState) (s : State) : (setSensor t x s).check = s.check := rfl
@[simp] theorem setSensor_afe (t : Temp) (x : SensorState) (s : State) : (setSensor t x s).afe = s.afe := rfl
@[simp] theorem setSensor_ptu (t : Temp) (x : SensorState) (s : State) : (setSensor t x s).ptu = s.ptu := rfl
@[simp] theorem setSensor_spe (t : Temp) (x : SensorState) (s : State) : (setSensor t x s).spe = s.spe := rfl
@[simp] theorem setSensor_gvm (t : Temp) (x : SensorState) (s : State) : (setSensor t x s).gvm = s.gvm := rfl
@[simp] theorem setSensor_ghm (t : Temp) (x : SensorState) (s : State) : (setSensor t x s).ghm = s.ghm := rfl
@[simp] theorem setSensor_bim (t : Temp) (x : SensorState) (s : State) : (setSensor t x s).bim = s.bim := rfl
@[simp] theorem setSensor_ccu (t : Temp) (x : SensorState) (s : State) : (setSensor t x s).ccu = s.ccu := rfl
@[simp] theorem setSensor_mpl (t : Temp) (x : SensorState) (s : State) : (setSensor t x s).mpl = s.mpl := rfl
@[simp] theorem setSensor_ret (t : Temp) (x : SensorState) (s : State) : (setSensor t x s).ret = s.ret := rfl
@[simp] theorem setSensor_lnk (t : Temp) (x : SensorState) (s : State) : (setSensor t x s).lnk = s.lnk := rfl

/-! `ageRecords` -/

@[simp] theorem ageRecords_pending (s : State) : (ageRecords s).pending = s.pending := rfl
@[simp] theorem ageRecords_conversions (s : State) : (ageRecords s).conversions = s.conversions := rfl
@[simp] theorem ageRecords_cutAfter (s : State) : (ageRecords s).cutAfter = s.cutAfter := rfl
@[simp] theorem ageRecords_cfg (s : State) : (ageRecords s).cfg = s.cfg := rfl
@[simp] theorem ageRecords_mon (s : State) : (ageRecords s).mon = s.mon := rfl
@[simp] theorem ageRecords_plan (s : State) : (ageRecords s).plan = s.plan := rfl
@[simp] theorem ageRecords_records (s : State) : (ageRecords s).records = s.records := rfl
@[simp] theorem ageRecords_cal (s : State) : (ageRecords s).cal = s.cal := rfl
@[simp] theorem ageRecords_check (s : State) : (ageRecords s).check = s.check := rfl
@[simp] theorem ageRecords_afe (s : State) : (ageRecords s).afe = s.afe := rfl
@[simp] theorem ageRecords_ptu (s : State) : (ageRecords s).ptu = s.ptu := rfl
@[simp] theorem ageRecords_spe (s : State) : (ageRecords s).spe = s.spe := rfl
@[simp] theorem ageRecords_gvm (s : State) : (ageRecords s).gvm = s.gvm := rfl
@[simp] theorem ageRecords_ghm (s : State) : (ageRecords s).ghm = s.ghm := rfl
@[simp] theorem ageRecords_bim (s : State) : (ageRecords s).bim = s.bim := rfl
@[simp] theorem ageRecords_ccu (s : State) : (ageRecords s).ccu = s.ccu := rfl
@[simp] theorem ageRecords_mpl (s : State) : (ageRecords s).mpl = s.mpl := rfl
@[simp] theorem ageRecords_ret (s : State) : (ageRecords s).ret = s.ret := rfl
@[simp] theorem ageRecords_lnk (s : State) : (ageRecords s).lnk = s.lnk := rfl

/-! `withRchConfig` -/

@[simp] theorem withRchConfig_pending (f : RchConfig → RchConfig) (s : State) : (withRchConfig f s).pending = s.pending := rfl
@[simp] theorem withRchConfig_conversions (f : RchConfig → RchConfig) (s : State) : (withRchConfig f s).conversions = s.conversions := rfl
@[simp] theorem withRchConfig_cutAfter (f : RchConfig → RchConfig) (s : State) : (withRchConfig f s).cutAfter = s.cutAfter := rfl
@[simp] theorem withRchConfig_mon (f : RchConfig → RchConfig) (s : State) : (withRchConfig f s).mon = s.mon := rfl
@[simp] theorem withRchConfig_plan (f : RchConfig → RchConfig) (s : State) : (withRchConfig f s).plan = s.plan := rfl
@[simp] theorem withRchConfig_records (f : RchConfig → RchConfig) (s : State) : (withRchConfig f s).records = s.records := rfl
@[simp] theorem withRchConfig_cal (f : RchConfig → RchConfig) (s : State) : (withRchConfig f s).cal = s.cal := rfl
@[simp] theorem withRchConfig_check (f : RchConfig → RchConfig) (s : State) : (withRchConfig f s).check = s.check := rfl
@[simp] theorem withRchConfig_afe (f : RchConfig → RchConfig) (s : State) : (withRchConfig f s).afe = s.afe := rfl
@[simp] theorem withRchConfig_ptu (f : RchConfig → RchConfig) (s : State) : (withRchConfig f s).ptu = s.ptu := rfl
@[simp] theorem withRchConfig_rch (f : RchConfig → RchConfig) (s : State) : (withRchConfig f s).rch = s.rch := rfl
@[simp] theorem withRchConfig_spe (f : RchConfig → RchConfig) (s : State) : (withRchConfig f s).spe = s.spe := rfl
@[simp] theorem withRchConfig_gvm (f : RchConfig → RchConfig) (s : State) : (withRchConfig f s).gvm = s.gvm := rfl
@[simp] theorem withRchConfig_ghm (f : RchConfig → RchConfig) (s : State) : (withRchConfig f s).ghm = s.ghm := rfl
@[simp] theorem withRchConfig_bim (f : RchConfig → RchConfig) (s : State) : (withRchConfig f s).bim = s.bim := rfl
@[simp] theorem withRchConfig_ccu (f : RchConfig → RchConfig) (s : State) : (withRchConfig f s).ccu = s.ccu := rfl
@[simp] theorem withRchConfig_mpl (f : RchConfig → RchConfig) (s : State) : (withRchConfig f s).mpl = s.mpl := rfl
@[simp] theorem withRchConfig_ret (f : RchConfig → RchConfig) (s : State) : (withRchConfig f s).ret = s.ret := rfl
@[simp] theorem withRchConfig_lnk (f : RchConfig → RchConfig) (s : State) : (withRchConfig f s).lnk = s.lnk := rfl

/-! `countSpe` -/

@[simp] theorem countSpe_pending (m : Monitor) (f : SpeCounters → SpeCounters) (s : State) : (countSpe m f s).pending = s.pending := rfl
@[simp] theorem countSpe_conversions (m : Monitor) (f : SpeCounters → SpeCounters) (s : State) : (countSpe m f s).conversions = s.conversions := rfl
@[simp] theorem countSpe_cutAfter (m : Monitor) (f : SpeCounters → SpeCounters) (s : State) : (countSpe m f s).cutAfter = s.cutAfter := rfl
@[simp] theorem countSpe_cfg (m : Monitor) (f : SpeCounters → SpeCounters) (s : State) : (countSpe m f s).cfg = s.cfg := rfl
@[simp] theorem countSpe_mon (m : Monitor) (f : SpeCounters → SpeCounters) (s : State) : (countSpe m f s).mon = s.mon := rfl
@[simp] theorem countSpe_plan (m : Monitor) (f : SpeCounters → SpeCounters) (s : State) : (countSpe m f s).plan = s.plan := rfl
@[simp] theorem countSpe_records (m : Monitor) (f : SpeCounters → SpeCounters) (s : State) : (countSpe m f s).records = s.records := rfl
@[simp] theorem countSpe_cal (m : Monitor) (f : SpeCounters → SpeCounters) (s : State) : (countSpe m f s).cal = s.cal := rfl
@[simp] theorem countSpe_check (m : Monitor) (f : SpeCounters → SpeCounters) (s : State) : (countSpe m f s).check = s.check := rfl
@[simp] theorem countSpe_afe (m : Monitor) (f : SpeCounters → SpeCounters) (s : State) : (countSpe m f s).afe = s.afe := rfl
@[simp] theorem countSpe_ptu (m : Monitor) (f : SpeCounters → SpeCounters) (s : State) : (countSpe m f s).ptu = s.ptu := rfl
@[simp] theorem countSpe_rch (m : Monitor) (f : SpeCounters → SpeCounters) (s : State) : (countSpe m f s).rch = s.rch := rfl
@[simp] theorem countSpe_gvm (m : Monitor) (f : SpeCounters → SpeCounters) (s : State) : (countSpe m f s).gvm = s.gvm := rfl
@[simp] theorem countSpe_ghm (m : Monitor) (f : SpeCounters → SpeCounters) (s : State) : (countSpe m f s).ghm = s.ghm := rfl
@[simp] theorem countSpe_bim (m : Monitor) (f : SpeCounters → SpeCounters) (s : State) : (countSpe m f s).bim = s.bim := rfl
@[simp] theorem countSpe_ccu (m : Monitor) (f : SpeCounters → SpeCounters) (s : State) : (countSpe m f s).ccu = s.ccu := rfl
@[simp] theorem countSpe_mpl (m : Monitor) (f : SpeCounters → SpeCounters) (s : State) : (countSpe m f s).mpl = s.mpl := rfl
@[simp] theorem countSpe_ret (m : Monitor) (f : SpeCounters → SpeCounters) (s : State) : (countSpe m f s).ret = s.ret := rfl
@[simp] theorem countSpe_lnk (m : Monitor) (f : SpeCounters → SpeCounters) (s : State) : (countSpe m f s).lnk = s.lnk := rfl

/-! `idleEngine` -/

@[simp] theorem idleEngine_pending (s : State) : (idleEngine s).pending = s.pending := rfl
@[simp] theorem idleEngine_conversions (s : State) : (idleEngine s).conversions = s.conversions := rfl
@[simp] theorem idleEngine_cutAfter (s : State) : (idleEngine s).cutAfter = s.cutAfter := rfl
@[simp] theorem idleEngine_cfg (s : State) : (idleEngine s).cfg = s.cfg := rfl
@[simp] theorem idleEngine_mon (s : State) : (idleEngine s).mon = s.mon := rfl
@[simp] theorem idleEngine_plan (s : State) : (idleEngine s).plan = s.plan := rfl
@[simp] theorem idleEngine_records (s : State) : (idleEngine s).records = s.records := rfl
@[simp] theorem idleEngine_cal (s : State) : (idleEngine s).cal = s.cal := rfl
@[simp] theorem idleEngine_check (s : State) : (idleEngine s).check = s.check := rfl
@[simp] theorem idleEngine_afe (s : State) : (idleEngine s).afe = s.afe := rfl
@[simp] theorem idleEngine_ptu (s : State) : (idleEngine s).ptu = s.ptu := rfl
@[simp] theorem idleEngine_rch (s : State) : (idleEngine s).rch = s.rch := rfl
@[simp] theorem idleEngine_gvm (s : State) : (idleEngine s).gvm = s.gvm := rfl
@[simp] theorem idleEngine_ghm (s : State) : (idleEngine s).ghm = s.ghm := rfl
@[simp] theorem idleEngine_bim (s : State) : (idleEngine s).bim = s.bim := rfl
@[simp] theorem idleEngine_ccu (s : State) : (idleEngine s).ccu = s.ccu := rfl
@[simp] theorem idleEngine_mpl (s : State) : (idleEngine s).mpl = s.mpl := rfl
@[simp] theorem idleEngine_ret (s : State) : (idleEngine s).ret = s.ret := rfl
@[simp] theorem idleEngine_lnk (s : State) : (idleEngine s).lnk = s.lnk := rfl

/-! `countGvm` -/

@[simp] theorem countGvm_pending (f : GvmCounters → GvmCounters) (s : State) : (countGvm f s).pending = s.pending := rfl
@[simp] theorem countGvm_conversions (f : GvmCounters → GvmCounters) (s : State) : (countGvm f s).conversions = s.conversions := rfl
@[simp] theorem countGvm_cutAfter (f : GvmCounters → GvmCounters) (s : State) : (countGvm f s).cutAfter = s.cutAfter := rfl
@[simp] theorem countGvm_cfg (f : GvmCounters → GvmCounters) (s : State) : (countGvm f s).cfg = s.cfg := rfl
@[simp] theorem countGvm_mon (f : GvmCounters → GvmCounters) (s : State) : (countGvm f s).mon = s.mon := rfl
@[simp] theorem countGvm_plan (f : GvmCounters → GvmCounters) (s : State) : (countGvm f s).plan = s.plan := rfl
@[simp] theorem countGvm_records (f : GvmCounters → GvmCounters) (s : State) : (countGvm f s).records = s.records := rfl
@[simp] theorem countGvm_cal (f : GvmCounters → GvmCounters) (s : State) : (countGvm f s).cal = s.cal := rfl
@[simp] theorem countGvm_check (f : GvmCounters → GvmCounters) (s : State) : (countGvm f s).check = s.check := rfl
@[simp] theorem countGvm_afe (f : GvmCounters → GvmCounters) (s : State) : (countGvm f s).afe = s.afe := rfl
@[simp] theorem countGvm_ptu (f : GvmCounters → GvmCounters) (s : State) : (countGvm f s).ptu = s.ptu := rfl
@[simp] theorem countGvm_rch (f : GvmCounters → GvmCounters) (s : State) : (countGvm f s).rch = s.rch := rfl
@[simp] theorem countGvm_spe (f : GvmCounters → GvmCounters) (s : State) : (countGvm f s).spe = s.spe := rfl
@[simp] theorem countGvm_ghm (f : GvmCounters → GvmCounters) (s : State) : (countGvm f s).ghm = s.ghm := rfl
@[simp] theorem countGvm_bim (f : GvmCounters → GvmCounters) (s : State) : (countGvm f s).bim = s.bim := rfl
@[simp] theorem countGvm_ccu (f : GvmCounters → GvmCounters) (s : State) : (countGvm f s).ccu = s.ccu := rfl
@[simp] theorem countGvm_mpl (f : GvmCounters → GvmCounters) (s : State) : (countGvm f s).mpl = s.mpl := rfl
@[simp] theorem countGvm_ret (f : GvmCounters → GvmCounters) (s : State) : (countGvm f s).ret = s.ret := rfl
@[simp] theorem countGvm_lnk (f : GvmCounters → GvmCounters) (s : State) : (countGvm f s).lnk = s.lnk := rfl

/-! `withWork` -/

@[simp] theorem withWork_pending (m : Fin 8) (f : WorkRecord → WorkRecord) (s : State) : (withWork m f s).pending = s.pending := rfl
@[simp] theorem withWork_conversions (m : Fin 8) (f : WorkRecord → WorkRecord) (s : State) : (withWork m f s).conversions = s.conversions := rfl
@[simp] theorem withWork_cutAfter (m : Fin 8) (f : WorkRecord → WorkRecord) (s : State) : (withWork m f s).cutAfter = s.cutAfter := rfl
@[simp] theorem withWork_cfg (m : Fin 8) (f : WorkRecord → WorkRecord) (s : State) : (withWork m f s).cfg = s.cfg := rfl
@[simp] theorem withWork_mon (m : Fin 8) (f : WorkRecord → WorkRecord) (s : State) : (withWork m f s).mon = s.mon := rfl
@[simp] theorem withWork_plan (m : Fin 8) (f : WorkRecord → WorkRecord) (s : State) : (withWork m f s).plan = s.plan := rfl
@[simp] theorem withWork_records (m : Fin 8) (f : WorkRecord → WorkRecord) (s : State) : (withWork m f s).records = s.records := rfl
@[simp] theorem withWork_cal (m : Fin 8) (f : WorkRecord → WorkRecord) (s : State) : (withWork m f s).cal = s.cal := rfl
@[simp] theorem withWork_check (m : Fin 8) (f : WorkRecord → WorkRecord) (s : State) : (withWork m f s).check = s.check := rfl
@[simp] theorem withWork_afe (m : Fin 8) (f : WorkRecord → WorkRecord) (s : State) : (withWork m f s).afe = s.afe := rfl
@[simp] theorem withWork_ptu (m : Fin 8) (f : WorkRecord → WorkRecord) (s : State) : (withWork m f s).ptu = s.ptu := rfl
@[simp] theorem withWork_rch (m : Fin 8) (f : WorkRecord → WorkRecord) (s : State) : (withWork m f s).rch = s.rch := rfl
@[simp] theorem withWork_spe (m : Fin 8) (f : WorkRecord → WorkRecord) (s : State) : (withWork m f s).spe = s.spe := rfl
@[simp] theorem withWork_ghm (m : Fin 8) (f : WorkRecord → WorkRecord) (s : State) : (withWork m f s).ghm = s.ghm := rfl
@[simp] theorem withWork_bim (m : Fin 8) (f : WorkRecord → WorkRecord) (s : State) : (withWork m f s).bim = s.bim := rfl
@[simp] theorem withWork_ccu (m : Fin 8) (f : WorkRecord → WorkRecord) (s : State) : (withWork m f s).ccu = s.ccu := rfl
@[simp] theorem withWork_mpl (m : Fin 8) (f : WorkRecord → WorkRecord) (s : State) : (withWork m f s).mpl = s.mpl := rfl
@[simp] theorem withWork_ret (m : Fin 8) (f : WorkRecord → WorkRecord) (s : State) : (withWork m f s).ret = s.ret := rfl
@[simp] theorem withWork_lnk (m : Fin 8) (f : WorkRecord → WorkRecord) (s : State) : (withWork m f s).lnk = s.lnk := rfl

/-! `withBand` -/

@[simp] theorem withBand_pending (b : Fin 24) (f : BandState → BandState) (s : State) : (withBand b f s).pending = s.pending := rfl
@[simp] theorem withBand_conversions (b : Fin 24) (f : BandState → BandState) (s : State) : (withBand b f s).conversions = s.conversions := rfl
@[simp] theorem withBand_cutAfter (b : Fin 24) (f : BandState → BandState) (s : State) : (withBand b f s).cutAfter = s.cutAfter := rfl
@[simp] theorem withBand_cfg (b : Fin 24) (f : BandState → BandState) (s : State) : (withBand b f s).cfg = s.cfg := rfl
@[simp] theorem withBand_plan (b : Fin 24) (f : BandState → BandState) (s : State) : (withBand b f s).plan = s.plan := rfl
@[simp] theorem withBand_records (b : Fin 24) (f : BandState → BandState) (s : State) : (withBand b f s).records = s.records := rfl
@[simp] theorem withBand_cal (b : Fin 24) (f : BandState → BandState) (s : State) : (withBand b f s).cal = s.cal := rfl
@[simp] theorem withBand_check (b : Fin 24) (f : BandState → BandState) (s : State) : (withBand b f s).check = s.check := rfl
@[simp] theorem withBand_afe (b : Fin 24) (f : BandState → BandState) (s : State) : (withBand b f s).afe = s.afe := rfl
@[simp] theorem withBand_ptu (b : Fin 24) (f : BandState → BandState) (s : State) : (withBand b f s).ptu = s.ptu := rfl
@[simp] theorem withBand_rch (b : Fin 24) (f : BandState → BandState) (s : State) : (withBand b f s).rch = s.rch := rfl
@[simp] theorem withBand_spe (b : Fin 24) (f : BandState → BandState) (s : State) : (withBand b f s).spe = s.spe := rfl
@[simp] theorem withBand_gvm (b : Fin 24) (f : BandState → BandState) (s : State) : (withBand b f s).gvm = s.gvm := rfl
@[simp] theorem withBand_ghm (b : Fin 24) (f : BandState → BandState) (s : State) : (withBand b f s).ghm = s.ghm := rfl
@[simp] theorem withBand_bim (b : Fin 24) (f : BandState → BandState) (s : State) : (withBand b f s).bim = s.bim := rfl
@[simp] theorem withBand_ccu (b : Fin 24) (f : BandState → BandState) (s : State) : (withBand b f s).ccu = s.ccu := rfl
@[simp] theorem withBand_mpl (b : Fin 24) (f : BandState → BandState) (s : State) : (withBand b f s).mpl = s.mpl := rfl
@[simp] theorem withBand_ret (b : Fin 24) (f : BandState → BandState) (s : State) : (withBand b f s).ret = s.ret := rfl
@[simp] theorem withBand_lnk (b : Fin 24) (f : BandState → BandState) (s : State) : (withBand b f s).lnk = s.lnk := rfl

/-! `withSkipMark` -/

@[simp] theorem withSkipMark_pending (b : Fin 24) (x : Bool) (s : State) : (withSkipMark b x s).pending = s.pending := rfl
@[simp] theorem withSkipMark_conversions (b : Fin 24) (x : Bool) (s : State) : (withSkipMark b x s).conversions = s.conversions := rfl
@[simp] theorem withSkipMark_cutAfter (b : Fin 24) (x : Bool) (s : State) : (withSkipMark b x s).cutAfter = s.cutAfter := rfl
@[simp] theorem withSkipMark_cfg (b : Fin 24) (x : Bool) (s : State) : (withSkipMark b x s).cfg = s.cfg := rfl
@[simp] theorem withSkipMark_mon (b : Fin 24) (x : Bool) (s : State) : (withSkipMark b x s).mon = s.mon := rfl
@[simp] theorem withSkipMark_plan (b : Fin 24) (x : Bool) (s : State) : (withSkipMark b x s).plan = s.plan := rfl
@[simp] theorem withSkipMark_records (b : Fin 24) (x : Bool) (s : State) : (withSkipMark b x s).records = s.records := rfl
@[simp] theorem withSkipMark_cal (b : Fin 24) (x : Bool) (s : State) : (withSkipMark b x s).cal = s.cal := rfl
@[simp] theorem withSkipMark_check (b : Fin 24) (x : Bool) (s : State) : (withSkipMark b x s).check = s.check := rfl
@[simp] theorem withSkipMark_afe (b : Fin 24) (x : Bool) (s : State) : (withSkipMark b x s).afe = s.afe := rfl
@[simp] theorem withSkipMark_ptu (b : Fin 24) (x : Bool) (s : State) : (withSkipMark b x s).ptu = s.ptu := rfl
@[simp] theorem withSkipMark_rch (b : Fin 24) (x : Bool) (s : State) : (withSkipMark b x s).rch = s.rch := rfl
@[simp] theorem withSkipMark_spe (b : Fin 24) (x : Bool) (s : State) : (withSkipMark b x s).spe = s.spe := rfl
@[simp] theorem withSkipMark_ghm (b : Fin 24) (x : Bool) (s : State) : (withSkipMark b x s).ghm = s.ghm := rfl
@[simp] theorem withSkipMark_bim (b : Fin 24) (x : Bool) (s : State) : (withSkipMark b x s).bim = s.bim := rfl
@[simp] theorem withSkipMark_ccu (b : Fin 24) (x : Bool) (s : State) : (withSkipMark b x s).ccu = s.ccu := rfl
@[simp] theorem withSkipMark_mpl (b : Fin 24) (x : Bool) (s : State) : (withSkipMark b x s).mpl = s.mpl := rfl
@[simp] theorem withSkipMark_ret (b : Fin 24) (x : Bool) (s : State) : (withSkipMark b x s).ret = s.ret := rfl
@[simp] theorem withSkipMark_lnk (b : Fin 24) (x : Bool) (s : State) : (withSkipMark b x s).lnk = s.lnk := rfl

/-! `withGhm` -/

@[simp] theorem withGhm_pending (f : GhmState → GhmState) (s : State) : (withGhm f s).pending = s.pending := rfl
@[simp] theorem withGhm_conversions (f : GhmState → GhmState) (s : State) : (withGhm f s).conversions = s.conversions := rfl
@[simp] theorem withGhm_cutAfter (f : GhmState → GhmState) (s : State) : (withGhm f s).cutAfter = s.cutAfter := rfl
@[simp] theorem withGhm_cfg (f : GhmState → GhmState) (s : State) : (withGhm f s).cfg = s.cfg := rfl
@[simp] theorem withGhm_mon (f : GhmState → GhmState) (s : State) : (withGhm f s).mon = s.mon := rfl
@[simp] theorem withGhm_plan (f : GhmState → GhmState) (s : State) : (withGhm f s).plan = s.plan := rfl
@[simp] theorem withGhm_records (f : GhmState → GhmState) (s : State) : (withGhm f s).records = s.records := rfl
@[simp] theorem withGhm_cal (f : GhmState → GhmState) (s : State) : (withGhm f s).cal = s.cal := rfl
@[simp] theorem withGhm_check (f : GhmState → GhmState) (s : State) : (withGhm f s).check = s.check := rfl
@[simp] theorem withGhm_afe (f : GhmState → GhmState) (s : State) : (withGhm f s).afe = s.afe := rfl
@[simp] theorem withGhm_ptu (f : GhmState → GhmState) (s : State) : (withGhm f s).ptu = s.ptu := rfl
@[simp] theorem withGhm_rch (f : GhmState → GhmState) (s : State) : (withGhm f s).rch = s.rch := rfl
@[simp] theorem withGhm_spe (f : GhmState → GhmState) (s : State) : (withGhm f s).spe = s.spe := rfl
@[simp] theorem withGhm_gvm (f : GhmState → GhmState) (s : State) : (withGhm f s).gvm = s.gvm := rfl
@[simp] theorem withGhm_bim (f : GhmState → GhmState) (s : State) : (withGhm f s).bim = s.bim := rfl
@[simp] theorem withGhm_ccu (f : GhmState → GhmState) (s : State) : (withGhm f s).ccu = s.ccu := rfl
@[simp] theorem withGhm_mpl (f : GhmState → GhmState) (s : State) : (withGhm f s).mpl = s.mpl := rfl
@[simp] theorem withGhm_ret (f : GhmState → GhmState) (s : State) : (withGhm f s).ret = s.ret := rfl
@[simp] theorem withGhm_lnk (f : GhmState → GhmState) (s : State) : (withGhm f s).lnk = s.lnk := rfl

/-! `countGhm` -/

@[simp] theorem countGhm_pending (f : GhmCounters → GhmCounters) (s : State) : (countGhm f s).pending = s.pending := rfl
@[simp] theorem countGhm_conversions (f : GhmCounters → GhmCounters) (s : State) : (countGhm f s).conversions = s.conversions := rfl
@[simp] theorem countGhm_cutAfter (f : GhmCounters → GhmCounters) (s : State) : (countGhm f s).cutAfter = s.cutAfter := rfl
@[simp] theorem countGhm_cfg (f : GhmCounters → GhmCounters) (s : State) : (countGhm f s).cfg = s.cfg := rfl
@[simp] theorem countGhm_mon (f : GhmCounters → GhmCounters) (s : State) : (countGhm f s).mon = s.mon := rfl
@[simp] theorem countGhm_plan (f : GhmCounters → GhmCounters) (s : State) : (countGhm f s).plan = s.plan := rfl
@[simp] theorem countGhm_records (f : GhmCounters → GhmCounters) (s : State) : (countGhm f s).records = s.records := rfl
@[simp] theorem countGhm_cal (f : GhmCounters → GhmCounters) (s : State) : (countGhm f s).cal = s.cal := rfl
@[simp] theorem countGhm_check (f : GhmCounters → GhmCounters) (s : State) : (countGhm f s).check = s.check := rfl
@[simp] theorem countGhm_afe (f : GhmCounters → GhmCounters) (s : State) : (countGhm f s).afe = s.afe := rfl
@[simp] theorem countGhm_ptu (f : GhmCounters → GhmCounters) (s : State) : (countGhm f s).ptu = s.ptu := rfl
@[simp] theorem countGhm_rch (f : GhmCounters → GhmCounters) (s : State) : (countGhm f s).rch = s.rch := rfl
@[simp] theorem countGhm_spe (f : GhmCounters → GhmCounters) (s : State) : (countGhm f s).spe = s.spe := rfl
@[simp] theorem countGhm_gvm (f : GhmCounters → GhmCounters) (s : State) : (countGhm f s).gvm = s.gvm := rfl
@[simp] theorem countGhm_bim (f : GhmCounters → GhmCounters) (s : State) : (countGhm f s).bim = s.bim := rfl
@[simp] theorem countGhm_ccu (f : GhmCounters → GhmCounters) (s : State) : (countGhm f s).ccu = s.ccu := rfl
@[simp] theorem countGhm_mpl (f : GhmCounters → GhmCounters) (s : State) : (countGhm f s).mpl = s.mpl := rfl
@[simp] theorem countGhm_ret (f : GhmCounters → GhmCounters) (s : State) : (countGhm f s).ret = s.ret := rfl
@[simp] theorem countGhm_lnk (f : GhmCounters → GhmCounters) (s : State) : (countGhm f s).lnk = s.lnk := rfl

/-! `withGhmConfig` -/

@[simp] theorem withGhmConfig_pending (f : GhmConfig → GhmConfig) (s : State) : (withGhmConfig f s).pending = s.pending := rfl
@[simp] theorem withGhmConfig_conversions (f : GhmConfig → GhmConfig) (s : State) : (withGhmConfig f s).conversions = s.conversions := rfl
@[simp] theorem withGhmConfig_cutAfter (f : GhmConfig → GhmConfig) (s : State) : (withGhmConfig f s).cutAfter = s.cutAfter := rfl
@[simp] theorem withGhmConfig_mon (f : GhmConfig → GhmConfig) (s : State) : (withGhmConfig f s).mon = s.mon := rfl
@[simp] theorem withGhmConfig_plan (f : GhmConfig → GhmConfig) (s : State) : (withGhmConfig f s).plan = s.plan := rfl
@[simp] theorem withGhmConfig_records (f : GhmConfig → GhmConfig) (s : State) : (withGhmConfig f s).records = s.records := rfl
@[simp] theorem withGhmConfig_cal (f : GhmConfig → GhmConfig) (s : State) : (withGhmConfig f s).cal = s.cal := rfl
@[simp] theorem withGhmConfig_check (f : GhmConfig → GhmConfig) (s : State) : (withGhmConfig f s).check = s.check := rfl
@[simp] theorem withGhmConfig_afe (f : GhmConfig → GhmConfig) (s : State) : (withGhmConfig f s).afe = s.afe := rfl
@[simp] theorem withGhmConfig_ptu (f : GhmConfig → GhmConfig) (s : State) : (withGhmConfig f s).ptu = s.ptu := rfl
@[simp] theorem withGhmConfig_rch (f : GhmConfig → GhmConfig) (s : State) : (withGhmConfig f s).rch = s.rch := rfl
@[simp] theorem withGhmConfig_spe (f : GhmConfig → GhmConfig) (s : State) : (withGhmConfig f s).spe = s.spe := rfl
@[simp] theorem withGhmConfig_gvm (f : GhmConfig → GhmConfig) (s : State) : (withGhmConfig f s).gvm = s.gvm := rfl
@[simp] theorem withGhmConfig_ghm (f : GhmConfig → GhmConfig) (s : State) : (withGhmConfig f s).ghm = s.ghm := rfl
@[simp] theorem withGhmConfig_bim (f : GhmConfig → GhmConfig) (s : State) : (withGhmConfig f s).bim = s.bim := rfl
@[simp] theorem withGhmConfig_ccu (f : GhmConfig → GhmConfig) (s : State) : (withGhmConfig f s).ccu = s.ccu := rfl
@[simp] theorem withGhmConfig_mpl (f : GhmConfig → GhmConfig) (s : State) : (withGhmConfig f s).mpl = s.mpl := rfl
@[simp] theorem withGhmConfig_ret (f : GhmConfig → GhmConfig) (s : State) : (withGhmConfig f s).ret = s.ret := rfl
@[simp] theorem withGhmConfig_lnk (f : GhmConfig → GhmConfig) (s : State) : (withGhmConfig f s).lnk = s.lnk := rfl

/-! `withEntry` -/

@[simp] theorem withEntry_pending (n : Nat) (f : WindowEntry → WindowEntry) (s : State) : (withEntry n f s).pending = s.pending := rfl
@[simp] theorem withEntry_conversions (n : Nat) (f : WindowEntry → WindowEntry) (s : State) : (withEntry n f s).conversions = s.conversions := rfl
@[simp] theorem withEntry_cutAfter (n : Nat) (f : WindowEntry → WindowEntry) (s : State) : (withEntry n f s).cutAfter = s.cutAfter := rfl
@[simp] theorem withEntry_cfg (n : Nat) (f : WindowEntry → WindowEntry) (s : State) : (withEntry n f s).cfg = s.cfg := rfl
@[simp] theorem withEntry_mon (n : Nat) (f : WindowEntry → WindowEntry) (s : State) : (withEntry n f s).mon = s.mon := rfl
@[simp] theorem withEntry_plan (n : Nat) (f : WindowEntry → WindowEntry) (s : State) : (withEntry n f s).plan = s.plan := rfl
@[simp] theorem withEntry_records (n : Nat) (f : WindowEntry → WindowEntry) (s : State) : (withEntry n f s).records = s.records := rfl
@[simp] theorem withEntry_cal (n : Nat) (f : WindowEntry → WindowEntry) (s : State) : (withEntry n f s).cal = s.cal := rfl
@[simp] theorem withEntry_check (n : Nat) (f : WindowEntry → WindowEntry) (s : State) : (withEntry n f s).check = s.check := rfl
@[simp] theorem withEntry_afe (n : Nat) (f : WindowEntry → WindowEntry) (s : State) : (withEntry n f s).afe = s.afe := rfl
@[simp] theorem withEntry_ptu (n : Nat) (f : WindowEntry → WindowEntry) (s : State) : (withEntry n f s).ptu = s.ptu := rfl
@[simp] theorem withEntry_rch (n : Nat) (f : WindowEntry → WindowEntry) (s : State) : (withEntry n f s).rch = s.rch := rfl
@[simp] theorem withEntry_spe (n : Nat) (f : WindowEntry → WindowEntry) (s : State) : (withEntry n f s).spe = s.spe := rfl
@[simp] theorem withEntry_gvm (n : Nat) (f : WindowEntry → WindowEntry) (s : State) : (withEntry n f s).gvm = s.gvm := rfl
@[simp] theorem withEntry_bim (n : Nat) (f : WindowEntry → WindowEntry) (s : State) : (withEntry n f s).bim = s.bim := rfl
@[simp] theorem withEntry_ccu (n : Nat) (f : WindowEntry → WindowEntry) (s : State) : (withEntry n f s).ccu = s.ccu := rfl
@[simp] theorem withEntry_mpl (n : Nat) (f : WindowEntry → WindowEntry) (s : State) : (withEntry n f s).mpl = s.mpl := rfl
@[simp] theorem withEntry_ret (n : Nat) (f : WindowEntry → WindowEntry) (s : State) : (withEntry n f s).ret = s.ret := rfl
@[simp] theorem withEntry_lnk (n : Nat) (f : WindowEntry → WindowEntry) (s : State) : (withEntry n f s).lnk = s.lnk := rfl

/-! `startInterval` -/

@[simp] theorem startInterval_pending (s : State) : (startInterval s).pending = s.pending := rfl
@[simp] theorem startInterval_conversions (s : State) : (startInterval s).conversions = s.conversions := rfl
@[simp] theorem startInterval_cutAfter (s : State) : (startInterval s).cutAfter = s.cutAfter := rfl
@[simp] theorem startInterval_cfg (s : State) : (startInterval s).cfg = s.cfg := rfl
@[simp] theorem startInterval_mon (s : State) : (startInterval s).mon = s.mon := rfl
@[simp] theorem startInterval_plan (s : State) : (startInterval s).plan = s.plan := rfl
@[simp] theorem startInterval_records (s : State) : (startInterval s).records = s.records := rfl
@[simp] theorem startInterval_cal (s : State) : (startInterval s).cal = s.cal := rfl
@[simp] theorem startInterval_check (s : State) : (startInterval s).check = s.check := rfl
@[simp] theorem startInterval_afe (s : State) : (startInterval s).afe = s.afe := rfl
@[simp] theorem startInterval_ptu (s : State) : (startInterval s).ptu = s.ptu := rfl
@[simp] theorem startInterval_rch (s : State) : (startInterval s).rch = s.rch := rfl
@[simp] theorem startInterval_spe (s : State) : (startInterval s).spe = s.spe := rfl
@[simp] theorem startInterval_gvm (s : State) : (startInterval s).gvm = s.gvm := rfl
@[simp] theorem startInterval_bim (s : State) : (startInterval s).bim = s.bim := rfl
@[simp] theorem startInterval_ccu (s : State) : (startInterval s).ccu = s.ccu := rfl
@[simp] theorem startInterval_mpl (s : State) : (startInterval s).mpl = s.mpl := rfl
@[simp] theorem startInterval_ret (s : State) : (startInterval s).ret = s.ret := rfl
@[simp] theorem startInterval_lnk (s : State) : (startInterval s).lnk = s.lnk := rfl

/-! `countBim` -/

@[simp] theorem countBim_pending (f : BimCounters → BimCounters) (s : State) : (countBim f s).pending = s.pending := rfl
@[simp] theorem countBim_conversions (f : BimCounters → BimCounters) (s : State) : (countBim f s).conversions = s.conversions := rfl
@[simp] theorem countBim_cutAfter (f : BimCounters → BimCounters) (s : State) : (countBim f s).cutAfter = s.cutAfter := rfl
@[simp] theorem countBim_cfg (f : BimCounters → BimCounters) (s : State) : (countBim f s).cfg = s.cfg := rfl
@[simp] theorem countBim_mon (f : BimCounters → BimCounters) (s : State) : (countBim f s).mon = s.mon := rfl
@[simp] theorem countBim_plan (f : BimCounters → BimCounters) (s : State) : (countBim f s).plan = s.plan := rfl
@[simp] theorem countBim_records (f : BimCounters → BimCounters) (s : State) : (countBim f s).records = s.records := rfl
@[simp] theorem countBim_cal (f : BimCounters → BimCounters) (s : State) : (countBim f s).cal = s.cal := rfl
@[simp] theorem countBim_check (f : BimCounters → BimCounters) (s : State) : (countBim f s).check = s.check := rfl
@[simp] theorem countBim_afe (f : BimCounters → BimCounters) (s : State) : (countBim f s).afe = s.afe := rfl
@[simp] theorem countBim_ptu (f : BimCounters → BimCounters) (s : State) : (countBim f s).ptu = s.ptu := rfl
@[simp] theorem countBim_rch (f : BimCounters → BimCounters) (s : State) : (countBim f s).rch = s.rch := rfl
@[simp] theorem countBim_spe (f : BimCounters → BimCounters) (s : State) : (countBim f s).spe = s.spe := rfl
@[simp] theorem countBim_gvm (f : BimCounters → BimCounters) (s : State) : (countBim f s).gvm = s.gvm := rfl
@[simp] theorem countBim_ghm (f : BimCounters → BimCounters) (s : State) : (countBim f s).ghm = s.ghm := rfl
@[simp] theorem countBim_ccu (f : BimCounters → BimCounters) (s : State) : (countBim f s).ccu = s.ccu := rfl
@[simp] theorem countBim_mpl (f : BimCounters → BimCounters) (s : State) : (countBim f s).mpl = s.mpl := rfl
@[simp] theorem countBim_ret (f : BimCounters → BimCounters) (s : State) : (countBim f s).ret = s.ret := rfl
@[simp] theorem countBim_lnk (f : BimCounters → BimCounters) (s : State) : (countBim f s).lnk = s.lnk := rfl

/-! `withIcing` -/

@[simp] theorem withIcing_pending (f : IcingRetained → IcingRetained) (s : State) : (withIcing f s).pending = s.pending := rfl
@[simp] theorem withIcing_conversions (f : IcingRetained → IcingRetained) (s : State) : (withIcing f s).conversions = s.conversions := rfl
@[simp] theorem withIcing_cutAfter (f : IcingRetained → IcingRetained) (s : State) : (withIcing f s).cutAfter = s.cutAfter := rfl
@[simp] theorem withIcing_cfg (f : IcingRetained → IcingRetained) (s : State) : (withIcing f s).cfg = s.cfg := rfl
@[simp] theorem withIcing_plan (f : IcingRetained → IcingRetained) (s : State) : (withIcing f s).plan = s.plan := rfl
@[simp] theorem withIcing_records (f : IcingRetained → IcingRetained) (s : State) : (withIcing f s).records = s.records := rfl
@[simp] theorem withIcing_cal (f : IcingRetained → IcingRetained) (s : State) : (withIcing f s).cal = s.cal := rfl
@[simp] theorem withIcing_check (f : IcingRetained → IcingRetained) (s : State) : (withIcing f s).check = s.check := rfl
@[simp] theorem withIcing_afe (f : IcingRetained → IcingRetained) (s : State) : (withIcing f s).afe = s.afe := rfl
@[simp] theorem withIcing_ptu (f : IcingRetained → IcingRetained) (s : State) : (withIcing f s).ptu = s.ptu := rfl
@[simp] theorem withIcing_rch (f : IcingRetained → IcingRetained) (s : State) : (withIcing f s).rch = s.rch := rfl
@[simp] theorem withIcing_spe (f : IcingRetained → IcingRetained) (s : State) : (withIcing f s).spe = s.spe := rfl
@[simp] theorem withIcing_gvm (f : IcingRetained → IcingRetained) (s : State) : (withIcing f s).gvm = s.gvm := rfl
@[simp] theorem withIcing_ghm (f : IcingRetained → IcingRetained) (s : State) : (withIcing f s).ghm = s.ghm := rfl
@[simp] theorem withIcing_bim (f : IcingRetained → IcingRetained) (s : State) : (withIcing f s).bim = s.bim := rfl
@[simp] theorem withIcing_ccu (f : IcingRetained → IcingRetained) (s : State) : (withIcing f s).ccu = s.ccu := rfl
@[simp] theorem withIcing_mpl (f : IcingRetained → IcingRetained) (s : State) : (withIcing f s).mpl = s.mpl := rfl
@[simp] theorem withIcing_ret (f : IcingRetained → IcingRetained) (s : State) : (withIcing f s).ret = s.ret := rfl
@[simp] theorem withIcing_lnk (f : IcingRetained → IcingRetained) (s : State) : (withIcing f s).lnk = s.lnk := rfl

/-! `setOutstanding` -/

@[simp] theorem setOutstanding_pending (x : Option Nat) (s : State) : (setOutstanding x s).pending = s.pending := rfl
@[simp] theorem setOutstanding_conversions (x : Option Nat) (s : State) : (setOutstanding x s).conversions = s.conversions := rfl
@[simp] theorem setOutstanding_cutAfter (x : Option Nat) (s : State) : (setOutstanding x s).cutAfter = s.cutAfter := rfl
@[simp] theorem setOutstanding_cfg (x : Option Nat) (s : State) : (setOutstanding x s).cfg = s.cfg := rfl
@[simp] theorem setOutstanding_mon (x : Option Nat) (s : State) : (setOutstanding x s).mon = s.mon := rfl
@[simp] theorem setOutstanding_plan (x : Option Nat) (s : State) : (setOutstanding x s).plan = s.plan := rfl
@[simp] theorem setOutstanding_records (x : Option Nat) (s : State) : (setOutstanding x s).records = s.records := rfl
@[simp] theorem setOutstanding_cal (x : Option Nat) (s : State) : (setOutstanding x s).cal = s.cal := rfl
@[simp] theorem setOutstanding_check (x : Option Nat) (s : State) : (setOutstanding x s).check = s.check := rfl
@[simp] theorem setOutstanding_afe (x : Option Nat) (s : State) : (setOutstanding x s).afe = s.afe := rfl
@[simp] theorem setOutstanding_ptu (x : Option Nat) (s : State) : (setOutstanding x s).ptu = s.ptu := rfl
@[simp] theorem setOutstanding_rch (x : Option Nat) (s : State) : (setOutstanding x s).rch = s.rch := rfl
@[simp] theorem setOutstanding_spe (x : Option Nat) (s : State) : (setOutstanding x s).spe = s.spe := rfl
@[simp] theorem setOutstanding_gvm (x : Option Nat) (s : State) : (setOutstanding x s).gvm = s.gvm := rfl
@[simp] theorem setOutstanding_ghm (x : Option Nat) (s : State) : (setOutstanding x s).ghm = s.ghm := rfl
@[simp] theorem setOutstanding_ccu (x : Option Nat) (s : State) : (setOutstanding x s).ccu = s.ccu := rfl
@[simp] theorem setOutstanding_mpl (x : Option Nat) (s : State) : (setOutstanding x s).mpl = s.mpl := rfl
@[simp] theorem setOutstanding_ret (x : Option Nat) (s : State) : (setOutstanding x s).ret = s.ret := rfl
@[simp] theorem setOutstanding_lnk (x : Option Nat) (s : State) : (setOutstanding x s).lnk = s.lnk := rfl

/-! `withBimConfig` -/

@[simp] theorem withBimConfig_pending (f : BimConfig → BimConfig) (s : State) : (withBimConfig f s).pending = s.pending := rfl
@[simp] theorem withBimConfig_conversions (f : BimConfig → BimConfig) (s : State) : (withBimConfig f s).conversions = s.conversions := rfl
@[simp] theorem withBimConfig_cutAfter (f : BimConfig → BimConfig) (s : State) : (withBimConfig f s).cutAfter = s.cutAfter := rfl
@[simp] theorem withBimConfig_mon (f : BimConfig → BimConfig) (s : State) : (withBimConfig f s).mon = s.mon := rfl
@[simp] theorem withBimConfig_plan (f : BimConfig → BimConfig) (s : State) : (withBimConfig f s).plan = s.plan := rfl
@[simp] theorem withBimConfig_records (f : BimConfig → BimConfig) (s : State) : (withBimConfig f s).records = s.records := rfl
@[simp] theorem withBimConfig_cal (f : BimConfig → BimConfig) (s : State) : (withBimConfig f s).cal = s.cal := rfl
@[simp] theorem withBimConfig_check (f : BimConfig → BimConfig) (s : State) : (withBimConfig f s).check = s.check := rfl
@[simp] theorem withBimConfig_afe (f : BimConfig → BimConfig) (s : State) : (withBimConfig f s).afe = s.afe := rfl
@[simp] theorem withBimConfig_ptu (f : BimConfig → BimConfig) (s : State) : (withBimConfig f s).ptu = s.ptu := rfl
@[simp] theorem withBimConfig_rch (f : BimConfig → BimConfig) (s : State) : (withBimConfig f s).rch = s.rch := rfl
@[simp] theorem withBimConfig_spe (f : BimConfig → BimConfig) (s : State) : (withBimConfig f s).spe = s.spe := rfl
@[simp] theorem withBimConfig_gvm (f : BimConfig → BimConfig) (s : State) : (withBimConfig f s).gvm = s.gvm := rfl
@[simp] theorem withBimConfig_ghm (f : BimConfig → BimConfig) (s : State) : (withBimConfig f s).ghm = s.ghm := rfl
@[simp] theorem withBimConfig_bim (f : BimConfig → BimConfig) (s : State) : (withBimConfig f s).bim = s.bim := rfl
@[simp] theorem withBimConfig_ccu (f : BimConfig → BimConfig) (s : State) : (withBimConfig f s).ccu = s.ccu := rfl
@[simp] theorem withBimConfig_mpl (f : BimConfig → BimConfig) (s : State) : (withBimConfig f s).mpl = s.mpl := rfl
@[simp] theorem withBimConfig_ret (f : BimConfig → BimConfig) (s : State) : (withBimConfig f s).ret = s.ret := rfl
@[simp] theorem withBimConfig_lnk (f : BimConfig → BimConfig) (s : State) : (withBimConfig f s).lnk = s.lnk := rfl

/-! `withWear` -/

@[simp] theorem withWear_pending (c : Fin 16) (f : ComponentWear → ComponentWear) (s : State) : (withWear c f s).pending = s.pending := rfl
@[simp] theorem withWear_conversions (c : Fin 16) (f : ComponentWear → ComponentWear) (s : State) : (withWear c f s).conversions = s.conversions := rfl
@[simp] theorem withWear_cutAfter (c : Fin 16) (f : ComponentWear → ComponentWear) (s : State) : (withWear c f s).cutAfter = s.cutAfter := rfl
@[simp] theorem withWear_cfg (c : Fin 16) (f : ComponentWear → ComponentWear) (s : State) : (withWear c f s).cfg = s.cfg := rfl
@[simp] theorem withWear_mon (c : Fin 16) (f : ComponentWear → ComponentWear) (s : State) : (withWear c f s).mon = s.mon := rfl
@[simp] theorem withWear_records (c : Fin 16) (f : ComponentWear → ComponentWear) (s : State) : (withWear c f s).records = s.records := rfl
@[simp] theorem withWear_cal (c : Fin 16) (f : ComponentWear → ComponentWear) (s : State) : (withWear c f s).cal = s.cal := rfl
@[simp] theorem withWear_check (c : Fin 16) (f : ComponentWear → ComponentWear) (s : State) : (withWear c f s).check = s.check := rfl
@[simp] theorem withWear_afe (c : Fin 16) (f : ComponentWear → ComponentWear) (s : State) : (withWear c f s).afe = s.afe := rfl
@[simp] theorem withWear_ptu (c : Fin 16) (f : ComponentWear → ComponentWear) (s : State) : (withWear c f s).ptu = s.ptu := rfl
@[simp] theorem withWear_rch (c : Fin 16) (f : ComponentWear → ComponentWear) (s : State) : (withWear c f s).rch = s.rch := rfl
@[simp] theorem withWear_spe (c : Fin 16) (f : ComponentWear → ComponentWear) (s : State) : (withWear c f s).spe = s.spe := rfl
@[simp] theorem withWear_gvm (c : Fin 16) (f : ComponentWear → ComponentWear) (s : State) : (withWear c f s).gvm = s.gvm := rfl
@[simp] theorem withWear_ghm (c : Fin 16) (f : ComponentWear → ComponentWear) (s : State) : (withWear c f s).ghm = s.ghm := rfl
@[simp] theorem withWear_bim (c : Fin 16) (f : ComponentWear → ComponentWear) (s : State) : (withWear c f s).bim = s.bim := rfl
@[simp] theorem withWear_ccu (c : Fin 16) (f : ComponentWear → ComponentWear) (s : State) : (withWear c f s).ccu = s.ccu := rfl
@[simp] theorem withWear_mpl (c : Fin 16) (f : ComponentWear → ComponentWear) (s : State) : (withWear c f s).mpl = s.mpl := rfl
@[simp] theorem withWear_ret (c : Fin 16) (f : ComponentWear → ComponentWear) (s : State) : (withWear c f s).ret = s.ret := rfl
@[simp] theorem withWear_lnk (c : Fin 16) (f : ComponentWear → ComponentWear) (s : State) : (withWear c f s).lnk = s.lnk := rfl

/-! `withCompInterval` -/

@[simp] theorem withCompInterval_pending (c : Fin 16) (f : ComponentInterval → ComponentInterval) (s : State) : (withCompInterval c f s).pending = s.pending := rfl
@[simp] theorem withCompInterval_conversions (c : Fin 16) (f : ComponentInterval → ComponentInterval) (s : State) : (withCompInterval c f s).conversions = s.conversions := rfl
@[simp] theorem withCompInterval_cutAfter (c : Fin 16) (f : ComponentInterval → ComponentInterval) (s : State) : (withCompInterval c f s).cutAfter = s.cutAfter := rfl
@[simp] theorem withCompInterval_cfg (c : Fin 16) (f : ComponentInterval → ComponentInterval) (s : State) : (withCompInterval c f s).cfg = s.cfg := rfl
@[simp] theorem withCompInterval_mon (c : Fin 16) (f : ComponentInterval → ComponentInterval) (s : State) : (withCompInterval c f s).mon = s.mon := rfl
@[simp] theorem withCompInterval_records (c : Fin 16) (f : ComponentInterval → ComponentInterval) (s : State) : (withCompInterval c f s).records = s.records := rfl
@[simp] theorem withCompInterval_cal (c : Fin 16) (f : ComponentInterval → ComponentInterval) (s : State) : (withCompInterval c f s).cal = s.cal := rfl
@[simp] theorem withCompInterval_check (c : Fin 16) (f : ComponentInterval → ComponentInterval) (s : State) : (withCompInterval c f s).check = s.check := rfl
@[simp] theorem withCompInterval_afe (c : Fin 16) (f : ComponentInterval → ComponentInterval) (s : State) : (withCompInterval c f s).afe = s.afe := rfl
@[simp] theorem withCompInterval_ptu (c : Fin 16) (f : ComponentInterval → ComponentInterval) (s : State) : (withCompInterval c f s).ptu = s.ptu := rfl
@[simp] theorem withCompInterval_rch (c : Fin 16) (f : ComponentInterval → ComponentInterval) (s : State) : (withCompInterval c f s).rch = s.rch := rfl
@[simp] theorem withCompInterval_spe (c : Fin 16) (f : ComponentInterval → ComponentInterval) (s : State) : (withCompInterval c f s).spe = s.spe := rfl
@[simp] theorem withCompInterval_gvm (c : Fin 16) (f : ComponentInterval → ComponentInterval) (s : State) : (withCompInterval c f s).gvm = s.gvm := rfl
@[simp] theorem withCompInterval_ghm (c : Fin 16) (f : ComponentInterval → ComponentInterval) (s : State) : (withCompInterval c f s).ghm = s.ghm := rfl
@[simp] theorem withCompInterval_bim (c : Fin 16) (f : ComponentInterval → ComponentInterval) (s : State) : (withCompInterval c f s).bim = s.bim := rfl
@[simp] theorem withCompInterval_ccu (c : Fin 16) (f : ComponentInterval → ComponentInterval) (s : State) : (withCompInterval c f s).ccu = s.ccu := rfl
@[simp] theorem withCompInterval_mpl (c : Fin 16) (f : ComponentInterval → ComponentInterval) (s : State) : (withCompInterval c f s).mpl = s.mpl := rfl
@[simp] theorem withCompInterval_ret (c : Fin 16) (f : ComponentInterval → ComponentInterval) (s : State) : (withCompInterval c f s).ret = s.ret := rfl
@[simp] theorem withCompInterval_lnk (c : Fin 16) (f : ComponentInterval → ComponentInterval) (s : State) : (withCompInterval c f s).lnk = s.lnk := rfl

/-! `withTasks` -/

@[simp] theorem withTasks_pending (f : List Task → List Task) (s : State) : (withTasks f s).pending = s.pending := rfl
@[simp] theorem withTasks_conversions (f : List Task → List Task) (s : State) : (withTasks f s).conversions = s.conversions := rfl
@[simp] theorem withTasks_cutAfter (f : List Task → List Task) (s : State) : (withTasks f s).cutAfter = s.cutAfter := rfl
@[simp] theorem withTasks_cfg (f : List Task → List Task) (s : State) : (withTasks f s).cfg = s.cfg := rfl
@[simp] theorem withTasks_mon (f : List Task → List Task) (s : State) : (withTasks f s).mon = s.mon := rfl
@[simp] theorem withTasks_records (f : List Task → List Task) (s : State) : (withTasks f s).records = s.records := rfl
@[simp] theorem withTasks_cal (f : List Task → List Task) (s : State) : (withTasks f s).cal = s.cal := rfl
@[simp] theorem withTasks_check (f : List Task → List Task) (s : State) : (withTasks f s).check = s.check := rfl
@[simp] theorem withTasks_afe (f : List Task → List Task) (s : State) : (withTasks f s).afe = s.afe := rfl
@[simp] theorem withTasks_ptu (f : List Task → List Task) (s : State) : (withTasks f s).ptu = s.ptu := rfl
@[simp] theorem withTasks_rch (f : List Task → List Task) (s : State) : (withTasks f s).rch = s.rch := rfl
@[simp] theorem withTasks_spe (f : List Task → List Task) (s : State) : (withTasks f s).spe = s.spe := rfl
@[simp] theorem withTasks_gvm (f : List Task → List Task) (s : State) : (withTasks f s).gvm = s.gvm := rfl
@[simp] theorem withTasks_ghm (f : List Task → List Task) (s : State) : (withTasks f s).ghm = s.ghm := rfl
@[simp] theorem withTasks_bim (f : List Task → List Task) (s : State) : (withTasks f s).bim = s.bim := rfl
@[simp] theorem withTasks_ccu (f : List Task → List Task) (s : State) : (withTasks f s).ccu = s.ccu := rfl
@[simp] theorem withTasks_mpl (f : List Task → List Task) (s : State) : (withTasks f s).mpl = s.mpl := rfl
@[simp] theorem withTasks_ret (f : List Task → List Task) (s : State) : (withTasks f s).ret = s.ret := rfl
@[simp] theorem withTasks_lnk (f : List Task → List Task) (s : State) : (withTasks f s).lnk = s.lnk := rfl

/-! `putTask` -/

@[simp] theorem putTask_pending (t : Task) (s : State) : (putTask t s).pending = s.pending := rfl
@[simp] theorem putTask_conversions (t : Task) (s : State) : (putTask t s).conversions = s.conversions := rfl
@[simp] theorem putTask_cutAfter (t : Task) (s : State) : (putTask t s).cutAfter = s.cutAfter := rfl
@[simp] theorem putTask_cfg (t : Task) (s : State) : (putTask t s).cfg = s.cfg := rfl
@[simp] theorem putTask_mon (t : Task) (s : State) : (putTask t s).mon = s.mon := rfl
@[simp] theorem putTask_records (t : Task) (s : State) : (putTask t s).records = s.records := rfl
@[simp] theorem putTask_cal (t : Task) (s : State) : (putTask t s).cal = s.cal := rfl
@[simp] theorem putTask_check (t : Task) (s : State) : (putTask t s).check = s.check := rfl
@[simp] theorem putTask_afe (t : Task) (s : State) : (putTask t s).afe = s.afe := rfl
@[simp] theorem putTask_ptu (t : Task) (s : State) : (putTask t s).ptu = s.ptu := rfl
@[simp] theorem putTask_rch (t : Task) (s : State) : (putTask t s).rch = s.rch := rfl
@[simp] theorem putTask_spe (t : Task) (s : State) : (putTask t s).spe = s.spe := rfl
@[simp] theorem putTask_gvm (t : Task) (s : State) : (putTask t s).gvm = s.gvm := rfl
@[simp] theorem putTask_ghm (t : Task) (s : State) : (putTask t s).ghm = s.ghm := rfl
@[simp] theorem putTask_bim (t : Task) (s : State) : (putTask t s).bim = s.bim := rfl
@[simp] theorem putTask_ccu (t : Task) (s : State) : (putTask t s).ccu = s.ccu := rfl
@[simp] theorem putTask_mpl (t : Task) (s : State) : (putTask t s).mpl = s.mpl := rfl
@[simp] theorem putTask_ret (t : Task) (s : State) : (putTask t s).ret = s.ret := rfl
@[simp] theorem putTask_lnk (t : Task) (s : State) : (putTask t s).lnk = s.lnk := rfl

/-! `withWaiting` -/

@[simp] theorem withWaiting_pending (f : Vector Bool 16 → Vector Bool 16) (s : State) : (withWaiting f s).pending = s.pending := rfl
@[simp] theorem withWaiting_conversions (f : Vector Bool 16 → Vector Bool 16) (s : State) : (withWaiting f s).conversions = s.conversions := rfl
@[simp] theorem withWaiting_cutAfter (f : Vector Bool 16 → Vector Bool 16) (s : State) : (withWaiting f s).cutAfter = s.cutAfter := rfl
@[simp] theorem withWaiting_cfg (f : Vector Bool 16 → Vector Bool 16) (s : State) : (withWaiting f s).cfg = s.cfg := rfl
@[simp] theorem withWaiting_mon (f : Vector Bool 16 → Vector Bool 16) (s : State) : (withWaiting f s).mon = s.mon := rfl
@[simp] theorem withWaiting_plan (f : Vector Bool 16 → Vector Bool 16) (s : State) : (withWaiting f s).plan = s.plan := rfl
@[simp] theorem withWaiting_records (f : Vector Bool 16 → Vector Bool 16) (s : State) : (withWaiting f s).records = s.records := rfl
@[simp] theorem withWaiting_cal (f : Vector Bool 16 → Vector Bool 16) (s : State) : (withWaiting f s).cal = s.cal := rfl
@[simp] theorem withWaiting_check (f : Vector Bool 16 → Vector Bool 16) (s : State) : (withWaiting f s).check = s.check := rfl
@[simp] theorem withWaiting_afe (f : Vector Bool 16 → Vector Bool 16) (s : State) : (withWaiting f s).afe = s.afe := rfl
@[simp] theorem withWaiting_ptu (f : Vector Bool 16 → Vector Bool 16) (s : State) : (withWaiting f s).ptu = s.ptu := rfl
@[simp] theorem withWaiting_rch (f : Vector Bool 16 → Vector Bool 16) (s : State) : (withWaiting f s).rch = s.rch := rfl
@[simp] theorem withWaiting_spe (f : Vector Bool 16 → Vector Bool 16) (s : State) : (withWaiting f s).spe = s.spe := rfl
@[simp] theorem withWaiting_gvm (f : Vector Bool 16 → Vector Bool 16) (s : State) : (withWaiting f s).gvm = s.gvm := rfl
@[simp] theorem withWaiting_ghm (f : Vector Bool 16 → Vector Bool 16) (s : State) : (withWaiting f s).ghm = s.ghm := rfl
@[simp] theorem withWaiting_bim (f : Vector Bool 16 → Vector Bool 16) (s : State) : (withWaiting f s).bim = s.bim := rfl
@[simp] theorem withWaiting_ccu (f : Vector Bool 16 → Vector Bool 16) (s : State) : (withWaiting f s).ccu = s.ccu := rfl
@[simp] theorem withWaiting_ret (f : Vector Bool 16 → Vector Bool 16) (s : State) : (withWaiting f s).ret = s.ret := rfl
@[simp] theorem withWaiting_lnk (f : Vector Bool 16 → Vector Bool 16) (s : State) : (withWaiting f s).lnk = s.lnk := rfl

/-! `withGrades` -/

@[simp] theorem withGrades_pending (f : HeldGrades → HeldGrades) (s : State) : (withGrades f s).pending = s.pending := rfl
@[simp] theorem withGrades_conversions (f : HeldGrades → HeldGrades) (s : State) : (withGrades f s).conversions = s.conversions := rfl
@[simp] theorem withGrades_cutAfter (f : HeldGrades → HeldGrades) (s : State) : (withGrades f s).cutAfter = s.cutAfter := rfl
@[simp] theorem withGrades_cfg (f : HeldGrades → HeldGrades) (s : State) : (withGrades f s).cfg = s.cfg := rfl
@[simp] theorem withGrades_mon (f : HeldGrades → HeldGrades) (s : State) : (withGrades f s).mon = s.mon := rfl
@[simp] theorem withGrades_plan (f : HeldGrades → HeldGrades) (s : State) : (withGrades f s).plan = s.plan := rfl
@[simp] theorem withGrades_records (f : HeldGrades → HeldGrades) (s : State) : (withGrades f s).records = s.records := rfl
@[simp] theorem withGrades_cal (f : HeldGrades → HeldGrades) (s : State) : (withGrades f s).cal = s.cal := rfl
@[simp] theorem withGrades_check (f : HeldGrades → HeldGrades) (s : State) : (withGrades f s).check = s.check := rfl
@[simp] theorem withGrades_afe (f : HeldGrades → HeldGrades) (s : State) : (withGrades f s).afe = s.afe := rfl
@[simp] theorem withGrades_ptu (f : HeldGrades → HeldGrades) (s : State) : (withGrades f s).ptu = s.ptu := rfl
@[simp] theorem withGrades_rch (f : HeldGrades → HeldGrades) (s : State) : (withGrades f s).rch = s.rch := rfl
@[simp] theorem withGrades_spe (f : HeldGrades → HeldGrades) (s : State) : (withGrades f s).spe = s.spe := rfl
@[simp] theorem withGrades_gvm (f : HeldGrades → HeldGrades) (s : State) : (withGrades f s).gvm = s.gvm := rfl
@[simp] theorem withGrades_ghm (f : HeldGrades → HeldGrades) (s : State) : (withGrades f s).ghm = s.ghm := rfl
@[simp] theorem withGrades_bim (f : HeldGrades → HeldGrades) (s : State) : (withGrades f s).bim = s.bim := rfl
@[simp] theorem withGrades_ccu (f : HeldGrades → HeldGrades) (s : State) : (withGrades f s).ccu = s.ccu := rfl
@[simp] theorem withGrades_ret (f : HeldGrades → HeldGrades) (s : State) : (withGrades f s).ret = s.ret := rfl
@[simp] theorem withGrades_lnk (f : HeldGrades → HeldGrades) (s : State) : (withGrades f s).lnk = s.lnk := rfl

/-! `newInterval` -/

@[simp] theorem newInterval_pending (s : State) : (newInterval s).pending = s.pending := rfl
@[simp] theorem newInterval_conversions (s : State) : (newInterval s).conversions = s.conversions := rfl
@[simp] theorem newInterval_cutAfter (s : State) : (newInterval s).cutAfter = s.cutAfter := rfl
@[simp] theorem newInterval_cfg (s : State) : (newInterval s).cfg = s.cfg := rfl
@[simp] theorem newInterval_mon (s : State) : (newInterval s).mon = s.mon := rfl
@[simp] theorem newInterval_records (s : State) : (newInterval s).records = s.records := rfl
@[simp] theorem newInterval_cal (s : State) : (newInterval s).cal = s.cal := rfl
@[simp] theorem newInterval_check (s : State) : (newInterval s).check = s.check := rfl
@[simp] theorem newInterval_afe (s : State) : (newInterval s).afe = s.afe := rfl
@[simp] theorem newInterval_ptu (s : State) : (newInterval s).ptu = s.ptu := rfl
@[simp] theorem newInterval_rch (s : State) : (newInterval s).rch = s.rch := rfl
@[simp] theorem newInterval_spe (s : State) : (newInterval s).spe = s.spe := rfl
@[simp] theorem newInterval_gvm (s : State) : (newInterval s).gvm = s.gvm := rfl
@[simp] theorem newInterval_ghm (s : State) : (newInterval s).ghm = s.ghm := rfl
@[simp] theorem newInterval_bim (s : State) : (newInterval s).bim = s.bim := rfl
@[simp] theorem newInterval_ccu (s : State) : (newInterval s).ccu = s.ccu := rfl
@[simp] theorem newInterval_mpl (s : State) : (newInterval s).mpl = s.mpl := rfl
@[simp] theorem newInterval_ret (s : State) : (newInterval s).ret = s.ret := rfl
@[simp] theorem newInterval_lnk (s : State) : (newInterval s).lnk = s.lnk := rfl

/-! `openNewDay` -/

@[simp] theorem openNewDay_pending (d : Nat) (s : State) : (openNewDay d s).pending = s.pending := rfl
@[simp] theorem openNewDay_conversions (d : Nat) (s : State) : (openNewDay d s).conversions = s.conversions := rfl
@[simp] theorem openNewDay_cutAfter (d : Nat) (s : State) : (openNewDay d s).cutAfter = s.cutAfter := rfl
@[simp] theorem openNewDay_cfg (d : Nat) (s : State) : (openNewDay d s).cfg = s.cfg := rfl
@[simp] theorem openNewDay_mon (d : Nat) (s : State) : (openNewDay d s).mon = s.mon := rfl
@[simp] theorem openNewDay_records (d : Nat) (s : State) : (openNewDay d s).records = s.records := rfl
@[simp] theorem openNewDay_cal (d : Nat) (s : State) : (openNewDay d s).cal = s.cal := rfl
@[simp] theorem openNewDay_check (d : Nat) (s : State) : (openNewDay d s).check = s.check := rfl
@[simp] theorem openNewDay_afe (d : Nat) (s : State) : (openNewDay d s).afe = s.afe := rfl
@[simp] theorem openNewDay_ptu (d : Nat) (s : State) : (openNewDay d s).ptu = s.ptu := rfl
@[simp] theorem openNewDay_rch (d : Nat) (s : State) : (openNewDay d s).rch = s.rch := rfl
@[simp] theorem openNewDay_spe (d : Nat) (s : State) : (openNewDay d s).spe = s.spe := rfl
@[simp] theorem openNewDay_gvm (d : Nat) (s : State) : (openNewDay d s).gvm = s.gvm := rfl
@[simp] theorem openNewDay_ghm (d : Nat) (s : State) : (openNewDay d s).ghm = s.ghm := rfl
@[simp] theorem openNewDay_bim (d : Nat) (s : State) : (openNewDay d s).bim = s.bim := rfl
@[simp] theorem openNewDay_ccu (d : Nat) (s : State) : (openNewDay d s).ccu = s.ccu := rfl
@[simp] theorem openNewDay_mpl (d : Nat) (s : State) : (openNewDay d s).mpl = s.mpl := rfl
@[simp] theorem openNewDay_ret (d : Nat) (s : State) : (openNewDay d s).ret = s.ret := rfl
@[simp] theorem openNewDay_lnk (d : Nat) (s : State) : (openNewDay d s).lnk = s.lnk := rfl

/-! `foldTally` -/

@[simp] theorem foldTally_pending (s : State) : (foldTally s).pending = s.pending := rfl
@[simp] theorem foldTally_conversions (s : State) : (foldTally s).conversions = s.conversions := rfl
@[simp] theorem foldTally_cutAfter (s : State) : (foldTally s).cutAfter = s.cutAfter := rfl
@[simp] theorem foldTally_cfg (s : State) : (foldTally s).cfg = s.cfg := rfl
@[simp] theorem foldTally_mon (s : State) : (foldTally s).mon = s.mon := rfl
@[simp] theorem foldTally_records (s : State) : (foldTally s).records = s.records := rfl
@[simp] theorem foldTally_cal (s : State) : (foldTally s).cal = s.cal := rfl
@[simp] theorem foldTally_check (s : State) : (foldTally s).check = s.check := rfl
@[simp] theorem foldTally_afe (s : State) : (foldTally s).afe = s.afe := rfl
@[simp] theorem foldTally_ptu (s : State) : (foldTally s).ptu = s.ptu := rfl
@[simp] theorem foldTally_rch (s : State) : (foldTally s).rch = s.rch := rfl
@[simp] theorem foldTally_spe (s : State) : (foldTally s).spe = s.spe := rfl
@[simp] theorem foldTally_gvm (s : State) : (foldTally s).gvm = s.gvm := rfl
@[simp] theorem foldTally_ghm (s : State) : (foldTally s).ghm = s.ghm := rfl
@[simp] theorem foldTally_bim (s : State) : (foldTally s).bim = s.bim := rfl
@[simp] theorem foldTally_ccu (s : State) : (foldTally s).ccu = s.ccu := rfl
@[simp] theorem foldTally_mpl (s : State) : (foldTally s).mpl = s.mpl := rfl
@[simp] theorem foldTally_ret (s : State) : (foldTally s).ret = s.ret := rfl
@[simp] theorem foldTally_lnk (s : State) : (foldTally s).lnk = s.lnk := rfl

/-! `restartPeriod` -/

@[simp] theorem restartPeriod_pending (s : State) : (restartPeriod s).pending = s.pending := rfl
@[simp] theorem restartPeriod_conversions (s : State) : (restartPeriod s).conversions = s.conversions := rfl
@[simp] theorem restartPeriod_cutAfter (s : State) : (restartPeriod s).cutAfter = s.cutAfter := rfl
@[simp] theorem restartPeriod_cfg (s : State) : (restartPeriod s).cfg = s.cfg := rfl
@[simp] theorem restartPeriod_mon (s : State) : (restartPeriod s).mon = s.mon := rfl
@[simp] theorem restartPeriod_plan (s : State) : (restartPeriod s).plan = s.plan := rfl
@[simp] theorem restartPeriod_records (s : State) : (restartPeriod s).records = s.records := rfl
@[simp] theorem restartPeriod_cal (s : State) : (restartPeriod s).cal = s.cal := rfl
@[simp] theorem restartPeriod_check (s : State) : (restartPeriod s).check = s.check := rfl
@[simp] theorem restartPeriod_afe (s : State) : (restartPeriod s).afe = s.afe := rfl
@[simp] theorem restartPeriod_ptu (s : State) : (restartPeriod s).ptu = s.ptu := rfl
@[simp] theorem restartPeriod_rch (s : State) : (restartPeriod s).rch = s.rch := rfl
@[simp] theorem restartPeriod_spe (s : State) : (restartPeriod s).spe = s.spe := rfl
@[simp] theorem restartPeriod_ghm (s : State) : (restartPeriod s).ghm = s.ghm := rfl
@[simp] theorem restartPeriod_bim (s : State) : (restartPeriod s).bim = s.bim := rfl
@[simp] theorem restartPeriod_ccu (s : State) : (restartPeriod s).ccu = s.ccu := rfl
@[simp] theorem restartPeriod_mpl (s : State) : (restartPeriod s).mpl = s.mpl := rfl
@[simp] theorem restartPeriod_ret (s : State) : (restartPeriod s).ret = s.ret := rfl
@[simp] theorem restartPeriod_lnk (s : State) : (restartPeriod s).lnk = s.lnk := rfl

/-! `storeConversion` -/

@[simp] theorem storeConversion_pending (c : Conversion) (s : State) : (storeConversion c s).pending = s.pending := rfl
@[simp] theorem storeConversion_conversions (c : Conversion) (s : State) : (storeConversion c s).conversions = s.conversions := rfl
@[simp] theorem storeConversion_cutAfter (c : Conversion) (s : State) : (storeConversion c s).cutAfter = s.cutAfter := rfl
@[simp] theorem storeConversion_cfg (c : Conversion) (s : State) : (storeConversion c s).cfg = s.cfg := rfl
@[simp] theorem storeConversion_mon (c : Conversion) (s : State) : (storeConversion c s).mon = s.mon := rfl
@[simp] theorem storeConversion_plan (c : Conversion) (s : State) : (storeConversion c s).plan = s.plan := rfl
@[simp] theorem storeConversion_records (c : Conversion) (s : State) : (storeConversion c s).records = s.records := rfl
@[simp] theorem storeConversion_cal (c : Conversion) (s : State) : (storeConversion c s).cal = s.cal := rfl
@[simp] theorem storeConversion_check (c : Conversion) (s : State) : (storeConversion c s).check = s.check := rfl
@[simp] theorem storeConversion_ptu (c : Conversion) (s : State) : (storeConversion c s).ptu = s.ptu := rfl
@[simp] theorem storeConversion_rch (c : Conversion) (s : State) : (storeConversion c s).rch = s.rch := rfl
@[simp] theorem storeConversion_spe (c : Conversion) (s : State) : (storeConversion c s).spe = s.spe := rfl
@[simp] theorem storeConversion_gvm (c : Conversion) (s : State) : (storeConversion c s).gvm = s.gvm := rfl
@[simp] theorem storeConversion_ghm (c : Conversion) (s : State) : (storeConversion c s).ghm = s.ghm := rfl
@[simp] theorem storeConversion_bim (c : Conversion) (s : State) : (storeConversion c s).bim = s.bim := rfl
@[simp] theorem storeConversion_ccu (c : Conversion) (s : State) : (storeConversion c s).ccu = s.ccu := rfl
@[simp] theorem storeConversion_mpl (c : Conversion) (s : State) : (storeConversion c s).mpl = s.mpl := rfl
@[simp] theorem storeConversion_ret (c : Conversion) (s : State) : (storeConversion c s).ret = s.ret := rfl
@[simp] theorem storeConversion_lnk (c : Conversion) (s : State) : (storeConversion c s).lnk = s.lnk := rfl

/-! `withMismatch` -/

@[simp] theorem withMismatch_pending (l : List RetSection) (s : State) : (withMismatch l s).pending = s.pending := rfl
@[simp] theorem withMismatch_conversions (l : List RetSection) (s : State) : (withMismatch l s).conversions = s.conversions := rfl
@[simp] theorem withMismatch_cutAfter (l : List RetSection) (s : State) : (withMismatch l s).cutAfter = s.cutAfter := rfl
@[simp] theorem withMismatch_cfg (l : List RetSection) (s : State) : (withMismatch l s).cfg = s.cfg := rfl
@[simp] theorem withMismatch_mon (l : List RetSection) (s : State) : (withMismatch l s).mon = s.mon := rfl
@[simp] theorem withMismatch_plan (l : List RetSection) (s : State) : (withMismatch l s).plan = s.plan := rfl
@[simp] theorem withMismatch_records (l : List RetSection) (s : State) : (withMismatch l s).records = s.records := rfl
@[simp] theorem withMismatch_cal (l : List RetSection) (s : State) : (withMismatch l s).cal = s.cal := rfl
@[simp] theorem withMismatch_afe (l : List RetSection) (s : State) : (withMismatch l s).afe = s.afe := rfl
@[simp] theorem withMismatch_ptu (l : List RetSection) (s : State) : (withMismatch l s).ptu = s.ptu := rfl
@[simp] theorem withMismatch_rch (l : List RetSection) (s : State) : (withMismatch l s).rch = s.rch := rfl
@[simp] theorem withMismatch_spe (l : List RetSection) (s : State) : (withMismatch l s).spe = s.spe := rfl
@[simp] theorem withMismatch_gvm (l : List RetSection) (s : State) : (withMismatch l s).gvm = s.gvm := rfl
@[simp] theorem withMismatch_ghm (l : List RetSection) (s : State) : (withMismatch l s).ghm = s.ghm := rfl
@[simp] theorem withMismatch_bim (l : List RetSection) (s : State) : (withMismatch l s).bim = s.bim := rfl
@[simp] theorem withMismatch_ccu (l : List RetSection) (s : State) : (withMismatch l s).ccu = s.ccu := rfl
@[simp] theorem withMismatch_mpl (l : List RetSection) (s : State) : (withMismatch l s).mpl = s.mpl := rfl
@[simp] theorem withMismatch_ret (l : List RetSection) (s : State) : (withMismatch l s).ret = s.ret := rfl
@[simp] theorem withMismatch_lnk (l : List RetSection) (s : State) : (withMismatch l s).lnk = s.lnk := rfl

/-! `applyPower` -/

@[simp] theorem applyPower_pending (d : Option (List RetSection)) (s : State) : (applyPower d s).pending = s.pending := rfl
@[simp] theorem applyPower_conversions (d : Option (List RetSection)) (s : State) : (applyPower d s).conversions = s.conversions := rfl
@[simp] theorem applyPower_cutAfter (d : Option (List RetSection)) (s : State) : (applyPower d s).cutAfter = s.cutAfter := rfl
@[simp] theorem applyPower_cfg (d : Option (List RetSection)) (s : State) : (applyPower d s).cfg = s.cfg := rfl
@[simp] theorem applyPower_mon (d : Option (List RetSection)) (s : State) : (applyPower d s).mon = s.mon := rfl
@[simp] theorem applyPower_plan (d : Option (List RetSection)) (s : State) : (applyPower d s).plan = s.plan := rfl
@[simp] theorem applyPower_records (d : Option (List RetSection)) (s : State) : (applyPower d s).records = s.records := rfl
@[simp] theorem applyPower_cal (d : Option (List RetSection)) (s : State) : (applyPower d s).cal = s.cal := rfl
@[simp] theorem applyPower_check (d : Option (List RetSection)) (s : State) : (applyPower d s).check = s.check := rfl
@[simp] theorem applyPower_afe (d : Option (List RetSection)) (s : State) : (applyPower d s).afe = s.afe := rfl
@[simp] theorem applyPower_ptu (d : Option (List RetSection)) (s : State) : (applyPower d s).ptu = s.ptu := rfl
@[simp] theorem applyPower_rch (d : Option (List RetSection)) (s : State) : (applyPower d s).rch = s.rch := rfl
@[simp] theorem applyPower_spe (d : Option (List RetSection)) (s : State) : (applyPower d s).spe = s.spe := rfl
@[simp] theorem applyPower_gvm (d : Option (List RetSection)) (s : State) : (applyPower d s).gvm = s.gvm := rfl
@[simp] theorem applyPower_ghm (d : Option (List RetSection)) (s : State) : (applyPower d s).ghm = s.ghm := rfl
@[simp] theorem applyPower_bim (d : Option (List RetSection)) (s : State) : (applyPower d s).bim = s.bim := rfl
@[simp] theorem applyPower_ccu (d : Option (List RetSection)) (s : State) : (applyPower d s).ccu = s.ccu := rfl
@[simp] theorem applyPower_mpl (d : Option (List RetSection)) (s : State) : (applyPower d s).mpl = s.mpl := rfl
@[simp] theorem applyPower_lnk (d : Option (List RetSection)) (s : State) : (applyPower d s).lnk = s.lnk := rfl

/-! `readStraps` -/

@[simp] theorem readStraps_pending (x : PerPort (BitVec 2)) (s : State) : (readStraps x s).pending = s.pending := rfl
@[simp] theorem readStraps_conversions (x : PerPort (BitVec 2)) (s : State) : (readStraps x s).conversions = s.conversions := rfl
@[simp] theorem readStraps_cutAfter (x : PerPort (BitVec 2)) (s : State) : (readStraps x s).cutAfter = s.cutAfter := rfl
@[simp] theorem readStraps_cfg (x : PerPort (BitVec 2)) (s : State) : (readStraps x s).cfg = s.cfg := rfl
@[simp] theorem readStraps_mon (x : PerPort (BitVec 2)) (s : State) : (readStraps x s).mon = s.mon := rfl
@[simp] theorem readStraps_plan (x : PerPort (BitVec 2)) (s : State) : (readStraps x s).plan = s.plan := rfl
@[simp] theorem readStraps_records (x : PerPort (BitVec 2)) (s : State) : (readStraps x s).records = s.records := rfl
@[simp] theorem readStraps_cal (x : PerPort (BitVec 2)) (s : State) : (readStraps x s).cal = s.cal := rfl
@[simp] theorem readStraps_check (x : PerPort (BitVec 2)) (s : State) : (readStraps x s).check = s.check := rfl
@[simp] theorem readStraps_afe (x : PerPort (BitVec 2)) (s : State) : (readStraps x s).afe = s.afe := rfl
@[simp] theorem readStraps_ptu (x : PerPort (BitVec 2)) (s : State) : (readStraps x s).ptu = s.ptu := rfl
@[simp] theorem readStraps_rch (x : PerPort (BitVec 2)) (s : State) : (readStraps x s).rch = s.rch := rfl
@[simp] theorem readStraps_spe (x : PerPort (BitVec 2)) (s : State) : (readStraps x s).spe = s.spe := rfl
@[simp] theorem readStraps_gvm (x : PerPort (BitVec 2)) (s : State) : (readStraps x s).gvm = s.gvm := rfl
@[simp] theorem readStraps_ghm (x : PerPort (BitVec 2)) (s : State) : (readStraps x s).ghm = s.ghm := rfl
@[simp] theorem readStraps_bim (x : PerPort (BitVec 2)) (s : State) : (readStraps x s).bim = s.bim := rfl
@[simp] theorem readStraps_ccu (x : PerPort (BitVec 2)) (s : State) : (readStraps x s).ccu = s.ccu := rfl
@[simp] theorem readStraps_mpl (x : PerPort (BitVec 2)) (s : State) : (readStraps x s).mpl = s.mpl := rfl
@[simp] theorem readStraps_ret (x : PerPort (BitVec 2)) (s : State) : (readStraps x s).ret = s.ret := rfl

/-! `takeDefaults` -/

@[simp] theorem takeDefaults_pending (l : List RetSection) (s : State) : (takeDefaults l s).pending = s.pending := by unfold takeDefaults; split <;> split <;> split <;> split <;> split <;> rfl
@[simp] theorem takeDefaults_conversions (l : List RetSection) (s : State) : (takeDefaults l s).conversions = s.conversions := by unfold takeDefaults; split <;> split <;> split <;> split <;> split <;> rfl
@[simp] theorem takeDefaults_cutAfter (l : List RetSection) (s : State) : (takeDefaults l s).cutAfter = s.cutAfter := by unfold takeDefaults; split <;> split <;> split <;> split <;> split <;> rfl
@[simp] theorem takeDefaults_check (l : List RetSection) (s : State) : (takeDefaults l s).check = s.check := by unfold takeDefaults; split <;> split <;> split <;> split <;> split <;> rfl
@[simp] theorem takeDefaults_afe (l : List RetSection) (s : State) : (takeDefaults l s).afe = s.afe := by unfold takeDefaults; split <;> split <;> split <;> split <;> split <;> rfl
@[simp] theorem takeDefaults_ptu (l : List RetSection) (s : State) : (takeDefaults l s).ptu = s.ptu := by unfold takeDefaults; split <;> split <;> split <;> split <;> split <;> rfl
@[simp] theorem takeDefaults_rch (l : List RetSection) (s : State) : (takeDefaults l s).rch = s.rch := by unfold takeDefaults; split <;> split <;> split <;> split <;> split <;> rfl
@[simp] theorem takeDefaults_spe (l : List RetSection) (s : State) : (takeDefaults l s).spe = s.spe := by unfold takeDefaults; split <;> split <;> split <;> split <;> split <;> rfl
@[simp] theorem takeDefaults_gvm (l : List RetSection) (s : State) : (takeDefaults l s).gvm = s.gvm := by unfold takeDefaults; split <;> split <;> split <;> split <;> split <;> rfl
@[simp] theorem takeDefaults_ghm (l : List RetSection) (s : State) : (takeDefaults l s).ghm = s.ghm := by unfold takeDefaults; split <;> split <;> split <;> split <;> split <;> rfl
@[simp] theorem takeDefaults_bim (l : List RetSection) (s : State) : (takeDefaults l s).bim = s.bim := by unfold takeDefaults; split <;> split <;> split <;> split <;> split <;> rfl
@[simp] theorem takeDefaults_ccu (l : List RetSection) (s : State) : (takeDefaults l s).ccu = s.ccu := by unfold takeDefaults; split <;> split <;> split <;> split <;> split <;> rfl
@[simp] theorem takeDefaults_mpl (l : List RetSection) (s : State) : (takeDefaults l s).mpl = s.mpl := by unfold takeDefaults; split <;> split <;> split <;> split <;> split <;> rfl
@[simp] theorem takeDefaults_ret (l : List RetSection) (s : State) : (takeDefaults l s).ret = s.ret := by unfold takeDefaults; split <;> split <;> split <;> split <;> split <;> rfl
@[simp] theorem takeDefaults_lnk (l : List RetSection) (s : State) : (takeDefaults l s).lnk = s.lnk := by unfold takeDefaults; split <;> split <;> split <;> split <;> split <;> rfl

/-! `withSections` -/

@[simp] theorem withSections_pending (l : List RetSection) (t : State) (s : State) : (withSections l t s).pending = s.pending := rfl
@[simp] theorem withSections_conversions (l : List RetSection) (t : State) (s : State) : (withSections l t s).conversions = s.conversions := rfl
@[simp] theorem withSections_cutAfter (l : List RetSection) (t : State) (s : State) : (withSections l t s).cutAfter = s.cutAfter := rfl
@[simp] theorem withSections_check (l : List RetSection) (t : State) (s : State) : (withSections l t s).check = s.check := rfl
@[simp] theorem withSections_afe (l : List RetSection) (t : State) (s : State) : (withSections l t s).afe = s.afe := rfl
@[simp] theorem withSections_ptu (l : List RetSection) (t : State) (s : State) : (withSections l t s).ptu = s.ptu := rfl
@[simp] theorem withSections_rch (l : List RetSection) (t : State) (s : State) : (withSections l t s).rch = s.rch := rfl
@[simp] theorem withSections_spe (l : List RetSection) (t : State) (s : State) : (withSections l t s).spe = s.spe := rfl
@[simp] theorem withSections_gvm (l : List RetSection) (t : State) (s : State) : (withSections l t s).gvm = s.gvm := rfl
@[simp] theorem withSections_ghm (l : List RetSection) (t : State) (s : State) : (withSections l t s).ghm = s.ghm := rfl
@[simp] theorem withSections_bim (l : List RetSection) (t : State) (s : State) : (withSections l t s).bim = s.bim := rfl
@[simp] theorem withSections_ccu (l : List RetSection) (t : State) (s : State) : (withSections l t s).ccu = s.ccu := rfl
@[simp] theorem withSections_mpl (l : List RetSection) (t : State) (s : State) : (withSections l t s).mpl = s.mpl := rfl
@[simp] theorem withSections_ret (l : List RetSection) (t : State) (s : State) : (withSections l t s).ret = s.ret := rfl
@[simp] theorem withSections_lnk (l : List RetSection) (t : State) (s : State) : (withSections l t s).lnk = s.lnk := rfl

/-! `rechecked` writes the check words only (R177) -/

@[simp] theorem rechecked_pending (s t : State) : (rechecked s t).pending = t.pending := rfl
@[simp] theorem rechecked_conversions (s t : State) : (rechecked s t).conversions = t.conversions := rfl
@[simp] theorem rechecked_cutAfter (s t : State) : (rechecked s t).cutAfter = t.cutAfter := rfl
@[simp] theorem rechecked_cfg (s t : State) : (rechecked s t).cfg = t.cfg := rfl
@[simp] theorem rechecked_mon (s t : State) : (rechecked s t).mon = t.mon := rfl
@[simp] theorem rechecked_plan (s t : State) : (rechecked s t).plan = t.plan := rfl
@[simp] theorem rechecked_records (s t : State) : (rechecked s t).records = t.records := rfl
@[simp] theorem rechecked_cal (s t : State) : (rechecked s t).cal = t.cal := rfl
@[simp] theorem rechecked_afe (s t : State) : (rechecked s t).afe = t.afe := rfl
@[simp] theorem rechecked_ptu (s t : State) : (rechecked s t).ptu = t.ptu := rfl
@[simp] theorem rechecked_rch (s t : State) : (rechecked s t).rch = t.rch := rfl
@[simp] theorem rechecked_spe (s t : State) : (rechecked s t).spe = t.spe := rfl
@[simp] theorem rechecked_gvm (s t : State) : (rechecked s t).gvm = t.gvm := rfl
@[simp] theorem rechecked_ghm (s t : State) : (rechecked s t).ghm = t.ghm := rfl
@[simp] theorem rechecked_bim (s t : State) : (rechecked s t).bim = t.bim := rfl
@[simp] theorem rechecked_ccu (s t : State) : (rechecked s t).ccu = t.ccu := rfl
@[simp] theorem rechecked_mpl (s t : State) : (rechecked s t).mpl = t.mpl := rfl
@[simp] theorem rechecked_ret (s t : State) : (rechecked s t).ret = t.ret := rfl
@[simp] theorem rechecked_lnk (s t : State) : (rechecked s t).lnk = t.lnk := rfl

/-- An event that changes no section leaves every check word as it is. -/
theorem rechecked_kept (s t : State) (h1 : t.cfg = s.cfg) (h2 : t.mon = s.mon) (h3 : t.plan = s.plan)
    (h4 : t.records = s.records) (h5 : t.cal = s.cal) : rechecked s t = t := by
  unfold rechecked
  rw [← h1, ← h2, ← h3, ← h4, ← h5]
  simp

/-- Where every check word matches it goes on matching. -/
theorem rechecked_matching (s t : State) (h : t.check = {}) : rechecked s t = t := by
  obtain ⟨⟩ := t
  cases h
  rfl

/-! The written fields -/

@[simp] theorem refreshLines_get (p : Port) (s : State) :
    (refreshLines s).lnk.get p = refreshLine s.ret.operating (s.cfg.masks.get p) (s.lnk.get p) := by cases p <;> rfl

@[simp] theorem setNotice_get (n : Notice) (p : Port) (s : State) :
    (setNotice n s).lnk.get p =
      refreshLine s.ret.operating (s.cfg.masks.get p) (addNotice n (s.lnk.get p)) := by cases p <;> rfl

theorem setPortNotice_get (p q : Port) (n : Notice) (s : State) :
    (setPortNotice p n s).lnk.get q =
      refreshLine s.ret.operating (s.cfg.masks.get q) (if q = p then addNotice n (s.lnk.get q) else s.lnk.get q) := by
  cases p <;> cases q <;> rfl

theorem withPort_get (p q : Port) (f : PortState → PortState) (s : State) :
    (withPort p f s).lnk.get q = if q = p then f (s.lnk.get q) else s.lnk.get q := by
  cases p <;> cases q <;> rfl

@[simp] theorem refreshLine_notices (o : Bool) (m : NoticeSet) (p : PortState) :
    (refreshLine o m p).notices = p.notices := rfl

@[simp] theorem refreshLine_attention (o : Bool) (m : NoticeSet) (p : PortState) :
    (refreshLine o m p).attention = attentionLine o p.notices m := rfl

@[simp] theorem addNotice_notices (n : Notice) (p : PortState) : (addNotice n p).notices = p.notices ||| n.bit := rfl

@[simp] theorem updateAlarm_alarms (c : AlarmCode) (x : Source) (f : AlarmEntry → AlarmEntry) (s : State) :
    (updateAlarm c x f s).ccu.alarms = s.ccu.alarms.map fun e => if e.has c x then f e else e := rfl

@[simp] theorem removeAlarm_alarms (c : AlarmCode) (x : Source) (s : State) :
    (removeAlarm c x s).ccu.alarms = s.ccu.alarms.eraseP (AlarmEntry.has c x) := rfl

@[simp] theorem removeAlarm_tableOverflow (c : AlarmCode) (x : Source) (s : State) :
    (removeAlarm c x s).ccu.tableOverflow = false := rfl

@[simp] theorem recordContribution_contributions (w : Contributor) (v : Nat) (s : State) :
    (recordContribution w v s).ccu.contributions = s.ccu.contributions.set w v := rfl

@[simp] theorem publishCeiling_ceiling (v : Nat) (s : State) : (publishCeiling v s).ccu.ceiling = some v := rfl

@[simp] theorem publishCeiling_contributions (v : Nat) (s : State) :
    (publishCeiling v s).ccu.contributions = s.ccu.contributions := rfl

@[simp] theorem publishCeiling_alarms (v : Nat) (s : State) : (publishCeiling v s).ccu.alarms = s.ccu.alarms := rfl

@[simp] theorem publishCeiling_ceilingSeq (v : Nat) (s : State) :
    (publishCeiling v s).mon.ceilingSeq = next16 s.mon.ceilingSeq := rfl

@[simp] theorem publishCeiling_icing (v : Nat) (s : State) : (publishCeiling v s).mon.icing = s.mon.icing := rfl

@[simp] theorem publishCeiling_bands (v : Nat) (s : State) : (publishCeiling v s).mon.bands = s.mon.bands := rfl

@[simp] theorem countCcu_alarms (f : CcuCounters → CcuCounters) (s : State) :
    (countCcu f s).ccu.alarms = s.ccu.alarms := rfl

@[simp] theorem countCcu_contributions (f : CcuCounters → CcuCounters) (s : State) :
    (countCcu f s).ccu.contributions = s.ccu.contributions := rfl

@[simp] theorem countCcu_ceiling (f : CcuCounters → CcuCounters) (s : State) :
    (countCcu f s).ccu.ceiling = s.ccu.ceiling := rfl

@[simp] theorem withTasks_tasks (f : List Task → List Task) (s : State) :
    (withTasks f s).plan.tasks = f s.plan.tasks := rfl

@[simp] theorem withTasks_wear (f : List Task → List Task) (s : State) : (withTasks f s).plan.wear = s.plan.wear := rfl

@[simp] theorem withTasks_config (f : List Task → List Task) (s : State) :
    (withTasks f s).plan.config = s.plan.config := rfl

@[simp] theorem withTasks_days (f : List Task → List Task) (s : State) : (withTasks f s).plan.days = s.plan.days := rfl

@[simp] theorem withTasks_history (f : List Task → List Task) (s : State) :
    (withTasks f s).plan.history = s.plan.history := rfl

@[simp] theorem withWear_tasks (c : Fin 16) (f : ComponentWear → ComponentWear) (s : State) :
    (withWear c f s).plan.tasks = s.plan.tasks := rfl

@[simp] theorem withCompInterval_tasks (c : Fin 16) (f : ComponentInterval → ComponentInterval) (s : State) :
    (withCompInterval c f s).plan.tasks = s.plan.tasks := rfl

/-! One value among several -/

@[simp] theorem PerPort.get_set_self {α : Type} (v : PerPort α) (p : Port) (x : α) : (v.set p x).get p = x := by
  cases p <;> rfl

theorem PerPort.get_set {α : Type} (v : PerPort α) (p q : Port) (x : α) :
    (v.set p x).get q = if q = p then x else v.get q := by cases p <;> cases q <;> rfl

@[simp] theorem PerBuffer.get_set_self {α : Type} (v : PerBuffer α) (b : BufferId) (x : α) : (v.set b x).get b = x := by
  cases b <;> rfl

theorem PerBuffer.get_set {α : Type} (v : PerBuffer α) (b d : BufferId) (x : α) :
    (v.set b x).get d = if d = b then x else v.get d := by cases b <;> cases d <;> rfl

theorem bufferOf_setBuffer (b d : BufferId) (x : Buffer) (s : State) :
    bufferOf (setBuffer b x s) d = if d = b then x else bufferOf s d := by cases b <;> cases d <;> rfl

@[simp] theorem vmap_getElem {α β : Type} {n : Nat} (f : α → β) (v : Vector α n) (i : Nat) (h : i < n) :
    (vmap f v)[i] = f v[i] := by simp [vmap]

@[simp] theorem vzip_getElem {α β γ : Type} {n : Nat} (f : α → β → γ) (v : Vector α n) (w : Vector β n) (i : Nat)
    (h : i < n) : (vzip f v w)[i] = f v[i] w[i] := by simp [vzip]

end Sys2Proof.Machine
end

