-- ==== Sys2Proof/Laws/Ops.lean ====
section
/-! SUPPORT. What the shared operations can do, said once: the parts each leaves alone, and the cases of each. -/

namespace Sys2Proof.Machine

/-! `reportDay` leaves alone every part it does not name -/

@[simp] theorem reportDay_pending (f : DayRecord → DayRecord) (s : State) : (reportDay f s).pending = s.pending := by
  unfold reportDay; split <;> rfl

@[simp] theorem reportDay_conversions (f : DayRecord → DayRecord) (s : State) : (reportDay f s).conversions = s.conversions := by
  unfold reportDay; split <;> rfl

@[simp] theorem reportDay_cutAfter (f : DayRecord → DayRecord) (s : State) : (reportDay f s).cutAfter = s.cutAfter := by
  unfold reportDay; split <;> rfl

@[simp] theorem reportDay_cfg (f : DayRecord → DayRecord) (s : State) : (reportDay f s).cfg = s.cfg := by
  unfold reportDay; split <;> rfl

@[simp] theorem reportDay_mon (f : DayRecord → DayRecord) (s : State) : (reportDay f s).mon = s.mon := by
  unfold reportDay; split <;> rfl

@[simp] theorem reportDay_records (f : DayRecord → DayRecord) (s : State) : (reportDay f s).records = s.records := by
  unfold reportDay; split <;> rfl

@[simp] theorem reportDay_cal (f : DayRecord → DayRecord) (s : State) : (reportDay f s).cal = s.cal := by
  unfold reportDay; split <;> rfl

@[simp] theorem reportDay_check (f : DayRecord → DayRecord) (s : State) : (reportDay f s).check = s.check := by
  unfold reportDay; split <;> rfl

@[simp] theorem reportDay_afe (f : DayRecord → DayRecord) (s : State) : (reportDay f s).afe = s.afe := by
  unfold reportDay; split <;> rfl

@[simp] theorem reportDay_ptu (f : DayRecord → DayRecord) (s : State) : (reportDay f s).ptu = s.ptu := by
  unfold reportDay; split <;> rfl

@[simp] theorem reportDay_rch (f : DayRecord → DayRecord) (s : State) : (reportDay f s).rch = s.rch := by
  unfold reportDay; split <;> rfl

@[simp] theorem reportDay_spe (f : DayRecord → DayRecord) (s : State) : (reportDay f s).spe = s.spe := by
  unfold reportDay; split <;> rfl

@[simp] theorem reportDay_gvm (f : DayRecord → DayRecord) (s : State) : (reportDay f s).gvm = s.gvm := by
  unfold reportDay; split <;> rfl

@[simp] theorem reportDay_ghm (f : DayRecord → DayRecord) (s : State) : (reportDay f s).ghm = s.ghm := by
  unfold reportDay; split <;> rfl

@[simp] theorem reportDay_bim (f : DayRecord → DayRecord) (s : State) : (reportDay f s).bim = s.bim := by
  unfold reportDay; split <;> rfl

@[simp] theorem reportDay_ccu (f : DayRecord → DayRecord) (s : State) : (reportDay f s).ccu = s.ccu := by
  unfold reportDay; split <;> rfl

@[simp] theorem reportDay_mpl (f : DayRecord → DayRecord) (s : State) : (reportDay f s).mpl = s.mpl := by
  unfold reportDay; split <;> rfl

@[simp] theorem reportDay_ret (f : DayRecord → DayRecord) (s : State) : (reportDay f s).ret = s.ret := by
  unfold reportDay; split <;> rfl

@[simp] theorem reportDay_lnk (f : DayRecord → DayRecord) (s : State) : (reportDay f s).lnk = s.lnk := by
  unfold reportDay; split <;> rfl

/-! `takeSnapshot` leaves alone every part it does not name -/

@[simp] theorem takeSnapshot_pending (c : AlarmCode) (x : Source) (s : State) : (takeSnapshot c x s).pending = s.pending := by
  unfold takeSnapshot; split <;> rfl

@[simp] theorem takeSnapshot_conversions (c : AlarmCode) (x : Source) (s : State) : (takeSnapshot c x s).conversions = s.conversions := by
  unfold takeSnapshot; split <;> rfl

@[simp] theorem takeSnapshot_cutAfter (c : AlarmCode) (x : Source) (s : State) : (takeSnapshot c x s).cutAfter = s.cutAfter := by
  unfold takeSnapshot; split <;> rfl

@[simp] theorem takeSnapshot_cfg (c : AlarmCode) (x : Source) (s : State) : (takeSnapshot c x s).cfg = s.cfg := by
  unfold takeSnapshot; split <;> rfl

@[simp] theorem takeSnapshot_mon (c : AlarmCode) (x : Source) (s : State) : (takeSnapshot c x s).mon = s.mon := by
  unfold takeSnapshot; split <;> rfl

@[simp] theorem takeSnapshot_plan (c : AlarmCode) (x : Source) (s : State) : (takeSnapshot c x s).plan = s.plan := by
  unfold takeSnapshot; split <;> rfl

@[simp] theorem takeSnapshot_cal (c : AlarmCode) (x : Source) (s : State) : (takeSnapshot c x s).cal = s.cal := by
  unfold takeSnapshot; split <;> rfl

@[simp] theorem takeSnapshot_check (c : AlarmCode) (x : Source) (s : State) : (takeSnapshot c x s).check = s.check := by
  unfold takeSnapshot; split <;> rfl

@[simp] theorem takeSnapshot_afe (c : AlarmCode) (x : Source) (s : State) : (takeSnapshot c x s).afe = s.afe := by
  unfold takeSnapshot; split <;> rfl

@[simp] theorem takeSnapshot_ptu (c : AlarmCode) (x : Source) (s : State) : (takeSnapshot c x s).ptu = s.ptu := by
  unfold takeSnapshot; split <;> rfl

@[simp] theorem takeSnapshot_rch (c : AlarmCode) (x : Source) (s : State) : (takeSnapshot c x s).rch = s.rch := by
  unfold takeSnapshot; split <;> rfl

@[simp] theorem takeSnapshot_spe (c : AlarmCode) (x : Source) (s : State) : (takeSnapshot c x s).spe = s.spe := by
  unfold takeSnapshot; split <;> rfl

@[simp] theorem takeSnapshot_gvm (c : AlarmCode) (x : Source) (s : State) : (takeSnapshot c x s).gvm = s.gvm := by
  unfold takeSnapshot; split <;> rfl

@[simp] theorem takeSnapshot_ghm (c : AlarmCode) (x : Source) (s : State) : (takeSnapshot c x s).ghm = s.ghm := by
  unfold takeSnapshot; split <;> rfl

@[simp] theorem takeSnapshot_bim (c : AlarmCode) (x : Source) (s : State) : (takeSnapshot c x s).bim = s.bim := by
  unfold takeSnapshot; split <;> rfl

@[simp] theorem takeSnapshot_mpl (c : AlarmCode) (x : Source) (s : State) : (takeSnapshot c x s).mpl = s.mpl := by
  unfold takeSnapshot; split <;> rfl

@[simp] theorem takeSnapshot_ret (c : AlarmCode) (x : Source) (s : State) : (takeSnapshot c x s).ret = s.ret := by
  unfold takeSnapshot; split <;> rfl

/-! `enteredActive` leaves alone every part it does not name -/

@[simp] theorem enteredActive_pending (b : Bool) (c : AlarmCode) (x : Source) (s : State) : (enteredActive b c x s).pending = s.pending := by
  simp only [enteredActive]; split <;> simp

@[simp] theorem enteredActive_conversions (b : Bool) (c : AlarmCode) (x : Source) (s : State) : (enteredActive b c x s).conversions = s.conversions := by
  simp only [enteredActive]; split <;> simp

@[simp] theorem enteredActive_cutAfter (b : Bool) (c : AlarmCode) (x : Source) (s : State) : (enteredActive b c x s).cutAfter = s.cutAfter := by
  simp only [enteredActive]; split <;> simp

@[simp] theorem enteredActive_cfg (b : Bool) (c : AlarmCode) (x : Source) (s : State) : (enteredActive b c x s).cfg = s.cfg := by
  simp only [enteredActive]; split <;> simp

@[simp] theorem enteredActive_mon (b : Bool) (c : AlarmCode) (x : Source) (s : State) : (enteredActive b c x s).mon = s.mon := by
  simp only [enteredActive]; split <;> simp

@[simp] theorem enteredActive_cal (b : Bool) (c : AlarmCode) (x : Source) (s : State) : (enteredActive b c x s).cal = s.cal := by
  simp only [enteredActive]; split <;> simp

@[simp] theorem enteredActive_check (b : Bool) (c : AlarmCode) (x : Source) (s : State) : (enteredActive b c x s).check = s.check := by
  simp only [enteredActive]; split <;> simp

@[simp] theorem enteredActive_afe (b : Bool) (c : AlarmCode) (x : Source) (s : State) : (enteredActive b c x s).afe = s.afe := by
  simp only [enteredActive]; split <;> simp

@[simp] theorem enteredActive_ptu (b : Bool) (c : AlarmCode) (x : Source) (s : State) : (enteredActive b c x s).ptu = s.ptu := by
  simp only [enteredActive]; split <;> simp

@[simp] theorem enteredActive_rch (b : Bool) (c : AlarmCode) (x : Source) (s : State) : (enteredActive b c x s).rch = s.rch := by
  simp only [enteredActive]; split <;> simp

@[simp] theorem enteredActive_spe (b : Bool) (c : AlarmCode) (x : Source) (s : State) : (enteredActive b c x s).spe = s.spe := by
  simp only [enteredActive]; split <;> simp

@[simp] theorem enteredActive_gvm (b : Bool) (c : AlarmCode) (x : Source) (s : State) : (enteredActive b c x s).gvm = s.gvm := by
  simp only [enteredActive]; split <;> simp

@[simp] theorem enteredActive_ghm (b : Bool) (c : AlarmCode) (x : Source) (s : State) : (enteredActive b c x s).ghm = s.ghm := by
  simp only [enteredActive]; split <;> simp

@[simp] theorem enteredActive_bim (b : Bool) (c : AlarmCode) (x : Source) (s : State) : (enteredActive b c x s).bim = s.bim := by
  simp only [enteredActive]; split <;> simp

@[simp] theorem enteredActive_mpl (b : Bool) (c : AlarmCode) (x : Source) (s : State) : (enteredActive b c x s).mpl = s.mpl := by
  simp only [enteredActive]; split <;> simp

@[simp] theorem enteredActive_ret (b : Bool) (c : AlarmCode) (x : Source) (s : State) : (enteredActive b c x s).ret = s.ret := by
  simp only [enteredActive]; split <;> simp

/-! `createAlarm` leaves alone every part it does not name -/

@[simp] theorem createAlarm_pending (b : Bool) (c : AlarmCode) (x : Source) (s : State) : (createAlarm b c x s).pending = s.pending := by
  simp [createAlarm]

@[simp] theorem createAlarm_conversions (b : Bool) (c : AlarmCode) (x : Source) (s : State) : (createAlarm b c x s).conversions = s.conversions := by
  simp [createAlarm]

@[simp] theorem createAlarm_cutAfter (b : Bool) (c : AlarmCode) (x : Source) (s : State) : (createAlarm b c x s).cutAfter = s.cutAfter := by
  simp [createAlarm]

@[simp] theorem createAlarm_cfg (b : Bool) (c : AlarmCode) (x : Source) (s : State) : (createAlarm b c x s).cfg = s.cfg := by
  simp [createAlarm]

@[simp] theorem createAlarm_mon (b : Bool) (c : AlarmCode) (x : Source) (s : State) : (createAlarm b c x s).mon = s.mon := by
  simp [createAlarm]

@[simp] theorem createAlarm_cal (b : Bool) (c : AlarmCode) (x : Source) (s : State) : (createAlarm b c x s).cal = s.cal := by
  simp [createAlarm]

@[simp] theorem createAlarm_check (b : Bool) (c : AlarmCode) (x : Source) (s : State) : (createAlarm b c x s).check = s.check := by
  simp [createAlarm]

@[simp] theorem createAlarm_afe (b : Bool) (c : AlarmCode) (x : Source) (s : State) : (createAlarm b c x s).afe = s.afe := by
  simp [createAlarm]

@[simp] theorem createAlarm_ptu (b : Bool) (c : AlarmCode) (x : Source) (s : State) : (createAlarm b c x s).ptu = s.ptu := by
  simp [createAlarm]

@[simp] theorem createAlarm_rch (b : Bool) (c : AlarmCode) (x : Source) (s : State) : (createAlarm b c x s).rch = s.rch := by
  simp [createAlarm]

@[simp] theorem createAlarm_spe (b : Bool) (c : AlarmCode) (x : Source) (s : State) : (createAlarm b c x s).spe = s.spe := by
  simp [createAlarm]

@[simp] theorem createAlarm_gvm (b : Bool) (c : AlarmCode) (x : Source) (s : State) : (createAlarm b c x s).gvm = s.gvm := by
  simp [createAlarm]

@[simp] theorem createAlarm_ghm (b : Bool) (c : AlarmCode) (x : Source) (s : State) : (createAlarm b c x s).ghm = s.ghm := by
  simp [createAlarm]

@[simp] theorem createAlarm_bim (b : Bool) (c : AlarmCode) (x : Source) (s : State) : (createAlarm b c x s).bim = s.bim := by
  simp [createAlarm]

@[simp] theorem createAlarm_mpl (b : Bool) (c : AlarmCode) (x : Source) (s : State) : (createAlarm b c x s).mpl = s.mpl := by
  simp [createAlarm]

@[simp] theorem createAlarm_ret (b : Bool) (c : AlarmCode) (x : Source) (s : State) : (createAlarm b c x s).ret = s.ret := by
  simp [createAlarm]

/-! `raiseIntoFull` leaves alone every part it does not name -/

@[simp] theorem raiseIntoFull_pending (b : Bool) (c : AlarmCode) (x : Source) (s : State) : (raiseIntoFull b c x s).pending = s.pending := by
  unfold raiseIntoFull; split <;> [skip; split] <;> simp

@[simp] theorem raiseIntoFull_conversions (b : Bool) (c : AlarmCode) (x : Source) (s : State) : (raiseIntoFull b c x s).conversions = s.conversions := by
  unfold raiseIntoFull; split <;> [skip; split] <;> simp

@[simp] theorem raiseIntoFull_cutAfter (b : Bool) (c : AlarmCode) (x : Source) (s : State) : (raiseIntoFull b c x s).cutAfter = s.cutAfter := by
  unfold raiseIntoFull; split <;> [skip; split] <;> simp

@[simp] theorem raiseIntoFull_cfg (b : Bool) (c : AlarmCode) (x : Source) (s : State) : (raiseIntoFull b c x s).cfg = s.cfg := by
  unfold raiseIntoFull; split <;> [skip; split] <;> simp

@[simp] theorem raiseIntoFull_mon (b : Bool) (c : AlarmCode) (x : Source) (s : State) : (raiseIntoFull b c x s).mon = s.mon := by
  unfold raiseIntoFull; split <;> [skip; split] <;> simp

@[simp] theorem raiseIntoFull_cal (b : Bool) (c : AlarmCode) (x : Source) (s : State) : (raiseIntoFull b c x s).cal = s.cal := by
  unfold raiseIntoFull; split <;> [skip; split] <;> simp

@[simp] theorem raiseIntoFull_check (b : Bool) (c : AlarmCode) (x : Source) (s : State) : (raiseIntoFull b c x s).check = s.check := by
  unfold raiseIntoFull; split <;> [skip; split] <;> simp

@[simp] theorem raiseIntoFull_afe (b : Bool) (c : AlarmCode) (x : Source) (s : State) : (raiseIntoFull b c x s).afe = s.afe := by
  unfold raiseIntoFull; split <;> [skip; split] <;> simp

@[simp] theorem raiseIntoFull_ptu (b : Bool) (c : AlarmCode) (x : Source) (s : State) : (raiseIntoFull b c x s).ptu = s.ptu := by
  unfold raiseIntoFull; split <;> [skip; split] <;> simp

@[simp] theorem raiseIntoFull_rch (b : Bool) (c : AlarmCode) (x : Source) (s : State) : (raiseIntoFull b c x s).rch = s.rch := by
  unfold raiseIntoFull; split <;> [skip; split] <;> simp

@[simp] theorem raiseIntoFull_spe (b : Bool) (c : AlarmCode) (x : Source) (s : State) : (raiseIntoFull b c x s).spe = s.spe := by
  unfold raiseIntoFull; split <;> [skip; split] <;> simp

@[simp] theorem raiseIntoFull_gvm (b : Bool) (c : AlarmCode) (x : Source) (s : State) : (raiseIntoFull b c x s).gvm = s.gvm := by
  unfold raiseIntoFull; split <;> [skip; split] <;> simp

@[simp] theorem raiseIntoFull_ghm (b : Bool) (c : AlarmCode) (x : Source) (s : State) : (raiseIntoFull b c x s).ghm = s.ghm := by
  unfold raiseIntoFull; split <;> [skip; split] <;> simp

@[simp] theorem raiseIntoFull_bim (b : Bool) (c : AlarmCode) (x : Source) (s : State) : (raiseIntoFull b c x s).bim = s.bim := by
  unfold raiseIntoFull; split <;> [skip; split] <;> simp

@[simp] theorem raiseIntoFull_mpl (b : Bool) (c : AlarmCode) (x : Source) (s : State) : (raiseIntoFull b c x s).mpl = s.mpl := by
  unfold raiseIntoFull; split <;> [skip; split] <;> simp

@[simp] theorem raiseIntoFull_ret (b : Bool) (c : AlarmCode) (x : Source) (s : State) : (raiseIntoFull b c x s).ret = s.ret := by
  unfold raiseIntoFull; split <;> [skip; split] <;> simp

/-! `raiseWith` leaves alone every part it does not name -/

@[simp] theorem raiseWith_pending (b : Bool) (c : AlarmCode) (x : Source) (s : State) : (raiseWith b c x s).pending = s.pending := by
  unfold raiseWith; split <;> split <;> simp

@[simp] theorem raiseWith_conversions (b : Bool) (c : AlarmCode) (x : Source) (s : State) : (raiseWith b c x s).conversions = s.conversions := by
  unfold raiseWith; split <;> split <;> simp

@[simp] theorem raiseWith_cutAfter (b : Bool) (c : AlarmCode) (x : Source) (s : State) : (raiseWith b c x s).cutAfter = s.cutAfter := by
  unfold raiseWith; split <;> split <;> simp

@[simp] theorem raiseWith_cfg (b : Bool) (c : AlarmCode) (x : Source) (s : State) : (raiseWith b c x s).cfg = s.cfg := by
  unfold raiseWith; split <;> split <;> simp

@[simp] theorem raiseWith_mon (b : Bool) (c : AlarmCode) (x : Source) (s : State) : (raiseWith b c x s).mon = s.mon := by
  unfold raiseWith; split <;> split <;> simp

@[simp] theorem raiseWith_cal (b : Bool) (c : AlarmCode) (x : Source) (s : State) : (raiseWith b c x s).cal = s.cal := by
  unfold raiseWith; split <;> split <;> simp

@[simp] theorem raiseWith_check (b : Bool) (c : AlarmCode) (x : Source) (s : State) : (raiseWith b c x s).check = s.check := by
  unfold raiseWith; split <;> split <;> simp

@[simp] theorem raiseWith_afe (b : Bool) (c : AlarmCode) (x : Source) (s : State) : (raiseWith b c x s).afe = s.afe := by
  unfold raiseWith; split <;> split <;> simp

@[simp] theorem raiseWith_ptu (b : Bool) (c : AlarmCode) (x : Source) (s : State) : (raiseWith b c x s).ptu = s.ptu := by
  unfold raiseWith; split <;> split <;> simp

@[simp] theorem raiseWith_rch (b : Bool) (c : AlarmCode) (x : Source) (s : State) : (raiseWith b c x s).rch = s.rch := by
  unfold raiseWith; split <;> split <;> simp

@[simp] theorem raiseWith_spe (b : Bool) (c : AlarmCode) (x : Source) (s : State) : (raiseWith b c x s).spe = s.spe := by
  unfold raiseWith; split <;> split <;> simp

@[simp] theorem raiseWith_gvm (b : Bool) (c : AlarmCode) (x : Source) (s : State) : (raiseWith b c x s).gvm = s.gvm := by
  unfold raiseWith; split <;> split <;> simp

@[simp] theorem raiseWith_ghm (b : Bool) (c : AlarmCode) (x : Source) (s : State) : (raiseWith b c x s).ghm = s.ghm := by
  unfold raiseWith; split <;> split <;> simp

@[simp] theorem raiseWith_bim (b : Bool) (c : AlarmCode) (x : Source) (s : State) : (raiseWith b c x s).bim = s.bim := by
  unfold raiseWith; split <;> split <;> simp

@[simp] theorem raiseWith_mpl (b : Bool) (c : AlarmCode) (x : Source) (s : State) : (raiseWith b c x s).mpl = s.mpl := by
  unfold raiseWith; split <;> split <;> simp

@[simp] theorem raiseWith_ret (b : Bool) (c : AlarmCode) (x : Source) (s : State) : (raiseWith b c x s).ret = s.ret := by
  unfold raiseWith; split <;> split <;> simp

/-! `raise` leaves alone every part it does not name -/

@[simp] theorem raise_pending (c : AlarmCode) (x : Source) (s : State) : (raise c x s).pending = s.pending := by
  simp [raise]

@[simp] theorem raise_conversions (c : AlarmCode) (x : Source) (s : State) : (raise c x s).conversions = s.conversions := by
  simp [raise]

@[simp] theorem raise_cutAfter (c : AlarmCode) (x : Source) (s : State) : (raise c x s).cutAfter = s.cutAfter := by
  simp [raise]

@[simp] theorem raise_cfg (c : AlarmCode) (x : Source) (s : State) : (raise c x s).cfg = s.cfg := by
  simp [raise]

@[simp] theorem raise_mon (c : AlarmCode) (x : Source) (s : State) : (raise c x s).mon = s.mon := by
  simp [raise]

@[simp] theorem raise_cal (c : AlarmCode) (x : Source) (s : State) : (raise c x s).cal = s.cal := by
  simp [raise]

@[simp] theorem raise_check (c : AlarmCode) (x : Source) (s : State) : (raise c x s).check = s.check := by
  simp [raise]

@[simp] theorem raise_afe (c : AlarmCode) (x : Source) (s : State) : (raise c x s).afe = s.afe := by
  simp [raise]

@[simp] theorem raise_ptu (c : AlarmCode) (x : Source) (s : State) : (raise c x s).ptu = s.ptu := by
  simp [raise]

@[simp] theorem raise_rch (c : AlarmCode) (x : Source) (s : State) : (raise c x s).rch = s.rch := by
  simp [raise]

@[simp] theorem raise_spe (c : AlarmCode) (x : Source) (s : State) : (raise c x s).spe = s.spe := by
  simp [raise]

@[simp] theorem raise_gvm (c : AlarmCode) (x : Source) (s : State) : (raise c x s).gvm = s.gvm := by
  simp [raise]

@[simp] theorem raise_ghm (c : AlarmCode) (x : Source) (s : State) : (raise c x s).ghm = s.ghm := by
  simp [raise]

@[simp] theorem raise_bim (c : AlarmCode) (x : Source) (s : State) : (raise c x s).bim = s.bim := by
  simp [raise]

@[simp] theorem raise_mpl (c : AlarmCode) (x : Source) (s : State) : (raise c x s).mpl = s.mpl := by
  simp [raise]

@[simp] theorem raise_ret (c : AlarmCode) (x : Source) (s : State) : (raise c x s).ret = s.ret := by
  simp [raise]

/-! `clearAlarm` leaves alone every part it does not name -/

@[simp] theorem clearAlarm_pending (c : AlarmCode) (x : Source) (s : State) : (clearAlarm c x s).pending = s.pending := by
  unfold clearAlarm; split <;> [rfl; split] <;> simp

@[simp] theorem clearAlarm_conversions (c : AlarmCode) (x : Source) (s : State) : (clearAlarm c x s).conversions = s.conversions := by
  unfold clearAlarm; split <;> [rfl; split] <;> simp

@[simp] theorem clearAlarm_cutAfter (c : AlarmCode) (x : Source) (s : State) : (clearAlarm c x s).cutAfter = s.cutAfter := by
  unfold clearAlarm; split <;> [rfl; split] <;> simp

@[simp] theorem clearAlarm_cfg (c : AlarmCode) (x : Source) (s : State) : (clearAlarm c x s).cfg = s.cfg := by
  unfold clearAlarm; split <;> [rfl; split] <;> simp

@[simp] theorem clearAlarm_mon (c : AlarmCode) (x : Source) (s : State) : (clearAlarm c x s).mon = s.mon := by
  unfold clearAlarm; split <;> [rfl; split] <;> simp

@[simp] theorem clearAlarm_plan (c : AlarmCode) (x : Source) (s : State) : (clearAlarm c x s).plan = s.plan := by
  unfold clearAlarm; split <;> [rfl; split] <;> simp

@[simp] theorem clearAlarm_records (c : AlarmCode) (x : Source) (s : State) : (clearAlarm c x s).records = s.records := by
  unfold clearAlarm; split <;> [rfl; split] <;> simp

@[simp] theorem clearAlarm_cal (c : AlarmCode) (x : Source) (s : State) : (clearAlarm c x s).cal = s.cal := by
  unfold clearAlarm; split <;> [rfl; split] <;> simp

@[simp] theorem clearAlarm_check (c : AlarmCode) (x : Source) (s : State) : (clearAlarm c x s).check = s.check := by
  unfold clearAlarm; split <;> [rfl; split] <;> simp

@[simp] theorem clearAlarm_afe (c : AlarmCode) (x : Source) (s : State) : (clearAlarm c x s).afe = s.afe := by
  unfold clearAlarm; split <;> [rfl; split] <;> simp

@[simp] theorem clearAlarm_ptu (c : AlarmCode) (x : Source) (s : State) : (clearAlarm c x s).ptu = s.ptu := by
  unfold clearAlarm; split <;> [rfl; split] <;> simp

@[simp] theorem clearAlarm_rch (c : AlarmCode) (x : Source) (s : State) : (clearAlarm c x s).rch = s.rch := by
  unfold clearAlarm; split <;> [rfl; split] <;> simp

@[simp] theorem clearAlarm_spe (c : AlarmCode) (x : Source) (s : State) : (clearAlarm c x s).spe = s.spe := by
  unfold clearAlarm; split <;> [rfl; split] <;> simp

@[simp] theorem clearAlarm_gvm (c : AlarmCode) (x : Source) (s : State) : (clearAlarm c x s).gvm = s.gvm := by
  unfold clearAlarm; split <;> [rfl; split] <;> simp

@[simp] theorem clearAlarm_ghm (c : AlarmCode) (x : Source) (s : State) : (clearAlarm c x s).ghm = s.ghm := by
  unfold clearAlarm; split <;> [rfl; split] <;> simp

@[simp] theorem clearAlarm_bim (c : AlarmCode) (x : Source) (s : State) : (clearAlarm c x s).bim = s.bim := by
  unfold clearAlarm; split <;> [rfl; split] <;> simp

@[simp] theorem clearAlarm_mpl (c : AlarmCode) (x : Source) (s : State) : (clearAlarm c x s).mpl = s.mpl := by
  unfold clearAlarm; split <;> [rfl; split] <;> simp

@[simp] theorem clearAlarm_ret (c : AlarmCode) (x : Source) (s : State) : (clearAlarm c x s).ret = s.ret := by
  unfold clearAlarm; split <;> [rfl; split] <;> simp

/-! `postContribution` leaves alone every part it does not name -/

@[simp] theorem postContribution_pending (w : Contributor) (v : Nat) (s : State) : (postContribution w v s).pending = s.pending := by
  simp only [postContribution]; split <;> simp

@[simp] theorem postContribution_conversions (w : Contributor) (v : Nat) (s : State) : (postContribution w v s).conversions = s.conversions := by
  simp only [postContribution]; split <;> simp

@[simp] theorem postContribution_cutAfter (w : Contributor) (v : Nat) (s : State) : (postContribution w v s).cutAfter = s.cutAfter := by
  simp only [postContribution]; split <;> simp

@[simp] theorem postContribution_cfg (w : Contributor) (v : Nat) (s : State) : (postContribution w v s).cfg = s.cfg := by
  simp only [postContribution]; split <;> simp

@[simp] theorem postContribution_plan (w : Contributor) (v : Nat) (s : State) : (postContribution w v s).plan = s.plan := by
  simp only [postContribution]; split <;> simp

@[simp] theorem postContribution_records (w : Contributor) (v : Nat) (s : State) : (postContribution w v s).records = s.records := by
  simp only [postContribution]; split <;> simp

@[simp] theorem postContribution_cal (w : Contributor) (v : Nat) (s : State) : (postContribution w v s).cal = s.cal := by
  simp only [postContribution]; split <;> simp

@[simp] theorem postContribution_check (w : Contributor) (v : Nat) (s : State) : (postContribution w v s).check = s.check := by
  simp only [postContribution]; split <;> simp

@[simp] theorem postContribution_afe (w : Contributor) (v : Nat) (s : State) : (postContribution w v s).afe = s.afe := by
  simp only [postContribution]; split <;> simp

@[simp] theorem postContribution_ptu (w : Contributor) (v : Nat) (s : State) : (postContribution w v s).ptu = s.ptu := by
  simp only [postContribution]; split <;> simp

@[simp] theorem postContribution_rch (w : Contributor) (v : Nat) (s : State) : (postContribution w v s).rch = s.rch := by
  simp only [postContribution]; split <;> simp

@[simp] theorem postContribution_spe (w : Contributor) (v : Nat) (s : State) : (postContribution w v s).spe = s.spe := by
  simp only [postContribution]; split <;> simp

@[simp] theorem postContribution_gvm (w : Contributor) (v : Nat) (s : State) : (postContribution w v s).gvm = s.gvm := by
  simp only [postContribution]; split <;> simp

@[simp] theorem postContribution_ghm (w : Contributor) (v : Nat) (s : State) : (postContribution w v s).ghm = s.ghm := by
  simp only [postContribution]; split <;> simp

@[simp] theorem postContribution_bim (w : Contributor) (v : Nat) (s : State) : (postContribution w v s).bim = s.bim := by
  simp only [postContribution]; split <;> simp

@[simp] theorem postContribution_mpl (w : Contributor) (v : Nat) (s : State) : (postContribution w v s).mpl = s.mpl := by
  simp only [postContribution]; split <;> simp

@[simp] theorem postContribution_ret (w : Contributor) (v : Nat) (s : State) : (postContribution w v s).ret = s.ret := by
  simp only [postContribution]; split <;> simp

/-! ## The cases -/

/-- A post changes the contribution only, or also publishes the least one (R138). -/
theorem postContribution_cases (w : Contributor) (v : Nat) (s : State) :
    (s.ccu.ceiling = some (leastContribution (s.ccu.contributions.set w v)) ∧
        postContribution w v s = recordContribution w v s) ∨
      (s.ccu.ceiling ≠ some (leastContribution (s.ccu.contributions.set w v)) ∧
        postContribution w v s =
          publishCeiling (leastContribution (s.ccu.contributions.set w v)) (recordContribution w v s)) := by
  by_cases h : s.ccu.ceiling = some (leastContribution (s.ccu.contributions.set w v))
  · exact .inl ⟨h, if_pos h⟩
  · exact .inr ⟨h, if_neg h⟩

/-- After a post the ceiling is the least of the contributions (R138). -/
theorem postContribution_least (w : Contributor) (v : Nat) (s : State) :
    (postContribution w v s).ccu.ceiling = some (leastContribution (postContribution w v s).ccu.contributions) := by
  rcases postContribution_cases w v s with ⟨h, e⟩ | ⟨_, e⟩ <;> rw [e]
  · exact h
  · rfl

/-- A clear finds no entry to act on, or makes it CLEARED_UNACK, or removes it (R144). -/
theorem clearAlarm_cases (c : AlarmCode) (x : Source) (s : State) :
    clearAlarm c x s = s ∨
      (∃ e, findAlarm c x s = some e ∧ e.state = .activeUnack ∧
        clearAlarm c x s = setNotice .alarmCleared
          (updateAlarm c x (fun e => { e with state := .clearedUnack, lastChange := s.cal }) s)) ∨
      (∃ e, findAlarm c x s = some e ∧ e.state = .activeAck ∧
        clearAlarm c x s = setNotice .alarmCleared (removeAlarm c x s)) := by
  unfold clearAlarm
  split
  · exact .inl rfl
  · next e h =>
    split
    · next h' => exact .inr (.inl ⟨e, h, h', rfl⟩)
    · next h' => exact .inr (.inr ⟨e, h, h', rfl⟩)
    · exact .inl rfl

/-- A snapshot writes no alarm entry. -/
@[simp] theorem takeSnapshot_alarms (c : AlarmCode) (x : Source) (s : State) :
    (takeSnapshot c x s).ccu.alarms = s.ccu.alarms := by unfold takeSnapshot; split <;> rfl

/-- Entry into ACTIVE_UNACK writes no further alarm entry. -/
@[simp] theorem enteredActive_alarms (b : Bool) (c : AlarmCode) (x : Source) (s : State) :
    (enteredActive b c x s).ccu.alarms = s.ccu.alarms := by simp only [enteredActive]; split <;> simp

/-- A creation appends one fresh entry (R143). -/
@[simp] theorem createAlarm_alarms (b : Bool) (c : AlarmCode) (x : Source) (s : State) :
    (createAlarm b c x s).ccu.alarms =
      s.ccu.alarms ++ [{ code := c, source := x, raisedAt := s.cal, lastChange := s.cal }] := by simp [createAlarm]

/-- A raise changes an entry in place, or appends one after removing at most one (R143, R146). -/
theorem raiseWith_alarms (b : Bool) (c : AlarmCode) (x : Source) (s : State) :
    (∃ f : AlarmEntry → AlarmEntry, (raiseWith b c x s).ccu.alarms = s.ccu.alarms.map fun e => if e.has c x then f e else e) ∨
      (findAlarm c x s = none ∧ s.ccu.alarms.length < 32 ∧
        (raiseWith b c x s).ccu.alarms =
          s.ccu.alarms ++ [{ code := c, source := x, raisedAt := s.cal, lastChange := s.cal }]) ∨
      (findAlarm c x s = none ∧ 32 ≤ s.ccu.alarms.length ∧
        ((∃ p, s.ccu.alarms.any p = true ∧ (raiseWith b c x s).ccu.alarms =
          s.ccu.alarms.eraseP p ++ [{ code := c, source := x, raisedAt := s.cal, lastChange := s.cal }]) ∨
        (raiseWith b c x s).ccu.alarms = s.ccu.alarms)) := by
  unfold raiseWith
  split
  · split
    · exact .inl ⟨_, rfl⟩
    · exact .inl ⟨_, rfl⟩
    · exact .inl ⟨_, by rw [enteredActive_alarms]; rfl⟩
  · next h =>
    split
    · next hl => exact .inr (.inl ⟨h, hl, by simp⟩)
    · next hl =>
      refine .inr (.inr ⟨h, by omega, ?_⟩)
      unfold raiseIntoFull
      split
      · next ha => exact .inl ⟨_, ha, by simp [removeOldest, countEviction]⟩
      · split
        · next ha => exact .inl ⟨_, ha, by simp [removeOldest, countEviction]⟩
        · exact .inr rfl

/-- After a selection no request waits on an idle engine (R48). -/
theorem select_serves (s : State) : (select s).spe.inProgress = none → (select s).spe.queue = [] := by
  unfold select
  split
  · next r h => intro h'; rw [h] at h'; cases h'
  · split
    · next h =>
      intro _
      by_contra hq
      obtain ⟨r, l, hl⟩ := List.exists_cons_of_ne_nil hq
      have find (src : Monitor) : oldestOf src s.spe.queue = none → r.source ≠ src := by
        intro hf hr
        have := List.find?_eq_none.mp hf r (by rw [hl]; simp)
        simp [hr] at this
      unfold choose at h
      split at h
      · cases h
      · next hg =>
        split at h
        · cases h
        · next h1 =>
          have a := find _ hg
          have b := find _ h1
          have c := find _ h
          cases hm : s.spe.marker <;> simp [hm, alternation] at b c <;> cases hs : r.source <;> simp_all
    · next r _ =>
      intro h'
      unfold beginRequest noteBegun at h'
      split at h' <;> exact absurd h' (by simp [setBuffer])

/-! Events cut short, and conversions -/

/-- Every event that can be cut short answers a next state. -/
theorem ownedEffect_next (c : Instr) (s : State) : ∃ t, ownedEffect c s = .next t := by
  cases c <;> exact ⟨_, rfl⟩

/-- A cut uses up `cutAfter`; with an event in front it makes the updates of the sections named and no other change (R177). -/
theorem cutShort_eq (s : State) :
    cutShort s = { s with cutAfter := [] } ∨
      ∃ c rest t, s.pending = c :: rest ∧ ownedEffect c { s with pending := rest } = .next t ∧
        cutShort s = withSections s.cutAfter t { s with cutAfter := [] } := by
  unfold cutShort
  split
  · exact .inl rfl
  · next c rest h =>
    obtain ⟨t, e⟩ := ownedEffect_next c { s with pending := rest }
    exact .inr ⟨c, rest, t, h, e, by rw [e]⟩

/-- A cut with no section named does nothing of the event. -/
theorem cutShort_none (s : State) (h : s.cutAfter = []) : cutShort s = s := by
  have e : { s with cutAfter := [] } = s := by rw [← h]
  obtain k | ⟨c, rest, t, -, -, k⟩ := cutShort_eq s
  · rw [k, e]
  · rw [k, e, h]; rfl

/-- A stored row counts one. -/
@[simp] theorem CaptureRecord.store_stored (rows : List (List Int × Bool)) (r : CaptureRecord) :
    (r.store rows).stored = r.stored + rows.length := rfl

/-- The sample that fills a group of D is stored and the group restarts; any other only joins it (R12). -/
theorem CaptureRecord.takeSample_stored (d : Nat) (row : List Int × Bool) (r : CaptureRecord) :
    (r.takeSample d row).stored = (if r.group.length + 1 < d then r.stored else r.stored + 1) := by
  unfold CaptureRecord.takeSample
  by_cases h : r.group.length + 1 < d <;> simp [h]

/-! Starts, whole and cut short -/

/-- Actions in two lists are taken one list after the other. -/
@[simp] theorem takeActions_append (l m : List (State → State)) (s : State) :
    takeActions (l ++ m) s = takeActions m (takeActions l s) := List.foldl_append ..

@[simp] theorem takeActions_cons (f : State → State) (l : List (State → State)) (s : State) :
    takeActions (f :: l) s = takeActions l (f s) := rfl

@[simp] theorem takeActions_nil (s : State) : takeActions [] s = s := rfl

/-- What every action of a list keeps, the list keeps. -/
theorem takeActions_keeps {P : State → Prop} {l : List (State → State)} (h : ∀ f ∈ l, ∀ s, P s → P (f s)) :
    ∀ {s : State}, P s → P (takeActions l s) := by
  induction l with
  | nil => exact fun p => p
  | cons f l ih =>
    intro s p
    exact ih (fun g m => h g (List.mem_cons_of_mem f m)) (h f (List.mem_cons_self ..) s p)

/-- A start that is not cut short takes the actions of its seven stages (R180). -/
theorem runStart_whole (st : Start) (x : StartInput) (s : State) (h : x.abandonedAfter = none) :
    runStart st x s = takeActions (startStages st).flatten s := by simp [runStart, h]

/-- A start that is cut short leaves the part without power or under reset, from the part of it that was done (R183). -/
theorem runStart_cut (st : Start) (x : StartInput) (s : State) (k : Nat) (h : x.abandonedAfter = some k) :
    runStart st x s =
      if x.powerLost then losePower (partialStart st k x s) else assertReset (partialStart st k x s) := by
  simp only [runStart, h]
  split <;> rfl

/-- The stage that is cut short takes the actions done by then and, of the one under way, the updates of the sections named
(R177). -/
theorem partialStage_eq (stage : List (State → State)) (x : StartInput) (s : State) :
    (stage.length ≤ x.moments ∧ partialStage stage x s = takeActions stage s) ∨
      ∃ f, stage[x.moments]? = some f ∧
        partialStage stage x s =
          withSections x.updated (f (takeActions (stage.take x.moments) s)) (takeActions (stage.take x.moments) s) := by
  unfold partialStage
  cases h : stage[x.moments]? with
  | none =>
    have n := List.getElem?_eq_none_iff.mp h
    exact .inl ⟨n, by rw [List.take_of_length_le n]⟩
  | some f => exact .inr ⟨f, rfl, rfl⟩


/-! Days and ten-minute boundaries -/

/-- The record of the open day becomes the newest summary where every stored day is earlier, and is counted otherwise (R162). -/
theorem closeDay_cases (day : Nat) (s : State) :
    ((∀ x ∈ s.plan.days.getLast?, x.day < day) ∧
      closeDay day s =
        { s with plan :=
          { s.plan with days :=
            let l := s.plan.days ++ [{ day := day, record := s.plan.openDay.record }]
            if l.length = 32 then l.drop 1 else l } }) ∨
      (¬ (∀ x ∈ s.plan.days.getLast?, x.day < day) ∧
        closeDay day s = { s with mpl := { s.mpl with orderDropped := inc16 s.mpl.orderDropped } }) := by
  unfold closeDay
  cases h : s.plan.days.getLast? with
  | none => exact .inl ⟨by simp, by simp⟩
  | some x => by_cases k : x.day < day <;> simp [k]

/-- The step to second 0 of a day after the first rolls the day before over; any other step rolls none (R152, R162). -/
theorem rolloverAt_cases (now : Timestamp) (s : State) :
    (∃ d, now = ⟨d + 1, 0⟩ ∧ rolloverAt now s = dayRollover d s) ∨
      ((now.sec ≠ 0 ∨ now.day = 0) ∧ rolloverAt now s = s) := by
  obtain ⟨day, sec⟩ := now
  rcases day with _ | d <;> rcases sec with _ | n <;> simp [rolloverAt]

/-- A boundary ends the intervals whose planned ends are reached, then takes the rollover where the accounting interval ended
with it; off a boundary, or without a calendar, nothing is done (R152, log entry 61). -/
theorem tenMinuteBoundary_cases (s : State) :
    ((∀ now, s.cal = some now → now.sec % 600 ≠ 0) ∧ tenMinuteBoundary s = s) ∨
      ∃ now, s.cal = some now ∧ now.sec % 600 = 0 ∧
        tenMinuteBoundary s =
          if endReached now s.plan.interval.planned then rolloverAt now (ghmBoundary now (mplBoundary now s))
          else ghmBoundary now (mplBoundary now s) := by
  unfold tenMinuteBoundary
  cases h : s.cal with
  | none => exact .inl ⟨by simp, rfl⟩
  | some now => by_cases k : now.sec % 600 = 0 <;> simp [k]

/-! Grid windows -/

/-- A window is opened with a buffer that is FREE, GHM-A first, or with the refusal of its capture (R11, R90). -/
theorem openWindow_cases (s : State) :
    let e : WindowEntry := { number := s.ghm.nextWindow }
    (s.afe.converterFault = true ∧ openWindow s = addEntry { e with refusal := some .converter } s) ∨
      (s.afe.converterFault = false ∧
        ((bufferOf s .ghmA = .free ∧
            openWindow s = beginCapture .ghmA .window (addEntry { e with buffer := some .ghmA } s)) ∨
          (bufferOf s .ghmA ≠ .free ∧ bufferOf s .ghmB = .free ∧
            openWindow s = beginCapture .ghmB .window (addEntry { e with buffer := some .ghmB } s)) ∨
          (bufferOf s .ghmA ≠ .free ∧ bufferOf s .ghmB ≠ .free ∧
            openWindow s = addEntry { e with refusal := some .noBuffer } s))) := by
  cases c : s.afe.converterFault <;> cases a : bufferOf s .ghmA <;> cases b : bufferOf s .ghmB <;>
    simp [openWindow, judgeCapture, captureParamsOk, captureChannelFaulty, Monitor.buffers, Buffer.isFree, keptRefusal,
      List.find?, a, b, c]


/-! Expiries -/

/-- An expiry acts where the count of its timer is 0 and changes nothing otherwise (R5, log entry 12). -/
theorem afeRecovery_cases (ch : Accel) (s : State) :
    (s.afe.accel.get ch).qualification = some 0 ∧
        afeRecovery ch s = clearAlarm .sensorFault (.accel ch) (setAccel ch {} s) ∨
      (s.afe.accel.get ch).qualification ≠ some 0 ∧ afeRecovery ch s = s := by
  unfold afeRecovery; split <;> simp_all

/-- As for the recovery: the period timer (R70). -/
theorem gvmPeriodExpiry_cases (s : State) :
    s.gvm.periodTimer = some 0 ∧ gvmPeriodExpiry s = takeSlot (restartPeriod s) ∨
      s.gvm.periodTimer ≠ some 0 ∧ gvmPeriodExpiry s = s := by
  unfold gvmPeriodExpiry; split <;> simp_all

/-- As for the recovery: the step timer (R112). -/
theorem bimStepExpiry_cases (s : State) :
    s.bim.stepTimer = some 0 ∧ bimStepExpiry s = takeStep s ∨ s.bim.stepTimer ≠ some 0 ∧ bimStepExpiry s = s := by
  unfold bimStepExpiry; split <;> simp_all

/-- As for the recovery: the override (R130). -/
theorem overrideExpiry_cases (s : State) :
    s.bim.override = some 0 ∧ overrideExpiry s = endOverride s ∨ s.bim.override ≠ some 0 ∧ overrideExpiry s = s := by
  unfold overrideExpiry; split <;> simp_all

/-- As for the recovery: the freshness timer (R137). -/
theorem ccuFreshness_cases (s : State) :
    s.ccu.freshness = some 0 ∧
        ccuFreshness s =
          countCcu (fun c => { c with silences := inc16 c.silences })
            (raise .controllerSilent .ccu { s with ccu := { s.ccu with op := s.ccu.op.silent, freshness := none } }) ∨
      s.ccu.freshness ≠ some 0 ∧ ccuFreshness s = s := by
  unfold ccuFreshness; split <;> simp_all

/-- As for the recovery: the acknowledge timer (R140). -/
theorem ccuAckExpiry_cases (s : State) :
    s.ccu.ackTimer = some 0 ∧
        ccuAckExpiry s =
          countCcu (fun c => { c with unheeded := inc16 c.unheeded })
            (raise .ceilingUnheeded .ccu { s with ccu := { s.ccu with ackTimer := none } }) ∨
      s.ccu.ackTimer ≠ some 0 ∧ ccuAckExpiry s = s := by
  unfold ccuAckExpiry; split <;> simp_all

/-- As for the recovery: the converter check (R6). -/
theorem afeCheck_cases (ch cq : Int) (s : State) :
    s.afe.nextCheck = 0 ∧ afeCheck ch cq s = checkConverter ch cq s ∨ s.afe.nextCheck ≠ 0 ∧ afeCheck ch cq s = s := by
  unfold afeCheck; split <;> simp_all

/-- As for the recovery: the stall of a channel (R24). -/
theorem ptuStall_cases (p : Pulse) (s : State) :
    (s.ptu.chan.get p).stallIn = 0 ∧ ptuStall p s = stallChannel p s ∨
      (s.ptu.chan.get p).stallIn ≠ 0 ∧ ptuStall p s = s := by
  unfold ptuStall; split <;> simp_all

/-- A span that begins counts its stall limit, up to the last whole second of the 32-bit count (R24). -/
theorem stallSeconds_eq (limit : Nat) : stallSeconds limit = min limit 429 := by
  unfold stallSeconds stallTicks max32; omega

/-- A measurement begins with the whole stall limit to run. -/
@[simp] theorem startMeasurement_stallIn (cfg : ConfigSection) (p : Pulse) (tick : Nat) (x : PulseState) :
    (startMeasurement cfg p tick x).stallIn = min (cfg.ptu.chan.get p).stallLimit 429 := stallSeconds_eq _

/-- So does a WAITING period. -/
@[simp] theorem startWaiting_stallIn (cfg : ConfigSection) (p : Pulse) (tick : Nat) (x : PulseState) :
    (startWaiting cfg p tick x).stallIn = min (cfg.ptu.chan.get p).stallLimit 429 := stallSeconds_eq _

/-- As for the recovery: a planned end that counts seconds (R99, R158). -/
theorem secondsDone_iff (e : PlannedEnd) : secondsDone e = true ↔ e = .seconds 0 := by
  cases e <;> simp [secondsDone]
end Sys2Proof.Machine
end

