-- ==== Sys2Proof/Laws/PerInstr.lean ====
section
/-! SUPPORT. Laws said of every command, one lemma for each constructor of `Instr`. -/

open Sys2Proof.Machine

/-- A command never stops the part: in every state it answers a next state, neither a fault nor a refusal. -/
def Sys2Proof.Laws.AlwaysNext.Statement (i : Sys2Proof.Instr) : Prop := ∀ s : State, ∃ t, exec i s = .next t

namespace Sys2Proof.Laws

theorem AlwaysNext.powerOn (corrupt : List RetSection) (straps : PerPort (BitVec 2)) (start : StartInput) :
    AlwaysNext.Statement (.powerOn corrupt straps start) := fun _ => ⟨_, rfl⟩

theorem AlwaysNext.mainPowerLoss :
    AlwaysNext.Statement (.mainPowerLoss) := fun _ => ⟨_, rfl⟩

theorem AlwaysNext.batteryRetentionLoss :
    AlwaysNext.Statement (.batteryRetentionLoss) := fun _ => ⟨_, rfl⟩

theorem AlwaysNext.resetAssert :
    AlwaysNext.Statement (.resetAssert) := fun _ => ⟨_, rfl⟩

theorem AlwaysNext.resetRelease (start : StartInput) :
    AlwaysNext.Statement (.resetRelease start) := fun _ => ⟨_, rfl⟩

theorem AlwaysNext.serviceRestartStart (start : StartInput) :
    AlwaysNext.Statement (.serviceRestartStart start) := fun _ => ⟨_, rfl⟩

theorem AlwaysNext.biasFault (ch : Accel) (bias : Int) :
    AlwaysNext.Statement (.biasFault ch bias) := fun _ => ⟨_, rfl⟩

theorem AlwaysNext.biasInRange (ch : Accel) (bias : Int) :
    AlwaysNext.Statement (.biasInRange ch bias) := fun _ => ⟨_, rfl⟩

theorem AlwaysNext.recoveryQualificationExpiry (ch : Accel) :
    AlwaysNext.Statement (.recoveryQualificationExpiry ch) := fun _ => ⟨_, rfl⟩

theorem AlwaysNext.converterCheck (ch cq : Int) :
    AlwaysNext.Statement (.converterCheck ch cq) := fun _ => ⟨_, rfl⟩

theorem AlwaysNext.fixedCaptureComplete (buffer : BufferId) (segments : List (List Int)) :
    AlwaysNext.Statement (.fixedCaptureComplete buffer segments) := fun _ => ⟨_, rfl⟩

theorem AlwaysNext.windowLimitReached (buffer : BufferId) (segments : List (List GridInstant)) :
    AlwaysNext.Statement (.windowLimitReached buffer segments) := fun _ => ⟨_, rfl⟩

theorem AlwaysNext.pulseEdge (input : Pulse) (tick : Nat) (segments : List (List GridInstant)) :
    AlwaysNext.Statement (.pulseEdge input tick segments) := fun _ => ⟨_, rfl⟩

theorem AlwaysNext.stall (input : Pulse) :
    AlwaysNext.Statement (.stall input) := fun _ => ⟨_, rfl⟩

theorem AlwaysNext.gateEnd (count : Nat) :
    AlwaysNext.Statement (.gateEnd count) := fun _ => ⟨_, rfl⟩

theorem AlwaysNext.operationSecond :
    AlwaysNext.Statement (.operationSecond) := fun _ => ⟨_, rfl⟩

theorem AlwaysNext.requestEnd :
    AlwaysNext.Statement (.requestEnd) := fun _ => ⟨_, rfl⟩

theorem AlwaysNext.gvmPeriodExpiry :
    AlwaysNext.Statement (.gvmPeriodExpiry) := fun _ => ⟨_, rfl⟩

theorem AlwaysNext.learnBaseline (port : Port) (target : LearnTarget) :
    AlwaysNext.Statement (.learnBaseline port target) := fun _ => ⟨_, rfl⟩

theorem AlwaysNext.tenMinuteBoundary :
    AlwaysNext.Statement (.tenMinuteBoundary) := fun _ => ⟨_, rfl⟩

theorem AlwaysNext.ghmUnalignedIntervalEnd :
    AlwaysNext.Statement (.ghmUnalignedIntervalEnd) := fun _ => ⟨_, rfl⟩

theorem AlwaysNext.mplUndatedIntervalEnd :
    AlwaysNext.Statement (.mplUndatedIntervalEnd) := fun _ => ⟨_, rfl⟩

theorem AlwaysNext.bimStep :
    AlwaysNext.Statement (.bimStep) := fun _ => ⟨_, rfl⟩

theorem AlwaysNext.overrideExpiry :
    AlwaysNext.Statement (.overrideExpiry) := fun _ => ⟨_, rfl⟩

theorem AlwaysNext.iceOverrideBegin (port : Port) (minutes : Nat) :
    AlwaysNext.Statement (.iceOverrideBegin port minutes) := fun _ => ⟨_, rfl⟩

theorem AlwaysNext.iceOverrideEnd (port : Port) :
    AlwaysNext.Statement (.iceOverrideEnd port) := fun _ => ⟨_, rfl⟩

theorem AlwaysNext.pinIcingThresholds (port : Port) (set : ThresholdSet) :
    AlwaysNext.Statement (.pinIcingThresholds port set) := fun _ => ⟨_, rfl⟩

theorem AlwaysNext.unpinIcingThresholds (port : Port) :
    AlwaysNext.Statement (.unpinIcingThresholds port) := fun _ => ⟨_, rfl⟩

theorem AlwaysNext.operatingReport (port : Port) (regime : Nat) (wind power : Int) (heater : Nat) :
    AlwaysNext.Statement (.operatingReport port regime wind power heater) := fun _ => ⟨_, rfl⟩

theorem AlwaysNext.freshnessTimeout :
    AlwaysNext.Statement (.freshnessTimeout) := fun _ => ⟨_, rfl⟩

theorem AlwaysNext.ceilingAck (port : Port) (number : Nat) :
    AlwaysNext.Statement (.ceilingAck port number) := fun _ => ⟨_, rfl⟩

theorem AlwaysNext.acknowledgeTimerExpiry :
    AlwaysNext.Statement (.acknowledgeTimerExpiry) := fun _ => ⟨_, rfl⟩

theorem AlwaysNext.ackAlarm (port : Port) (target : AckTarget) :
    AlwaysNext.Statement (.ackAlarm port target) := fun _ => ⟨_, rfl⟩

theorem AlwaysNext.lockSnapshot (port : Port) (slot : Nat) :
    AlwaysNext.Statement (.lockSnapshot port slot) := fun _ => ⟨_, rfl⟩

theorem AlwaysNext.unlockSnapshot (port : Port) (slot : Nat) :
    AlwaysNext.Statement (.unlockSnapshot port slot) := fun _ => ⟨_, rfl⟩

theorem AlwaysNext.setTime (port : Port) (day sec : Nat) :
    AlwaysNext.Statement (.setTime port day sec) := fun _ => ⟨_, rfl⟩

theorem AlwaysNext.presenceBegin (port : Port) (technician hours : Nat) :
    AlwaysNext.Statement (.presenceBegin port technician hours) := fun _ => ⟨_, rfl⟩

theorem AlwaysNext.presenceEnd (port : Port) :
    AlwaysNext.Statement (.presenceEnd port) := fun _ => ⟨_, rfl⟩

theorem AlwaysNext.presenceExpiry :
    AlwaysNext.Statement (.presenceExpiry) := fun _ => ⟨_, rfl⟩

theorem AlwaysNext.planTask (port : Port) (fields : TaskFields) :
    AlwaysNext.Statement (.planTask port fields) := fun _ => ⟨_, rfl⟩

theorem AlwaysNext.removeTask (port : Port) (id : Nat) :
    AlwaysNext.Statement (.removeTask port id) := fun _ => ⟨_, rfl⟩

theorem AlwaysNext.deferTask (port : Port) (id days : Nat) :
    AlwaysNext.Statement (.deferTask port id days) := fun _ => ⟨_, rfl⟩

theorem AlwaysNext.closeTask (port : Port) (id : Nat) (outcome : CloseOutcome) :
    AlwaysNext.Statement (.closeTask port id outcome) := fun _ => ⟨_, rfl⟩

theorem AlwaysNext.restart (port : Port) :
    AlwaysNext.Statement (.restart port) := fun _ => ⟨_, rfl⟩

theorem AlwaysNext.writeOffsetTrim (port : Port) (index : Nat) (value : Int) :
    AlwaysNext.Statement (.writeOffsetTrim port index value) := fun _ => ⟨_, rfl⟩

theorem AlwaysNext.writePtuItem (port : Port) (index value : Nat) :
    AlwaysNext.Statement (.writePtuItem port index value) := fun _ => ⟨_, rfl⟩

theorem AlwaysNext.writeRchItem (port : Port) (item : RchItem) :
    AlwaysNext.Statement (.writeRchItem port item) := fun _ => ⟨_, rfl⟩

theorem AlwaysNext.writeMeasurementRecord (port : Port) (index : Nat) (value : MeasurementRecord) :
    AlwaysNext.Statement (.writeMeasurementRecord port index value) := fun _ => ⟨_, rfl⟩

theorem AlwaysNext.writeBandConfig (port : Port) (index : Nat) (value : BandConfig) :
    AlwaysNext.Statement (.writeBandConfig port index value) := fun _ => ⟨_, rfl⟩

theorem AlwaysNext.writeGvmEnable (port : Port) (value : Bool) :
    AlwaysNext.Statement (.writeGvmEnable port value) := fun _ => ⟨_, rfl⟩

theorem AlwaysNext.writeMeasurementPeriod (port : Port) (value : Nat) :
    AlwaysNext.Statement (.writeMeasurementPeriod port value) := fun _ => ⟨_, rfl⟩

theorem AlwaysNext.writeGhmEnable (port : Port) (value : Bool) :
    AlwaysNext.Statement (.writeGhmEnable port value) := fun _ => ⟨_, rfl⟩

theorem AlwaysNext.writeGhmItem (port : Port) (item : GhmItem) :
    AlwaysNext.Statement (.writeGhmItem port item) := fun _ => ⟨_, rfl⟩

theorem AlwaysNext.writeVoltageLimit (port : Port) (order value : Nat) :
    AlwaysNext.Statement (.writeVoltageLimit port order value) := fun _ => ⟨_, rfl⟩

theorem AlwaysNext.writeBimEnable (port : Port) (value : Bool) :
    AlwaysNext.Statement (.writeBimEnable port value) := fun _ => ⟨_, rfl⟩

theorem AlwaysNext.writeBimPeakItem (port : Port) (item : BimPeakItem) :
    AlwaysNext.Statement (.writeBimPeakItem port item) := fun _ => ⟨_, rfl⟩

theorem AlwaysNext.writePowerCurve (port : Port) (rows : Vector Nat 40) :
    AlwaysNext.Statement (.writePowerCurve port rows) := fun _ => ⟨_, rfl⟩

theorem AlwaysNext.writeIcingProfile (port : Port) (profile : Heater) (set : ThresholdSet) :
    AlwaysNext.Statement (.writeIcingProfile port profile set) := fun _ => ⟨_, rfl⟩

theorem AlwaysNext.writeCcuItem (port : Port) (item : CcuItem) :
    AlwaysNext.Statement (.writeCcuItem port item) := fun _ => ⟨_, rfl⟩

theorem AlwaysNext.writeComponentConfig (port : Port) (index : Nat) (value : ComponentConfig) :
    AlwaysNext.Statement (.writeComponentConfig port index value) := fun _ => ⟨_, rfl⟩

theorem AlwaysNext.writeNoticeMask (port : Port) (target : Port) (mask : NoticeSet) :
    AlwaysNext.Statement (.writeNoticeMask port target mask) := fun _ => ⟨_, rfl⟩

theorem AlwaysNext.readStatus (port : Port) (block : Block) (part : Nat) :
    AlwaysNext.Statement (.readStatus port block part) := fun _ => ⟨_, rfl⟩

theorem AlwaysNext.readNotices (port : Port) :
    AlwaysNext.Statement (.readNotices port) := fun _ => ⟨_, rfl⟩

theorem AlwaysNext.readCeiling (port : Port) :
    AlwaysNext.Statement (.readCeiling port) := fun _ => ⟨_, rfl⟩

theorem AlwaysNext.readAlarms (port : Port) (skip : Nat) :
    AlwaysNext.Statement (.readAlarms port skip) := fun _ => ⟨_, rfl⟩

theorem AlwaysNext.readSnapshot (port : Port) (slot : Selector) (skip : Nat) :
    AlwaysNext.Statement (.readSnapshot port slot skip) := fun _ => ⟨_, rfl⟩

theorem AlwaysNext.readConfig (port : Port) (group index : Nat) :
    AlwaysNext.Statement (.readConfig port group index) := fun _ => ⟨_, rfl⟩

theorem AlwaysNext.readBands (port : Port) (band : Selector) (skip : Nat) :
    AlwaysNext.Statement (.readBands port band skip) := fun _ => ⟨_, rfl⟩

theorem AlwaysNext.readGridRecords (port : Port) (intervalEnd : Timestamp) (count skip : Nat) :
    AlwaysNext.Statement (.readGridRecords port intervalEnd count skip) := fun _ => ⟨_, rfl⟩

theorem AlwaysNext.readIcing (port : Port) (part : Nat) :
    AlwaysNext.Statement (.readIcing port part) := fun _ => ⟨_, rfl⟩

theorem AlwaysNext.readComponents (port : Port) (index : Selector) (skip : Nat) :
    AlwaysNext.Statement (.readComponents port index skip) := fun _ => ⟨_, rfl⟩

theorem AlwaysNext.readTasks (port : Port) (id : Selector) (skip : Nat) :
    AlwaysNext.Statement (.readTasks port id skip) := fun _ => ⟨_, rfl⟩

theorem AlwaysNext.readDaySummaries (port : Port) (day count skip : Nat) :
    AlwaysNext.Statement (.readDaySummaries port day count skip) := fun _ => ⟨_, rfl⟩

theorem AlwaysNext.readHistory (port : Port) (count skip : Nat) :
    AlwaysNext.Statement (.readHistory port count skip) := fun _ => ⟨_, rfl⟩

theorem AlwaysNext.frameChecked (port : Port) (frame : Frame) (sending : Bool) :
    AlwaysNext.Statement (.frameChecked port frame sending) := fun _ => ⟨_, rfl⟩

theorem AlwaysNext.frameCheckFailure (port : Port) :
    AlwaysNext.Statement (.frameCheckFailure port) := fun _ => ⟨_, rfl⟩

theorem AlwaysNext.octetGapTimeout (port : Port) :
    AlwaysNext.Statement (.octetGapTimeout port) := fun _ => ⟨_, rfl⟩

theorem AlwaysNext.replySent (port : Port) :
    AlwaysNext.Statement (.replySent port) := fun _ => ⟨_, rfl⟩

theorem AlwaysNext.octetReceived (port : Port) (octet : Octet) (sending : Bool) :
    AlwaysNext.Statement (.octetReceived port octet sending) := fun _ => ⟨_, rfl⟩

theorem AlwaysNext.batteryClockSecond :
    AlwaysNext.Statement (.batteryClockSecond) := fun _ => ⟨_, rfl⟩

end Sys2Proof.Laws
end

