-- ==== Sys2Proof/Laws/Requests.lean ====
section
/-! SUPPORT. How a request taken as a command is judged and answered (R189, R190). -/

namespace Sys2Proof.Machine

/-- A request the port admits is handled by its owner, and the owner's answer becomes the reply. -/
theorem takeRequest_admitted (p : Port) (r : Request) (m : Permission) (s : State)
    (hk : permissionOf r.kind = some m) (ha : m.admits p s.mpl.presence.isSome = true) :
    takeRequest p r s =
      formReply p r.kind (handle p r (countPort p (fun c => { c with taken := inc16 c.taken }) s)) := by
  unfold takeRequest takeBody judgeRequest
  simp [hk, ha]

/-- A request the port does not admit is answered REFUSED_PORT and counted (R189 case 2, R195). -/
theorem takeRequest_refused (p : Port) (r : Request) (m : Permission) (s : State)
    (hk : permissionOf r.kind = some m) (ha : m.admits p s.mpl.presence.isSome = false) :
    takeRequest p r s =
      formReply p r.kind
        (countPort p (fun c => { c with refusedPort := inc16 c.refusedPort })
          (countPort p (fun c => { c with taken := inc16 c.taken }) s), { status := .refusedPort }) := by
  unfold takeRequest takeBody judgeRequest
  simp [hk, ha]

/-- The reply the port owes changes `owed` of that port and nothing else (R190). -/
@[simp] theorem oweReply_get (p q : Port) (k tag : Octet) (r : State × Answer) :
    (oweReply p k tag r).lnk.get q =
      if q = p then { r.1.lnk.get p with owed := some (replyFor p k tag r.2 r.1) } else r.1.lnk.get q := by
  cases p <;> cases q <;> rfl

/-- What a port owes stands while a request row is answered (R190, log entry 25). -/
@[simp] theorem formReply_owed (p q : Port) (k : Octet) (r : State × Answer) :
    ((formReply p k r).lnk.get q).owed = (r.1.lnk.get q).owed := by
  cases p <;> cases q <;> rfl

/-- The farm port, or the service port with a presence, is admitted where R195 says so. -/
theorem admits_farmOrPresence (p : Port) (s : State) (h : FarmOrPresence p s) :
    Permission.farmOrPresence.admits p s.mpl.presence.isSome = true := by
  rcases h with rfl | ⟨rfl, h⟩ <;> simp_all [Permission.admits]

/-- The service port with a presence is admitted where R195 asks for a presence. -/
theorem admits_servicePresence (p : Port) (s : State) (h : ServicePresence p s) :
    Permission.servicePresence.admits p s.mpl.presence.isSome = true := by
  rcases h with ⟨rfl, h⟩; simp_all [Permission.admits]

/-- An answer over a state whose ports are untouched but for the count of the request is `answered`. -/
theorem formReply_answered (p : Port) (k : Octet) (a : Answer) (s : State)
    (hc : hasContent a.status = true ∨ a.content = []) :
    formReply p k (countPort p (fun c => { c with taken := inc16 c.taken }) s, a) = answered p k a s := by
  have e : (if hasContent a.status = true then a.content else []) = a.content := by
    rcases hc with h | h <;> simp [h]
  cases p <;> simp [formReply, answered, countPort, withPort, replyFor, replyKind, replyCeiling, e, PerPort.get, PerPort.set]

end Sys2Proof.Machine
end

