-- ==== Sys2Proof/Tests/Slice0.lean ====
section
/-! SUPPORT. Tests: an ill-formed command for each check of WellFormed, the manual's worked examples, and for every
statement of Certificates/Slice0/Obligations.lean with hypotheses, states and operands that meet them. -/

open Sys2Proof Sys2Proof.Machine

namespace Sys2Proof.Tests

/-- The state after a command. -/
def after (c : Instr) (s : State) : State :=
  match exec c s with
  | .next t => t
  | .fault _ | .refused _ => s

/-- What a start finds: every bias in range, and the whole stages after which it is cut short. -/
def start (stages : Option Nat) : StartInput := { bias := ⟨5000, 5000, 5000, 5000, 5000⟩, abandonedAfter := stages }

/-! ## Well-formed commands: one ill-formed term for each check -/

theorem test_ill_formed_starts :
    [Instr.powerOn [.config, .config] ⟨0, 0, 0⟩ (start none), .powerOn [] ⟨0, 0, 0⟩ (start (some 7)),
      .resetRelease (start (some 7)), .serviceRestartStart (start (some 7)),
      .powerOn [] ⟨0, 0, 0⟩ { start none with updated := [.plan] }, .resetRelease { start none with powerLost := true },
      .resetRelease { start none with moments := 1 }, .powerOn [] ⟨0, 0, 0⟩ { start (some 0) with moments := 1 },
      .serviceRestartStart { start (some 4) with moments := 64 },
      .resetRelease { start (some 0) with updated := [.plan, .plan] }].all (!·.wellFormed) := by decide

theorem test_ill_formed_acquisition :
    [Instr.biasFault .g1 2000, .biasFault .g1 22000, .biasInRange .g1 1999, .biasInRange .n1 22001,
      .converterCheck 32768 0, .converterCheck 0 (-32769), .fixedCaptureComplete .ghmA [],
      .fixedCaptureComplete .ghmB [], .fixedCaptureComplete .gvmA [[32768]], .windowLimitReached .bimA [],
      .windowLimitReached .ghmA [[⟨0, 0, 0, 0, 0, 32768⟩]], .pulseEdge .p0 1 [[]],
      .pulseEdge .p2 1 [[⟨-32769, 0, 0, 0, 0, 0⟩]]].all (!·.wellFormed) := by decide

theorem test_ill_formed_requests :
    [Instr.learnBaseline .fp (.band 256), .iceOverrideBegin .fp 65536, .pinIcingThresholds .fp { tHyst := -1 },
      .pinIcingThresholds .fp { persistence := 256 }, .operatingReport .cp 256 0 0 0, .operatingReport .cp 0 32768 0 0,
      .operatingReport .cp 0 0 32768 0, .operatingReport .cp 0 0 0 256, .ceilingAck .cp 65536,
      .ackAlarm .fp (.one .taskDue (.task 0)), .ackAlarm .fp (.one .bandAlert (.band 24)), .lockSnapshot .sp 8,
      .unlockSnapshot .sp 8, .setTime .fp 65536 0, .setTime .fp 0 4294967296, .presenceBegin .sp 65536 1,
      .presenceBegin .sp 1 256, .planTask .fp ⟨256, 0, .inspect, .damage, none, none, 0, 0, none, none⟩,
      .removeTask .fp 256, .deferTask .fp 256 1, .deferTask .fp 1 256, .closeTask .sp 256 .done].all
      (!·.wellFormed) := by decide

theorem test_ill_formed_writes :
    [Instr.writeOffsetTrim .fp 11 0, .writeOffsetTrim .fp 0 32768, .writePtuItem .fp 11 0, .writePtuItem .fp 8 256,
      .writePtuItem .fp 0 65536, .writeRchItem .fp .srefTable, .writeRchItem .fp (.refResistance 4294967296),
      .writeRchItem .fp (.refWindow 0 4294967296), .writeRchItem .fp (.table .s0 (Vector.replicate 8 (1, 32768))),
      .writeMeasurementRecord .fp 8 {}, .writeMeasurementRecord .fp 0 { decimation := 256 }, .writeBandConfig .fp 24 {},
      .writeBandConfig .fp 0 { component := some 256 }, .writeMeasurementPeriod .fp 65536,
      .writeGhmItem .fp (.gridCeiling 256), .writeGhmItem .fp (.vNom 65536),
      .writeGhmItem .fp (.currentLimits 65536 0 0), .writeVoltageLimit .fp 1 1, .writeVoltageLimit .fp 41 1,
      .writeVoltageLimit .fp 2 65536, .writeBimPeakItem .fp (.fRef 65536), .writeBimPeakItem .fp (.searchRange 0 65536),
      .writeBimPeakItem .fp (.powerFloor 281474976710656), .writePowerCurve .fp (Vector.replicate 40 65536),
      .writeIcingProfile .fp .off { tIce := 32768 }, .writeCcuItem .fp (.reportTimeout 256),
      .writeComponentConfig .fp 16 {}, .writeComponentConfig .fp 0 { weight := 65536 }].all (!·.wellFormed) := by decide

theorem test_ill_formed_reads :
    [Instr.readStatus .fp .afe 256, .readIcing .fp 256, .readAlarms .fp 256, .readSnapshot .fp (.one 8) 0,
      .readSnapshot .fp .all 256, .readConfig .fp 256 0, .readConfig .fp 0 256, .readBands .fp (.one 24) 0,
      .readBands .fp .all 256, .readGridRecords .fp ⟨0, 86400⟩ 1 0, .readGridRecords .fp ⟨0, 0⟩ 0 0,
      .readGridRecords .fp ⟨0, 0⟩ 145 0, .readComponents .fp (.one 16) 0, .readTasks .fp (.one 256) 0,
      .readDaySummaries .fp 65536 1 0, .readDaySummaries .fp 0 0 0, .readDaySummaries .fp 0 32 0,
      .readHistory .fp 65 0, .readHistory .fp 0 0, .frameChecked .fp ⟨0, 0, List.replicate 249 0⟩ false].all
      (!·.wellFormed) := by decide +kernel

theorem test_well_formed_commands :
    [Instr.powerOn [.plan, .config] ⟨0, 1, 2⟩ (start (some 6)),
      .resetRelease { start (some 0) with updated := [.plan, .config], powerLost := true },
      .resetRelease { start (some 4) with moments := 63, updated := [.monitor] }, .biasFault .n1 1999, .pulseEdge .p2 1 [[]],
      .fixedCaptureComplete .bimA [[-32768]], .writePtuItem .fp 9 500000, .setTime .sp 65535 86400,
      .readHistory .cp 64 255, .ackAlarm .cp (.one .taskDue (.task 255))].all (·.wellFormed) := by decide

/-! ## Worked examples of the manual -/

/-- The table of trims of chapter 1. -/
theorem test_trim_table :
    [sampleOf 10 1234, sampleOf 10 (-32768), sampleOf 10 32767, sampleOf (-6) 32765, sampleOf (-6) (-32768),
      sampleOf (-6) 0] =
    [(1224, false), (-32768, true), (32757, true), (32767, true), (-32762, true), (6, false)] := by decide

/-- The mean of each group of D samples is rounded toward zero. -/
theorem test_decimation_rounds_toward_zero :
    (completeFixed { kind := .fixed .g1 2 2, trims := [[0]] } [[-3, 0, 3, 0]]).map (·.samples) = some [[-1], [1]] := by
  decide

/-- The seconds to the next converter check have run out. -/
def checkDue (s : State) : State := { s with afe := { s.afe with nextCheck := 0 } }

/-- R7, section 1.4: the converter check of the worked example fails, and one at the limits passes. -/
theorem test_converter_check :
    (after (.converterCheck 16400 8370) (checkDue State.reset)).afe.converterFault = true ∧
      (after (.converterCheck 16391 8190) (checkDue State.reset)).afe.converterFault = false := by decide +kernel

/-- The worked results of chapter 2. -/
theorem test_pulse_results :
    [validResult .p1 60 1 256 2122720, validResult .p1 60 2 256 2122719, validResult .p1 60 3 4 33160,
      validResult .p0 60 4 1 50000000].map (fun r => (r.freq, r.derived)) =
    [(1205999, 1205999), (1206000, 1206000), (1206272, 1206272), (200, 12000)] := by decide

/-- The mismatch episode of chapter 2. -/
theorem test_mismatch_episode :
    let cfg : PtuConfig := { gearRatio := 100500, tolerance := 20 }
    let run := [1205999, 1150000, 1149500, 1151200, 1152000, 1204800].foldl
      (fun (acc : PtuState × List (Nat × Bool × Nat)) f =>
        let u := acc.1.compared (outOfTolerance cfg 12000 f)
        (u, acc.2 ++ [(u.mismatchCounter, u.mismatchFlag, u.mismatchEvents)]))
      ({ State.reset.ptu with mismatchEvents := 7 }, [])
    run.2 = [(0, false, 7), (1, false, 7), (2, false, 7), (3, true, 8), (4, true, 8), (0, false, 8)] := by decide

/-- The worked temperatures of chapter 3. -/
theorem test_temperatures :
    resistanceOf 100000 40000 36000 = 111111 ∧ temperatureOf defaultTable 111111 = (285, false) ∧
      temperatureOf defaultTable 135443 = (919, false) ∧ temperatureOf defaultTable 135222 = (913, false) ∧
      interpolate (200000, 500) (300000, 300) 250001 = 399 ∧ interpolate (200000, 500) (300000, 300) 250000 = 400 := by
  decide

/-- Levels of chapter 4. -/
theorem test_levels :
    [levelFor 1000000 false, levelFor 3 false, levelFor 65536 false, levelFor 281474976710655 true] =
      [5992, 477, 4816, 14434] := by decide

/-- The placements of the example of chapter 4. -/
theorem test_band_placement :
    let limits (p : BandPlace) (s n d : Nat) := let e := bandEdges p s; binLimits e.1 e.2 n d
    limits ⟨0, 2300, 50⟩ 1206000 65536 1 = (1158, 1209) ∧ limits ⟨0, 100, 5⟩ 12000 4096 16 = (1, 0) ∧
      limits ⟨0, 100, 5⟩ 12000 65536 16 = (8, 8) := by decide

/-- By R55 a cosine of amplitude A that lies on bin k has P_k = A² / 3: A = 90 over 8 samples, computed by hand. -/
theorem test_exact_power :
    bandEnergy [90, 0, -90, 0, 90, 0, -90, 0] 8 2 2 = (2500 * 90 ^ 2 / 3, false) := by decide +kernel

/-- R52: the order of service of the worked sequence: a GHM request first, then the source other than the marker's. -/
theorem test_service_order :
    let q (m : Monitor) (a : Nat) : AnalysisRequest :=
      { source := m, tag := 0, buffer := .gvmA, mode := .bands 4096 1 0 [], clipped := false, arrival := a }
    (choose .bim [q .gvm 1, q .ghm 2, q .bim 3]).map (·.arrival) = some 2 ∧
      (choose .bim [q .gvm 1, q .bim 3]).map (·.arrival) = some 1 ∧
      (choose .gvm [q .gvm 4, q .bim 5]).map (·.arrival) = some 5 ∧
      (choose .bim [q .bim 6]).map (·.arrival) = some 6 := by decide

/-- The worked steadiness judgements of chapter 5. -/
theorem test_steadiness :
    [1236000, 1242180, 1245000, 1170001].map (steady 30 1206000) = [true, true, false, true] := by decide

/-- The worked baseline of chapter 5: sixteen levels of sum 95,984. -/
theorem test_baseline :
    ((List.replicate 15 5999 ++ [5999]).foldl (fun b l => BandState.learn l b)
      ({ mode := .learning } : BandState)).baseline = 5999 := by decide

/-- The worked window values of chapter 6. -/
theorem test_window_values :
    let mags := [[325000, 0, 0, 0, 10050, 0, 6500, 0, 0, 0, 4200]]
    voltageLevel { vNom := 6351 } mags 0 = 9994 ∧
      [harmonicRatio 325000 5 10050, harmonicRatio 325000 7 6500, harmonicRatio 325000 11 4200] = [309, 200, 129] ∧
      thdOf mags 0 = 390 := by decide +kernel

/-- The worked roots of chapter 6. -/
theorem test_square_means : rootRatio 20071200 200 = 316 ∧ rootRatio 32705000 200 = 404 := by decide

/-- The worked scores of chapter 7. -/
theorem test_icing_scores :
    expectedPower defaultCurve 87 = 556 ∧ dropOf 1350 3 (some ⟨3, true, 1318, 9000, false⟩) = 23 ∧
      dropOf 1350 3 (some ⟨3, true, 1342, 9000, false⟩) = 5 ∧ dropOf 1350 3 (some ⟨2, true, 1318, 9000, false⟩) = 0 := by
  decide

/-- The table of the temperature factor of chapter 9. -/
theorem test_temperature_factor : [9, 80, 150, 399, 400].map temperatureFactor = [16, 28, 48, 243, 256] := by decide

/-- The worked increment of chapter 9. -/
theorem test_wear_increment :
    let cfg : ComponentConfig := { weight := 250, exponent := 3, thetaRef := 700, tempChannel := some .s1 }
    let s := State.reset
    increment 0
      { s with plan :=
        { s.plan with
          config := s.plan.config.set 0 cfg
          interval :=
            { s.plan.interval with
              producing := 540, powerSum := 461700
              comps := s.plan.interval.comps.set 0 { tempSum := 936000, tempCount := 1200, worst := 1 } } } } = 290115 := by
  decide +kernel

/-- R186: the check value of CRC-16/CCITT-FALSE over the nine digits. -/
theorem test_crc : crc16 [0x31, 0x32, 0x33, 0x34, 0x35, 0x36, 0x37, 0x38, 0x39] = 0x29b1#16 := by
  decide +kernel

/-- R142: the severities. -/
theorem test_severities :
    [AlarmCode.sensorFault, .converterFault, .tachoStall, .tachoMismatch, .tempOpen, .tempShort, .tempRefFault,
      .bandAlert, .bandAlarm, .gridVoltageExceed, .gridCurrentAlert, .gridCurrentAlarm, .iceSuspect, .iceDetected,
      .controllerSilent, .ceilingUnheeded, .taskDue, .taskOverdue, .taskTableFull, .retainedLost].map severity =
    [3, 3, 1, 2, 2, 2, 3, 1, 2, 1, 1, 2, 1, 2, 2, 3, 1, 2, 2, 3] := by decide

/-! ## Commands -/

/-- Section 7.10: the steps 501 to 524 of the icing episode, by the rules of the four states. -/
theorem test_icing_episode :
    let view (warm : Bool) (m : Option Nat) : StepView :=
      { regime := .producing, ambient := { usable := true, cold := !warm, warm := warm }, mean := m }
    let step (acc : IcingRetained × List (IcingState × Nat)) (v : StepView) :=
      let r := icingRule v acc.1
      let x := match r.2 with
        | none => r.1
        | some st => r.1.enter st
      (x, acc.2 ++ [(x.state, match x.state with
        | .clear => x.parkedCount
        | .suspect => x.icedCount
        | .iced => x.clearCount
        | .shedding => x.shedCount)])
    let start : IcingRetained := { state := .clear, active := { persistence := 3, shedHold := 5 }, pinned := true }
    let cold := [some 87, some 154, some 231, some 318, some 410, none, some 449, some 534, some 617, some 678, some 725]
    let warm := [680, 614, 538, 452, 361, 323, 239, 157, 97, 51, 40, 40, 40]
    ((cold.map (view false) ++ warm.map fun m => view true (some m)).foldl step (start, [])).2 =
      [(.clear, 0), (.suspect, 0), (.suspect, 0), (.suspect, 1), (.suspect, 2), (.suspect, 2), (.iced, 0), (.iced, 0),
        (.iced, 0), (.iced, 0), (.iced, 0), (.shedding, 0), (.shedding, 0), (.shedding, 0), (.shedding, 0),
        (.shedding, 0), (.shedding, 0), (.shedding, 0), (.shedding, 0), (.shedding, 1), (.shedding, 2), (.shedding, 3),
        (.shedding, 4), (.clear, 0)] := by decide +kernel

/-- The state after commands in order. -/
def run (l : List Instr) (s : State) : State := l.foldl (fun t c => after c t) s

/-- POWER_ON without retention gives the state right after reset (log entry 1). -/
theorem test_power_on_is_reset :
    after (.powerOn [] ⟨0, 0, 0⟩ (start none))
      { after .mainPowerLoss State.reset with ret := { powered := false, operating := false, retention := false } } =
    State.reset := by decide +kernel

/-- R139: an acknowledgement of the number held sets the flag, and one of another number is STALE. -/
theorem test_ceiling_ack :
    let s := after (.ceilingAck .cp 1) State.reset
    s.ccu.acknowledged = true ∧ s.ccu.ackTimer = none ∧
      (after (.ceilingAck .cp 2) State.reset).lnk.cp.reply.map (·.status) = some .stale := by decide +kernel

/-- R145: an acknowledgement of all on the reset table makes ICE_SUSPECT ACTIVE_ACK and removes RETAINED_LOST. -/
theorem test_ack_all :
    let s := after (.ackAlarm .fp .all) State.reset
    s.ccu.alarms.map (fun e => (e.code, e.state, e.ackBy)) = [(.iceSuspect, .activeAck, some .fp)] ∧
      s.lnk.fp.reply.map (·.content) = some [2, 1] := by decide +kernel

/-- R188 on a burst of frames: the first is in work, the second waits, the third and fourth are dropped. -/
theorem test_burst :
    let f (tag : Octet) : Frame := ⟨0x03, tag, []⟩
    let s := run [.frameChecked .fp (f 1) false, .frameChecked .fp (f 2) false, .frameChecked .fp (f 3) false,
      .frameChecked .fp (f 4) false, .replySent .fp] State.reset
    s.lnk.fp.inWork = some (f 2) ∧ s.lnk.fp.waiting = none ∧ s.lnk.fp.counters.overruns = 2 ∧
      s.lnk.fp.owed.map (·.tag) = some 2 := by decide +kernel

/-- R186, R187: a READ_CEILING frame received octet by octet is taken; its check octets follow the high-first order. -/
theorem test_octets :
    let c := crc16 [2, 0x03, 0x55]
    let octets : List Octet := [0x3c, 2, 0x03, 0x55, c.extractLsb' 8 8, c.extractLsb' 0 8]
    (run (octets.map fun o => .octetReceived .fp o false) State.reset).lnk.fp.inWork = some ⟨0x03, 0x55, []⟩ := by
  decide +kernel

/-- R195: a configuration write on the control port is REFUSED_PORT, and one on the service port needs a presence. -/
theorem test_permissions :
    ((after (.writeCcuItem .cp (.reportTimeout 5)) State.reset).lnk.cp.reply.map (·.status)) = some .refusedPort ∧
      (run [.writeCcuItem .sp (.reportTimeout 5)] State.reset).lnk.sp.reply.map (·.status) = some .refusedPort ∧
      (run [.presenceBegin .sp 17 8, .writeCcuItem .sp (.reportTimeout 5)] State.reset).cfg.reportTimeout = 5 := by
  decide +kernel

/-- Section 9.9: component 4's task 12 on the rollover into day 9,600 has the damage due 9,602 and is DUE. -/
theorem test_task_due :
    let task : Task :=
      { id := 12, component := 4, kind := .inspect, trigger := .both, intervalDays := some 180, fraction := some 160,
        notice := 5, grace := 3, derate := some 80, lastDone := 9450, created := 9450 }
    let day (d : Nat) : DaySummary := ⟨d, { damage := (Vector.replicate 16 0).set 4 6100000 }⟩
    let r := State.reset
    let s : State :=
      { r with
        cal := some ⟨9600, 0⟩
        plan :=
          { r.plan with
            config := r.plan.config.set 4 { damageLimit := 1000000000 }
            wear := r.plan.wear.set 4 { damage := 150000000, countingSince := some 9200 }
            days := (List.range 7).map fun i => day (9593 + i)
            tasks := [task] } }
    rate 4 9600 s = some 6100000 ∧ damageDue 9600 task s = some 9602 ∧ dueDate 9600 task s = some 9602 ∧
      ((recompute s).plan.tasks.map (·.state)) = [.due] ∧
      (after (.deferTask .fp 12 10) (recompute s)).plan.tasks.map (fun x => (x.state, x.deferred)) =
        [(.planned, 10)] := by decide +kernel

/-- R150: a start moves the retained sequence number once. -/
theorem test_restart_moves_number :
    (run [.resetAssert, .resetRelease (start none)] State.reset).mon.ceilingSeq = 2 := by
  decide +kernel

/-- R135: a report out of range in value is clamped, and one of an unknown regime is refused. -/
theorem test_reports :
    let s := after (.operatingReport .cp 2 600 (-300) 1) State.reset
    s.ccu.op.wind = some 500 ∧ s.ccu.op.power = some (-100) ∧ s.ccu.op.clamped = true ∧
      s.ccu.op.regime = .producing ∧ (after (.operatingReport .cp 4 0 0 0) State.reset).ccu.op = {} := by decide +kernel

/-! ## States and operands that meet the hypotheses of the statements

`witness_<Name>` stands for the statement `Obligations.<Name>`. A statement whose hypotheses are only that the part operates
and who may send, or none, is met by the first theorem. -/

/-- The reset state with the calendar set. -/
def dated : State := { State.reset with cal := some ⟨100, 600⟩ }

/-- It with a technician presence. -/
def sited : State := { dated with mpl := { dated.mpl with presence := some ⟨17, 3600⟩ } }

theorem reset_keyed : AlarmsKeyed State.reset := by unfold AlarmsKeyed; decide

theorem reset_ordered : TasksOrdered State.reset := by unfold TasksOrdered; decide

theorem reset_bounded : StoresBounded State.reset := by unfold StoresBounded; decide

/-- Met by: OffsetTrimWrite, SensorItemWrites, MeasurementAndBandWrites, LearnBaselineRequest,
PlainItemWrites, ComponentConfigWrite and ReadsAndMasks, each on the farm port and on the service port. -/
theorem witness_operating :
    State.reset.ret.operating = true ∧ sited.ret.operating = true ∧ FarmOrPresence .fp State.reset ∧
      FarmOrPresence .sp sited := ⟨rfl, rfl, Or.inl rfl, Or.inr ⟨rfl, rfl⟩⟩

theorem witness_StoredSamplesAreMeans :
    1 ≤ 1 ∧ 1 * 1 ≤ [(32767 : Int)].length ∧ 1 ≤ 16 ∧ 0 * 16 ≤ ([] : List Int).length := by decide

/-- A FILLING capture of one sample on G1. -/
def gearFill : CaptureRecord := { kind := .fixed .g1 1 1, trims := [[0]] }

/-- The reset state with such a capture in GVM-A. -/
def capturing : State :=
  { State.reset with afe := { State.reset.afe with buffers := { State.reset.afe.buffers with gvmA := .filling gearFill } } }

theorem witness_BiasFaultEffect :
    capturing.ret.operating = true ∧ ((1999 : Int) < 2000 ∨ 22000 < (1999 : Int)) ∧
      ((22001 : Int) < 2000 ∨ 22000 < (22001 : Int)) ∧
      (∃ r d n, bufferOf capturing .gvmA = .filling r ∧ r.kind = .fixed .g1 d n) ∧
      (¬ ∃ r d n, bufferOf capturing .gvmB = .filling r ∧ r.kind = .fixed .g1 d n) :=
  ⟨rfl, by decide, by decide, ⟨gearFill, 1, 1, rfl, rfl⟩, by rintro ⟨_, _, _, h, _⟩; cases h⟩

/-- The reset state with G1 at a fault state and qualification. -/
def accelAt (x : AccelState) : State :=
  { State.reset with afe := { State.reset.afe with accel := { State.reset.afe.accel with g1 := x } } }

theorem witness_BiasRecovery :
    ((accelAt ⟨.openCircuit, none⟩).afe.accel.get .g1).fault ≠ .none ∧
      ((accelAt ⟨.openCircuit, none⟩).afe.accel.get .g1).qualification = none ∧
      (State.reset.afe.accel.get .g1).fault = .none ∧ (2000 : Int) ≤ 22000 ∧
      AlarmsKeyed (accelAt ⟨.shortCircuit, some 0⟩) ∧
      ((accelAt ⟨.shortCircuit, some 0⟩).afe.accel.get .g1).qualification = some 0 ∧
      ((accelAt ⟨.shortCircuit, some 1⟩).afe.accel.get .g1).qualification ≠ some 0 :=
  ⟨by decide, rfl, rfl, by decide, reset_keyed, rfl, by decide⟩

/-- A FILLING peak capture of step 1. -/
def peakFill : CaptureRecord := { kind := .fixed .n1 16 65536, trims := [[0]] }

/-- The reset state with it in BIM-A. -/
def peaking : State :=
  { State.reset with
    afe := { State.reset.afe with buffers := { State.reset.afe.buffers with bimA := .filling peakFill } }
    bim := { State.reset.bim with outstanding := some 1 } }

/-- A FILLING window capture. -/
def windowFill : CaptureRecord := { kind := .window, trims := [[0, 0, 0, 0, 0, 0]] }

/-- A peak capture completes with enough raw values. -/
theorem completes_of_length (l : List Int) (h : 1048576 ≤ l.length) : ∃ r', completeFixed peakFill [l] = some r' := by
  simp [completeFixed, peakFill, rowsOf, Nat.not_lt.mpr h]

/-- A window capture with enough instants has reached its limit. -/
theorem limit_of_length (l : List GridInstant) (h : 1600 ≤ l.length) : (fillWindow windowFill [l]).limitReached = true := by
  simp [fillWindow, windowFill, rowsOf, CaptureRecord.store, h]

theorem witness_PeakCaptureCompletes :
    peaking.ret.operating = true ∧ bufferOf peaking .bimA = .filling peakFill ∧ peakFill.kind = .fixed .n1 16 65536 ∧
      peakFill.stored < 65536 ∧ (∃ r', completeFixed peakFill [List.replicate 1048576 0] = some r') ∧ peaking.bim.outstanding = some 1 ∧
      peaking.spe.inProgress = none ∧ peaking.spe.queue = [] ∧ peaking.cfg.bim.searchLo ≤ peaking.cfg.bim.searchHi ∧
      peaking.cfg.bim.searchHi ≤ 25000 ∧ peaking.cfg.bim.powerFloor ≤ 281474976710655 := by
  exact ⟨rfl, rfl, rfl, by decide, completes_of_length _ (List.length_replicate ..).ge, rfl, rfl, rfl, by decide,
    by decide, by decide⟩

/-- A grid instant. -/
def instant : GridInstant := ⟨100, 0, 0, 0, 0, 0⟩

/-- A measurement of P2 in its last cycle, the window 0 OPEN in GHM-A. -/
def windowing : State :=
  let r := State.reset
  { r with
    afe := { r.afe with buffers := { r.afe.buffers with ghmA := .filling windowFill } }
    ptu := { r.ptu with chan := { r.ptu.chan with p2 := { r.ptu.chan.p2 with meas := .measuring 10 9 1 1 } } }
    ghm := { r.ghm with window := .running, entries := [{ number := 0, buffer := some .ghmA }], nextWindow := 1 } }

theorem witness_WindowLimitSettles :
    windowing.ret.operating = true ∧ (BufferId.ghmA = .ghmA ∨ BufferId.ghmA = .ghmB) ∧
      bufferOf windowing .ghmA = .filling windowFill ∧ windowFill.kind = .window ∧
      (fillWindow windowFill [List.replicate 1600 instant]).limitReached = true ∧
      windowing.ghm.entries.find? (fun x => x.buffer = some .ghmA) = some { number := 0, buffer := some .ghmA } :=
  ⟨rfl, Or.inl rfl, rfl, rfl, limit_of_length _ (List.length_replicate ..).ge, rfl⟩

/-- The reset state with P1 in a given state. -/
def hssAt (x : PulseState) : State :=
  { State.reset with ptu := { State.reset.ptu with chan := { State.reset.ptu.chan with p1 := x } } }

/-- P1 with one pulse of two counted, the last at tick 5. -/
def counting : State := hssAt { meas := .measuring 3 1 1 2, prevAccepted := some 5 }

theorem witness_EdgeWithoutResult :
    (counting.ptu.chan.get .p1).prevAccepted = some 5 ∧ 5 ≤ 5 ∧ 1004 - 5 < (counting.cfg.ptu.chan.get .p1).spacing ∧
      (5 < 1005 ∧ (counting.cfg.ptu.chan.get .p1).spacing ≤ 1005 - 5) ∧
      (counting.ptu.chan.get .p1).meas = .measuring 3 1 1 2 ∧ 1 + 1 < 3 ∧
      (State.reset.ptu.chan.get .p1).prevAccepted = none ∧ (State.reset.ptu.chan.get .p1).meas = .waiting 0 2 := by
  decide

/-- P1 in its last tooth, the last pulse at tick 5, with a VALID rotor result. -/
def ending : State :=
  let s := hssAt { meas := .measuring 2 1 1 2, prevAccepted := some 5 }
  let p0 := { s.ptu.chan.p0 with latest := some (validResult .p0 60 1 1 50000000) }
  { s with ptu := { s.ptu with chan := { s.ptu.chan with p0 := p0 } } }

theorem witness_EndPulseIssuesResult :
    ending.ret.operating = true ∧
      (∀ t, (ending.ptu.chan.get .p1).prevAccepted = some t → t < 1005 ∧ (ending.cfg.ptu.chan.get .p1).spacing ≤ 1005 - t) ∧
      (ending.ptu.chan.get .p1).meas = .measuring 2 1 1 2 ∧ 2 ≤ 1 + 1 ∧ 1 < 1005 :=
  ⟨rfl, fun _ h => by cases h; decide, rfl, by decide, by decide⟩

/-- The comparison runs where P0 has a VALID result, and not where its latest is STALLED. -/
theorem witness_TachoConsistency :
    ending.ptu.chan.p1.meas = .measuring 2 1 1 2 ∧
      (∃ r, ending.ptu.chan.p0.latest = some r ∧ r.status = .valid) ∧
      (∀ t, ending.ptu.chan.p1.prevAccepted = some t → t < 1005 ∧ ending.cfg.ptu.chan.p1.spacing ≤ 1005 - t) ∧
      ((hssAt { meas := .measuring 2 1 1 2 }).ptu.chan.p0.latest = none) ∧
      (stalledResult 1 1 300000000).status = .stalled :=
  ⟨rfl, ⟨_, rfl, rfl⟩, fun _ h => by cases h; decide, rfl, rfl⟩

theorem witness_StallIssuesResult :
    counting.ret.operating = true ∧ (counting.ptu.chan.get .p1).stallIn = 0 ∧
      (State.reset.ptu.chan.get .p1).stallIn ≠ 0 ∧ (counting.ptu.chan.get .p1).meas = .measuring 3 1 1 2 ∧
      counting.ccu.op.regime ≠ .producing ∧ (windowing.ptu.chan.get .p2).meas = .measuring 10 9 1 1 ∧
      (after .operationSecond windowing).ptu.chan.p2.stallIn = 0 ∧ windowing.ghm.window ≠ .off := by decide +kernel

/-- The reset state at a place of the conversion sequence with a reference count. -/
def atGate (pos : SeqPos) (fault : Bool) : State :=
  { State.reset with rch := { State.reset.rch with pos := pos, cRef := some 40000, refFault := fault } }

theorem witness_ReferenceResult :
    (atGate .ref false).rch.pos = .ref ∧ AlarmsKeyed (atGate .ref false) ∧
      (atGate .ref true).rch.refFault = true ∧ (atGate .ref false).rch.refFault = false ∧
      (State.reset.cfg.rch.windowLow ≤ min 30000 16777215 ∧ min 30000 16777215 ≤ State.reset.cfg.rch.windowHigh) ∧
      ¬ (State.reset.cfg.rch.windowLow ≤ min 29999 16777215) ∧ ¬ (min 50001 16777215 ≤ State.reset.cfg.rch.windowHigh) :=
  ⟨rfl, reset_keyed, rfl, rfl, by decide, by decide, by decide⟩

theorem witness_SensorResult :
    (atGate (.sensor .s3) false).ret.operating = true ∧ (atGate (.sensor .s3) false).rch.pos = .sensor .s3 ∧
      (atGate (.sensor .s0) true).rch.cRef = some 40000 ∧ 49 < 50 ∧ 20 * 40000 < 800001 := by decide

theorem witness_TemperatureFromTable :
    (∀ i j : Fin 8, i < j → defaultTable[i].1 < defaultTable[j].1) ∧ 84270 < defaultTable[0].1 ∧
      defaultTable[7].1 < 157326 ∧ 157325 = defaultTable[7].1 ∧
      (defaultTable[(0 : Fin 7).castSucc].1 ≤ 84271 ∧ 84271 < defaultTable[(0 : Fin 7).succ].1) ∧
      (∀ i : Fin 8, -400 ≤ defaultTable[i].2 ∧ defaultTable[i].2 ≤ 1500) := by decide

/-- A request of a source in a buffer. -/
def request (m : Monitor) (b : BufferId) (arrival : Nat) (mode : AnalysisMode) : AnalysisRequest :=
  { source := m, tag := 0, buffer := b, mode := mode, clipped := false, arrival := arrival }

/-- A FULL record of four samples. -/
def shortRecord : CaptureRecord := { kind := .fixed .g1 1 4, trims := [[0]], stored := 4, samples := [[1], [2], [3], [4]] }

/-- A GVM request in progress and a BIM request waiting. -/
def analysing : State :=
  let r := State.reset
  { r with
    afe :=
      { r.afe with buffers := { r.afe.buffers with gvmA := .inAnalysis shortRecord, bimA := .full { peakFill with stored := 65536 } } }
    spe :=
      { r.spe with
        inProgress := some (request .gvm .gvmA 1 (.bands 4 1 0 []))
        queue := [request .bim .bimA 2 (.peak 65536 16 900 1800 2500)] }
    gvm := { r.gvm with work := r.gvm.work.set 0 { work := .analysing, outstanding := some 1 } } }

theorem witness_RequestEndSelectsNext :
    analysing.ret.operating = true ∧ analysing.spe.inProgress = some (request .gvm .gvmA 1 (.bands 4 1 0 [])) ∧
      (analysing.afe.buffers.set .gvmA .free).get .bimA = .full { peakFill with stored := 65536 } := by
  refine ⟨rfl, rfl, rfl⟩

/-- A grid ceiling that moves the least contribution, at current grade 2, and one that does not (R105). -/
theorem witness_PlainItemWrites :
    let s (grade : Nat) : State := { dated with mon := { dated.mon with currentGrade := grade } }
    let posted (v : Nat) : Contributions := { dated.ccu.contributions with grid := some v }
    (CeilingIsLeast (s 2) ∧ CeilingIsLeast (s 1)) ∧ dated.ccu.ceiling ≠ some (leastContribution (posted 40)) ∧
      dated.ccu.ceiling = some (leastContribution (posted 100)) ∧
      (after (.writeGhmItem .fp (.gridCeiling 40)) (s 2)).ccu.ceiling = some 40 ∧
      (after (.writeGhmItem .fp (.gridCeiling 40)) (s 1)).ccu.contributions.grid = some 100 :=
  ⟨⟨fun _ => rfl, fun _ => rfl⟩, by decide, by decide, by decide +kernel, by decide +kernel⟩

/-- A RESOLVED entry with energy, one without, and one that reaches 2^48. -/
theorem witness_LevelConversion :
    let e (a : Int) := analyseBand [a, 0, -a, 0, a, 0, -a, 0] 8 1 6000 ⟨0, 6400000, 0⟩
    (e 90).resolved = true ∧ (e 90).energy ≠ 0 ∧ (e 90).saturated = false ∧ (e 0).resolved = true ∧ (e 0).energy = 0 ∧
      (e 1000000).resolved = true ∧ (e 1000000).saturated = true := by decide +kernel

/-- A record of 8 samples with the bins 1..4, and with a band that is RESOLVED and one that is not. -/
theorem witness_BandEnergyIsExact :
    let e (c : Nat) := analyseBand [90, 0, -90, 0, 90, 0, -90, 0] 8 1 6000 ⟨0, c, 0⟩
    [1, 2, 3, 4, 5, 6, 7, 8].length = 2 ^ (1 + 2) ∧ 1 ≤ 4 ∧ 4 ≤ 2 ^ (1 + 1) ∧ [1, 2, 3, 4].length = 2 ^ (0 + 2) ∧
      [90, 0, -90, 0, 90, 0, -90, 0].length = 2 ^ (1 + 2) ∧ (e 6400000).resolved = true ∧ (e 1).resolved = false := by
  decide +kernel

theorem witness_MagnitudeIsExact :
    [0, 0].length = 2 ∧ 2 ≤ 2 ∧ 1 ≤ 1 ∧ 1 ≤ 40 ∧ 40 ≤ 40 ∧ harmonicMagnitude [0, 0] 2 1 100000 40 < 2 ^ 32 := by
  refine ⟨rfl, by decide, by decide, by decide, by decide, ?_⟩
  simp [harmonicMagnitude, gridPoint]

theorem witness_PeakIsExact :
    [1, 2, 3, 4].length = 2 ^ (0 + 2) ∧ 1 ≤ 1 ∧ 2500 < 2 ^ 48 ∧
      (binLimits 900 1800 4 1).2 < (binLimits 900 1800 4 1).1 ∧
      (binLimits 0 12800000 4 1).1 ≤ (binLimits 0 12800000 4 1).2 := by decide

/-- The reset state with an enabled measurement 0 on bands 0 and 1, band 0 enabled and ARMED, while PRODUCING with the
VALID speed of one HSS result and the period timer run out. -/
def monitoring (w : WorkRecord) : State :=
  let s := hssAt { meas := .waiting 0 2, latest := some (validResult .p1 60 1 256 2122720) }
  { s with
    cfg :=
      { s.cfg with
        measurements := s.cfg.measurements.set 0 { enabled := true, bands := [0, 1] }
        bands := s.cfg.bands.set 0 { enabled := true } }
    mon := { s.mon with bands := s.mon.bands.set 0 { mode := .armed, baseline := 5000 } }
    ccu := { s.ccu with op := { s.ccu.op with regime := .producing } }
    gvm := { s.gvm with periodTimer := some 0, work := s.gvm.work.set 0 w } }

theorem witness_PeriodExpiryTakesSlot :
    let s := monitoring {}
    let v := s.cfg.measurements[0]
    s.ret.operating = true ∧ s.gvm.periodTimer = some 0 ∧ State.reset.gvm.periodTimer ≠ some 0 ∧ v.enabled = true ∧
      (∀ k : Fin 8, s.cfg.measurements[k].enabled = true → 0 ≤ k.val) ∧ s.gvm.work[0].work = .idle ∧
      s.ccu.op.regime = .producing ∧ (s.ptu.chan.get .p1).latest = some (validResult .p1 60 1 256 2122720) ∧
      (validResult .p1 60 1 256 2122720).status = .valid ∧ 1 ≤ (validResult .p1 60 1 256 2122720).derived ∧
      s.ptu.mismatchFlag = false ∧ v.decimation ∈ [1, 2, 4, 8, 16] ∧ 1 ≤ v.length ∧ v.length ≤ 65536 ∧
      s.afe.converterFault = false ∧ (s.afe.accel.get .g1).fault = .none ∧ s.afe.buffers.gvmA = .free := by decide

theorem witness_PeriodExpiryTakesSlot_skips :
    (∀ k : Fin 8, State.reset.cfg.measurements[k].enabled = false) ∧
      (monitoring { work := .queued }).gvm.work[0].work ≠ .idle ∧
      ({ monitoring {} with ccu := State.reset.ccu }).ccu.op.regime ≠ .producing := by decide

/-- A write of the measurement and one of its band, held while it is busy and taken while it is IDLE. -/
theorem witness_MeasurementAndBandWrites :
    let v : MeasurementRecord := { enabled := true, bands := [0, 23] }
    let busy := monitoring { work := .capturing, pending := some (.measurement {}) }
    measurementOk v = true ∧ measurementOk { v with decimation := 3 } = false ∧
      (∀ k : Fin 8, k ≠ 0 → ∀ b ∈ v.bands, b ∉ busy.cfg.measurements[k].bands) ∧ busy.gvm.work[0].work ≠ .idle ∧
      (monitoring {}).gvm.work[0].work = .idle ∧ bandOk {} = true ∧ bandOk { confirmCount := 0 } = false ∧
      owningMeasurement busy.cfg 1 = some 0 ∧ owningMeasurement busy.cfg 23 = none := by decide

/-- A write that gives band 23 to measurement 0 and takes band 1 from it; the channel changes in the second. -/
theorem witness_BandStatesFollowWrites :
    let s := monitoring {}
    let v : MeasurementRecord := { enabled := true, bands := [0, 23] }
    s.ret.operating = true ∧ FarmOrPresence .fp s ∧ measurementOk v = true ∧
      measurementOk { v with channel := .g2 } = true ∧
      (∀ k : Fin 8, k ≠ 0 → ∀ b ∈ v.bands, b ∉ s.cfg.measurements[k].bands) ∧ s.gvm.work[0].work = .idle ∧
      s.mon.bands[0].mode = .armed ∧ s.cfg.bands[0].enabled = true ∧ s.cfg.bands[1].enabled = false :=
  ⟨rfl, Or.inl rfl, by decide, by decide, by decide, by decide, by decide, by decide, by decide⟩

theorem witness_LearnBaselineRequest :
    (monitoring {}).mon.bands[0].mode ≠ .disabled ∧ (monitoring {}).mon.bands[23].mode = .disabled ∧
      (∀ i ∈ (monitoring {}).cfg.measurements[7].bands, (monitoring {}).mon.bands[Fin.ofNat 24 i].mode = .disabled) := by
  decide

/-- Measurement 0 busy with a GVM request in progress, the monitor enabled. -/
theorem witness_GvmEnableWrite :
    analysing.cfg.gvmEnable = true ∧ analysing.gvm.work[0].work ≠ .idle ∧ analysing.gvm.work[1].work = .idle ∧
      analysing.spe.inProgress = some (request .gvm .gvmA 1 (.bands 4 1 0 [])) ∧
      (request .gvm .gvmA 1 (.bands 4 1 0 [])).tag = (0 : Fin 8).val ∧
      ({ State.reset.cfg with gvmEnable := false }).gvmEnable = false := by decide

theorem witness_LearningAndGrading :
    (List.replicate 16 5999).length ≤ 16 ∧ bandOk {} = true ∧ (2 : Nat) ≤ 2 ∧ ((1200 : Nat) : Int) ≤ 1200 ∧
      (1199 : Int) < (1200 : Nat) := by decide

/-- The last pulse of the measurement of P2, in a given state of the windows and of the engine. -/
def edging (entries : List WindowEntry) (engine : SpeState) : State :=
  { windowing with ghm := { windowing.ghm with entries := entries }, spe := engine }

/-- A window ENDED before in GHM-B, its request waiting for its end, and two that hold no buffer: refused, and aborted. -/
def endedWindow : WindowEntry := { number := 65535, buffer := some .ghmB, ended := true, request := .analysing 7 }

def refusedWindow : WindowEntry := { number := 0, refusal := some .noBuffer }

def abortedWindow : WindowEntry := { number := 0, outcome := some (.missed .aborted) }

/-- The first window under SEARCHING, with the converter in order and in fault, and the end of window 0 with 2 instants, after a
refusal, after an abort, and with an engine that is IDLE, busy, or serving its buffer; 250 ticks give 40,000 Hz, 2,000,000 ticks
50 Hz. -/
theorem witness_GridWindowEdge :
    let full := fillWindow windowFill [[instant, instant]]
    let q (b : BufferId) := request .ghm b 7 (.harmonics 10 2000000 2)
    windowing.ret.operating = true ∧ (∀ t, windowing.ptu.chan.p2.prevAccepted = some t →
        t < 2000001 ∧ windowing.cfg.ptu.chan.p2.spacing ≤ 2000001 - t) ∧
      windowing.ptu.chan.p2.meas = .measuring 10 9 1 1 ∧ 10 ≤ 9 + 1 ∧ 1 < 2000001 ∧
      windowing.ghm.window = .running ∧ windowing.ghm.entries = [] ++ [{ number := 0, buffer := some .ghmA }] ∧
      bufferOf windowing .ghmA = .filling windowFill ∧ windowFill.kind = .window ∧ bufferOf windowing .ghmB = .free ∧
      2 ≤ full.stored ∧ full.stored < 1600 ∧ windowing.spe.inProgress = none ∧ windowing.spe.queue = [] ∧
      (validResult .p2 60 1 10 2000000).freq = 50000 ∧ 65000 < (validResult .p2 60 1 10 250).freq ∧
      (endedWindow.ended = true ∧ endedWindow.outcome = none ∧ endedWindow.number ≠ 0 ∧ endedWindow.request ≠ .queued 1) ∧
      (refusedWindow.ended = false ∧ refusedWindow.outcome = none ∧ refusedWindow.buffer = none ∧
        refusedWindow.refusal = some .noBuffer ∧ abortedWindow.ended = false ∧ abortedWindow.outcome ≠ none) ∧
      (edging [endedWindow, abortedWindow] { inProgress := some (q .ghmB) }).ghm.entries = [endedWindow] ++ [abortedWindow] ∧
      (q .ghmA).buffer = .ghmA ∧ (q .ghmB).buffer ≠ .ghmA ∧
      ({ windowing with ghm := State.reset.ghm }).ghm.window = .searching ∧ State.reset.afe.buffers.ghmA = .free := by
  refine ⟨rfl, ?_, by decide⟩
  intro t h
  cases h

/-- R90, R94: the window ends by its request that waits, that is refused, or without a capture; the next one has no buffer while
the converter is in fault. -/
theorem test_window_ends :
    let q (b : BufferId) := request .ghm b 7 (.harmonics 10 2000000 2)
    let edge (s : State) : State := after (.pulseEdge .p2 2000001 [[instant, instant]]) s
    let window : WindowEntry := { number := 0, buffer := some .ghmA }
    let waits := edge (edging [window] { inProgress := some (q .ghmB) })
    let refused := edge (edging [window] { inProgress := some (q .ghmA) })
    let lost := edge { edging [refusedWindow] {} with afe := { State.reset.afe with converterFault := true } }
    (waits.ghm.entries.map (·.request) = [.queued 1, .none] ∧ waits.spe.queue.map (·.tag) = [0]) ∧
      (refused.ghm.counters.missedQueue = 1 ∧ refused.ghm.entries = [{ number := 1, buffer := some .ghmA }]) ∧
      lost.ghm.counters.missedNoBuffer = 1 ∧ lost.ghm.entries = [{ number := 1, refusal := some .converter }] := by
  decide +kernel

theorem witness_GridValuesAreExact :
    magnitudeAt [[325000, 0, 100]] 0 1 ≠ 0 ∧ 2 ≤ 40 ∧ ({} : SquareSum).count = 0 ∧ (⟨20071200, 200⟩ : SquareSum).count ≠ 0 ∧
      (⟨4294967296 * 200 - 1, 200⟩ : SquareSum).sum < 4294967296 * 200 := by decide

/-- The monitor enabled, with a GHM request in progress; and disabled. -/
theorem witness_GhmEnableWrite :
    let s := { windowing with spe := { windowing.spe with inProgress := some (request .ghm .ghmB 1 (.harmonics 10 2000000 1000)) } }
    s.ret.operating = true ∧ s.cfg.ghm.enable = true ∧ (s.spe.inProgress.map (·.source)) = some .ghm ∧
      ({ s.cfg.ghm with enable := false }).enable = false := by decide

/-- A state with both intervals planned to end in some seconds of operation. -/
def plannedTo (n : Nat) (s : State) : State :=
  { s with
    ghm := { s.ghm with interval := { s.ghm.interval with planned := .seconds n } }
    plan := { s.plan with interval := { s.plan.interval with planned := .seconds n } } }

theorem witness_UnalignedGridIntervalEnds :
    State.reset.ghm.interval.planned ≠ .seconds 0 ∧ (plannedTo 0 State.reset).ghm.interval.planned = .seconds 0 ∧
      State.reset.ghm.interval.values = 0 ∧
      State.reset.ghm.block.analysed = 0 ∧ plannedEndFrom dated.cal = .boundary ⟨100, 1200⟩ ∧
      ({ State.reset.ghm.interval with values := 1 }).values ≠ 0 := by decide

/-- A BIM state at step 4 of a producing turbine with ambient temperature and a PEAK held. -/
def stepping (icing : IcingRetained) (ambient : Int) : State :=
  let r := State.reset
  { r with
    mon := { r.mon with icing := icing }
    ccu := { r.ccu with op := { r.ccu.op with regime := .producing, wind := some 87, power := some 478, heater := some .off } }
    rch :=
      { r.rch with sensor :=
        { r.rch.sensor with s0 :=
          { r.rch.sensor.s0 with record := { value := some ambient, status := .good, age := some 1 } } } }
    bim := { r.bim with stepTimer := some 0, stepNumber := 3, heldPeak := some ⟨3, true, 1318, 9000, false⟩ } }

/-- An evaluable step, and one for each condition that stops it. -/
theorem witness_IcingStepScores :
    let s := stepping {} 5
    s.ret.operating = true ∧ s.bim.stepTimer = some 0 ∧ stepStop s = none ∧ s.mon.icing.ring.length ≤ 10 ∧
      stepStop State.reset = some .regime ∧
      stepStop { s with ghm := { s.ghm with disturbed := true } } = some .disturbance ∧
      stepStop { s with rch := State.reset.rch } = some .noAmbient ∧
      stepStop { s with ccu := { s.ccu with op := { s.ccu.op with wind := some 29 } } } = some .lowWind ∧
      ({ s.bim with stepTimer := none }).stepTimer ≠ some 0 := by decide

/-- Every state and exit of the four rules: the ring's mean after the step decides. -/
theorem witness_IcingStepTransitions :
    let next (i : IcingRetained) (t : Int) := (after .bimStep (stepping i t)).mon.icing.state
    let ring (x : Nat) := List.replicate 9 x
    next { state := .clear, ring := ring 2000 } 20 = .suspect ∧ next { state := .clear, ring := ring 2000 } 21 = .clear ∧
      next { state := .suspect, ring := ring 2000 } 31 = .clear ∧ next { state := .suspect, ring := ring 2000 } 30 = .suspect ∧
      next { state := .suspect, ring := ring 2000, icedCount := 9 } 30 = .iced ∧
      next { state := .suspect, ring := ring 0 } 30 = .clear ∧ next { state := .iced, ring := ring 2000 } 31 = .shedding ∧
      next { state := .iced, ring := ring 0, clearCount := 9 } 30 = .shedding ∧ next { state := .iced, ring := ring 0 } 30 = .iced ∧
      next { state := .shedding, ring := ring 2000 } 30 = .iced ∧ next { state := .shedding, ring := ring 2000 } 31 = .shedding ∧
      next { state := .shedding, ring := ring 0, shedCount := 59 } 31 = .clear ∧
      next { state := .shedding, ring := ring 0, shedCount := 58 } 31 = .shedding := by decide +kernel

theorem witness_IcingOverride :
    let iced := stepping { state := .iced } 5
    let active := { iced with bim := { iced.bim with override := some 0 } }
    iced.ret.operating = true ∧ iced.mon.icing.state = .iced ∧ iced.mpl.presence = none ∧ iced.bim.override = none ∧
      active.bim.override = some 0 ∧ sited.mpl.presence ≠ none ∧ State.reset.mon.icing.state = .suspect ∧ 1 ≤ 1 ∧ 1 ≤ 121 := by
  decide

theorem witness_ThresholdSets :
    thresholdsOk {} = true ∧ thresholdsOk { persistence := 0 } = false ∧ State.reset.mon.icing.pinned = false ∧
      State.reset.mon.icing.loaded = .off ∧ State.reset.mon.icing.loaded ≠ .on ∧
      (stepping { pinned := true } 5).mon.icing.pinned = true ∧ FarmOrPresence .fp State.reset :=
  ⟨by decide, by decide, rfl, rfl, by decide, rfl, Or.inl rfl⟩

theorem witness_BimEnableWrite :
    analysing.ret.operating = true ∧ analysing.cfg.bim.enable = true ∧
      (∀ q ∈ analysing.spe.queue, q.source = .bim → q.buffer = .bimA) ∧
      ({ State.reset.cfg.bim with enable := false }).enable = false := by decide

/-- An alarm entry of a band. -/
def alarm (i : Nat) (code : AlarmCode) (st : AlarmState) : AlarmEntry :=
  { code := code, source := .band i, state := st, raisedAt := none, lastChange := none }

/-- The reset state with an alarm table. -/
def tabled (l : List AlarmEntry) : State := { State.reset with ccu := { State.reset.ccu with alarms := l } }

/-- A full table: 32 entries of one state. -/
def fullTable (st : AlarmState) : List AlarmEntry :=
  (List.range 16).map (fun i => alarm i .bandAlert st) ++ (List.range 16).map fun i => alarm i .bandAlarm st

theorem witness_OperatingReport :
    State.reset.ret.operating = true ∧ AlarmsKeyed State.reset ∧ State.reset.ccu.freshness ≠ some 0 ∧
      ({ State.reset.ccu with freshness := some 0 }).freshness = some 0 ∧ 3 < 4 ∧ 1 < 2 ∧ State.reset.ccu.alarms.length < 32 :=
  ⟨rfl, reset_keyed, by decide, rfl, by decide, by decide, by decide⟩

theorem witness_CeilingPost :
    State.reset.ccu.contributions.set .grid 100 = ⟨some 100, some 100, some 100, some 100⟩ ∧
      State.reset.ccu.ceiling = some (min 100 (min 100 (min 100 100))) ∧
      State.reset.ccu.contributions.set .icing 0 = ⟨some 0, some 100, some 100, some 100⟩ ∧
      State.reset.ccu.ceiling ≠ some (min 0 (min 100 (min 100 100))) ∧ State.reset.ccu.ackTimer ≠ some 0 ∧
      ({ State.reset.ccu with ackTimer := some 0 }).ackTimer = some 0 ∧ AlarmsKeyed State.reset ∧
      State.reset.ccu.alarms.length < 32 :=
  ⟨rfl, rfl, rfl, by decide, by decide, rfl, reset_keyed, by decide⟩

theorem witness_CeilingAck :
    State.reset.ret.operating = true ∧ 2 ≠ State.reset.mon.ceilingSeq ∧ State.reset.ccu.acknowledged = false ∧
      ({ State.reset.ccu with acknowledged := true }).acknowledged = true ∧ AlarmsKeyed State.reset ∧
      State.reset.ccu.ceiling ≠ some (leastContribution (State.reset.ccu.contributions.set .icing 0)) :=
  ⟨rfl, by decide, rfl, rfl, reset_keyed, by decide⟩

theorem tabled_keyed : AlarmsKeyed (tabled (fullTable .activeAck)) ∧ AlarmsKeyed (tabled (fullTable .clearedUnack)) ∧
    AlarmsKeyed (tabled (fullTable .activeUnack)) := by
  unfold AlarmsKeyed; decide +kernel

/-- An entry of the key in each state; no entry, below 32 and at 32, in each of the three cases of a full table. -/
theorem witness_RaiseTable :
    AlarmsKeyed State.reset ∧ AlarmsKeyed (tabled (fullTable .activeAck)) ∧
      alarm 15 .bandAlarm .activeAck ∈ fullTable .activeAck ∧ alarm 0 .bandAlert .clearedUnack ∈ fullTable .clearedUnack ∧
      (∀ e ∈ fullTable .activeAck, ¬ (e.code = .converterFault ∧ e.source = .afe)) ∧ State.reset.ccu.alarms.length < 32 ∧
      (fullTable .clearedUnack).length = 32 ∧ (fullTable .clearedUnack).any (fun e => e.state = .clearedUnack) = true ∧
      (fullTable .activeAck).any (fun e => e.state = .activeAck ∧ severity e.code < severity .converterFault) = true ∧
      (fullTable .activeAck).any (fun e => e.state = .activeAck ∧ severity e.code < severity .tachoStall) = false ∧
      State.reset.cfg.snapshotThreshold ≤ severity .converterFault ∧
      severity .tachoStall < State.reset.cfg.snapshotThreshold :=
  ⟨reset_keyed, tabled_keyed.1, by decide +kernel, by decide +kernel, by decide +kernel, by decide, by decide,
    by decide +kernel, by decide +kernel, by decide +kernel, by decide, by decide⟩

theorem witness_ClearAndAcknowledge :
    AlarmsKeyed (tabled (fullTable .activeUnack)) ∧ alarm 0 .bandAlert .activeUnack ∈ fullTable .activeUnack ∧
      AlarmsKeyed (tabled (fullTable .activeAck)) ∧ alarm 0 .bandAlert .activeAck ∈ fullTable .activeAck ∧
      (∀ e ∈ fullTable .clearedUnack, e.state = .clearedUnack) ∧
      (∀ e ∈ State.reset.ccu.alarms, ¬ (e.code = .taskDue ∧ e.source = .task 1)) :=
  ⟨tabled_keyed.2.2, by decide +kernel, tabled_keyed.1, by decide +kernel, by decide +kernel, by decide⟩

/-- A filled slot. -/
def slot (locked : Bool) (order : Nat) : SnapshotSlot :=
  { record := snapshotRecord .bandAlarm (.band 0) order State.reset, locked := locked, order := order }

/-- The site state with snapshot slots. -/
def slotted (v : Vector (Option SnapshotSlot) 8) : State :=
  { sited with records := { sited.records with slots := v } }

/-- A slot empty, a slot unlocked, a slot locked; an empty slot to fill, and none. -/
theorem witness_SnapshotSlots :
    let full := slotted ((Vector.replicate 8 (some (slot false 1))).set 7 (some (slot true 0)))
    (∃ i : Fin 8, ∀ x, State.reset.records.slots[i] = some x → x.locked = false) ∧
      (∃ i : Fin 8, ∀ x, full.records.slots[i] = some x → x.locked = false) ∧
      (∃ j : Fin 8, State.reset.records.slots[j] = none) ∧ (¬ ∃ j : Fin 8, full.records.slots[j] = none) ∧
      full.ret.operating = true ∧ full.mpl.presence.isSome ∧ full.records.slots[7] = some (slot true 0) ∧
      (slot true 0).locked = true ∧ full.records.slots[0] = some (slot false 1) ∧ 8 ≤ 8 := by
  refine ⟨⟨0, ?_⟩, ⟨0, ?_⟩, by decide +kernel, by decide +kernel, rfl, rfl, rfl, rfl, rfl, by decide⟩
  · intro x h
    cases h
  · intro x h
    cases h
    rfl

theorem witness_SetTime :
    FarmOrPresence .fp dated ∧ dated.cal = some ⟨100, 600⟩ ∧ 99 < 100 ∧ 65535 < 65536 ∧ 86399 < 86400 ∧
      ¬ (65535 < 65535 ∨ 86399 < 86399 ∨ ∃ t, dated.cal = some t ∧ 65535 < t.day) ∧
      ({ dated.plan.openDay with day := some 100 }).day = some 100 ∧ State.reset.plan.openDay.day = none ∧
      State.reset.cal = none ∧ dated.plan.days.length < 31 ∧
      (∀ x, dated.plan.days.getLast? = some x → x.day < 100) := by
  refine ⟨Or.inl rfl, rfl, by decide, by decide, by decide, ?_, rfl, rfl, rfl, by decide, ?_⟩
  · rintro (h | h | ⟨t, h, g⟩)
    · omega
    · omega
    · cases h
      exact absurd g (by decide)
  · intro x h
    cases h

theorem witness_PresenceRequests :
    State.reset.ret.operating = true ∧ 1 ≤ 1 ∧ 9999 ≤ 9999 ∧ 9999 < 10000 ∧ State.reset.bim.override = none ∧
      ({ State.reset.bim with override := some 1 }).override ≠ none ∧ State.reset.mpl.presence = none ∧
      sited.mpl.presence ≠ none ∧ sited.mpl.presence = some ⟨17, 3600⟩ ∧ (⟨17, 0⟩ : Presence).left = 0 := by decide

/-- A task of the farm on component 4, and one of the part. -/
def farmTask : Task :=
  { id := 12, component := 4, kind := .replace, trigger := .calendar, intervalDays := some 180, fraction := none,
    notice := 5, grace := 3, derate := some 80, lastDone := 50, created := 50, state := .due }

def partTask : Task :=
  { id := 1, component := 15, kind := .inspect, trigger := .condition, intervalDays := some 7, fraction := none,
    notice := 0, grace := 0, derate := none, lastDone := 99, created := 99, origin := .part }

/-- The dated state, without and with a presence, with both tasks. -/
def planned (s : State) : State := { s with plan := { s.plan with tasks := [partTask, farmTask] } }

/-- A full task table. -/
def crowded : State :=
  { dated with plan := { dated.plan with tasks := (List.range 32).map fun i => { farmTask with id := i + 1 } } }

theorem planned_ordered : TasksOrdered (planned dated) ∧ TasksOrdered (planned sited) ∧ TasksOrdered crowded := by
  unfold TasksOrdered; decide +kernel

/-- Fields a farm may plan, at the ends of their ranges, and a new, a known, a part's and a 33rd id. -/
theorem witness_PlanAndRemoveTask :
    let s := planned dated
    let f : TaskFields :=
      { id := 255, component := 15, kind := .inspect, trigger := .both, intervalDays := some 3650, fraction := some 1000,
        notice := 60, grace := 30, derate := some 100, lastDone := some 100 }
    s.ret.operating = true ∧ TasksOrdered s ∧ s.mpl.presence = none ∧ s.cal = some ⟨100, 600⟩ ∧ sited.mpl.presence ≠ none ∧
      State.reset.cal = none ∧ taskFieldsOk f 100 = true ∧ taskFieldsOk { f with grace := 31 } 100 = false ∧
      (∀ x ∈ s.plan.tasks, x.id ≠ f.id) ∧ s.plan.tasks.length < 32 ∧
      (partTask ∈ s.plan.tasks ∧ partTask.origin = .part ∧ partTask.trigger = .condition) ∧
      (farmTask ∈ s.plan.tasks ∧ farmTask.origin = .farm ∧ farmTask.trigger ≠ .condition) ∧
      (∀ x ∈ crowded.plan.tasks, x.id ≠ f.id) ∧ crowded.plan.tasks.length = 32 ∧
      (∀ c : Fin 16, crowded.mpl.waiting[c] = false) :=
  ⟨rfl, planned_ordered.1, rfl, rfl, by decide, rfl, by decide, by decide, by decide, by decide, by decide, by decide,
    by decide +kernel, by decide +kernel, by decide⟩

theorem witness_DeferAndCloseTask :
    let s := planned sited
    s.ret.operating = true ∧ TasksOrdered s ∧ 30 < 31 ∧ (1 ≤ 30 ∧ 30 ≤ 30) ∧ (∀ x ∈ s.plan.tasks, x.id ≠ 2) ∧
      (partTask ∈ s.plan.tasks ∧ partTask.state = .planned) ∧
      (farmTask ∈ s.plan.tasks ∧ farmTask.state ≠ .planned ∧ componentGrade s farmTask.component ≠ 2 ∧
        farmTask.deferrals < 2 ∧ farmTask.kind = .replace) ∧
      2 ≤ ({ farmTask with deferrals := 2 }).deferrals ∧ s.mpl.presence = some ⟨17, 3600⟩ ∧ s.cal = some ⟨100, 600⟩ ∧
      partTask.kind ≠ .replace ∧ s.plan.tasks.length < 32 ∧ s.plan.history.length < 64 ∧
      ({ sited with cal := none }).cal = none :=
  ⟨rfl, planned_ordered.2.1, by decide, by decide, by decide, by decide, by decide, by decide, rfl, rfl, by decide,
    by decide, by decide, rfl⟩

/-- A component at grade 2 by the icing source with a duration of 86,399, for the CONDITION of a deferral and of R164. -/
def graded : State :=
  { dated with
    plan :=
      { dated.plan with
        config := dated.plan.config.set 4 { gradeSource := .icing }
        wear := dated.plan.wear.set 4 { grade2Duration := 86399 } }
    mpl := { dated.mpl with grades := { dated.mpl.grades with icing := 2 } } }

/-- A configuration at the ends of its ranges, one outside them, one that moves the grade to 2 and one that keeps it. -/
theorem witness_ComponentConfigWrite :
    componentOk { gradeSource := .icing, weight := 1000, exponent := 3, conditionDays := 60, thetaRef := 2000 } = true ∧
      componentOk { exponent := 2 } = false ∧ componentGrade graded 4 = 2 ∧ componentGrade graded 5 = 0 ∧
      graded.mpl.grades.icing = 2 ∧ graded.plan.config[4].tempChannel ≠ some .s3 := by decide

/-- R156: the temperature sum and count of the component written restart, with its channel changed or not. -/
theorem test_component_write_restarts_sum :
    let held : ComponentInterval := { tempSum := -4500, tempCount := 3 }
    let s : State :=
      { graded with plan := { graded.plan with
        interval := { graded.plan.interval with comps := (graded.plan.interval.comps.set 4 held).set 5 held } } }
    let seen (c : ComponentConfig) := (after (.writeComponentConfig .fp 4 c) s).plan.interval.comps.map fun x =>
      (x.tempSum, x.tempCount)
    (seen graded.plan.config[4])[4] = (0, 0) ∧ (seen { tempChannel := some .s3 })[4] = (0, 0) ∧
      (seen graded.plan.config[4])[5] = (-4500, 3) := by decide +kernel

/-- Midnight of day 101 with the accounting interval at its end, the open day of a given day and one day in the ring. -/
def midnight (openDay : Nat) (last : Nat) : State :=
  { dated with
    cal := some ⟨101, 0⟩
    plan :=
      { dated.plan with
        interval := { dated.plan.interval with planned := .boundary ⟨101, 0⟩ }
        openDay := { day := some openDay, record := { producing := 9 } }
        days := [⟨last, {}⟩] } }

/-- A rollover whose record is stored and one whose record is not, and a boundary that is none. -/
theorem witness_IntervalEndsAndRollover :
    (plannedTo 0 State.reset).plan.interval.planned = .seconds 0 ∧ State.reset.cal = none ∧ dated.cal = some ⟨100, 600⟩ ∧
      600 % 600 = 0 ∧ 599 % 600 ≠ 0 ∧ (⟨100, 600⟩ : Timestamp).before ⟨100, 600⟩ = false ∧
      (⟨100, 600⟩ : Timestamp).before ⟨100, 1200⟩ = true ∧ (midnight 100 99).cal = some ⟨100 + 1, 0⟩ ∧ 0 % 600 = 0 ∧
      (midnight 100 99).plan.interval.planned = .boundary ⟨101, 0⟩ ∧
      (⟨101, 0⟩ : Timestamp).before ⟨101, 0⟩ = false ∧ (∀ x ∈ (midnight 100 99).plan.days.getLast?, x.day < 100) ∧
      ¬ (∀ x ∈ (midnight 104 103).plan.days.getLast?, x.day < 100) := by
  refine ⟨rfl, rfl, rfl, by decide, by decide, by decide, by decide, rfl, by decide, rfl, by decide, ?_, ?_⟩
  · intro x h
    cases h
    decide
  · intro h
    exact absurd (h _ rfl) (by decide)

/-- R162: the record of a day not before today closes as the day before; where the ring has a later day it is counted. -/
theorem test_rollover :
    let days (s : State) : List (Nat × Nat) := s.plan.days.map fun x => (x.day, x.record.producing)
    let closed := after .tenMinuteBoundary (midnight 104 98)
    let dropped := after .tenMinuteBoundary (midnight 104 103)
    days closed = [(98, 0), (100, 9)] ∧ closed.plan.openDay = { day := some 101, record := {} } ∧
      days dropped = [(103, 0)] ∧ dropped.mpl.orderDropped = 1 ∧ dropped.lnk.fp.notices &&& 0x080#16 = 0x080#16 := by
  decide +kernel

theorem witness_SecondsOfOperationAndClock :
    State.reset.ret.operating = true ∧
      (∀ c : Fin 16, componentGrade State.reset c = 2 → State.reset.plan.wear[c].grade2Duration ≠ 86399) ∧
      TasksOrdered graded ∧ graded.cal = some ⟨100, 600⟩ ∧ componentGrade graded 4 = 2 ∧
      graded.plan.wear[4].grade2Duration = 86399 ∧ graded.plan.tasks.length = 0 ∧
      (∀ x ∈ graded.plan.tasks, x.trigger = .condition → x.component ≠ 4) ∧
      ({ dated with cal := some ⟨100, 86399⟩ }).cal = some ⟨100, 86399⟩ ∧ 100 < 65535 ∧ dated.ret.powered = true :=
  ⟨rfl, by decide, reset_ordered, rfl, by decide, by decide, by decide, by decide, rfl, by decide, rfl⟩

theorem witness_SupplyAndReset :
    State.reset.ret.powered = true ∧ State.reset.ret.resetAsserted = false ∧
      (after .mainPowerLoss State.reset).ret.powered = false ∧ (after .resetAssert State.reset).ret.resetAsserted = true ∧
      (after .resetAssert State.reset).ret.operating = false := by decide +kernel

/-- A state whose start closes day 98 and creates a CONDITION task of component 4, at grade 2 by the icing state. -/
def restored : State :=
  { graded with
    mon := { graded.mon with icing := { graded.mon.icing with state := .iced } }
    plan :=
      { graded.plan with
        wear := graded.plan.wear.set 4 { grade2Duration := 86400 }
        openDay := { day := some 98, record := { producing := 9 } } }
    cfg := { graded.cfg with snapshotThreshold := 3 }
    ret := { graded.ret with restartAccepted := true } }

/-- R19, R150, R176: a restart with G1 below 2 V. -/
theorem test_start_restores :
    let t := after (.serviceRestartStart { start none with bias := ⟨1999, 22000, 5000, 5000, 5000⟩ }) restored
    t.afe.accel.g1.fault = .openCircuit ∧ t.afe.accel.g2.fault = .none ∧
      t.ccu.alarms.map (fun e => (e.code, e.source)) = [(.iceDetected, .bim), (.sensorFault, .accel .g1)] ∧
      t.ccu.counters.snapshots = 1 ∧ t.lnk.cp.notices = 0x115#16 ∧
      t.plan.days = [⟨98, { producing := 9 }⟩] ∧ t.plan.openDay = { day := some 100, record := { alarms := 2 } } ∧
      t.plan.tasks.map (fun x => (x.id, x.component, x.trigger)) = [(1, 4, .condition)] ∧
      t.ccu.ceiling = some t.cfg.bim.heaterOff.icedCeiling := by decide +kernel

/-- The task table, the slots and the threshold of a start's clauses, with room and without. -/
theorem witness_Starts_clauses :
    TasksOrdered restored ∧ TasksOrdered crowded ∧ (crowded.plan.tasks.map (·.id)).Nodup ∧ restored.cal = some ⟨100, 600⟩ ∧
      lockedSlots restored.records.slots ≤ 6 ∧ restored.cfg.snapshotThreshold ≤ 3 := by
  refine ⟨by unfold TasksOrdered; decide, planned_ordered.2.2, by decide +kernel, rfl, by decide, by decide⟩

/-- Each start's conditions, with the reset state after the commands that lead to them. -/
theorem witness_Starts :
    let off := after .mainPowerLoss State.reset
    let held := after .resetAssert State.reset
    let accepted := run [.presenceBegin .sp 17 8, .restart .sp] State.reset
    (off.ret.powered = false ∧ off.ret.resetAsserted = false ∧ held.ret.resetAsserted = true ∧ held.ret.powered = true ∧
      held.ret.powerOnDue = none ∧ (after .resetAssert off).ret.resetAsserted = true ∧
      (run [.resetAssert, .powerOn [.plan] ⟨0, 0, 0⟩ (start none)] off).ret.powerOnDue = some [.plan] ∧
      accepted.ret.operating = true ∧ accepted.ret.restartAccepted = true ∧ accepted.lnk.sp.inWork = none ∧
      sited.mpl.presence ≠ none) := by decide +kernel

/-- The service port with a request in work and one waiting, before and after an accepted RESTART. -/
theorem witness_PortHolding :
    let f (kind tag : Octet) : Frame := ⟨kind, tag, []⟩
    let one := after (.frameChecked .sp (f 3 1) false) State.reset
    let two := after (.frameChecked .sp (f 3 2) false) one
    State.reset.lnk.sp.inWork = none ∧ State.reset.ret.restartAccepted = false ∧ one.lnk.sp.inWork ≠ none ∧
      one.lnk.sp.waiting = none ∧ two.lnk.sp.waiting = some (f 3 2) ∧
      (run [.presenceBegin .sp 17 8, .restart .sp] State.reset).ret.restartAccepted = true ∧
      parseRequest 0x03 [] = .ok .readCeiling ∧ parseRequest 0x03 [0] = .error .range := by
  decide +kernel

/-- A frame whose check matches, whose check fails, and of length 1. -/
theorem witness_ReceiverFrames :
    State.reset.ret.operating = true ∧ State.reset.lnk.fp.receiver = .hunting ∧
      (after (.octetReceived .fp 0x3c false) State.reset).lnk.fp.receiver = .receiving [] ∧
      (after (.octetReceived .fp 0x3c false) State.reset).lnk.fp.receiver ≠ .hunting ∧
      (run [.octetReceived .fp 0x3c false, .octetReceived .fp 250 false] State.reset).lnk.fp.receiver = .receiving [250] ∧
      (1 ≤ (250 : Octet).toNat ∧ (250 : Octet).toNat ≤ 250) ∧ crc16 [2, 0x03, 0x55] ≠ 0 ∧
      ([0x03, 0x55] : List Octet).length = (2 : Octet).toNat ∧ (1 : Octet).toNat = 1 := by decide +kernel

theorem witness_ReadsAndMasks :
    State.reset.ret.operating = true ∧ findTask farmTask.id (planned dated) = some farmTask ∧ 1 ≤ 144 ∧ 144 ≤ 144 ∧
      (0x0400#16 : NoticeSet) &&& 0xfc00#16 ≠ 0 ∧ (0x03ff#16 : NoticeSet) &&& 0xfc00#16 = 0 := by decide

theorem witness_StepTakesFront : State.reset.pending = [] := rfl

theorem witness_StepKeepsPublishedState :
    SupplyHolds State.reset ∧ LinesFollow State.reset ∧ CeilingIsLeast State.reset ∧
      step { State.reset with pending := [.mainPowerLoss] } = .next (after .mainPowerLoss State.reset) := by
  refine ⟨fun _ => ⟨rfl, rfl⟩, ?_, fun _ => by decide, rfl⟩
  intro p
  cases p <;> decide

theorem witness_StepKeepsStores :
    AlarmsKeyed State.reset ∧ TasksOrdered State.reset ∧ StoresBounded State.reset ∧ EngineServes State.reset ∧
      EngineServes analysing :=
  ⟨reset_keyed, reset_ordered, reset_bounded, fun _ => rfl, fun h => nomatch h⟩

/-! ## States and operands that meet the hypotheses of further clauses -/

/-- A raise has room in the reset table, and in a full one that holds the key. -/
theorem witness_room :
    (∀ code source, HasRoom code source State.reset) ∧
      HasRoom .bandAlert (.band 0) (tabled (fullTable .activeAck)) ∧ AlarmsKeyed State.reset :=
  ⟨fun _ _ => Or.inl (by decide), Or.inr ⟨alarm 0 .bandAlert .activeAck, by decide +kernel, rfl, rfl⟩, reset_keyed⟩

/-- A conversion instant. -/
def conversion : Conversion := ⟨⟨100, 0, 0, 0, 40⟩, #v[100, 0, 0, 0, 0, 0]⟩

/-- A capture of D = 2 holds one stored sample after three conversions, and one sample of the next group. -/
theorem test_conversions_stored :
    let r := [conversion, conversion, conversion].foldl (fun r c => CaptureRecord.convert [2] false c r)
      { kind := .fixed .g1 2 4, trims := [[2]] }
    r.stored = 1 ∧ r.samples = [[98]] ∧ r.group = [([98], false)] := by decide

/-- Measurement 0 CAPTURING into GVM-A, with a held write, beside the peak capture of step 1 and the OPEN window 0. -/
def filling (held : Option PendingWrite) : State :=
  let context : StartContext :=
    { buffer := .gvmA, time := none, regimeChanges := 0, speed := 1205999, seq := 60, disturbances := 0, disturbed := false,
      mismatchEvents := 0 }
  let s := monitoring { work := .capturing, context := some context, pending := held }
  { s with
    afe :=
      { s.afe with buffers :=
        { s.afe.buffers with
          gvmA := .filling { kind := .fixed .g1 1 4096, trims := [[0]], stored := 4095 }
          bimA := .filling peakFill
          ghmA := .filling windowFill } }
    bim := { s.bim with outstanding := some 1 }
    ghm := windowing.ghm }

/-- Measurement 0 alone fills GVM-A. -/
theorem filling_alone (held : Option PendingWrite) :
    CapturesInto 0 .gvmA (filling held) ∧ ∀ k, CapturesInto k .gvmA (filling held) → k = 0 := by
  refine ⟨⟨rfl, _, rfl, rfl⟩, ?_⟩
  rintro k ⟨h, -⟩
  by_contra hk
  have : ∀ k : Fin 8, k ≠ 0 → (filling held).gvm.work[k].work = .idle := by
    intro k hk
    fin_cases k <;> first | exact absurd rfl hk | rfl
  rw [this k hk] at h
  cases h

/-- A check that is not due, one that fails in an operating part and one that passes in CONVERTER_FAULT; the aborted captures end their owners'
work, with each kind of held write. -/
theorem witness_ConverterCheckEffect :
    let t (held : Option PendingWrite) : State := after (.converterCheck 16055 8190) (checkDue (filling held))
    let w (held : Option PendingWrite) := let x := (t held).gvm.work[0]
      (x.work, x.outstanding, x.pending, x.outcome)
    let entry : WindowEntry := { number := 0, buffer := some .ghmA }
    State.reset.afe.nextCheck ≠ 0 ∧ (checkDue (filling none)).ret.operating = true ∧
      State.reset.afe.converterFault = false ∧ ({ State.reset.afe with converterFault := true }).converterFault = true ∧
      (16056 ≤ 16391 ∧ 16391 ≤ 16712 ∧ 8028 ≤ 8190 ∧ 8190 ≤ 8356) ∧
      (filling none).ghm.entries = [entry] ∧ entry.ended = false ∧
      w none = (.idle, none, none, .none) ∧ w (some (.band 0 {})) = (.idle, none, none, .applied) ∧
      w (some (.measurement {})) = (.idle, none, none, .applied) ∧ (t none).gvm.counters.abortConverter = 1 ∧
      (t none).bim.outstanding = none ∧ (t none).bim.counters.abortConverter = 1 ∧
      (t none).ghm.entries = [{ entry with buffer := none, outcome := some (.missed .aborted) }] ∧
      (t none).ghm.counters.missedAborted = 1 ∧ (t none).ccu.alarms.length = 3 := by decide +kernel

/-- A bias out of range ends the work of the measurement that fills on G1, and one on N1 that of the peak capture. -/
theorem witness_BiasFaultEffect_owners :
    let t (ch : Accel) : State := after (.biasFault ch 1999) (filling none)
    let u := t .g1
    let v := t .n1
    (u.gvm.work[0].work, u.gvm.counters.abortChannelFault, u.bim.outstanding, u.bim.counters.abortChannelFault) =
        (.idle, 1, some 1, 0) ∧
      (v.gvm.work[0].work, v.gvm.counters.abortChannelFault, v.bim.outstanding, v.bim.counters.abortChannelFault) =
        (.capturing, 0, none, 1) := by decide +kernel

/-- The judgement of a completed measurement: S_end at the tolerance of 3.0 % of S_start = 1,205,999 and one beyond it. -/
theorem witness_PeakCaptureCompletes_gvm :
    let s := filling none
    let speed (e : Nat) (s : State) : State :=
      { s with ptu := { s.ptu with chan := { s.ptu.chan with p1 :=
        { s.ptu.chan.p1 with latest := some { validResult .p1 60 1 256 2122720 with derived := e } } } } }
    let t (s : State) : State := after (.fixedCaptureComplete .gvmA [[7]]) s
    let busy (b : BufferId) (s : State) : State :=
      { s with spe := { s.spe with inProgress := some (request .bim b 1 (.peak 65536 16 900 1800 2500)) } }
    let seen (s : State) := let c := (t s).gvm.counters
      ([c.rejectRegime, c.rejectUnsteady, c.rejectDisturbance, c.rejectMismatch, c.noBands, c.analysisSkip],
        (t s).gvm.work[0].work, (bufferOf (t s) .gvmA).isFree)
    (∀ i ∈ s.cfg.measurements[0].bands, i ≤ 23) ∧
      (completeFixed { kind := .fixed .g1 1 4096, trims := [[0]], stored := 4095 } [[7]]).map (·.stored) = some 4096 ∧
      seen { s with ccu := { s.ccu with op := { s.ccu.op with changes := 1 } } } = ([1, 0, 0, 0, 0, 0], .idle, true) ∧
      seen (speed 1242179 s) = ([0, 1, 0, 0, 0, 0], .idle, true) ∧
      seen { s with ghm := { s.ghm with disturbances := 1 } } = ([0, 0, 1, 0, 0, 0], .idle, true) ∧
      seen { s with ptu := { s.ptu with mismatchEvents := 1 } } = ([0, 0, 0, 1, 0, 0], .idle, true) ∧
      seen { s with mon := State.reset.mon } = ([0, 0, 0, 0, 1, 0], .idle, true) ∧
      seen (busy .gvmA s) = ([0, 0, 0, 0, 0, 1], .idle, true) ∧
      seen (busy .bimA s) = ([0, 0, 0, 0, 0, 0], .queued, false) ∧
      seen (speed 1242178 s) = ([0, 0, 0, 0, 0, 0], .analysing, false) ∧
      (t (speed 1242178 s)).spe.inProgress.map (fun r => (r.mode, r.arrival)) =
        some (.bands 4096 1 1224088 [⟨0, 100, 10⟩], 1) := by decide +kernel

/-- The stall-raised mark set at an end pulse; the mismatch flag set and clear, the counter at 2. -/
theorem witness_EndPulseIssuesResult_mark :
    ((hssAt { meas := .measuring 2 1 1 2, stallMark := true }).ptu.chan.get .p1).stallMark = true ∧
      min (({ ending.ptu with mismatchCounter := 2 }).mismatchCounter + 1) 255 = 3 ∧ ending.ptu.mismatchFlag = false ∧
      ({ ending.ptu with mismatchFlag := true }).mismatchFlag = true := by decide

/-- P0 and P2 WAITING, and P1 WAITING while PRODUCING without the mark. -/
theorem witness_StallIssuesResult_waiting :
    ((after .operationSecond State.reset).ptu.chan.get .p2).stallIn = 0 ∧ ((monitoring {}).ptu.chan.get .p1).stallIn = 0 ∧
      (State.reset.ptu.chan.get .p0).meas = .waiting 0 30 ∧ (State.reset.cfg.ptu.chan.get .p0).n = 1 ∧
      (State.reset.ptu.chan.get .p2).meas = .waiting 0 1 ∧ State.reset.cfg.ghm.nominalFrequency ≠ 60 ∧
      ((monitoring {}).ptu.chan.get .p1).meas = .waiting 0 2 ∧ (monitoring {}).ccu.op.regime = .producing ∧
      ((monitoring {}).ptu.chan.get .p1).stallMark = false := by decide +kernel

/-- A sensor gate under REF_FAULT before any reference count, and channels that leave OPEN and SHORT. -/
theorem witness_SensorResult_faults :
    let early := { State.reset with rch := { State.reset.rch with pos := .sensor .s0, refFault := true } }
    let broken (f : ChannelFault) : State :=
      let s := atGate (.sensor .s0) false
      { s with rch := { s.rch with sensor := { s.rch.sensor with s0 := { fault := f } } } }
    (early.rch.refFault = false → early.rch.cRef = some 0) ∧ early.rch.cRef = none ∧
      (broken .openCircuit).rch.cRef = some 40000 ∧ ((broken .openCircuit).rch.sensor.get .s0).fault = .openCircuit ∧
      ((broken .shortCircuit).rch.sensor.get .s0).fault = .shortCircuit ∧ 50 ≤ 36000 ∧ 36000 ≤ 20 * 40000 := by decide

/-- A band record on its bin: E = 2500 * 2700, b = 22, m = 9, so its level is 301 * 22 + 194 = 6816 (R55, R57, R58). -/
def toneRecord : CaptureRecord :=
  { kind := .fixed .g1 1 8, trims := [[0]], stored := 8, samples := [[90], [0], [-90], [0], [90], [0], [-90], [0]] }

/-- The BANDS analysis of band 0 in progress for measurement 0, with a held write. -/
def delivering (mode : BandMode) (held : Option PendingWrite) : State :=
  let s := monitoring { work := .analysing, outstanding := some 1, pending := held }
  { s with
    mon := { s.mon with bands := s.mon.bands.set 0 { mode := mode, baseline := 5000 } }
    afe := { s.afe with buffers := { s.afe.buffers with gvmA := .inAnalysis toneRecord } }
    spe := { s.spe with inProgress := some (request .gvm .gvmA 1 (.bands 8 1 6000 [⟨0, 6400000, 0⟩])) } }

/-- An ARMED band rises to grade 1 with BAND_ALERT; a LEARNING band learns; the request of a measurement no longer
awaited. -/
theorem witness_RequestEndSelectsNext_bands :
    let s := delivering .armed none
    let t := after .requestEnd s
    s.ret.operating = true ∧ bufferOf s .gvmA = .inAnalysis toneRecord ∧ s.gvm.work[0].outstanding = some 1 ∧
      s.gvm.work[0].pending = none ∧ ([0] : List Nat).Nodup ∧ 0 ≤ 23 ∧ s.mon.bands[0].mode = .armed ∧
      t.mon.bands[0].grade = 1 ∧ s.mon.bands[0].grade = 0 ∧ AlarmsKeyed s ∧ s.ccu.alarms.length + 1 ≤ 32 ∧
      (after .requestEnd (delivering .learning none)).mon.bands[0].learnSum = 6816 ∧
      (monitoring {}).gvm.work[0].outstanding ≠ some 1 := by
  refine ⟨rfl, rfl, by decide, by decide, by decide, by decide, by decide, by decide +kernel, by decide, reset_keyed,
    by decide, by decide +kernel, by decide⟩

/-- A PEAK analysis of four samples in progress, of the outstanding step and of another. -/
theorem witness_RequestEndSelectsNext_peak :
    let s (step : Option Nat) : State :=
      { State.reset with
        afe := { State.reset.afe with buffers := { State.reset.afe.buffers with bimA := .inAnalysis shortRecord } }
        spe := { State.reset.spe with inProgress := some (request .bim .bimA 1 (.peak 4 1 0 12800000 2500)) }
        bim := { State.reset.bim with outstanding := step } }
    (s (some 0)).ret.operating = true ∧ (request .bim .bimA 1 (.peak 4 1 0 12800000 2500)).discard = false ∧
      bufferOf (s none) .bimA = .inAnalysis shortRecord ∧ (s (some 0)).bim.outstanding = some 0 ∧
      (s none).bim.outstanding ≠ some 0 := by decide

/-- Held writes at the end of the work: one applied, one that meets a band of another measurement, one of a band; and a
write that disables the busy measurement. -/
theorem witness_MeasurementAndBandWrites_held :
    let v (bands : List Nat) : MeasurementRecord := { enabled := true, bands := bands }
    let s (w : Option PendingWrite) : State :=
      let s := delivering .armed w
      { s with cfg := { s.cfg with measurements := s.cfg.measurements.set 1 (v [5]) } }
    (s (some (.measurement (v [0])))).gvm.work[0].outstanding = some 1 ∧
      (∀ k : Fin 8, k ≠ 0 → ∀ b ∈ (v [0]).bands, b ∉ (s none).cfg.measurements[k].bands) ∧
      (∃ k : Fin 8, k ≠ 0 ∧ ∃ b ∈ (v [0, 5]).bands, b ∈ (s none).cfg.measurements[k].bands) ∧
      (s (some (.band 0 {}))).gvm.work[0].pending = some (.band 0 {}) ∧ (s none).gvm.work[0].pending = none ∧
      measurementOk { v [0] with enabled := false } = true ∧ (s none).cfg.measurements[0].enabled = true ∧
      (s none).gvm.work[0].work ≠ .idle := by decide

/-- A band write that moves the centre of an ARMED band of an IDLE measurement, and one of a band without owner. -/
theorem witness_BandStatesFollowWrites_bands :
    let s := monitoring {}
    let v : BandConfig := { enabled := true, centre := s.cfg.bands[0].centre + 1 }
    bandOk v = true ∧ (∀ m : Fin 8, owningMeasurement s.cfg 0 = some m → s.gvm.work[m].work = .idle) ∧
      (∀ m : Fin 8, owningMeasurement s.cfg 23 = some m → s.gvm.work[m].work = .idle) ∧
      s.cfg.bands[0].centre ≠ v.centre ∧ owningMeasurement s.cfg 0 ≠ none ∧ owningMeasurement s.cfg 23 = none := by decide

/-- A measurement whose list has an ARMED band. -/
theorem witness_LearnBaselineRequest_list :
    (∀ i ∈ (monitoring {}).cfg.measurements[0].bands, i ≤ 23) ∧
      ∃ i ∈ (monitoring {}).cfg.measurements[0].bands, (monitoring {}).mon.bands[Fin.ofNat 24 i].mode ≠ .disabled := by
  decide

/-- Window 0 ENDED and awaiting its HARMONICS result, with a block of 13 and of 14 slots. -/
def awaiting (slots : Nat) : State :=
  let s := windowing
  { s with
    afe := { s.afe with buffers := { s.afe.buffers with ghmA := .inAnalysis { windowFill with stored := 2 } } }
    spe := { s.spe with inProgress := some (request .ghm .ghmA 1 (.harmonics 10 2000000 2)) }
    ghm :=
      { s.ghm with
        block := { s.ghm.block with slots := slots }
        entries :=
          [{ number := 0, buffer := some .ghmA, ended := true, closing := some (validResult .p2 60 1 10 2000000)
             request := .analysing 1 }, { number := 1 }] } }

theorem witness_GridValuesAreExact_result :
    let e (s : State) := s.ghm.entries.head?
    (awaiting 13).ret.operating = true ∧ bufferOf (awaiting 14) .ghmA = .inAnalysis { windowFill with stored := 2 } ∧
      (∀ x ∈ (awaiting 13).ghm.entries, x.number = 0 → some x = e (awaiting 13)) ∧
      (e (awaiting 13)).map (fun x => (x.number, x.request, x.ended)) = some (0, .analysing 1, true) ∧
      (∀ x ∈ windowing.ghm.entries, x.number = 0 → x.request ≠ .queued 1 ∧ x.request ≠ .analysing 1) := by decide

/-- A grid interval of 100 values with a current THD of 810, ended under a set calendar and under an unset one. -/
def closing (s : State) : State :=
  { s with ghm :=
    { s.ghm with
      interval :=
        { s.ghm.interval with
          values := 100, freqSum := 100, freqCount := 1
          sums := { s.ghm.interval.sums with currentThd := ⟨⟨65610000, 100⟩, {}, {}⟩ } } } }

/-- Its record, as the statement asks for it, is graded by that THD. -/
theorem witness_UnalignedGridIntervalEnds_record :
    let s := plannedTo 0 (closing State.reset)
    let r := complianceRecord false s
    (completedInterval s).values = 100 ∧ r.sparse = false ∧ r.exceeded = [] ∧ GreatestCurrentThd r 810 ∧
      gradedBy 810 s ≠ s.mon.currentGrade ∧ s.ccu.alarms.length ≤ 30 ∧ AlarmsKeyed s ∧
      (after .ghmUnalignedIntervalEnd s).mon.currentGrade = 1 := by
  refine ⟨rfl, by decide +kernel, by decide +kernel, ⟨by decide +kernel, ?_⟩, by decide, by decide, reset_keyed,
    by decide +kernel⟩
  intro y h
  have : y ∈ (complianceRecord false (plannedTo 0 (closing State.reset))).iThd.toList.filterMap id :=
    List.mem_filterMap.mpr ⟨some y, h, rfl⟩
  have e : (complianceRecord false (plannedTo 0 (closing State.reset))).iThd.toList.filterMap id = [810] := by decide +kernel
  rw [e] at this
  exact (List.mem_singleton.mp this).le

/-- The same interval at a boundary of the calendar, in an alarm table with room and a plan without a task. -/
theorem witness_IntervalEndsAndRollover_record :
    let s := closing { dated with ghm :=
      { dated.ghm with interval := { dated.ghm.interval with planned := .boundary ⟨100, 600⟩ } } }
    s.ghm.interval.planned = .boundary ⟨100, 600⟩ ∧ s.cal = some ⟨100, 600⟩ ∧ (completedInterval s).values ≠ 0 ∧
      s.plan.tasks = [] ∧ s.ccu.alarms.length ≤ 30 ∧ (completedInterval dated).values = 0 ∧
      (after .tenMinuteBoundary s).records.ring.length = 1 := by decide +kernel

/-- An interval that began while the GHM was OFF, and one that was in progress when it was disabled. -/
theorem witness_GhmEnableWrite_interval :
    ({ State.reset.ghm.interval with begunOff := true }).begunOff = true ∧
      State.reset.ghm.interval.begunOff = false := by decide

/-- The three refusals of the peak capture, and its acceptance. -/
theorem witness_IcingStepScores_capture :
    let s := stepping {} 5
    let at_ (x : AfeState) : State := { s with afe := x }
    let counts (s : State) := let c := (after .bimStep s).bim.counters
      (c.refusedConverter, c.refusedChannelFault, c.refusedNoBuffer, (after .bimStep s).bim.outstanding)
    counts (at_ { s.afe with converterFault := true }) = (1, 0, 0, none) ∧
      counts (at_ { s.afe with accel := { s.afe.accel with n1 := ⟨.openCircuit, none⟩ } }) = (0, 1, 0, none) ∧
      counts (at_ peaking.afe) = (0, 0, 1, none) ∧ counts s = (0, 0, 0, some 4) ∧
      defaultCurve.toList[11]? = some 520 ∧ defaultCurve.toList[12]? = some 610 ∧ (87 : Int) = 30 + 5 * 11 + 2 := by
  decide +kernel

/-- The skips of a start attempt, each in the first state whose earlier conditions hold. -/
theorem witness_PeriodExpiryTakesSlot_reasons :
    let s := monitoring {}
    let seen (s : State) := let c := (after .gvmPeriodExpiry s).gvm.counters
      [c.skipNoSpeed, c.skipMismatch, c.skipParameter, c.skipConverter, c.skipChannelFault, c.skipNoBuffer]
    let c3 : ConfigSection :=
      { s.cfg with measurements := s.cfg.measurements.set 0 { enabled := true, decimation := 3 } }
    let gear (x : AfeState) : State := { s with afe := x }
    seen { s with ptu := State.reset.ptu } = [1, 0, 0, 0, 0, 0] ∧
      seen { s with ptu := { s.ptu with mismatchFlag := true } } = [0, 1, 0, 0, 0, 0] ∧
      seen { s with cfg := c3 } = [0, 0, 1, 0, 0, 0] ∧ seen (gear { s.afe with converterFault := true }) = [0, 0, 0, 1, 0, 0] ∧
      seen (gear (accelAt ⟨.shortCircuit, none⟩).afe) = [0, 0, 0, 0, 1, 0] ∧
      seen (gear { s.afe with buffers :=
        { s.afe.buffers with gvmA := .full shortRecord, gvmB := .full shortRecord } }) = [0, 0, 0, 0, 0, 1] := by
  decide +kernel

/-- Disabling the GVM frees the buffer a measurement fills, and no other. -/
theorem witness_GvmEnableWrite_buffers :
    let t := after (.writeGvmEnable .fp false) (filling none)
    (filling none).cfg.gvmEnable = true ∧ bufferOf t .gvmA = .free ∧ bufferOf t .bimA = .filling peakFill := by decide

/-- Component 15 gained 90 and 110 du on the two days that count, so its rate is 100; with damage 500 it reaches 1,000 in 5
days. A DAMAGE task at half the limit is due today, one at the limit in 5 days, and a BOTH task by its calendar part. -/
theorem witness_PlanAndRemoveTask_due :
    let record (n : Nat) : DayRecord := { damage := (Vector.replicate 16 0).set 15 n }
    let s : State := { dated with plan :=
      { dated.plan with
        days := [⟨85, record 900⟩, ⟨86, record 90⟩, ⟨99, record 110⟩]
        config := dated.plan.config.set 15 { damageLimit := 1000 }
        wear := dated.plan.wear.set 15 { damage := 500, countingSince := some 80 } } }
    let x (trigger : Trigger) (fraction : Nat) : Task :=
      { partTask with trigger := trigger, fraction := some fraction, origin := .farm }
    rate 15 100 s = some 100 ∧ rateBy 15 100 s = some 100 ∧ projectedDay 15 100 1000 s = some 105 ∧
      projectedDay 15 100 500 s = some 100 ∧ projectedDay 14 100 1 s = none ∧
      [x .damage 500, x .damage 1000, x .both 1000, x .both 500].map (fun x => readDueDate x s) =
        [some 100, some 105, some 105, some 100] ∧ readDueDate (x .calendar 1) s = some 106 := by decide +kernel

/-- A full task table with components 4 and 7 waiting, neither of which has a CONDITION task, and the part's task in it. -/
def waitingTable (s : State) : State :=
  { s with
    plan := { s.plan with tasks := partTask :: (List.range 31).map fun i => { farmTask with id := i + 2 } }
    mpl := { s.mpl with waiting := (s.mpl.waiting.set 4 true).set 7 true } }

/-- The first of them takes the free entry of a removal and of a close. -/
theorem witness_full_table :
    FirstWaiting 4 (waitingTable dated) ∧ FirstWaiting 4 (waitingTable sited) ∧
      (waitingTable dated).plan.tasks.length = 32 ∧ TasksOrdered (waitingTable sited) ∧ partTask.trigger = .condition ∧
      ((after (.removeTask .fp 9) (waitingTable dated)).plan.tasks.filter fun x => x.origin = .part).map
        (fun x => (x.id, x.component)) = [(1, 15), (9, 4)] ∧
      ((after (.closeTask .sp 1 .done) (waitingTable sited)).plan.tasks.filter fun x => x.origin = .part).map
        (fun x => (x.id, x.component)) = [(1, 4)] := by
  unfold FirstWaiting TasksOrdered
  decide +kernel

/-- A component that reaches 24 h at grade 2 while the table is full. -/
theorem witness_SecondsOfOperationAndClock_full :
    let s := { waitingTable graded with mpl := graded.mpl }
    s.cal = some ⟨100, 600⟩ ∧ componentGrade s 4 = 2 ∧ s.plan.tasks.length = 32 ∧
      (∀ x ∈ s.plan.tasks, x.trigger = .condition → x.component ≠ 4) ∧
      ({ s with plan := { s.plan with wear := graded.plan.wear } }).plan.wear[4].grade2Duration = 86399 ∧
      State.reset.ret.powered = true ∧ (after .mainPowerLoss State.reset).ret.retention = true ∧
      ({ State.reset.ret with powered := false, retention := false }).retention = false := by decide +kernel

/-- Components 4 and 7 reach 24 h at grade 2 in one second with one free entry, which 4 takes. -/
theorem witness_SecondsOfOperationAndClock_room :
    let s : State := { graded with plan :=
      { crowded.plan with
        tasks := crowded.plan.tasks.drop 1
        config := (graded.plan.config.set 7 { gradeSource := .icing })
        wear := (graded.plan.wear.set 7 { grade2Duration := 86399 }) } }
    let t := after .operationSecond s
    s.plan.tasks.length = 31 ∧ TasksOrdered s ∧ componentGrade s 7 = 2 ∧
      (∀ x ∈ s.plan.tasks, x.trigger = .condition → x.component ≠ 4 ∧ x.component ≠ 7) ∧
      (t.plan.tasks.filter fun x => x.origin = .part).map (fun x => (x.id, x.component)) = [(1, 4)] ∧
      t.mpl.waiting[7] = true ∧ t.mpl.waiting[4] = false ∧ t.check = s.check := by
  unfold TasksOrdered
  decide +kernel

/-- A report of a minute cut short between two sections: SET_TIME has moved the calendar and not the plan. -/
theorem witness_SupplyAndReset_cut :
    let s := { State.reset with pending := [.setTime .fp 100 0], cutAfter := [.calendar] }
    let t := after .mainPowerLoss s
    exec (.setTime .fp 100 0) { s with pending := [] } = .next (after (.setTime .fp 100 0) { s with pending := [] }) ∧
      t.cal = some ⟨100, 0⟩ ∧ t.plan.openDay.day = none ∧ t.cutAfter = [] ∧
      (run [.batteryRetentionLoss, .mainPowerLoss] State.reset).ret.retention = false :=
  ⟨rfl, by decide +kernel, by decide +kernel, by decide +kernel, by decide +kernel⟩

/-- A power-on abandoned inside stage 1 after PLAN, and the next power-on, at which CONFIG still fails. -/
theorem witness_Starts_abandoned :
    let off := after .mainPowerLoss State.reset
    let t := after (.powerOn [.config, .plan] ⟨0, 0, 0⟩ { start (some 0) with updated := [.plan] }) off
    off.ret.powered = false ∧ t.ret.operating = false ∧ t.ret.resetAsserted = true ∧ t.check.plan = true ∧
      t.check.config = false ∧
      (run [.mainPowerLoss, .resetRelease (start none), .powerOn [] ⟨0, 0, 0⟩ (start none)] t).ret.startRecord.map (·.lost) =
        some [.config] := by decide +kernel

/-- A power-on with RECORDS lost, cut short in stage 5 after PLAN has counted RETAINED_LOST and before MONITOR has taken the
ceiling's number, and later, right after it; by the reset input and by a loss of power. -/
theorem witness_Starts_restoration :
    let off := after .mainPowerLoss State.reset
    let cut (x : StartInput) : State := after (.powerOn [.records] ⟨0, 0, 0⟩ { x with abandonedAfter := some 4 }) off
    let seen (t : State) := (t.plan.undated.alarms, t.mon.ceilingSeq, t.ret.resetAsserted, t.ret.powered)
    seen (cut (start none)) = (2, 1, true, true) ∧
      seen (cut { start none with updated := [.plan] }) = (3, 1, true, true) ∧
      seen (cut { start none with moments := 60, powerLost := true }) = (4, 1, false, false) ∧
      seen (cut { start none with moments := 60, updated := [.monitor] }) = (4, 2, true, true) ∧
      seen (cut { start none with moments := 61 }) = (4, 2, true, true) := by decide +kernel

/-- A reset-line start and a service restart cut short, with and without a power-on that is due. -/
theorem witness_Starts_cut :
    let x : StartInput := { start (some 4) with moments := 60, powerLost := true }
    let held := after .resetAssert State.reset
    let due := run [.mainPowerLoss, .resetAssert, .powerOn [.plan] ⟨0, 0, 0⟩ (start none)] State.reset
    let accepted := run [.presenceBegin .sp 17 8, .restart .sp] State.reset
    held.ret.powerOnDue = none ∧ due.ret.powerOnDue = some [.plan] ∧ accepted.ret.powerOnDue = none ∧
      [held, due].map (fun s => (after (.resetRelease x) s).ret.powered) = [false, false] ∧
      (after (.serviceRestartStart x) accepted).ret.powered = false ∧ (after (.resetRelease x) due).check = {} := by
  decide +kernel

/-- CONFIG damaged, kept as it stands by a reset-line start, changed and changed back: each write made its word anew. -/
theorem test_words_recomputed :
    let s := run [.mainPowerLoss, .powerOn [.config] ⟨0, 0, 0⟩ (start (some 0)), .resetRelease (start none)] State.reset
    let t := run [.writeCcuItem .fp (.reportTimeout 20), .writeCcuItem .fp (.reportTimeout 10)] s
    s.check.config = false ∧ t.check.config = true ∧ t.cfg = s.cfg := by decide +kernel

/-- The frame of the reply to a READ_CEILING on the farm port: 3Ch, L, kind, tag, header, content, check. -/
theorem witness_PortHolding_sent :
    let s := run [.frameChecked .fp ⟨0x03, 0x55, []⟩ false, .replySent .fp] State.reset
    s.lnk.fp.inWork = none ∧ s.lnk.fp.transmitted.take 8 = [0x3c, 19, 0x83, 0x55, 0, 0, 1, 5] ∧
      s.lnk.fp.transmitted.length = 19 + 4 := by decide +kernel

/-- R190: a request given as a row while a framed one is in work has its own answer, and the frame's reply goes as formed. -/
theorem test_row_beside_frame :
    let s := run [.frameChecked .fp ⟨0x03, 0x55, []⟩ false, .readNotices .fp] State.reset
    let t := after (.replySent .fp) s
    s.lnk.fp.reply.map (fun r => (r.kind, r.tag)) = some (0x82, 0) ∧
      t.lnk.fp.transmitted.take 4 = [0x3c, 19, 0x83, 0x55] ∧ t.lnk.fp.owed = none ∧ t.lnk.fp.reply = s.lnk.fp.reply := by
  decide +kernel

/-- A row on a port that R195 does not admit, and frames whose owner answers with content, without, and RANGE. -/
theorem witness_PortHolding_judged :
    let sent (f : Frame) := (after (.frameChecked .fp f false) State.reset).lnk.fp.owed.map fun r => (r.status, r.content)
    requestRow (.setTime .cp 1 1) = some (.cp, 0x30) ∧ requestRow (.closeTask .sp 1 .done) = some (.sp, 0x42) ∧
      State.reset.mpl.presence = none ∧
      (after (.setTime .cp 1 1) State.reset).lnk.cp.counters.refusedPort = 1 ∧
      sent ⟨0x02, 1, []⟩ = some (.ok, [1, 5]) ∧ sent ⟨0x36, 1, [9]⟩ = some (.unknownItem, []) ∧
      sent ⟨0x36, 1, []⟩ = some (.range, []) := by decide +kernel

/-- R137: an expiry that comes behind the report that restarted the timer does not happen; one after its last second does. -/
theorem test_expiry_behind_restart :
    let due := { State.reset with ccu := { State.reset.ccu with freshness := some 1 } }
    let report : Instr := .operatingReport .cp 2 87 478 0
    let seen (l : List Instr) := let c := (run l due).ccu; (c.op.regime, c.counters.silences, c.freshness)
    seen [.operationSecond, .freshnessTimeout] = (.unknown, 1, none) ∧
      seen [.operationSecond, report, .freshnessTimeout] = (.producing, 0, some 10) ∧
      seen [.operationSecond, .freshnessTimeout, report] = (.producing, 1, some 10) := by decide +kernel

/-- R6: the first check takes place after 1 s of operation; one that comes sooner, or again before 60 s, does not. -/
theorem test_check_schedule :
    let seen (l : List Instr) := (run l State.reset).afe.latestCheck
    seen [.converterCheck 16391 8190] = none ∧ seen [.operationSecond, .converterCheck 16391 8190] = some (16391, 8190) ∧
      seen [.operationSecond, .converterCheck 16391 8190, .operationSecond, .converterCheck 0 0] = some (16391, 8190) := by
  decide +kernel

/-- R24: of an end pulse and a stall of P1 in one tick, the one taken first acts; P2 stalls after its first second. -/
theorem test_stall_beside_end_pulse :
    let edge : Instr := .pulseEdge .p1 20000001 []
    let seen (l : List Instr) := let x := (run l ending).ptu.chan.p1; (x.latest.map (·.status), x.seqCount, x.meas)
    let silent (l : List Instr) := (run l State.reset).ptu.chan.p2.seqCount
    seen [edge, .stall .p1] = (some .valid, 1, .measuring 256 0 20000001 2) ∧
      seen [.stall .p1, edge] = (some .stalled, 1, .measuring 256 0 20000001 2) ∧
      silent [.stall .p2] = 0 ∧ silent [.operationSecond, .stall .p2, .stall .p2] = 1 := by decide +kernel

/-- R154, R106: a set to a later day closes the record with the interval's 60 producing seconds as its own day, in a ring of
31 as well; from an unset calendar the tally with them is folded into the new record; the grid record has TIME_SET. -/
theorem witness_SetTime_records :
    let s := closing (midnight 100 99)
    let worked (s : State) : State :=
      { s with plan := { s.plan with interval := { s.plan.interval with producing := 60, powerSum := 6000 } } }
    let full : State :=
      { s with plan := { s.plan with days := (List.range 31).map fun n => { day := n + 69, record := {} } } }
    let t := after (.setTime .fp 103 0) (worked s)
    let undated := after (.setTime .fp 103 0) (worked State.reset)
    (completedInterval s).values ≠ 0 ∧ s.plan.tasks = [] ∧ s.ccu.alarms.length ≤ 30 ∧
      (∀ c : Fin 16, s.plan.wear[c].grade2Duration ≠ 86400) ∧
      t.plan.days.map (fun x => (x.day, x.record.producing)) = [(99, 0), (100, 69)] ∧
      t.records.ring.map (fun x => (x.intervalEnd, x.timeSet)) = [(some ⟨103, 0⟩, true)] ∧
      ((after (.setTime .fp 103 0) full).plan.days.map (·.day)).head? = some 70 ∧
      (undated.plan.openDay.day, undated.plan.openDay.record.producing, undated.plan.undated.producing) =
        (some 103, 60, 0) := by decide +kernel

/-- R172: a REPLACED component's tasks lose their reference, and R160: a boundary that is no rollover credits the day. -/
theorem witness_credit_and_replacement :
    let worked : State := { midnight 100 99 with cal := some ⟨101, 600⟩ }
    let s : State := { worked with plan := { worked.plan with interval := { worked.plan.interval with producing := 60 } } }
    let t : State := { sited with plan :=
      { sited.plan with tasks := [farmTask, { farmTask with id := 13, damageRef := 7 }] } }
    (after .tenMinuteBoundary s).plan.openDay.record.producing = 69 ∧
      (after (.closeTask .sp 12 .replaced) t).plan.tasks.map (fun x => (x.id, x.damageRef)) = [(12, 0), (13, 0)] ∧
      (plannedTo 1 State.reset).plan.interval.planned ≠ .seconds 0 := by decide +kernel

/-- A conversion on an empty queue, in operation with one sample of a capture still to come, and without operation. -/
theorem witness_StepTakesFront_conversion :
    let s := { capturing with
      conversions := [conversion]
      afe := { capturing.afe with buffers :=
        { capturing.afe.buffers with gvmA := .filling { gearFill with kind := .fixed .g1 1 2 } } } }
    s.pending = [] ∧ s.conversions = [conversion] ∧ s.ret.operating = true ∧
      (match step s with
        | .next t => decide (bufferOf t .gvmA =
            .filling { gearFill with kind := .fixed .g1 1 2, stored := 1, samples := [[100]] } ∧ t.afe.sinceGrid = 1)
        | .fault _ | .refused _ => false) = true ∧
      ({ after .resetAssert s with conversions := [conversion] }).ret.operating = false := by decide +kernel

end Sys2Proof.Tests
end

section
/-! Signal acquisition: events in operation, configuration writes, capture buffers and single alarms. -/

namespace Sys2Proof.Machine

/-! ## Events and configuration writes in operation -/

/-- An event that changes nothing leaves the check words too. -/
@[simp] theorem rechecked_self (s : State) : rechecked s s = s := rechecked_kept s s rfl rfl rfl rfl rfl

/-- An event in operation has its effect, with the check words of the sections it changes recomputed (R177). -/
theorem inOperation_operating (f : State → State) {s : State} (hop : s.ret.operating = true) :
    inOperation f s = .next (rechecked s (f s)) := by
  simp [inOperation, hop]

/-- A configuration write that R195 admits is answered by the owner of the item, the request counted on its port. -/
theorem takeRequest_writeConfig (p : Port) (w : ConfigWrite) (s : State) (hp : FarmOrPresence p s) :
    takeRequest p (.writeConfig w) s =
      formReply p 0x31 (handleWrite w (countPort p (fun c => { c with taken := inc16 c.taken }) s)) :=
  takeRequest_admitted p (.writeConfig w) .farmOrPresence s rfl (admits_farmOrPresence p s hp)

/-- An answer that leaves the sections alone is `answered` with the check words as they were. -/
theorem rechecked_answered_self (p : Port) (k : Octet) (a : Answer) (s : State) :
    rechecked s (answered p k a s) = answered p k a s :=
  rechecked_kept s _ rfl rfl rfl rfl rfl

/-- The reply to a request row carries the status of the answer. -/
theorem formReply_status (p : Port) (k : Octet) (r : State × Answer) :
    ((formReply p k r).lnk.get p).reply.map (·.status) = some r.2.status := by
  cases p <;> rfl

/-! ## Buffers -/

@[simp] theorem PerBuffer.set_set {α : Type} (v : PerBuffer α) (b : BufferId) (x y : α) :
    (v.set b x).set b y = v.set b y := by cases b <;> rfl

theorem PerBuffer.ext_get {α : Type} {v w : PerBuffer α} (h : ∀ b, v.get b = w.get b) : v = w := by
  obtain ⟨⟩ := v
  obtain ⟨⟩ := w
  have hA := h .gvmA
  have hB := h .gvmB
  have hC := h .bimA
  have hD := h .ghmA
  have hE := h .ghmB
  simp_all [PerBuffer.get]

@[simp] theorem bufferOf_setBuffer_self (b : BufferId) (x : Buffer) (s : State) :
    bufferOf (setBuffer b x s) b = x := by simp [bufferOf_setBuffer]

@[simp] theorem setBuffer_setBuffer (b : BufferId) (x y : Buffer) (s : State) :
    setBuffer b y (setBuffer b x s) = setBuffer b y s := by simp [setBuffer]

/-- The release of a buffer just completed makes it FREE (R15). -/
@[simp] theorem releaseBuffer_setBuffer_full (b : BufferId) (r : CaptureRecord) (s : State) :
    releaseBuffer b (setBuffer b (.full r) s) = setBuffer b .free s := by
  simp [releaseBuffer, Buffer.isFull]

/-- A buffer is read from the state of the AFE alone. -/
theorem bufferOf_congr {s t : State} (h : t.afe = s.afe) (b : BufferId) : bufferOf t b = bufferOf s b := by
  simp [bufferOf, h]

/-! ## Alarms of one code and source -/

/-- The entries of a code and source. -/
def alarmsOf (c : AlarmCode) (x : Source) (s : State) : List AlarmEntry := s.ccu.alarms.filter (AlarmEntry.has c x)

theorem AlarmEntry.has_iff (c : AlarmCode) (x : Source) (e : AlarmEntry) :
    e.has c x = true ↔ e.code = c ∧ e.source = x := by simp [AlarmEntry.has]

theorem alarmActive_iff (c : AlarmCode) (x : Source) (s : State) :
    AlarmActive c x s ↔ ∃ e ∈ alarmsOf c x s, e.state = .activeUnack ∨ e.state = .activeAck := by
  simp [AlarmActive, alarmsOf, AlarmEntry.has_iff, and_assoc]

theorem hasRoom_iff (c : AlarmCode) (x : Source) (s : State) :
    HasRoom c x s ↔ s.ccu.alarms.length < 32 ∨ ∃ e, e ∈ alarmsOf c x s := by
  simp [HasRoom, alarmsOf, AlarmEntry.has_iff]

/-- A clear leaves the entries of every other code (R144). -/
theorem alarmsOf_clearAlarm_of_ne {c d : AlarmCode} (h : c ≠ d) (x y : Source) (s : State) :
    alarmsOf c x (clearAlarm d y s) = alarmsOf c x s := by
  have apart (e : AlarmEntry) : e.has d y = true → e.has c x = false := by
    intro hd
    obtain ⟨hc, -⟩ := (AlarmEntry.has_iff d y e).mp hd
    simp [AlarmEntry.has, hc, Ne.symm h]
  rcases clearAlarm_cases d y s with e | ⟨_, -, -, e⟩ | ⟨_, -, -, e⟩ <;> rw [e]
  · show List.filter _ (List.map _ s.ccu.alarms) = List.filter _ s.ccu.alarms
    induction s.ccu.alarms with
    | nil => rfl
    | cons a l ih =>
      by_cases ha : a.has d y = true
      · have ha' : AlarmEntry.has c x { a with state := .clearedUnack, lastChange := s.cal } = false := apart _ ha
        simp [ha, apart a ha, ha', ih]
      · simp [ha, ih, List.filter_cons]
  · show List.filter _ (List.eraseP _ s.ccu.alarms) = List.filter _ s.ccu.alarms
    induction s.ccu.alarms with
    | nil => rfl
    | cons a l ih =>
      by_cases ha : a.has d y = true
      · simp [ha, apart a ha]
      · simp [ha, ih, List.filter_cons]

/-- A clear adds no entry (R144). -/
theorem length_alarms_clearAlarm_le (c : AlarmCode) (x : Source) (s : State) :
    (clearAlarm c x s).ccu.alarms.length ≤ s.ccu.alarms.length := by
  rcases clearAlarm_cases c x s with e | ⟨_, -, -, e⟩ | ⟨_, -, -, e⟩ <;> rw [e]
  · simp [setNotice, refreshLines]
  · exact (List.eraseP_sublist ..).length_le

/-- In a keyed table a clear leaves no active entry of its code and source (R144). -/
theorem clearAlarm_quiet (c : AlarmCode) (x : Source) (s : State) (hk : AlarmsKeyed s) :
    AlarmQuiet c x (clearAlarm c x s) := by
  obtain ⟨-, hnodup⟩ := hk
  have unique {a e : AlarmEntry} (ha : a ∈ s.ccu.alarms) (he : e ∈ s.ccu.alarms) (hac : a.has c x = true)
      (hec : e.has c x = true) : a = e := by
    obtain ⟨a1, a2⟩ := (AlarmEntry.has_iff ..).mp hac
    obtain ⟨e1, e2⟩ := (AlarmEntry.has_iff ..).mp hec
    exact List.inj_on_of_nodup_map hnodup ha he (by simp [a1, a2, e1, e2])
  intro a ha hcode hsource
  have hac : a.has c x = true := (AlarmEntry.has_iff ..).mpr ⟨hcode, hsource⟩
  unfold clearAlarm at ha
  cases hf : findAlarm c x s with
  | none =>
    rw [hf] at ha
    exact absurd hac (List.find?_eq_none.mp hf a ha)
  | some e =>
    have he := List.mem_of_find?_eq_some hf
    have hec : e.has c x = true := List.find?_some hf
    cases hs : e.state with
    | activeUnack =>
      simp only [hf, hs] at ha
      obtain ⟨b, -, rfl⟩ := List.mem_map.mp ha
      by_cases hb : b.has c x = true
      · simp [hb]
      · simp [hb] at hac
    | activeAck =>
      simp only [hf, hs] at ha
      obtain ⟨b, l, m, hl, hb, hsplit, herase⟩ := List.exists_of_eraseP (p := AlarmEntry.has c x) he hec
      rw [setNotice_ccu, removeAlarm_alarms, herase, List.mem_append] at ha
      rw [hsplit] at unique
      have hfresh := (List.nodup_append.mp (hsplit ▸ hnodup.of_map _)).2.1
      rcases ha with ha | ha
      · exact absurd hac (hl a ha)
      · have hab : a = b := unique (by simp [ha]) (by simp) hac hb
        exact absurd (hab ▸ ha) (List.nodup_cons.mp hfresh).1
    | clearedUnack =>
      simp only [hf, hs] at ha
      rw [unique ha he hac hec, hs]

/-- An update reaches an entry of its code and source. -/
theorem mem_updateAlarm {c : AlarmCode} {x : Source} {e : AlarmEntry} {s : State} (f : AlarmEntry → AlarmEntry)
    (he : e ∈ s.ccu.alarms) (hc : e.has c x = true) : f e ∈ (updateAlarm c x f s).ccu.alarms :=
  List.mem_map.mpr ⟨e, he, if_pos hc⟩

/-- A raise with room leaves its code and source active (R143). -/
theorem raise_active (c : AlarmCode) (x : Source) (s : State) (h : HasRoom c x s) :
    AlarmActive c x (raise c x s) := by
  unfold raise raiseWith
  cases hf : findAlarm c x s with
  | none =>
    have hlen : s.ccu.alarms.length < 32 := by
      rcases h with h | ⟨e, he, hc⟩
      · exact h
      · exact absurd ((AlarmEntry.has_iff ..).mpr hc) (List.find?_eq_none.mp hf e he)
    simp [hlen, AlarmActive]
  | some e =>
    have he := List.mem_of_find?_eq_some hf
    have hec : e.has c x = true := List.find?_some hf
    obtain ⟨hcode, hsource⟩ := (AlarmEntry.has_iff ..).mp hec
    cases hs : e.state with
    | activeUnack | activeAck =>
      exact ⟨e.again s.cal, by simpa only [hs] using mem_updateAlarm _ he hec, hcode, hsource, by simp [AlarmEntry.again, hs]⟩
    | clearedUnack =>
      exact ⟨e.return s.cal, by simpa only [hs, enteredActive_alarms] using mem_updateAlarm _ he hec, hcode, hsource, .inl rfl⟩

end Sys2Proof.Machine
end

section
/-! Offset trims, bias and window limits: the short statements. -/

namespace Sys2Proof.Machine

/-! ## Offset trims (R2, R3) -/

/-- A trim write in operation, admitted on its port. -/
theorem exec_writeOffsetTrim (p : Port) (index : Nat) (value : Int) (s : State) (hop : s.ret.operating = true)
    (hp : FarmOrPresence p s) :
    exec (.writeOffsetTrim p index value) s = .next (rechecked s (formReply p 0x31
      (afeWriteTrim index value (countPort p (fun c => { c with taken := inc16 c.taken }) s)))) := by
  have htake := takeRequest_writeConfig p (.trim index value) s hp
  exact (inOperation_operating (takeRequest p (.writeConfig (.trim index value))) hop).trans (by rw [htake]; rfl)

theorem trimOk_iff (v : Int) : trimOk v = true ↔ v % 2 = 0 ∧ -254 ≤ v ∧ v ≤ 254 := by
  simp [trimOk, and_assoc]

/-- The answer of a trim write by its row of R2. -/
theorem afeWriteTrim_eq (index : Nat) (v : Int) (s : State) :
    afeWriteTrim index v s =
      if h : index < 11 then
        if v % 2 = 0 ∧ -254 ≤ v ∧ v ≤ 254 then
          (if s.cfg.trims[index] = v then s else applyTrim ⟨index, h⟩ v s, plain .ok)
        else (s, plain .range)
      else (s, plain .unknownItem) := by
  unfold afeWriteTrim
  by_cases h : index < 11
  · by_cases hv : v % 2 = 0 ∧ -254 ≤ v ∧ v ≤ 254
    · by_cases he : s.cfg.trims[index] = v <;> simp [h, he, hv, (trimOk_iff v).mpr hv, plain]
    · have hbad : trimOk v = false := by simpa using mt (trimOk_iff v).mp hv
      simp only [h, hv, hbad, dite_true, if_false, Bool.not_false, if_true, plain]
  · simp [h, plain]

/-- Settles O1: each row of the table of R2 is one case of `afeWriteTrim_eq`. -/
theorem offsetTrimWrite : Obligations.OffsetTrimWrite := by
  intro p index value s hop hp
  rw [exec_writeOffsetTrim p index value s hop hp, afeWriteTrim_eq]
  congr 2
  by_cases h : index < 11
  · by_cases hv : value % 2 = 0 ∧ -254 ≤ value ∧ value ≤ 254
    · by_cases he : s.cfg.trims[index] = value
      · simp only [h, hv, he, and_self, dite_true, if_true, countPort_cfg]
        exact formReply_answered p 0x31 (plain .ok) s (.inr rfl)
      · simp only [h, hv, he, and_self, dite_true, if_true, if_false, countPort_cfg]
        exact formReply_answered p 0x31 (plain .ok) (applyTrim ⟨index, h⟩ value s) (.inr rfl)
    · simp only [h, hv, dite_true, if_false]
      exact formReply_answered p 0x31 (plain .range) s (.inr rfl)
  · simp only [h, dite_false]
    exact formReply_answered p 0x31 (plain .unknownItem) s (.inr rfl)

/-! ## Bias recovery (R5) -/

theorem biasInRange_iff (bias : Int) : biasInRange bias = true ↔ 2000 ≤ bias ∧ bias ≤ 22000 := by
  simp [biasInRange]

/-- Settles O4: the qualification starts, runs, and ends the fault. -/
theorem biasRecovery : Obligations.BiasRecovery := by
  refine ⟨fun ch bias s hop hlo hhi => ⟨fun hfault hidle => ?_, fun hnone => ?_⟩, fun ch s hop hrun => ?_,
    fun ch s hop hkeyed hdone => ?_⟩
  · have hstart : afeBiasInRange ch bias s =
        setAccel ch { fault := (s.afe.accel.get ch).fault, qualification := some 10 } s := by
      simp [afeBiasInRange, (biasInRange_iff bias).mpr ⟨hlo, hhi⟩, hfault, hidle]
    calc exec (.biasInRange ch bias) s = .next (rechecked s (afeBiasInRange ch bias s)) := inOperation_operating _ hop
      _ = .next (setAccel ch _ s) := by rw [hstart, rechecked_kept] <;> rfl
  · have hstay : afeBiasInRange ch bias s = s := by simp [afeBiasInRange, hnone]
    calc exec (.biasInRange ch bias) s = .next (rechecked s (afeBiasInRange ch bias s)) := inOperation_operating _ hop
      _ = .next s := by rw [hstay, rechecked_self]
  · have hstay : afeRecovery ch s = s := by
      rcases afeRecovery_cases ch s with ⟨h, -⟩ | ⟨-, h⟩
      · exact absurd h hrun
      · exact h
    calc exec (.recoveryQualificationExpiry ch) s = .next (rechecked s (afeRecovery ch s)) := inOperation_operating _ hop
      _ = .next s := by rw [hstay, rechecked_self]
  · have hclear : afeRecovery ch s = clearAlarm .sensorFault (.accel ch) (setAccel ch {} s) := by
      rcases afeRecovery_cases ch s with ⟨-, h⟩ | ⟨h, -⟩
      · exact h
      · exact absurd hdone h
    refine ⟨_, inOperation_operating _ hop, ?_, ?_⟩
    · rw [hclear, rechecked_afe, clearAlarm_afe]
      rfl
    · rw [hclear]
      exact clearAlarm_quiet .sensorFault (.accel ch) (setAccel ch {} s) hkeyed

/-! ## The settlement of a window (R89, R97, R98) -/

/-- A completed block changes the GHM only, and there neither entries nor window state, and no counter but that of empty
blocks (R98). -/
theorem addSlot_eq (s : State) :
    addSlot s = { s with ghm := (addSlot s).ghm } ∧ (addSlot s).ghm.entries = s.ghm.entries ∧
      (addSlot s).ghm.window = s.ghm.window ∧
      (addSlot s).ghm.counters = { s.ghm.counters with emptyBlock := (addSlot s).ghm.counters.emptyBlock } := by
  unfold addSlot completeBlock
  dsimp only
  split
  · split <;> exact ⟨rfl, rfl, rfl, rfl⟩
  · exact ⟨rfl, rfl, rfl, rfl⟩

@[simp] theorem reportOutcome_ghm (o : WindowOutcome) (s : State) : (reportOutcome o s).ghm = s.ghm := by
  unfold reportOutcome; split <;> simp

theorem reportOutcome_eq (o : WindowOutcome) (s : State) :
    reportOutcome o s = { s with plan := (reportOutcome o s).plan } := by
  unfold reportOutcome reportDay
  split
  · split <;> rfl
  · rfl

/-- A settlement changes the GHM and the day record (R97). -/
theorem settleWindow_eq (n : Nat) (o : WindowOutcome) (s : State) :
    settleWindow n o s =
      { s with ghm := (settleWindow n o s).ghm, plan := (settleWindow n o s).plan } := by
  unfold settleWindow
  rw [(addSlot_eq _).1, reportOutcome_eq]
  rfl

/-- The entries after the settlement of window `n`: its own are marked and leave the list where they are ENDED (R89). -/
def settledEntries (n : Nat) (o : WindowOutcome) (l : List WindowEntry) : List WindowEntry :=
  (l.map fun e => if e.number = n then { e with outcome := some o, buffer := none, request := .none } else e).filter
    WindowEntry.stays

/-- A settlement marks the entries of its window and counts the outcome; the window state stays (R97). -/
theorem settleWindow_ghm (n : Nat) (o : WindowOutcome) (s : State) :
    (settleWindow n o s).ghm.entries = settledEntries n o s.ghm.entries ∧
      (settleWindow n o s).ghm.window = s.ghm.window ∧
      (settleWindow n o s).ghm.counters =
        { countOutcome o s.ghm.counters with emptyBlock := (settleWindow n o s).ghm.counters.emptyBlock } := by
  unfold settleWindow
  obtain ⟨-, hentries, hwindow, hcounters⟩ :=
    addSlot_eq (reportOutcome o (countGhm (countOutcome o)
      (pruneEntries (withEntry n (fun e => { e with outcome := some o, buffer := none, request := .none }) s))))
  rw [hentries, hwindow, reportOutcome_ghm]
  exact ⟨rfl, rfl, by rw [hcounters, reportOutcome_ghm]; rfl⟩

/-- A listed entry of a settled window has its outcome and no buffer (R97). -/
theorem of_mem_settledEntries {n : Nat} {o : WindowOutcome} {l : List WindowEntry} {x : WindowEntry}
    (hx : x ∈ settledEntries n o l) (hn : x.number = n) : x.buffer = none ∧ x.outcome = some o := by
  obtain ⟨e, -, rfl⟩ := List.mem_map.mp (List.mem_filter.mp hx).1
  by_cases he : e.number = n
  · simp [he]
  · simp [he] at hn

/-- An OPEN entry of a settled window stays listed (R89). -/
theorem mem_settledEntries {o : WindowOutcome} {l : List WindowEntry} {e : WindowEntry} (he : e ∈ l)
    (hopen : e.ended = false) :
    { e with outcome := some o, buffer := none, request := .none } ∈ settledEntries e.number o l :=
  List.mem_filter.mpr ⟨List.mem_map.mpr ⟨e, he, if_pos rfl⟩, by simp [WindowEntry.stays, hopen]⟩

/-! ## The window limit (R14, R91) -/

/-- A window capture that reached its limit is settled INVALID_FREQUENCY and its buffer released (R91). -/
theorem judgeWindow_limitReached (n : Nat) (b : BufferId) (r : CaptureRecord) (s : State) (h : r.limitReached = true) :
    judgeWindow n b r s = settleWindow n .invalidFrequency (releaseBuffer b s) := by
  simp [judgeWindow, h]

/-- Settles O7: the limit completes the capture, whose window is then settled by `judgeWindow_limitReached`. -/
theorem windowLimitSettles : Obligations.WindowLimitSettles := by
  intro b segments r e s hop _ hbuf hkind hlimit hfind
  have hlist : entryWith b (setBuffer b (.full (fillWindow r segments)) s) = some e := hfind
  have hsettle : afeWindowLimit b segments s = settleWindow e.number .invalidFrequency (setBuffer b .free s) := by
    simp [afeWindowLimit, hbuf, hkind, hlimit, ghmCompletion, hlist, judgeWindow_limitReached]
  have hframe := settleWindow_eq e.number .invalidFrequency (setBuffer b .free s)
  obtain ⟨hentries, hwindow, hcounters⟩ := settleWindow_ghm e.number .invalidFrequency (setBuffer b .free s)
  refine ⟨_, inOperation_operating _ hop, ?_⟩
  rw [hsettle]
  refine ⟨(congrArg State.afe hframe :), (congrArg State.spe hframe :), hwindow, ?_, fun x hx hn => ?_⟩
  · rw [rechecked_ghm, hcounters]
    rfl
  · rw [rechecked_ghm, hentries] at hx
    exact of_mem_settledEntries hx hn

end Sys2Proof.Machine
end

section
/-! Samples (R3, R12, R13): what a capture stores, at once and conversion by conversion. -/

namespace Sys2Proof.Machine

/-! ## Groups of D -/

/-- The `i`-th group of D rows. -/
def groupOf {α : Type} (d : Nat) (rows : List α) (i : Nat) : List α := (rows.drop (i * d)).take d

/-- The stored samples are the means of the successive groups (R12). -/
theorem decimate_eq (d n : Nat) (rows : List (List Int × Bool)) :
    decimate d n rows = (List.range n).map fun i => meanOf d (groupOf d rows i) := by
  induction n generalizing rows with
  | zero => rfl
  | succ n ih =>
    rw [decimate, ih, List.range_succ_eq_map, List.map_cons, List.map_map]
    congr 1
    · simp [groupOf]
    · refine List.map_congr_left fun i _ => ?_
      simp [groupOf, Nat.succ_mul, Nat.add_comm]

@[simp] theorem decimate_length (d n : Nat) (rows : List (List Int × Bool)) : (decimate d n rows).length = n := by
  simp [decimate_eq]

/-- The last of the groups. -/
theorem decimate_succ_last (d n : Nat) (rows : List (List Int × Bool)) :
    decimate d (n + 1) rows = decimate d n rows ++ [meanOf d (groupOf d rows n)] := by
  simp [decimate_eq, List.range_succ]

/-- A group that lies inside a list, by its places. -/
theorem groupOf_eq {α : Type} (d i : Nat) (rows : List α) (x : α) (h : (i + 1) * d ≤ rows.length) :
    groupOf d rows i = (List.range d).map fun j => rows.getD (i * d + j) x := by
  have hlen : i * d + d ≤ rows.length := by rwa [Nat.succ_mul] at h
  refine List.ext_getElem (by simp [groupOf]; omega) fun j h1 h2 => ?_
  have hj : j < d := by simpa using h2
  simp [groupOf, List.getD_eq_getElem?_getD, List.getElem?_eq_getElem (show i * d + j < rows.length by omega)]

/-- The groups are those of any list that goes on beyond them. -/
theorem groupOf_append {α : Type} (d i : Nat) (rows more : List α) (h : (i + 1) * d ≤ rows.length) :
    groupOf d (rows ++ more) i = groupOf d rows i := by
  rw [Nat.succ_mul] at h
  rw [groupOf, groupOf, List.drop_append_of_le_length (by omega),
    List.take_append_of_le_length (by rw [List.length_drop]; omega)]

theorem decimate_append (d n : Nat) (rows more : List (List Int × Bool)) (h : n * d ≤ rows.length) :
    decimate d n (rows ++ more) = decimate d n rows := by
  simp only [decimate_eq]
  refine List.map_congr_left fun i hi => ?_
  rw [groupOf_append d i rows _ ((Nat.mul_le_mul_right d (List.mem_range.mp hi)).trans h)]

/-- A mark is found in a group exactly where it is found among the rows that the groups cover. -/
theorem any_groups {α : Type} (p : α → Bool) (d n : Nat) (rows : List α) :
    ((List.range n).any fun i => (groupOf d rows i).any p) = (rows.take (n * d)).any p := by
  induction n with
  | zero => simp
  | succ n ih => rw [List.range_succ, List.any_append, ih, Nat.succ_mul, List.take_add, List.any_append]; simp [groupOf]

/-! ## Samples (R3) -/

/-- A sample saturates at 16 bits. -/
theorem clampInt_eq (x : Int) : clampInt (-32768) 32767 x = max (-32768) (min 32767 x) := by
  unfold clampInt
  split
  · omega
  · split <;> omega

/-- The row of a FIXED capture from one raw value. -/
theorem rowOf_single (trim x : Int) : rowOf [trim] [x] = ([max (-32768) (min 32767 (x - trim))], (sampleOf trim x).2) := by
  simp [rowOf, sampleOf, clampInt_eq]

/-- The clipped mark of a sample: the raw value at an extreme, or saturated by the trim (R3). -/
theorem sampleOf_clipped (trim x : Int) :
    (sampleOf trim x).2 = true ↔ x = -32768 ∨ x = 32767 ∨ x - trim < -32768 ∨ 32767 < x - trim := by
  simp [sampleOf, or_assoc]

/-- The rows of raw values taken under one trim. -/
def singleRows (trim : Int) (raws : List Int) : List (List Int × Bool) := raws.map fun x => rowOf [trim] [x]

/-- The mean of a group of samples, rounded toward zero (R12). -/
theorem meanOf_singleRows (d i : Nat) (trim : Int) (raws : List Int) (h : (i + 1) * d ≤ raws.length) :
    (meanOf d (groupOf d (singleRows trim raws) i)).1 =
      [Int.tdiv (((List.range d).map fun j =>
        max (-32768) (min 32767 (raws.getD (i * d + j) 0 - trim))).sum) d] := by
  rw [show groupOf d (singleRows trim raws) i = (groupOf d raws i).map fun x => rowOf [trim] [x] by
    simp [groupOf, singleRows, List.map_drop, List.map_take], groupOf_eq d i raws 0 h]
  simp [meanOf, rowOf_single, Function.comp_def]

/-- The samples that `n` groups of raw values store, and whether one of them is clipped. -/
theorem decimate_singleRows (d n : Nat) (trim : Int) (raws : List Int) (h : n * d ≤ raws.length) :
    (decimate d n (singleRows trim raws)).map Prod.fst = (List.range n).map (fun i =>
        [Int.tdiv (((List.range d).map fun j =>
          max (-32768) (min 32767 (raws.getD (i * d + j) 0 - trim))).sum) d]) ∧
      ((decimate d n (singleRows trim raws)).any Prod.snd = true ↔ ∃ x ∈ raws.take (n * d),
        x = -32768 ∨ x = 32767 ∨ x - trim < -32768 ∨ 32767 < x - trim) := by
  rw [decimate_eq]
  constructor
  · rw [List.map_map]
    refine List.map_congr_left fun i hi => ?_
    have hin : (i + 1) * d ≤ n * d := Nat.mul_le_mul_right d (List.mem_range.mp hi)
    exact meanOf_singleRows d i trim raws (by omega)
  · have hmarks := any_groups (fun r : List Int × Bool => r.2) d n (singleRows trim raws)
    rw [List.any_map]
    show ((List.range n).any fun i => (groupOf d (singleRows trim raws) i).any Prod.snd) = true ↔ _
    rw [hmarks]
    simp [singleRows, ← List.map_take, rowOf_single, sampleOf_clipped]

/-! ## A capture completed at once (R13) -/

/-- A FIXED capture under one trim stores the means of its first n groups. -/
theorem completeFixed_fresh (ch : Accel) (d n : Nat) (trim : Int) (raws : List Int) (h : n * d ≤ raws.length) :
    completeFixed { kind := .fixed ch d n, trims := [[trim]] } [raws] =
      some (CaptureRecord.store (decimate d n (singleRows trim raws)) { kind := .fixed ch d n, trims := [[trim]] }) := by
  simp [completeFixed, rowsOf, singleRows, Function.comp_def, Nat.not_lt.mpr h]

/-! ## A capture filled conversion by conversion (R12) -/

/-- A FIXED capture under one trim after the given rows: the means of the full groups are stored, the rest waits. -/
def filledBy (ch : Accel) (d n : Nat) (trim : Int) (rows : List (List Int × Bool)) : CaptureRecord :=
  CaptureRecord.store (decimate d (rows.length / d) rows)
    { kind := .fixed ch d n, trims := [[trim]], group := rows.drop (rows.length / d * d) }

/-- A row that leaves its group short only waits in it (R12). -/
theorem takeSample_filledBy_short (ch : Accel) (d n : Nat) (trim : Int) (rows : List (List Int × Bool))
    (row : List Int × Bool) (h : rows.length % d + 1 < d) :
    (filledBy ch d n trim rows).takeSample d row = filledBy ch d n trim (rows ++ [row]) := by
  have hdiv := Nat.div_add_mod' rows.length d
  have hq := Nat.div_mul_le_self rows.length d
  have hsame : (rows ++ [row]).length / d = rows.length / d := by
    rw [List.length_append, List.length_singleton]
    exact Nat.div_eq_of_lt_le (by omega) (by rw [Nat.succ_mul]; omega)
  have hshort : (rows.drop (rows.length / d * d) ++ [row]).length < d := by simp; omega
  rw [filledBy, filledBy, hsame, decimate_append _ _ _ _ hq, List.drop_append_of_le_length hq]
  simp only [CaptureRecord.takeSample, CaptureRecord.store, hshort, if_true]

/-- The row that fills its group is stored with it, and the group restarts (R12). -/
theorem takeSample_filledBy_full (ch : Accel) (d n : Nat) (trim : Int) (rows : List (List Int × Bool))
    (row : List Int × Bool) (h : rows.length % d + 1 = d) :
    (filledBy ch d n trim rows).takeSample d row = filledBy ch d n trim (rows ++ [row]) := by
  have hdiv := Nat.div_add_mod' rows.length d
  have hq := Nat.div_mul_le_self rows.length d
  have hnext : (rows ++ [row]).length / d = rows.length / d + 1 := by
    rw [List.length_append, List.length_singleton]
    exact Nat.div_eq_of_lt_le (by rw [Nat.succ_mul]; omega) (by rw [Nat.succ_mul, Nat.succ_mul]; omega)
  have hlong : ¬ (rows.drop (rows.length / d * d) ++ [row]).length < d := by simp; omega
  have hgroup : groupOf d (rows ++ [row]) (rows.length / d) = rows.drop (rows.length / d * d) ++ [row] := by
    rw [groupOf, List.drop_append_of_le_length hq, List.take_of_length_le (by simp; omega)]
  have hnone : (rows ++ [row]).drop ((rows.length / d + 1) * d) = [] :=
    List.drop_eq_nil_of_le (by rw [Nat.succ_mul, List.length_append, List.length_singleton]; omega)
  rw [filledBy, filledBy, hnext, decimate_succ_last, hgroup, hnone, decimate_append _ _ _ _ hq]
  simp only [CaptureRecord.takeSample, CaptureRecord.store, hlong, if_false]
  simp

/-- One more conversion keeps a capture filled by the rows so far. -/
theorem convert_filledBy (ch : Accel) (d n : Nat) (trim : Int) (grid : Bool) (rows : List (List Int × Bool))
    (c : Conversion) (hd : 1 ≤ d) :
    CaptureRecord.convert [trim] grid c (filledBy ch d n trim rows) =
      filledBy ch d n trim (rows ++ [rowOf [trim] [(c.accel.get ch).toInt]]) := by
  have hmod : rows.length % d < d := Nat.mod_lt _ hd
  rcases Nat.lt_or_eq_of_le hmod with h | h
  · exact takeSample_filledBy_short ch d n trim rows _ h
  · exact takeSample_filledBy_full ch d n trim rows _ h

/-- A FIXED capture that takes conversions one by one is filled by their rows. -/
theorem foldl_convert_fixed (ch : Accel) (d n : Nat) (trim : Int) (grid : Bool) (cs : List Conversion) (hd : 1 ≤ d) :
    cs.foldl (fun r c => CaptureRecord.convert [trim] grid c r) { kind := .fixed ch d n, trims := [[trim]] } =
      filledBy ch d n trim (singleRows trim (cs.map fun c => (c.accel.get ch).toInt)) := by
  induction cs using List.reverseRecOn with
  | nil => simp [filledBy, singleRows, decimate, CaptureRecord.store]
  | append_singleton cs c ih =>
    rw [List.foldl_append, ih, List.foldl_cons, List.foldl_nil, convert_filledBy ch d n trim grid _ c hd]
    simp [singleRows]

/-- A WINDOW capture stores every grid instant it takes. -/
theorem foldl_convert_window (trims : List Int) (cs : List Conversion) :
    cs.foldl (fun r c => CaptureRecord.convert trims true c r) { kind := .window, trims := [trims] } =
      CaptureRecord.store (cs.map fun c => rowOf trims (c.grid.toList.map BitVec.toInt))
        { kind := .window, trims := [trims] } := by
  induction cs using List.reverseRecOn with
  | nil => simp [CaptureRecord.store]
  | append_singleton cs c ih =>
    rw [List.foldl_append, ih]
    simp [CaptureRecord.convert, CaptureRecord.store]

/-- The six samples of a grid instant, in the order of R12. -/
theorem rowOf_grid (a b c d e f : Int) (g : Vector (BitVec 16) 6) :
    (rowOf [a, b, c, d, e, f] (g.toList.map BitVec.toInt)).1 =
      [max (-32768) (min 32767 (g[0].toInt - a)), max (-32768) (min 32767 (g[1].toInt - b)),
        max (-32768) (min 32767 (g[2].toInt - c)), max (-32768) (min 32767 (g[3].toInt - d)),
        max (-32768) (min 32767 (g[4].toInt - e)), max (-32768) (min 32767 (g[5].toInt - f))] := by
  have hlist : g.toList = [g[0], g[1], g[2], g[3], g[4], g[5]] :=
    List.ext_getElem (by simp) fun i h1 h2 => by
      have hi : i < 6 := by simpa using h1
      interval_cases i <;> simp
  simp [hlist, rowOf, sampleOf, clampInt_eq]

/-- Settles O2: both ways of filling a FIXED capture store `decimate` of its rows, and a WINDOW capture its instants. -/
theorem storedSamplesAreMeans : Obligations.StoredSamplesAreMeans := by
  refine ⟨fun ch d n trim raws _ hlen => ?_, fun ch d n trim grid cs hd => ?_, fun a b c d e f cs => ?_⟩
  · obtain ⟨hsamples, hclipped⟩ := decimate_singleRows d n trim raws hlen
    exact ⟨_, completeFixed_fresh ch d n trim raws hlen, by simp, by simpa [CaptureRecord.store] using hsamples,
      by simpa [CaptureRecord.store] using hclipped⟩
  · have hcover : cs.length / d * d ≤ (cs.map fun c => (c.accel.get ch).toInt).length := by
      simpa using Nat.div_mul_le_self cs.length d
    obtain ⟨hsamples, hclipped⟩ := decimate_singleRows d (cs.length / d) trim _ hcover
    have hrows : (singleRows trim (cs.map fun c => (c.accel.get ch).toInt)).length = cs.length := by simp [singleRows]
    dsimp only
    rw [foldl_convert_fixed ch d n trim grid cs hd]
    simp only [filledBy, hrows]
    exact ⟨by simp, by simpa [CaptureRecord.store] using hsamples, by simpa [CaptureRecord.store] using hclipped⟩
  · dsimp only
    rw [foldl_convert_window]
    exact ⟨by simp, by simp [CaptureRecord.store, rowOf_grid]⟩

end Sys2Proof.Machine
end

section
/-! What an end of work of the GVM can change (R71, R84): frames of the operations it is made of. -/

namespace Sys2Proof.Machine

/-! ## Frames -/

/-- What each step of a fold keeps, the fold keeps. -/
theorem foldl_related {σ α : Type} {R : σ → σ → Prop} (refl : ∀ s, R s s) (trans : ∀ {s t u}, R s t → R t u → R s u)
    {f : σ → α → σ} (l : List α) (h : ∀ s, ∀ a ∈ l, R s (f s a)) (s : σ) : R s (l.foldl f s) := by
  induction l generalizing s with
  | nil => exact refl s
  | cons a l ih =>
    exact trans (h s a List.mem_cons_self) (ih (fun t b hb => h t b (List.mem_cons_of_mem a hb)) (f s a))

/-- From `s` to `t` the blocks outside the monitors, the engine and the captures stay as they are, and of the alarms only those
of bands and of the full task table may have been cleared. -/
structure MonitorsOnly (s t : State) : Prop where
  ptu : t.ptu = s.ptu
  rch : t.rch = s.rch
  cal : t.cal = s.cal
  ret : t.ret = s.ret
  records : t.records = s.records
  alarms : ∀ c x, c ≠ .bandAlert → c ≠ .bandAlarm → c ≠ .taskTableFull → alarmsOf c x t = alarmsOf c x s
  count : t.ccu.alarms.length ≤ s.ccu.alarms.length

/-- Of the monitors only the GVM may have changed, with the configuration of its measurements and bands. -/
structure GvmOnly (s t : State) : Prop extends MonitorsOnly s t where
  afe : t.afe = s.afe
  spe : t.spe = s.spe
  ghm : t.ghm = s.ghm
  bim : t.bim = s.bim
  cfg : t.cfg = { s.cfg with measurements := t.cfg.measurements, bands := t.cfg.bands }

/-- In the GVM only the bands with their skip marks may have changed. -/
structure BandsOnly (s t : State) : Prop extends GvmOnly s t where
  gvm : t.gvm = { s.gvm with skipMark := t.gvm.skipMark }

theorem MonitorsOnly.refl (s : State) : MonitorsOnly s s :=
  ⟨rfl, rfl, rfl, rfl, rfl, fun _ _ _ _ _ => rfl, le_rfl⟩

theorem GvmOnly.refl (s : State) : GvmOnly s s := ⟨.refl s, rfl, rfl, rfl, rfl, rfl⟩

theorem BandsOnly.refl (s : State) : BandsOnly s s := ⟨.refl s, rfl⟩

theorem MonitorsOnly.trans {s t u : State} (h : MonitorsOnly s t) (k : MonitorsOnly t u) : MonitorsOnly s u where
  ptu := k.ptu.trans h.ptu
  rch := k.rch.trans h.rch
  cal := k.cal.trans h.cal
  ret := k.ret.trans h.ret
  records := k.records.trans h.records
  alarms c x h1 h2 h3 := (k.alarms c x h1 h2 h3).trans (h.alarms c x h1 h2 h3)
  count := k.count.trans h.count

theorem GvmOnly.trans {s t u : State} (h : GvmOnly s t) (k : GvmOnly t u) : GvmOnly s u where
  toMonitorsOnly := h.toMonitorsOnly.trans k.toMonitorsOnly
  afe := k.afe.trans h.afe
  spe := k.spe.trans h.spe
  ghm := k.ghm.trans h.ghm
  bim := k.bim.trans h.bim
  cfg := by rw [k.cfg, h.cfg]

theorem BandsOnly.trans {s t u : State} (h : BandsOnly s t) (k : BandsOnly t u) : BandsOnly s u where
  toGvmOnly := h.toGvmOnly.trans k.toGvmOnly
  gvm := by rw [k.gvm, h.gvm]

/-- Where an alarm of another block has room, it still has. -/
theorem MonitorsOnly.hasRoom {s t : State} (h : MonitorsOnly s t) {c : AlarmCode} {x : Source} (h1 : c ≠ .bandAlert)
    (h2 : c ≠ .bandAlarm) (h3 : c ≠ .taskTableFull) (hr : HasRoom c x s) : HasRoom c x t := by
  rw [hasRoom_iff] at hr ⊢
  rw [h.alarms c x h1 h2 h3]
  exact hr.imp_left fun hl => lt_of_le_of_lt h.count hl

/-- An alarm of another block that is active stays so. -/
theorem MonitorsOnly.alarmActive {s t : State} (h : MonitorsOnly s t) {c : AlarmCode} {x : Source} (h1 : c ≠ .bandAlert)
    (h2 : c ≠ .bandAlarm) (h3 : c ≠ .taskTableFull) (ha : AlarmActive c x s) : AlarmActive c x t := by
  rw [alarmActive_iff] at ha ⊢
  rwa [h.alarms c x h1 h2 h3]

/-- An update of the sections and blocks that an end of work may change, without a change of the alarms. -/
theorem gvmOnly_of_updates {s t : State}
    (hcfg : t.cfg = { s.cfg with measurements := t.cfg.measurements, bands := t.cfg.bands })
    (halarms : t.ccu.alarms = s.ccu.alarms)
    (h : t =
      { s with
        cfg := t.cfg, mon := t.mon, plan := t.plan, gvm := t.gvm, ccu := t.ccu, mpl := t.mpl, lnk := t.lnk }) :
    GvmOnly s t where
  ptu := (congrArg State.ptu h :)
  rch := (congrArg State.rch h :)
  cal := (congrArg State.cal h :)
  ret := (congrArg State.ret h :)
  records := (congrArg State.records h :)
  alarms c x _ _ _ := by rw [alarmsOf, halarms]; rfl
  count := halarms ▸ le_rfl
  afe := (congrArg State.afe h :)
  spe := (congrArg State.spe h :)
  ghm := (congrArg State.ghm h :)
  bim := (congrArg State.bim h :)
  cfg := hcfg

/-- Such an update that in the GVM writes at most the skip marks. -/
theorem bandsOnly_of_updates {s t : State}
    (hcfg : t.cfg = { s.cfg with measurements := t.cfg.measurements, bands := t.cfg.bands })
    (hgvm : t.gvm = { s.gvm with skipMark := t.gvm.skipMark }) (halarms : t.ccu.alarms = s.ccu.alarms)
    (h : t =
      { s with
        cfg := t.cfg, mon := t.mon, plan := t.plan, gvm := t.gvm, ccu := t.ccu, mpl := t.mpl, lnk := t.lnk }) :
    BandsOnly s t := ⟨gvmOnly_of_updates hcfg halarms h, hgvm⟩

/-! ## Posts of grades and of the gearbox contribution (R81, R82) -/

theorem clearAlarm_bandsOnly {c : AlarmCode} (hc : c = .bandAlert ∨ c = .bandAlarm ∨ c = .taskTableFull) (x : Source)
    (s : State) : BandsOnly s (clearAlarm c x s) where
  ptu := by simp
  rch := by simp
  cal := by simp
  ret := by simp
  records := by simp
  alarms d y h1 h2 h3 := alarmsOf_clearAlarm_of_ne (by rcases hc with rfl | rfl | rfl <;> assumption) y x s
  count := length_alarms_clearAlarm_le c x s
  afe := by simp
  spe := by simp
  ghm := by simp
  bim := by simp
  cfg := by simp
  gvm := by simp

theorem postContribution_bandsOnly (w : Contributor) (v : Nat) (s : State) : BandsOnly s (postContribution w v s) := by
  rcases postContribution_cases w v s with ⟨-, e⟩ | ⟨-, e⟩ <;> rw [e] <;> exact bandsOnly_of_updates rfl rfl rfl rfl

theorem dropWaiting_bandsOnly (c : Fin 16) (s : State) : BandsOnly s (dropWaiting c s) := by
  have hmark : BandsOnly s (withWaiting (·.set c false) s) := bandsOnly_of_updates rfl rfl rfl rfl
  unfold dropWaiting
  dsimp only
  split
  · split
    · exact hmark
    · exact hmark.trans (clearAlarm_bandsOnly (.inr (.inr rfl)) .mpl _)
  · exact .refl s

theorem gradeChanged_bandsOnly (c : Fin 16) (old new : Nat) (s : State) : BandsOnly s (gradeChanged c old new s) := by
  have hwear : BandsOnly s (withWear c (gradedWear s.cal old new)
      (withCompInterval c (fun i => { i with worst := max i.worst new }) s)) := bandsOnly_of_updates rfl rfl rfl rfl
  unfold gradeChanged
  dsimp only
  split
  · exact hwear.trans (dropWaiting_bandsOnly c _)
  · exact hwear

theorem postGrades_bandsOnly (f : HeldGrades → HeldGrades) (s : State) : BandsOnly s (postGrades f s) := by
  have hheld : BandsOnly s (withGrades f s) := bandsOnly_of_updates rfl rfl rfl rfl
  refine hheld.trans (foldl_related BandsOnly.refl BandsOnly.trans _ (fun t c _ => ?_) _)
  dsimp only
  split
  · exact .refl t
  · exact gradeChanged_bandsOnly c _ _ t

theorem postBands_bandsOnly (s : State) : BandsOnly s (postBands s) := by
  unfold postBands
  dsimp only
  split
  · exact postGrades_bandsOnly _ s
  · exact (postGrades_bandsOnly _ s).trans (postContribution_bandsOnly ..)

/-! ## Entries of bands and writes that take effect (R68) -/

/-- A band that falls to grade 0 clears at most its own alarm (R80). -/
theorem bandAlarms_zero_bandsOnly (b : Fin 24) (old : Nat) (s : State) : BandsOnly s (bandAlarms b old 0 s) := by
  unfold bandAlarms
  by_cases h0 : old = 0
  · simpa [h0] using BandsOnly.refl s
  · by_cases h1 : old = 1
    · simpa [h0, h1] using clearAlarm_bandsOnly (.inl rfl) _ s
    · by_cases h2 : old = 2
      · simpa [h0, h1, h2] using clearAlarm_bandsOnly (.inr (.inl rfl)) _ s
      · simpa [h0, h1, h2] using BandsOnly.refl s

theorem enterBand_bandsOnly (mode : BandMode) (b : Fin 24) (s : State) : BandsOnly s (enterBand mode b s) := by
  have hentered : BandsOnly s (withBand b (BandState.entered mode) (bandAlarms b s.mon.bands[b].grade 0 s)) :=
    (bandAlarms_zero_bandsOnly b _ s).trans (bandsOnly_of_updates rfl rfl rfl rfl)
  unfold enterBand
  dsimp only
  split
  · exact hentered.trans (bandsOnly_of_updates rfl rfl rfl rfl)
  · exact hentered

theorem settleBand_bandsOnly (old : ConfigSection) (s : State) (b : Fin 24) : BandsOnly s (settleBand old s b) := by
  unfold settleBand
  split
  · exact .refl s
  · exact enterBand_bandsOnly _ b s

/-- A write of a measurement or a band that takes effect reaches the bands and what they post (R68, R81, R82). -/
theorem takeEffect_bandsOnly (f : ConfigSection → ConfigSection) (s : State)
    (hf : f s.cfg = { s.cfg with measurements := (f s.cfg).measurements, bands := (f s.cfg).bands }) :
    BandsOnly s (takeEffect f s) := by
  have hwrite : BandsOnly s { s with cfg := f s.cfg } := bandsOnly_of_updates hf rfl rfl rfl
  exact (hwrite.trans (foldl_related BandsOnly.refl BandsOnly.trans _
    (fun t b _ => settleBand_bandsOnly s.cfg t b) _)).trans
    (postBands_bandsOnly _)

/-! ## Work records -/

@[simp] theorem withWork_work_self (m : Fin 8) (f : WorkRecord → WorkRecord) (s : State) :
    (withWork m f s).gvm.work[m] = f s.gvm.work[m] := by simp [withWork]

theorem withWork_work_ne {m k : Fin 8} (h : k ≠ m) (f : WorkRecord → WorkRecord) (s : State) :
    (withWork m f s).gvm.work[k] = s.gvm.work[k] := by
  have hv : m.val ≠ k.val := fun e => h (Fin.ext e.symm)
  simp [withWork, hv]

/-- A write held for a measurement leaves the holder: it takes effect, or a measurement write is dropped (R84). -/
theorem applyPending_cases (m : Fin 8) (s : State) :
    (s.gvm.work[m].pending = none ∧ applyPending m s = s) ∨
      ∃ w outcome u f, s.gvm.work[m].pending = some w ∧ applyPending m s = countGvm f u ∧
        BandsOnly (emptyHolder m outcome s) u ∧
        (outcome = .applied ∨ outcome = .dropped ∧ ∃ v, w = .measurement v) ∧
        ∀ c : GvmCounters, f c = { c with pendingApplied := (f c).pendingApplied, pendingDropped := (f c).pendingDropped } := by
  unfold applyPending
  cases hp : s.gvm.work[m].pending with
  | none => exact .inl ⟨rfl, rfl⟩
  | some w =>
    refine .inr ?_
    cases w with
    | measurement v =>
      dsimp only
      split
      · exact ⟨_, .dropped, _, _, rfl, rfl, .refl _, .inr ⟨rfl, v, rfl⟩, fun _ => rfl⟩
      · exact ⟨_, .applied, _, _, rfl, rfl, takeEffect_bandsOnly _ _ rfl, .inl rfl, fun _ => rfl⟩
    | band b v => exact ⟨_, .applied, _, _, rfl, rfl, takeEffect_bandsOnly _ _ rfl, .inl rfl, fun _ => rfl⟩

/-! ## The end of work (R71) -/

/-- `w'` is the work record `w` after an end of work: IDLE, the holder emptied (R71, R84). -/
structure WorkEnded (w w' : WorkRecord) : Prop where
  idle : w'.work = .idle
  outstanding : w'.outstanding = none
  context : w'.context = none
  pending : w'.pending = none
  kept : w.pending = none → w'.outcome = w.outcome
  band : ∀ i v, w.pending = some (.band i v) → w'.outcome = .applied
  measurement : ∀ v, w.pending = some (.measurement v) → w'.outcome = .applied ∨ w'.outcome = .dropped

/-- A work record without work, context or outstanding arrival number (R71). -/
def WorkRecord.idled (w : WorkRecord) : WorkRecord := { w with work := .idle, outstanding := none, context := none }

theorem idled_work_self (m : Fin 8) (s : State) :
    (clearSkipMarks m (idleWork m s)).gvm.work[m] = s.gvm.work[m].idled := withWork_work_self m WorkRecord.idled s

theorem idled_work_ne {m k : Fin 8} (h : k ≠ m) (s : State) :
    (clearSkipMarks m (idleWork m s)).gvm.work[k] = s.gvm.work[k] := withWork_work_ne h WorkRecord.idled s

/-- Without a held write an end of work idles the measurement and clears its skip marks, and nothing else (R71). -/
theorem endOfWork_of_pending_none (m : Fin 8) (s : State) (h : s.gvm.work[m].pending = none) :
    endOfWork m s = clearSkipMarks m (idleWork m s) := by
  have hnone : (clearSkipMarks m (idleWork m s)).gvm.work[m].pending = none :=
    (congrArg WorkRecord.pending (idled_work_self m s)).trans h
  simp only [endOfWork, applyPending, hnone]

/-- What an end of work reaches: the record of its own measurement, the bands and, among the counters, those of held writes. -/
structure WorkEndReach (m : Fin 8) (s t : State) : Prop extends GvmOnly s t where
  self : WorkEnded s.gvm.work[m] t.gvm.work[m]
  others : ∀ k, k ≠ m → t.gvm.work[k] = s.gvm.work[k]
  counters : t.gvm.counters =
    { s.gvm.counters with
      pendingApplied := t.gvm.counters.pendingApplied, pendingDropped := t.gvm.counters.pendingDropped }

theorem idled_gvmOnly (m : Fin 8) (s : State) : GvmOnly s (clearSkipMarks m (idleWork m s)) :=
  gvmOnly_of_updates rfl rfl rfl

theorem endOfWork_reach (m : Fin 8) (s : State) : WorkEndReach m s (endOfWork m s) := by
  have hpending : (clearSkipMarks m (idleWork m s)).gvm.work[m].pending = s.gvm.work[m].pending := by
    rw [idled_work_self]; rfl
  unfold endOfWork
  rcases applyPending_cases m (clearSkipMarks m (idleWork m s)) with ⟨hp, he⟩ | ⟨w, outcome, u, f, hp, he, hu, ho, hf⟩
  · rw [he]
    rw [hpending] at hp
    refine ⟨idled_gvmOnly m s, ?_, fun k h => idled_work_ne h s, rfl⟩
    rw [idled_work_self]
    exact ⟨rfl, rfl, rfl, hp, fun _ => rfl, fun i v h => (nomatch hp.symm.trans h), fun v h => (nomatch hp.symm.trans h)⟩
  · rw [he]
    rw [hpending] at hp
    have hwork : u.gvm.work = (emptyHolder m outcome (clearSkipMarks m (idleWork m s))).gvm.work := by rw [hu.gvm]
    have hcounters : u.gvm.counters = s.gvm.counters := by rw [hu.gvm]; rfl
    have hself : u.gvm.work[m] = { s.gvm.work[m].idled with pending := none, outcome := outcome } := by
      rw [hwork, emptyHolder, withWork_work_self, idled_work_self]
    have hempty : GvmOnly s (emptyHolder m outcome (clearSkipMarks m (idleWork m s))) :=
      (idled_gvmOnly m s).trans (gvmOnly_of_updates rfl rfl rfl)
    refine ⟨(hempty.trans hu.toGvmOnly).trans (gvmOnly_of_updates rfl rfl rfl), ?_, fun k h => ?_, ?_⟩
    · show WorkEnded s.gvm.work[m] u.gvm.work[m]
      rw [hself]
      refine ⟨rfl, rfl, rfl, rfl, fun h => (nomatch hp.symm.trans h), fun i v h => ?_, fun v _ => ho.imp_right And.left⟩
      rcases ho with rfl | ⟨-, v', rfl⟩
      · rfl
      · rw [hp] at h; cases h
    · show u.gvm.work[k] = _
      rw [hwork, emptyHolder, withWork_work_ne h, idled_work_ne h]
    · show f u.gvm.counters = { s.gvm.counters with
        pendingApplied := (f u.gvm.counters).pendingApplied, pendingDropped := (f u.gvm.counters).pendingDropped }
      rw [hcounters]
      exact hf _

end Sys2Proof.Machine
end

section
/-! Aborted captures (R17): what the abort of a set of buffers does at their owners, for a bias fault (R4) and for a converter
check that fails (R7). -/

namespace Sys2Proof.Machine

/-! ## The measurement that fills a buffer -/

/-- Whether a work record is that of a measurement CAPTURING into a buffer. -/
def WorkRecord.fills (b : BufferId) (w : WorkRecord) : Bool := w.work = .capturing && w.context.any (·.buffer = b)

theorem fills_iff (m : Fin 8) (b : BufferId) (s : State) : s.gvm.work[m].fills b = true ↔ CapturesInto m b s := by
  unfold WorkRecord.fills CapturesInto
  cases s.gvm.work[m].context <;> simp

theorem capturingOn_eq (b : BufferId) (s : State) :
    capturingOn b s = (List.finRange 8).find? fun m => s.gvm.work[m].fills b := by
  unfold capturingOn WorkRecord.fills
  congr 1
  funext m
  cases s.gvm.work[m].context <;> rfl

theorem capturesInto_of_capturingOn {b : BufferId} {s : State} {m : Fin 8} (h : capturingOn b s = some m) :
    CapturesInto m b s := by
  rw [capturingOn_eq] at h
  exact (fills_iff m b s).mp (List.find?_some (p := fun k : Fin 8 => s.gvm.work[k].fills b) h)

theorem capturingOn_ne_none {b : BufferId} {s : State} {m : Fin 8} (h : CapturesInto m b s) :
    capturingOn b s ≠ none := by
  rw [capturingOn_eq]
  exact fun hn => List.find?_eq_none.mp hn m (List.mem_finRange m) ((fills_iff m b s).mpr h)

/-- The one measurement that fills a buffer is found. -/
theorem capturingOn_eq_some {b : BufferId} {s : State} {m : Fin 8} (h : CapturesInto m b s)
    (hone : ∀ k, CapturesInto k b s → k = m) : capturingOn b s = some m := by
  obtain ⟨k, hk⟩ := Option.ne_none_iff_exists'.mp (capturingOn_ne_none h)
  rw [hk, hone k (capturesInto_of_capturingOn hk)]

/-- A measurement fills one buffer at most. -/
theorem CapturesInto.buffer_unique {m : Fin 8} {b d : BufferId} {s : State} (h : CapturesInto m b s)
    (k : CapturesInto m d s) : b = d := by
  obtain ⟨-, c, hc, rfl⟩ := h
  obtain ⟨-, c', hc', rfl⟩ := k
  rw [hc] at hc'
  cases hc'
  rfl

theorem capturingOn_congr {b : BufferId} {s t : State} (h : ∀ k, CapturesInto k b t ↔ CapturesInto k b s) :
    capturingOn b t = capturingOn b s := by
  rw [capturingOn_eq, capturingOn_eq]
  congr 1
  funext m
  exact Bool.eq_iff_iff.mpr (((fills_iff m b t).trans (h m)).trans (fills_iff m b s).symm)

theorem capturesInto_of_gvm_eq {s t : State} (h : t.gvm = s.gvm) (m : Fin 8) (b : BufferId) :
    CapturesInto m b t ↔ CapturesInto m b s := by
  unfold CapturesInto
  rw [h]

theorem capturingOn_of_gvm_eq {s t : State} (h : t.gvm = s.gvm) (b : BufferId) : capturingOn b t = capturingOn b s :=
  capturingOn_congr fun k => capturesInto_of_gvm_eq h k b

/-! ## The abort report at each owner -/

/-- What an abort report can reach: monitors, and no capture and no request. -/
structure AbortReach (s t : State) : Prop extends MonitorsOnly s t where
  spe : t.spe = s.spe
  afe : t.afe = { s.afe with buffers := t.afe.buffers }

theorem AbortReach.refl (s : State) : AbortReach s s := ⟨.refl s, rfl, rfl⟩

theorem AbortReach.trans {s t u : State} (h : AbortReach s t) (k : AbortReach t u) : AbortReach s u where
  toMonitorsOnly := h.toMonitorsOnly.trans k.toMonitorsOnly
  spe := k.spe.trans h.spe
  afe := by rw [k.afe, h.afe]

/-- The count of an abort at the GVM, by its reason (R75). -/
def countAbort (converter : Bool) (c : GvmCounters) : GvmCounters :=
  if converter then { c with abortConverter := inc16 c.abortConverter }
  else { c with abortChannelFault := inc16 c.abortChannelFault }

/-- An abort report to the GVM ends the work of the measurement that fills the buffer, if there is one (R75). -/
theorem gvmAbort_eq (b : BufferId) (converter : Bool) (s : State) :
    gvmAbort b converter s =
      match capturingOn b s with
      | none => s
      | some m => endOfWork m (countGvm (countAbort converter) s) := rfl

theorem gvmAbort_gvmOnly (b : BufferId) (converter : Bool) (s : State) : GvmOnly s (gvmAbort b converter s) := by
  rw [gvmAbort_eq]
  split
  · exact .refl s
  · next m _ =>
    exact (gvmOnly_of_updates rfl rfl rfl : GvmOnly s (countGvm (countAbort converter) s)).trans
      (endOfWork_reach m _).toGvmOnly

theorem gvmAbort_work (b : BufferId) (converter : Bool) (s : State) (k : Fin 8) :
    (capturingOn b s = some k → WorkEnded s.gvm.work[k] (gvmAbort b converter s).gvm.work[k]) ∧
      (capturingOn b s ≠ some k → (gvmAbort b converter s).gvm.work[k] = s.gvm.work[k]) := by
  rw [gvmAbort_eq]
  cases hc : capturingOn b s with
  | none => simp
  | some m =>
    have hreach := endOfWork_reach m (countGvm (countAbort converter) s)
    refine ⟨fun h => ?_, fun h => hreach.others k fun e => h (by rw [e])⟩
    cases h
    exact hreach.self

/-- An abort counts at its reason where a measurement filled the buffer (R75). -/
theorem gvmAbort_counters (b : BufferId) (converter : Bool) (s : State) :
    let c := s.gvm.counters
    let c' := (gvmAbort b converter s).gvm.counters
    c'.abortConverter = (if converter && (capturingOn b s).isSome then inc16 c.abortConverter else c.abortConverter) ∧
      c'.abortChannelFault =
        (if !converter && (capturingOn b s).isSome then inc16 c.abortChannelFault else c.abortChannelFault) := by
  dsimp only
  rw [gvmAbort_eq]
  cases hc : capturingOn b s with
  | none => simp
  | some m =>
    dsimp only
    rw [(endOfWork_reach m (countGvm (countAbort converter) s)).counters]
    cases converter <;> simp [countGvm, countAbort]

/-- An abort report to the grid monitor changes the GHM and the day record. -/
theorem ghmAbort_eq (b : BufferId) (s : State) :
    ghmAbort b s = { s with ghm := (ghmAbort b s).ghm, plan := (ghmAbort b s).plan } := by
  unfold ghmAbort
  split
  · rfl
  · exact settleWindow_eq ..

theorem monitorsOnly_of_updates {s t : State} (halarms : t.ccu = s.ccu)
    (h : t = { s with plan := t.plan, afe := t.afe, ghm := t.ghm, bim := t.bim, ccu := t.ccu }) : MonitorsOnly s t where
  ptu := (congrArg State.ptu h :)
  rch := (congrArg State.rch h :)
  cal := (congrArg State.cal h :)
  ret := (congrArg State.ret h :)
  records := (congrArg State.records h :)
  alarms c x _ _ _ := by rw [alarmsOf, halarms]; rfl
  count := halarms ▸ le_rfl

theorem reportAbort_reach (b : BufferId) (converter : Bool) (s : State) :
    MonitorsOnly s (reportAbort b converter s) ∧ (reportAbort b converter s).spe = s.spe ∧
      (reportAbort b converter s).afe = s.afe := by
  unfold reportAbort
  split
  · exact ⟨(gvmAbort_gvmOnly ..).toMonitorsOnly, (gvmAbort_gvmOnly ..).spe, (gvmAbort_gvmOnly ..).afe⟩
  · exact ⟨monitorsOnly_of_updates rfl rfl, rfl, rfl⟩
  · rw [ghmAbort_eq]
    exact ⟨monitorsOnly_of_updates rfl rfl, rfl, rfl⟩

/-! ## The abort of a set of buffers -/

/-- One buffer of the set `hit` is aborted. -/
def abortStep (converter : Bool) (hit : BufferId → Bool) (s : State) (b : BufferId) : State :=
  if hit b then reportAbort b converter (setBuffer b .free s) else s

/-- The buffers of the set `hit` are aborted in the order of the AFE (log entry 22). -/
def abortAll (converter : Bool) (hit : BufferId → Bool) (s : State) : State :=
  allBuffers.foldl (abortStep converter hit) s

variable {converter : Bool} {hit : BufferId → Bool}

theorem abortStep_reach (s : State) (b : BufferId) : AbortReach s (abortStep converter hit s b) := by
  unfold abortStep
  split
  · obtain ⟨hmon, hspe, hafe⟩ := reportAbort_reach b converter (setBuffer b .free s)
    have hset : MonitorsOnly s (setBuffer b .free s) := monitorsOnly_of_updates rfl rfl
    exact ⟨hset.trans hmon, hspe, by rw [hafe]; rfl⟩
  · exact .refl s

theorem abortAll_reach (s : State) : AbortReach s (abortAll converter hit s) :=
  foldl_related AbortReach.refl AbortReach.trans _ (fun t b _ => abortStep_reach t b) _

theorem bufferOf_abortStep (s : State) (b d : BufferId) :
    bufferOf (abortStep converter hit s b) d = if d = b ∧ hit b = true then .free else bufferOf s d := by
  unfold abortStep
  by_cases h : hit b = true
  · rw [if_pos h, bufferOf_congr (reportAbort_reach b converter (setBuffer b .free s)).2.2, bufferOf_setBuffer]
    simp [h]
  · simp [h]

/-- The aborted buffers are FREE, the others as they were (R17). -/
theorem bufferOf_abortAll (s : State) (b : BufferId) :
    bufferOf (abortAll converter hit s) b = if hit b then .free else bufferOf s b := by
  cases b <;> simp [abortAll, allBuffers, bufferOf_abortStep]

/-- Aborts that look at each buffer when its turn comes reach the buffers that they find at the outset. -/
theorem foldl_abort_eq (q : Buffer → Bool) (l : List BufferId) (hl : l.Nodup) (s t : State)
    (ht : ∀ b ∈ l, bufferOf t b = bufferOf s b) :
    l.foldl (fun u b => if q (bufferOf u b) then reportAbort b converter (setBuffer b .free u) else u) t =
      l.foldl (abortStep converter fun b => q (bufferOf s b)) t := by
  induction l generalizing t with
  | nil => rfl
  | cons b l ih =>
    obtain ⟨hb, hl⟩ := List.nodup_cons.mp hl
    have hnext := ih hl (abortStep converter (fun b => q (bufferOf s b)) t b) fun d hd => by
      rw [bufferOf_abortStep, if_neg fun h : d = b ∧ _ => hb (h.1 ▸ hd), ht d (List.mem_cons_of_mem b hd)]
    rw [List.foldl_cons, List.foldl_cons, ← hnext]
    simp only [abortStep, ht b List.mem_cons_self]

/-! ## The owners after the aborts -/

theorem abortStep_gvm_of_owner_ne {b : BufferId} (hb : bufferOwner b ≠ .gvm) (s : State) :
    (abortStep converter hit s b).gvm = s.gvm := by
  unfold abortStep reportAbort
  split
  · split
    · contradiction
    · rfl
    · rw [ghmAbort_eq]; rfl
  · rfl

theorem abortStep_bim_of_owner_ne {b : BufferId} (hb : bufferOwner b ≠ .bim) (s : State) :
    (abortStep converter hit s b).bim = s.bim := by
  unfold abortStep reportAbort
  split
  · split
    · exact (gvmAbort_gvmOnly ..).bim
    · contradiction
    · rw [ghmAbort_eq]; rfl
  · rfl

theorem abortStep_ghm_of_owner_ne {b : BufferId} (hb : bufferOwner b ≠ .ghm) (s : State) :
    (abortStep converter hit s b).ghm = s.ghm := by
  unfold abortStep reportAbort
  split
  · split
    · exact (gvmAbort_gvmOnly ..).ghm
    · rfl
    · contradiction
  · rfl

theorem abortAll_gvm (s : State) :
    (abortAll converter hit s).gvm =
      (abortStep converter hit (abortStep converter hit s .gvmA) .gvmB).gvm := by
  simp only [abortAll, allBuffers, List.foldl_cons, List.foldl_nil]
  rw [abortStep_gvm_of_owner_ne (by decide), abortStep_gvm_of_owner_ne (by decide),
    abortStep_gvm_of_owner_ne (by decide)]

/-- An abort report to the icing monitor acts on its state alone (R116). -/
theorem bimAbort_bim {s t : State} (h : t.bim = s.bim) : (bimAbort converter t).bim = (bimAbort converter s).bim := by
  simp only [bimAbort, countBim, setOutstanding, h]

/-- With BIM-A aborted the peak capture is over and counted (R116). -/
theorem abortAll_bim (s : State) :
    (abortAll converter hit s).bim = if hit .bimA then (bimAbort converter s).bim else s.bim := by
  simp only [abortAll, allBuffers, List.foldl_cons, List.foldl_nil]
  rw [abortStep_bim_of_owner_ne (by decide), abortStep_bim_of_owner_ne (by decide)]
  have hkept : (abortStep converter hit (abortStep converter hit s .gvmA) .gvmB).bim = s.bim := by
    rw [abortStep_bim_of_owner_ne (by decide), abortStep_bim_of_owner_ne (by decide)]
  by_cases h : hit .bimA = true
  · rw [abortStep, if_pos h, if_pos h]
    exact bimAbort_bim hkept
  · rw [abortStep, if_neg h, if_neg h, hkept]

theorem abortStep_ghm (s : State) {b : BufferId} (hb : bufferOwner b = .ghm) :
    (abortStep converter hit s b).ghm = if hit b then (ghmAbort b (setBuffer b .free s)).ghm else s.ghm := by
  unfold abortStep reportAbort
  rw [hb]
  split <;> rfl

/-! ### Measurements -/

section
variable {b : BufferId} (hb : bufferOwner b = .gvm)
include hb

theorem abortStep_eq_gvmAbort (h : hit b = true) (s : State) :
    abortStep converter hit s b = gvmAbort b converter (setBuffer b .free s) := by
  simp [abortStep, h, reportAbort, hb]

theorem abortStep_work (s : State) (k : Fin 8) :
    (hit b = true → capturingOn b s = some k → WorkEnded s.gvm.work[k] (abortStep converter hit s b).gvm.work[k]) ∧
      (¬ (hit b = true ∧ capturingOn b s = some k) → (abortStep converter hit s b).gvm.work[k] = s.gvm.work[k]) := by
  by_cases h : hit b = true
  · rw [abortStep_eq_gvmAbort hb h]
    obtain ⟨hended, hkept⟩ := gvmAbort_work b converter (setBuffer b .free s) k
    exact ⟨fun _ => hended, fun hn => hkept fun hc => hn ⟨h, hc⟩⟩
  · simp [abortStep, h]

/-- The abort of one buffer leaves the measurement that fills another. -/
theorem abortStep_capturingOn {d : BufferId} (hd : d ≠ b) (s : State) :
    capturingOn d (abortStep converter hit s b) = capturingOn d s := by
  refine capturingOn_congr fun k => ?_
  obtain ⟨hended, hkept⟩ := abortStep_work (converter := converter) (hit := hit) hb s k
  by_cases hk : hit b = true ∧ capturingOn b s = some k
  · have hidle := (hended hk.1 hk.2).idle
    refine ⟨fun h => absurd h.1 (by rw [hidle]; decide), fun h => absurd ?_ hd⟩
    exact h.buffer_unique (capturesInto_of_capturingOn hk.2)
  · unfold CapturesInto
    rw [hkept hk]

theorem abortStep_counters (s : State) :
    let c := s.gvm.counters
    let c' := (abortStep converter hit s b).gvm.counters
    let counted := hit b && (capturingOn b s).isSome
    c'.abortConverter = (if converter && counted then inc16 c.abortConverter else c.abortConverter) ∧
      c'.abortChannelFault = (if !converter && counted then inc16 c.abortChannelFault else c.abortChannelFault) := by
  by_cases h : hit b = true
  · rw [abortStep_eq_gvmAbort hb h]
    have hcounters := gvmAbort_counters b converter (setBuffer b .free s)
    rw [capturingOn_of_gvm_eq (setBuffer_gvm b .free s)] at hcounters
    simpa only [h, Bool.true_and, setBuffer_gvm] using hcounters
  · simp [abortStep, h]

end

/-- The measurements that filled aborted buffers are IDLE, the others as they were (R71, R75, R84). -/
theorem abortAll_work (s : State) : GvmWorkAborted hit s (abortAll converter hit s) := by
  intro m
  rw [abortAll_gvm]
  have hother : capturingOn .gvmB (abortStep converter hit s .gvmA) = capturingOn .gvmB s :=
    abortStep_capturingOn rfl (by decide) s
  obtain ⟨hendedA, hkeptA⟩ := abortStep_work (converter := converter) (hit := hit) (b := .gvmA) rfl s m
  obtain ⟨hendedB, hkeptB⟩ := abortStep_work (converter := converter) (hit := hit) (b := .gvmB) rfl
    (abortStep converter hit s .gvmA) m
  rw [hother] at hendedB hkeptB
  refine ⟨fun b hb hhit hcap hone => ?_, fun hnone => ?_⟩
  · suffices h : WorkEnded s.gvm.work[m]
        (abortStep converter hit (abortStep converter hit s .gvmA) .gvmB).gvm.work[m] from
      ⟨h.idle, h.outstanding, h.context, h.pending, h.kept, h.band, h.measurement⟩
    have hfound := capturingOn_eq_some hcap hone
    rcases hb with rfl | rfl
    · rw [hkeptB fun h => absurd (hcap.buffer_unique (capturesInto_of_capturingOn h.2)) (by decide)]
      exact hendedA hhit hfound
    · rw [← hkeptA fun h => absurd (hcap.buffer_unique (capturesInto_of_capturingOn h.2)) (by decide)]
      exact hendedB hhit hfound
  · rw [hkeptB fun h => hnone .gvmB (.inr rfl) h.1 (capturesInto_of_capturingOn h.2)]
    exact hkeptA fun h => hnone .gvmA (.inl rfl) h.1 (capturesInto_of_capturingOn h.2)

/-- The abort counter goes up for one buffer after the other (R75). -/
theorem abortsCounted_eq (s : State) (counter : Nat) :
    abortsCounted hit s counter =
      let one := if hit .gvmA && (capturingOn .gvmA s).isSome then inc16 counter else counter
      if hit .gvmB && (capturingOn .gvmB s).isSome then inc16 one else one := by
  have twice : inc16 (inc16 counter) = min (counter + 2) 65535 := by unfold inc16; omega
  unfold abortsCounted
  rw [List.filter_cons, List.filter_cons, List.filter_nil]
  cases hit .gvmA && (capturingOn .gvmA s).isSome <;> cases hit .gvmB && (capturingOn .gvmB s).isSome
  · rfl
  · rfl
  · rfl
  · exact twice.symm

/-- The aborts count once for each GVM buffer that a measurement filled, at their reason (R75). -/
theorem abortAll_counters (s : State) :
    let c := s.gvm.counters
    let c' := (abortAll converter hit s).gvm.counters
    c'.abortConverter = (if converter then abortsCounted hit s c.abortConverter else c.abortConverter) ∧
      c'.abortChannelFault = (if converter then c.abortChannelFault else abortsCounted hit s c.abortChannelFault) := by
  dsimp only
  rw [abortAll_gvm]
  have hother : capturingOn .gvmB (abortStep converter hit s .gvmA) = capturingOn .gvmB s :=
    abortStep_capturingOn rfl (by decide) s
  obtain ⟨hconvA, hchanA⟩ := abortStep_counters (converter := converter) (hit := hit) (b := .gvmA) rfl s
  obtain ⟨hconvB, hchanB⟩ := abortStep_counters (converter := converter) (hit := hit) (b := .gvmB) rfl
    (abortStep converter hit s .gvmA)
  rw [hother, hconvA] at hconvB
  rw [hother, hchanA] at hchanB
  rw [hconvB, hchanB]
  rw [abortsCounted_eq, abortsCounted_eq]
  cases converter <;> cases hit .gvmA && (capturingOn .gvmA s).isSome <;>
    cases hit .gvmB && (capturingOn .gvmB s).isSome <;> exact ⟨rfl, rfl⟩

end Sys2Proof.Machine
end

section
/-! Bias faults (R4) and converter checks (R6 to R8). -/

namespace Sys2Proof.Machine

/-! ## The compliance ring outlives a raise -/

@[simp] theorem takeSnapshot_ring (c : AlarmCode) (x : Source) (s : State) :
    (takeSnapshot c x s).records.ring = s.records.ring := by unfold takeSnapshot; split <;> rfl

@[simp] theorem enteredActive_ring (b : Bool) (c : AlarmCode) (x : Source) (s : State) :
    (enteredActive b c x s).records.ring = s.records.ring := by simp only [enteredActive]; split <;> simp

@[simp] theorem createAlarm_ring (b : Bool) (c : AlarmCode) (x : Source) (s : State) :
    (createAlarm b c x s).records.ring = s.records.ring := by simp [createAlarm]

@[simp] theorem raiseIntoFull_ring (b : Bool) (c : AlarmCode) (x : Source) (s : State) :
    (raiseIntoFull b c x s).records.ring = s.records.ring := by unfold raiseIntoFull; split <;> [skip; split] <;> simp

@[simp] theorem raise_ring (c : AlarmCode) (x : Source) (s : State) : (raise c x s).records.ring = s.records.ring := by
  unfold raise raiseWith; split <;> split <;> simp

/-! ## Aborts seen from states with the same GVM -/

theorem GvmWorkAborted.congr {hit : BufferId → Bool} {s s' t t' : State} (hs : s'.gvm = s.gvm) (ht : t'.gvm = t.gvm)
    (h : GvmWorkAborted hit s t) : GvmWorkAborted hit s' t' := by
  unfold GvmWorkAborted CapturesInto at *
  rw [hs, ht]
  exact h

theorem abortsCounted_of_gvm_eq {hit : BufferId → Bool} {s t : State} (h : t.gvm = s.gvm) (n : Nat) :
    abortsCounted hit t n = abortsCounted hit s n := by
  rw [abortsCounted_eq, abortsCounted_eq, capturingOn_of_gvm_eq h, capturingOn_of_gvm_eq h]

/-! ## Bias faults (R4) -/

theorem fillsChannel_iff (ch : Accel) (x : Buffer) :
    fillsChannel ch x = true ↔ ∃ r d n, x = .filling r ∧ r.kind = .fixed ch d n := by
  cases x with
  | filling r => cases hk : r.kind <;> simp [fillsChannel, hk, eq_comm]
  | free | full r | inAnalysis r => simp [fillsChannel]

theorem isFilling_of_fillsChannel {ch : Accel} {x : Buffer} (h : fillsChannel ch x = true) : x.isFilling = true := by
  obtain ⟨r, -, -, rfl, -⟩ := (fillsChannel_iff ch x).mp h
  rfl

/-- The aborts of a channel reach the FIXED captures that fill on it at the outset (R4). -/
theorem abortChannel_eq (ch : Accel) (s : State) :
    abortChannel ch s = abortAll false (fun b => fillsChannel ch (bufferOf s b)) s := by
  have hstep : (fun u b => if fillsChannel ch (bufferOf u b) then abortBuffer false u b else u) =
      fun u b => if fillsChannel ch (bufferOf u b) then reportAbort b false (setBuffer b .free u) else u := by
    funext u b
    by_cases h : fillsChannel ch (bufferOf u b) = true
    · simp [h, abortBuffer, isFilling_of_fillsChannel h]
    · simp [h]
  unfold abortChannel
  rw [hstep, foldl_abort_eq (fillsChannel ch) allBuffers (by decide) s s fun _ _ => rfl]
  rfl

/-- The state that a bias out of range gives before the captures of its channel are aborted (R4). -/
def biasFaulted (ch : Accel) (bias : Int) (s : State) : State :=
  raise .sensorFault (.accel ch) (setAccel ch { fault := biasFaultOf bias } s)

theorem biasFaulted_afe (ch : Accel) (bias : Int) (s : State) :
    (biasFaulted ch bias s).afe = { s.afe with accel := s.afe.accel.set ch { fault := biasFaultOf bias } } :=
  raise_afe ..

theorem bufferOf_biasFaulted (ch : Accel) (bias : Int) (s : State) (b : BufferId) :
    bufferOf (biasFaulted ch bias s) b = bufferOf s b := by
  unfold bufferOf
  rw [biasFaulted_afe]

@[simp] theorem biasFaulted_gvm (ch : Accel) (bias : Int) (s : State) : (biasFaulted ch bias s).gvm = s.gvm :=
  raise_gvm ..

/-- A bias out of range sets the fault state, raises SENSOR_FAULT and aborts the captures of the channel (R4). -/
theorem afeBiasFault_eq (ch : Accel) (bias : Int) (s : State) (h : bias < 2000 ∨ 22000 < bias) :
    afeBiasFault ch bias s =
      abortAll false (fun b => fillsChannel ch (bufferOf s b)) (biasFaulted ch bias s) := by
  have hout : biasInRange bias = false := by
    rw [Bool.eq_false_iff, ne_eq, biasInRange_iff]
    omega
  rw [afeBiasFault, hout, if_neg (by decide), abortChannel_eq]
  show abortAll false (fun b => fillsChannel ch (bufferOf (biasFaulted ch bias s) b)) _ = _
  simp only [bufferOf_biasFaulted]
  rfl

/-- Settles O3: the aborts follow the raise, and clear no alarm of the AFE. -/
theorem biasFaultEffect : Obligations.BiasFaultEffect := by
  intro ch bias s hop hbias
  refine ⟨_, inOperation_operating _ hop, ?_⟩
  rw [afeBiasFault_eq ch bias s hbias]
  let hit (b : BufferId) : Bool := fillsChannel ch (bufferOf s b)
  have hreach := abortAll_reach (converter := false) (hit := hit) (biasFaulted ch bias s)
  have hafe := hreach.afe.trans (by rw [biasFaulted_afe])
  have hbuffer (b : BufferId) :
      bufferOf (abortAll false hit (biasFaulted ch bias s)) b = if hit b then .free else bufferOf s b := by
    rw [bufferOf_abortAll, bufferOf_biasFaulted]
  obtain ⟨hconv, hchan⟩ := abortAll_counters (converter := false) (hit := hit) (biasFaulted ch bias s)
  have hgvm := biasFaulted_gvm ch bias s
  have hbim : (biasFaulted ch bias s).bim = s.bim := raise_bim ..
  refine ⟨(congrArg AfeState.accel hafe :), fun b hb => ?_, fun b hb => ?_,
    ⟨(abortAll_work _).congr hgvm.symm rfl, ?_, ?_, ?_⟩, fun hroom => ?_, (congrArg AfeState.converterFault hafe :),
    (congrArg AfeState.latestCheck hafe :), (congrArg AfeState.nextCheck hafe :), (congrArg AfeState.failedChecks hafe :),
    hreach.ptu.trans (raise_ptu ..), hreach.rch.trans (raise_rch ..), hreach.spe.trans (raise_spe ..),
    hreach.cal.trans (raise_cal ..), (congrArg RecordsSection.ring hreach.records).trans (raise_ring ..),
    hreach.ret.trans (raise_ret ..)⟩
  · exact (hbuffer b).trans (if_pos ((fillsChannel_iff ch _).mpr hb))
  · exact (hbuffer b).trans (if_neg fun h => hb ((fillsChannel_iff ch _).mp h))
  · rw [rechecked_gvm, hchan, hgvm]
    exact abortsCounted_of_gvm_eq hgvm _
  · rw [rechecked_gvm, hconv, hgvm]
    rfl
  · rw [rechecked_bim, abortAll_bim, bimAbort_bim hbim, hbim]
    rfl
  · exact hreach.alarmActive (by decide) (by decide) (by decide) (raise_active _ _ _ hroom)

/-! ## Aborted windows (R92) -/

variable {converter : Bool} {hit : BufferId → Bool}

theorem abortAll_of_none (h : ∀ b, hit b = false) (s : State) : abortAll converter hit s = s := by
  simp [abortAll, allBuffers, abortStep, h]

/-- Of the grid buffers at most one is aborted: its window is settled in a state with the GHM of the outset. -/
theorem abortAll_ghm (s : State) :
    (hit .ghmA = false → hit .ghmB = false → (abortAll converter hit s).ghm = s.ghm) ∧
      ∀ b, (b = .ghmA ∧ hit .ghmB = false ∨ b = .ghmB ∧ hit .ghmA = false) → hit b = true →
        ∃ u, u.ghm = s.ghm ∧ (abortAll converter hit s).ghm = (ghmAbort b u).ghm := by
  let s3 := [BufferId.gvmA, .gvmB, .bimA].foldl (abortStep converter hit) s
  have hkept : s3.ghm = s.ghm := by
    simp only [s3, List.foldl_cons, List.foldl_nil]
    rw [abortStep_ghm_of_owner_ne (by decide), abortStep_ghm_of_owner_ne (by decide),
      abortStep_ghm_of_owner_ne (by decide)]
  have hall : abortAll converter hit s = abortStep converter hit (abortStep converter hit s3 .ghmA) .ghmB := rfl
  rw [hall, abortStep_ghm _ rfl]
  refine ⟨fun hA hB => by rw [if_neg (by simp [hB]), abortStep_ghm _ rfl, if_neg (by simp [hA]), hkept], ?_⟩
  rintro b (⟨rfl, hB⟩ | ⟨rfl, hA⟩) h
  · exact ⟨setBuffer .ghmA .free s3, hkept, by rw [if_neg (by simp [hB]), abortStep_ghm _ rfl, if_pos h]⟩
  · exact ⟨setBuffer .ghmB .free s3, hkept, by simp [abortStep, h, hA]⟩

/-- An abort settles the OPEN window of its buffer MISSED (ABORTED), which stays listed (R92). -/
theorem ghmAbort_settles {b : BufferId} {e : WindowEntry} {s : State} (he : e ∈ s.ghm.entries) (hb : e.buffer = some b)
    (hopen : e.ended = false) (hone : ∀ x ∈ s.ghm.entries, x.buffer = some b → x = e) :
    { e with buffer := none, request := .none, outcome := some (.missed .aborted) } ∈ (ghmAbort b s).ghm.entries ∧
      (ghmAbort b s).ghm.window = s.ghm.window ∧
      (ghmAbort b s).ghm.counters.missedAborted = min (s.ghm.counters.missedAborted + 1) 65535 := by
  have hlist : entryWith b s = some e := by
    unfold entryWith
    cases hf : s.ghm.entries.find? (·.buffer = some b) with
    | none => exact absurd hb (by simpa using List.find?_eq_none.mp hf e he)
    | some x => rw [hone x (List.mem_of_find?_eq_some hf) (by simpa using List.find?_some hf)]
  have hsettle : ghmAbort b s = settleWindow e.number (.missed .aborted) s := by simp [ghmAbort, hlist]
  obtain ⟨hentries, hwindow, hcounters⟩ := settleWindow_ghm e.number (.missed .aborted) s
  rw [hsettle]
  exact ⟨hentries ▸ mem_settledEntries he hopen, hwindow, by rw [hcounters]; rfl⟩

/-! ## The converter check (R6 to R8) -/

/-- The state of the AFE that a check gives, before captures are aborted and the alarm follows (R6). -/
def checkedState (ch cq : Int) (s : State) : State :=
  { s with afe :=
    { s.afe with
      converterFault := !checkPasses ch cq
      latestCheck := some (ch, cq)
      nextCheck := 60
      failedChecks := if checkPasses ch cq then s.afe.failedChecks else inc16 s.afe.failedChecks } }

/-- What a check does to CONVERTER_FAULT, by the fault before it and whether it passes (R7, R8). -/
def checkAlarm (fault pass : Bool) (s : State) : State :=
  match fault, pass with
  | false, false => raise .converterFault .afe s
  | true, true => clearAlarm .converterFault .afe s
  | false, true | true, false => s

/-- The captures that a check aborts: after a failure in NORMAL every FILLING one (R7). -/
def checkHits (ch cq : Int) (s : State) (b : BufferId) : Bool :=
  !s.afe.converterFault && !checkPasses ch cq && (bufferOf s b).isFilling

theorem checkAlarm_frame (fault pass : Bool) (s : State) :
    let t := checkAlarm fault pass s
    t.afe = s.afe ∧ t.gvm = s.gvm ∧ t.bim = s.bim ∧ t.ghm = s.ghm ∧ t.ptu = s.ptu ∧ t.rch = s.rch ∧ t.spe = s.spe ∧
      t.cal = s.cal ∧ t.ret = s.ret := by
  cases fault <;> cases pass <;> simp [checkAlarm]

theorem foldl_abortBuffer (s : State) :
    allBuffers.foldl (abortBuffer true) s = abortAll true (fun b => (bufferOf s b).isFilling) s :=
  foldl_abort_eq Buffer.isFilling allBuffers (by decide) s s fun _ _ => rfl

/-- A check moves the AFE, aborts captures and acts on its alarm, in this order (log entry 55). -/
theorem checkConverter_eq (ch cq : Int) (s : State) :
    checkConverter ch cq s =
      checkAlarm s.afe.converterFault (checkPasses ch cq)
        (abortAll true (checkHits ch cq s) (checkedState ch cq s)) := by
  unfold checkConverter
  cases hf : s.afe.converterFault <;> cases hp : checkPasses ch cq
  · have hchecked : failCheck (recordCheck ch cq s) = checkedState ch cq s := by simp [checkedState, hp, failCheck, recordCheck]
    have hhits : checkHits ch cq s = fun b => (bufferOf (checkedState ch cq s) b).isFilling := by
      funext b
      simp [checkHits, hf, hp, bufferOf, checkedState]
    simp only [hchecked, foldl_abortBuffer, hhits, checkAlarm]
  · rw [abortAll_of_none (by simp [checkHits, hp])]
    simp [checkAlarm, checkedState, hp, recordCheck, ← hf]
  · rw [abortAll_of_none (by simp [checkHits, hf])]
    simp [checkAlarm, checkedState, hp, recordCheck, failCheck]
  · rw [abortAll_of_none (by simp [checkHits, hf])]
    simp [checkAlarm, checkedState, hp, recordCheck]

/-- Settles O5: `checkConverter_eq`, with what `abortAll` does at each owner. -/
theorem converterCheckEffect : Obligations.ConverterCheckEffect := by
  refine ⟨fun ch cq s hop hnext => ?_, fun ch cq s hop hnext => ?_⟩
  · have hstay : afeCheck ch cq s = s := if_neg hnext
    calc exec (.converterCheck ch cq) s = .next (rechecked s (afeCheck ch cq s)) := inOperation_operating _ hop
      _ = .next s := by rw [hstay, rechecked_self]
  · intro pass
    refine ⟨_, inOperation_operating _ hop, ?_⟩
    rw [show afeCheck ch cq s = checkConverter ch cq s from if_pos hnext, checkConverter_eq]
    obtain ⟨hafe, hgvm, hbim, hghm, hptu, hrch, hspe, hcal, hret⟩ := checkAlarm_frame s.afe.converterFault
      (checkPasses ch cq) (abortAll true (checkHits ch cq s) (checkedState ch cq s))
    have hreach := abortAll_reach (converter := true) (hit := checkHits ch cq s) (checkedState ch cq s)
    have hafe' := hafe.trans hreach.afe
    obtain ⟨hconv, hchan⟩ := abortAll_counters (converter := true) (hit := checkHits ch cq s) (checkedState ch cq s)
    obtain ⟨hwindows, hwindow⟩ := abortAll_ghm (converter := true) (hit := checkHits ch cq s) (checkedState ch cq s)
    refine ⟨(congrArg AfeState.converterFault hafe' :), (congrArg AfeState.latestCheck hafe' :),
      (congrArg AfeState.nextCheck hafe' :), (congrArg AfeState.failedChecks hafe' :),
      (congrArg AfeState.accel hafe' :), fun b => ?_,
      ⟨(abortAll_work (checkedState ch cq s)).congr rfl hgvm, ?_, ?_, fun hA hB => ?_, ?_, fun hA hB => ?_,
        fun b e he hside hhit hbuf hopen hone => ?_⟩, fun hf hp hroom => ?_, fun hf hp hkeyed => ?_, fun hsame => ?_,
      hptu.trans hreach.ptu, hrch.trans hreach.rch, hspe.trans hreach.spe, hcal.trans hreach.cal, hret.trans hreach.ret⟩
    · refine (bufferOf_congr hafe b).trans ((bufferOf_abortAll (checkedState ch cq s) b).trans ?_)
      simp only [checkHits, Bool.and_eq_true, Bool.not_eq_true', and_assoc]
      rfl
    · rw [rechecked_gvm, hgvm, hconv]
      exact abortsCounted_of_gvm_eq rfl _
    · rw [rechecked_gvm, hgvm, hchan]
      rfl
    · have hA' : checkHits ch cq s .gvmA = false := hA
      have hB' : checkHits ch cq s .gvmB = false := hB
      rw [rechecked_gvm, hgvm, abortAll_gvm]
      simp [abortStep, hA', hB', checkedState]
    · rw [rechecked_bim, hbim, abortAll_bim]
      rfl
    · exact hghm.trans (hwindows hA hB)
    · obtain ⟨u, hu, heq⟩ := hwindow b hside hhit
      have hsettled := ghmAbort_settles (hu ▸ he : e ∈ u.ghm.entries) hbuf hopen (hu ▸ hone)
      rwa [← heq, ← hghm, hu] at hsettled
    · have hroom' := hreach.hasRoom (c := .converterFault) (x := .afe) (by decide) (by decide) (by decide) hroom
      rw [hf, show checkPasses ch cq = false from hp]
      exact raise_active _ _ _ hroom'
    · have hp' : checkPasses ch cq = true := hp
      rw [abortAll_of_none (by simp [checkHits, hf]), hf, hp']
      exact clearAlarm_quiet .converterFault .afe (checkedState ch cq s) hkeyed
    · have hsame' : s.afe.converterFault = !checkPasses ch cq := hsame
      rw [abortAll_of_none (by simp [checkHits, hsame']), hsame']
      cases checkPasses ch cq <;> rfl

end Sys2Proof.Machine
end

section
/-! Completed FIXED captures (R13): the peak capture's request (R116), and the judgement of a measurement (R73, R74). -/

namespace Sys2Proof.Machine

/-! ## Submissions (R46 to R49) -/

/-- A completed FIXED capture holds its n samples under the same kind (R12, R13). -/
theorem completeFixed_fields {r r' : CaptureRecord} {segments : List (List Int)} {ch : Accel} {d n : Nat}
    (hk : r.kind = .fixed ch d n) (h : completeFixed r segments = some r') :
    r'.kind = .fixed ch d n ∧ r'.stored = r.stored + (n - r.stored) := by
  unfold completeFixed at h
  rw [hk] at h
  dsimp only at h
  split at h
  · cases h
  · cases h
    exact ⟨rfl, by simp⟩

/-- A FULL buffer of the source, unnamed, with a mode inside its limits is taken (R46). -/
theorem judgeSubmission_ok {source : Monitor} {b : BufferId} {mode : AnalysisMode} {s : State} {r : CaptureRecord}
    (hfull : bufferOf s b = .full r) (howner : bufferOwner b = source) (hname : bufferNamed b s = false)
    (hmode : modeOk source mode r = true) : judgeSubmission source b mode s = .ok r := by
  simp [judgeSubmission, hfull, howner, hname, hmode]

/-- The request that a submission accepts, with the next arrival number (R45, R47). -/
def newRequest (source : Monitor) (tag : Nat) (b : BufferId) (mode : AnalysisMode) (r : CaptureRecord) (s : State) :
    AnalysisRequest :=
  { source := source, tag := tag, buffer := b, mode := mode, clipped := r.clipped, arrival := nextArrival s.spe.arrival }

/-- The engine with an accepted request last in the queue, before a selection (R47). -/
def accepted (source : Monitor) (tag : Nat) (b : BufferId) (mode : AnalysisMode) (r : CaptureRecord) (s : State) : State :=
  let c := s.spe.counters.get source
  { s with spe :=
    { s.spe with
      queue := s.spe.queue ++ [newRequest source tag b mode r s]
      arrival := nextArrival s.spe.arrival
      counters := s.spe.counters.set source { c with accepted := inc16 c.accepted } } }

theorem submit_ok {source : Monitor} {b : BufferId} {mode : AnalysisMode} {s : State} {r : CaptureRecord} (tag : Nat)
    (hjudge : judgeSubmission source b mode s = .ok r) :
    submit source tag b mode s = (.ok (nextArrival s.spe.arrival), select (accepted source tag b mode r s)) := by
  simp only [submit, hjudge]
  rfl

/-- With another request in progress the accepted one waits (R48). -/
theorem select_accepted_busy {source : Monitor} {tag : Nat} {b : BufferId} {mode : AnalysisMode} {r : CaptureRecord}
    {s : State} (h : s.spe.inProgress ≠ none) :
    select (accepted source tag b mode r s) = accepted source tag b mode r s := by
  obtain ⟨q, hq⟩ := Option.ne_none_iff_exists'.mp h
  simp [select, accepted, hq]

/-- On an idle engine with nothing waiting the accepted request begins (R48). -/
theorem select_accepted_idle {source : Monitor} {tag : Nat} {b : BufferId} {mode : AnalysisMode} {r : CaptureRecord}
    {s : State} (hidle : s.spe.inProgress = none) (hqueue : s.spe.queue = []) :
    select (accepted source tag b mode r s) =
      beginRequest (newRequest source tag b mode r s) (accepted source tag b mode r s) := by
  have hchoose (m : Marker) (q : AnalysisRequest) : choose m [q] = some q := by
    cases hs : q.source <;> cases m <;> simp [choose, oldestOf, alternation, hs]
  simp [select, accepted, hidle, hqueue, hchoose]

/-! ## The peak capture (R116) -/

/-- The state in which the request of a completed peak capture has begun. -/
def peakBegun (k : Nat) (r' : CaptureRecord) (s : State) : State :=
  { s with
    afe := { s.afe with buffers := { s.afe.buffers with bimA := .inAnalysis r' } }
    spe :=
      { inProgress := some
          { source := .bim, tag := k, buffer := .bimA,
            mode := .peak 65536 16 s.cfg.bim.searchLo s.cfg.bim.searchHi s.cfg.bim.powerFloor,
            clipped := r'.clipped, arrival := (s.spe.arrival + 1) % 4294967296 }
        queue := []
        marker := .bim
        arrival := (s.spe.arrival + 1) % 4294967296
        counters :=
          { s.spe.counters with
            bim := { s.spe.counters.bim with accepted := min (s.spe.counters.bim.accepted + 1) 65535 } } } }

theorem submitPeak_begins {s : State} {k : Nat} {r' : CaptureRecord} (hkind : r'.kind = .fixed .n1 16 65536)
    (hstored : r'.stored = 65536) (hidle : s.spe.inProgress = none) (hqueue : s.spe.queue = [])
    (hrange : s.cfg.bim.searchLo ≤ s.cfg.bim.searchHi) (hhigh : s.cfg.bim.searchHi ≤ 25000)
    (hfloor : s.cfg.bim.powerFloor ≤ 281474976710655) :
    submitPeak k (setBuffer .bimA (.full r') s) = peakBegun k r' s := by
  have hmode : modeOk .bim (.peak 65536 16 s.cfg.bim.searchLo s.cfg.bim.searchHi s.cfg.bim.powerFloor) r' = true := by
    have hmax : s.cfg.bim.searchHi ≤ max32 := hhigh.trans (by decide)
    simp [modeOk, recordLengthOk, hstored, hkind, CaptureKind.decimation, hrange, hmax, hfloor]
  have hname : bufferNamed .bimA (setBuffer .bimA (.full r') s) = false := by simp [bufferNamed, hidle, hqueue]
  have hjudge := judgeSubmission_ok (source := .bim) (bufferOf_setBuffer_self .bimA (.full r') s) rfl hname hmode
  simp only [submitPeak, setBuffer_cfg, submit_ok k hjudge]
  rw [select_accepted_idle (s := setBuffer .bimA (.full r') s) hidle hqueue]
  simp [beginRequest, noteBegun, newRequest, accepted, peakBegun, markerAfter, bufferOf, setBuffer, PerBuffer.get,
    PerBuffer.set, PerMonitor.get, PerMonitor.set, Buffer.toAnalysis, nextArrival, inc16, hqueue]

/-- The first part of O6: a completed peak capture is requested at once. -/
theorem peakCapture_begins {s : State} {r r' : CaptureRecord} {k : Nat} {segments : List (List Int)}
    (hop : s.ret.operating = true) (hbuf : bufferOf s .bimA = .filling r) (hkind : r.kind = .fixed .n1 16 65536)
    (hshort : r.stored < 65536) (hcomplete : completeFixed r segments = some r') (hout : s.bim.outstanding = some k)
    (hidle : s.spe.inProgress = none) (hqueue : s.spe.queue = [])
    (hrange : s.cfg.bim.searchLo ≤ s.cfg.bim.searchHi) (hhigh : s.cfg.bim.searchHi ≤ 25000)
    (hfloor : s.cfg.bim.powerFloor ≤ 281474976710655) :
    exec (.fixedCaptureComplete .bimA segments) s = .next (peakBegun k r' s) := by
  obtain ⟨hkind', hstored⟩ := completeFixed_fields hkind hcomplete
  have hpeak : afeFixedComplete .bimA segments s = peakBegun k r' s := by
    simp only [afeFixedComplete, hbuf, hcomplete, reportFixed, bufferOwner, bimCompletion, setBuffer_bim, hout]
    exact submitPeak_begins hkind' (by omega) hidle hqueue hrange hhigh hfloor
  calc exec (.fixedCaptureComplete .bimA segments) s = .next (rechecked s (afeFixedComplete .bimA segments s)) :=
        inOperation_operating _ hop
    _ = .next (peakBegun k r' s) := by rw [hpeak, rechecked_kept] <;> rfl

/-! ## The judgement of a record (R73) -/

/-- Check 1 of R73: PRODUCING throughout. -/
def RegimeKept (ctx : StartContext) (s : State) : Prop :=
  s.ccu.op.regime = .producing ∧ s.ccu.op.changes = ctx.regimeChanges

/-- Check 2 of R73, with the speed at the end. -/
def SteadyAt (m : Fin 8) (ctx : StartContext) (s : State) (e : Nat) : Prop :=
  ∃ x, (s.ptu.chan.get (shaftPulse s.cfg.measurements[m].shaft)).latest = some x ∧ x.status = .valid ∧ x.derived = e ∧
    1 ≤ e ∧ |(e : Int) - ctx.speed| * 1000 ≤ ctx.speed * s.cfg.measurements[m].tolerance

/-- Check 3 of R73. -/
def Undisturbed (ctx : StartContext) (s : State) : Prop :=
  ctx.disturbed = false ∧ s.ghm.disturbed = false ∧ s.ghm.disturbances = ctx.disturbances

/-- Check 4 of R73. -/
def TachosMatched (ctx : StartContext) (s : State) : Prop :=
  s.ptu.mismatchFlag = false ∧ s.ptu.mismatchEvents = ctx.mismatchEvents

section
variable {m : Fin 8} {ctx : StartContext} {s : State}

theorem steady_iff (tolerance start finish : Nat) :
    steady tolerance start finish = true ↔ |(finish : Int) - start| * 1000 ≤ start * tolerance := by
  rw [steady, decide_eq_true_iff, Int.abs_eq_natAbs]
  exact_mod_cast Iff.rfl

/-- The speed at the end of a record is the one that the shaft's latest VALID result gives (R72, R73). -/
theorem steadyAt_iff (e : Nat) :
    SteadyAt m ctx s e ↔
      ∃ q, shaftSpeed s.cfg.measurements[m].shaft s = some (e, q) ∧ steady s.cfg.measurements[m].tolerance ctx.speed e = true := by
  unfold SteadyAt shaftSpeed
  simp only [steady_iff]
  cases (s.ptu.chan.get (shaftPulse s.cfg.measurements[m].shaft)).latest with
  | none => simp
  | some x =>
    by_cases hx : x.status = .valid ∧ 1 ≤ x.derived
    · simp only [hx, and_self, if_true, Option.some.injEq, Prod.mk.injEq]
      constructor
      · rintro ⟨_, rfl, -, rfl, -, h⟩
        exact ⟨_, ⟨rfl, rfl⟩, h⟩
      · rintro ⟨_, ⟨rfl, -⟩, h⟩
        exact ⟨x, rfl, hx.1, rfl, hx.2, h⟩
    · simp only [hx, if_false, reduceCtorEq, false_and, exists_false, iff_false]
      rintro ⟨_, h, hv, rfl, hd, -⟩
      cases h
      exact hx ⟨hv, hd⟩

theorem regimeKept_iff :
    RegimeKept ctx s ↔ ¬ (s.ccu.op.regime ≠ .producing || s.ccu.op.changes ≠ ctx.regimeChanges : Bool) = true := by
  simp [RegimeKept]

theorem undisturbed_iff :
    Undisturbed ctx s ↔
      ¬ (ctx.disturbed || s.ghm.disturbed || s.ghm.disturbances ≠ ctx.disturbances : Bool) = true := by
  simp [Undisturbed, and_assoc]

theorem tachosMatched_iff :
    TachosMatched ctx s ↔ ¬ (s.ptu.mismatchFlag || s.ptu.mismatchEvents ≠ ctx.mismatchEvents : Bool) = true := by
  simp [TachosMatched]

theorem judgeRecord_regime (h : ¬ RegimeKept ctx s) : judgeRecord m ctx s = .error .regime :=
  if_pos (not_not.mp (mt regimeKept_iff.mpr h))

theorem judgeRecord_unsteady (h : RegimeKept ctx s) (hs : ∀ e, ¬ SteadyAt m ctx s e) :
    judgeRecord m ctx s = .error .unsteady := by
  unfold judgeRecord
  dsimp only
  rw [if_neg (regimeKept_iff.mp h)]
  cases hv : shaftSpeed s.cfg.measurements[m].shaft s with
  | none => rfl
  | some v =>
    have hunsteady : steady s.cfg.measurements[m].tolerance ctx.speed v.1 = false := by
      rw [Bool.eq_false_iff]
      exact fun hv' => hs v.1 ((steadyAt_iff v.1).mpr ⟨v.2, hv, hv'⟩)
    exact if_pos (by rw [hunsteady]; rfl)

/-- With the regime kept and the speed steady the last two checks decide (R73). -/
theorem judgeRecord_steady {e : Nat} (h : RegimeKept ctx s) (hs : SteadyAt m ctx s e) :
    (¬ Undisturbed ctx s → judgeRecord m ctx s = .error .disturbance) ∧
      (Undisturbed ctx s → ¬ TachosMatched ctx s → judgeRecord m ctx s = .error .mismatch) ∧
      (Undisturbed ctx s → TachosMatched ctx s → judgeRecord m ctx s = .ok e) := by
  obtain ⟨q, hspeed, hsteady⟩ := (steadyAt_iff e).mp hs
  unfold judgeRecord
  dsimp only
  rw [if_neg (regimeKept_iff.mp h), hspeed]
  dsimp only
  rw [if_neg (by rw [hsteady]; decide)]
  refine ⟨fun hd => if_pos (not_not.mp (mt undisturbed_iff.mpr hd)), fun hd hm => ?_, fun hd hm => ?_⟩ <;>
    rw [if_neg (undisturbed_iff.mp hd)]
  · exact if_pos (not_not.mp (mt tachosMatched_iff.mpr hm))
  · exact if_neg (tachosMatched_iff.mp hm)

end

end Sys2Proof.Machine
end

section
/-! The end of a measurement's capture (R73, R74): rejected, without bands, refused by the engine, or requested. -/

namespace Sys2Proof.Machine

/-! ## A record that ends the work -/

/-- The end of the work of a measurement without a held write, its buffer released and its counters replaced (R71). -/
def endedWith (m : Fin 8) (b : BufferId) (c' : GvmCounters) (s : State) : State :=
  { s with
    afe := { s.afe with buffers := s.afe.buffers.set b .free }
    gvm :=
      { s.gvm with
        work := s.gvm.work.set m { s.gvm.work[m] with work := .idle, outstanding := none, context := none }
        skipMark := Vector.ofFn fun k => s.gvm.skipMark[k] && !s.cfg.measurements[m].bands.contains k.val
        counters := c' } }

theorem endOfWork_count {m : Fin 8} {s : State} (hp : s.gvm.work[m].pending = none) (b : BufferId) (r' : CaptureRecord)
    (f : GvmCounters → GvmCounters) :
    endOfWork m (countGvm f (releaseBuffer b (setBuffer b (.full r') s))) = endedWith m b (f s.gvm.counters) s := by
  rw [releaseBuffer_setBuffer_full]
  exact endOfWork_of_pending_none m (countGvm f (setBuffer b .free s)) hp

theorem judgeCompletion_rejected {m : Fin 8} {ctx : StartContext} {s : State} {reason : Rejection} (n d : Nat)
    (r' : CaptureRecord) (hp : s.gvm.work[m].pending = none) (hj : judgeRecord m ctx s = .error reason) :
    judgeCompletion m ctx n d (setBuffer ctx.buffer (.full r') s) =
      endedWith m ctx.buffer (countRejection reason s.gvm.counters) s := by
  have hj' : judgeRecord m ctx (setBuffer ctx.buffer (.full r') s) = .error reason := hj
  simp only [judgeCompletion, hj']
  exact endOfWork_count hp ctx.buffer r' _

/-! ## The band list of the request (R74) -/

/-- The listed bands in LEARNING or ARMED, in the order of the list, with their places (R74). -/
def activeBandPlaces (m : Fin 8) (s : State) : List BandPlace :=
  (s.cfg.measurements[m].bands.filter fun i => s.mon.bands[Fin.ofNat 24 i].mode ≠ .disabled).map fun i =>
    { band := i, centre := s.cfg.bands[Fin.ofNat 24 i].centre, halfWidth := s.cfg.bands[Fin.ofNat 24 i].halfWidth }

theorem requestBands_eq {m : Fin 8} {s : State} (h : ∀ i ∈ s.cfg.measurements[m].bands, i ≤ 23) :
    requestBands m s = activeBandPlaces m s := by
  unfold requestBands activeBandPlaces
  generalize s.cfg.measurements[m].bands = bands at h
  induction bands with
  | nil => rfl
  | cons i l ih =>
    have hi : (Fin.ofNat 24 i).val = i := Nat.mod_eq_of_lt (Nat.lt_succ_of_le (h i List.mem_cons_self))
    have htail := ih fun k hk => h k (List.mem_cons_of_mem i hk)
    rw [List.filterMap_cons]
    by_cases hm : s.mon.bands[Fin.ofNat 24 i].mode = .disabled
    · rw [List.filter_cons_of_neg (by simpa using hm), ← htail]
      simp only [hm, if_true]
    · rw [List.filter_cons_of_pos (by simpa using hm), List.map_cons, ← htail]
      simp only [hm, if_false, hi]

theorem band_le_of_mem_activeBandPlaces {m : Fin 8} {s : State} (h : ∀ i ∈ s.cfg.measurements[m].bands, i ≤ 23)
    {x : BandPlace} (hx : x ∈ activeBandPlaces m s) : x.band ≤ 23 := by
  obtain ⟨i, hi, rfl⟩ := List.mem_map.mp hx
  exact h i (List.mem_filter.mp hi).1

theorem judgeCompletion_noBands {m : Fin 8} {ctx : StartContext} {s : State} {e : Nat} (n d : Nat) (r' : CaptureRecord)
    (hp : s.gvm.work[m].pending = none) (hj : judgeRecord m ctx s = .ok e)
    (hbands : ∀ i ∈ s.cfg.measurements[m].bands, i ≤ 23) (hnone : activeBandPlaces m s = []) :
    judgeCompletion m ctx n d (setBuffer ctx.buffer (.full r') s) =
      endedWith m ctx.buffer { s.gvm.counters with noBands := inc16 s.gvm.counters.noBands } s := by
  have hj' : judgeRecord m ctx (setBuffer ctx.buffer (.full r') s) = .ok e := hj
  have hlist : requestBands m (setBuffer ctx.buffer (.full r') s) = [] := (requestBands_eq hbands).trans hnone
  simp only [judgeCompletion, hj', hlist]
  exact endOfWork_count hp ctx.buffer r' _

/-- An accepted record with active bands is submitted at the mean speed (R74). -/
theorem judgeCompletion_bands {m : Fin 8} {ctx : StartContext} {s : State} {e : Nat} (n d : Nat) (r' : CaptureRecord)
    (hj : judgeRecord m ctx s = .ok e) (hbands : ∀ i ∈ s.cfg.measurements[m].bands, i ≤ 23)
    (hsome : activeBandPlaces m s ≠ []) :
    judgeCompletion m ctx n d (setBuffer ctx.buffer (.full r') s) =
      submitRecord m ctx.buffer (.bands n d ((ctx.speed + e) / 2) (activeBandPlaces m s))
        (setBuffer ctx.buffer (.full r') s) := by
  have hj' : judgeRecord m ctx (setBuffer ctx.buffer (.full r') s) = .ok e := hj
  have hlist : requestBands m (setBuffer ctx.buffer (.full r') s) = activeBandPlaces m s := requestBands_eq hbands
  obtain ⟨p, l, hpl⟩ := List.exists_cons_of_ne_nil hsome
  simp only [judgeCompletion, hj', hlist, hpl]

/-- A request for a stored record inside the limits of R54. -/
theorem modeOk_bands {m : Fin 8} {s : State} {r' : CaptureRecord} {ch : Accel} {d n speed : Nat}
    (hkind : r'.kind = .fixed ch d n) (hlength : r'.stored ∈ [4096, 8192, 16384, 32768, 65536]) (hlow : 1 ≤ speed)
    (hhigh : speed ≤ 4294967295) (hbands : ∀ i ∈ s.cfg.measurements[m].bands, i ≤ 23)
    (hsome : activeBandPlaces m s ≠ []) (hsix : (activeBandPlaces m s).length ≤ 6)
    (hplaces : ∀ x ∈ activeBandPlaces m s, x.centre ≤ 65535 ∧ x.halfWidth ≤ 65535) :
    modeOk .gvm (.bands r'.stored d speed (activeBandPlaces m s)) r' = true := by
  have hrecord : recordLengthOk r'.stored = true := by simpa [recordLengthOk, or_assoc] using hlength
  have hd : r'.kind.decimation = d := by rw [hkind]; rfl
  have hone : 1 ≤ (activeBandPlaces m s).length := List.length_pos_iff.mpr hsome
  have hall : (activeBandPlaces m s).all BandPlace.ok = true := by
    refine List.all_eq_true.mpr fun x hx => ?_
    obtain ⟨hcentre, hwidth⟩ := hplaces x hx
    simp [BandPlace.ok, band_le_of_mem_activeBandPlaces hbands hx, hcentre, hwidth]
  simp only [modeOk, hrecord, hd, hlow, hone, hsix, hall, show speed ≤ max32 from hhigh, decide_true, Bool.and_self]

/-! ## The report of the completed capture (R13) -/

/-- A completed capture of the one measurement that fills the buffer is judged (R73). -/
theorem afeFixedComplete_gvm {b : BufferId} {segments : List (List Int)} {ch : Accel} {d n : Nat} {r r' : CaptureRecord}
    {m : Fin 8} {ctx : StartContext} {s : State} (hb : b = .gvmA ∨ b = .gvmB) (hbuf : bufferOf s b = .filling r)
    (hkind : r.kind = .fixed ch d n) (hcomplete : completeFixed r segments = some r')
    (hwork : s.gvm.work[m].work = .capturing) (hctx : s.gvm.work[m].context = some ctx) (hb' : ctx.buffer = b)
    (hone : ∀ k, CapturesInto k b s → k = m) :
    afeFixedComplete b segments s = judgeCompletion m ctx r'.stored d (setBuffer b (.full r') s) := by
  have hfound : capturingOn b (setBuffer b (.full r') s) = some m :=
    (capturingOn_of_gvm_eq (setBuffer_gvm ..) b).trans (capturingOn_eq_some ⟨hwork, ctx, hctx, hb'⟩ hone)
  have howner : bufferOwner b = .gvm := by rcases hb with rfl | rfl <;> rfl
  have hd : r'.kind.decimation = d := by rw [(completeFixed_fields hkind hcomplete).1]; rfl
  simp only [afeFixedComplete, hbuf, hcomplete, reportFixed, howner, gvmCompletion, hfound, setBuffer_gvm, hctx, hd]

/-! ## The request of an accepted record (R46, R74) -/

theorem bufferNamed_iff (b : BufferId) (s : State) :
    bufferNamed b s = true ↔ (∃ q ∈ s.spe.queue, q.buffer = b) ∨ ∃ q, s.spe.inProgress = some q ∧ q.buffer = b := by
  unfold bufferNamed
  cases s.spe.inProgress <;> simp

/-- Where a request names the buffer already, the record is an analysis skip and the work ends (R46, R74). -/
theorem submitRecord_named {m : Fin 8} {b : BufferId} {s : State} (r' : CaptureRecord) (mode : AnalysisMode)
    (hp : s.gvm.work[m].pending = none) (hname : bufferNamed b s = true) :
    let t := submitRecord m b mode (setBuffer b (.full r') s)
    t.afe.buffers = s.afe.buffers.set b .free ∧ t.gvm.work[m].work = .idle ∧
      t.gvm.counters = { s.gvm.counters with analysisSkip := inc16 s.gvm.counters.analysisSkip } ∧
      t.spe.queue = s.spe.queue ∧ t.spe.inProgress = s.spe.inProgress := by
  have hname' : bufferNamed b (setBuffer b (.full r') s) = true := hname
  have hjudge : judgeSubmission .gvm b mode (setBuffer b (.full r') s) = .error .buffer := by
    simp [judgeSubmission, hname']
  let s1 := countGvm (fun c => { c with analysisSkip := inc16 c.analysisSkip })
    (setBuffer b .free (countSpe .gvm (countRefusal .buffer) s))
  have hsubmit : submitRecord m b mode (setBuffer b (.full r') s) =
      endOfWork m (reportDay DayRecord.addSkip s1) := by
    simp only [submitRecord, submit, hjudge]
    rw [show countSpe .gvm (countRefusal .buffer) (setBuffer b (.full r') s) =
      setBuffer b (.full r') (countSpe .gvm (countRefusal .buffer) s) from rfl, releaseBuffer_setBuffer_full]
  have hpending : (reportDay DayRecord.addSkip s1).gvm.work[m].pending = none := by rw [reportDay_gvm]; exact hp
  dsimp only
  rw [hsubmit, endOfWork_of_pending_none m _ hpending]
  refine ⟨?_, ?_, ?_, ?_, ?_⟩
  · show (reportDay DayRecord.addSkip s1).afe.buffers = _
    rw [reportDay_afe]
    rfl
  · rw [idled_work_self]
    rfl
  · show (reportDay DayRecord.addSkip s1).gvm.counters = _
    rw [reportDay_gvm]
    rfl
  · show (reportDay DayRecord.addSkip s1).spe.queue = _
    rw [reportDay_spe]
    rfl
  · show (reportDay DayRecord.addSkip s1).spe.inProgress = _
    rw [reportDay_spe]
    rfl

/-- An accepted request leaves the measurement with its arrival number (R71, R74). -/
theorem submitRecord_ok {m : Fin 8} {b : BufferId} {s : State} {r : CaptureRecord} {mode : AnalysisMode}
    (hjudge : judgeSubmission .gvm b mode s = .ok r) :
    submitRecord m b mode s =
      withWork m
        (fun w =>
          { w with
            work := workAfterSubmit b (select (accepted .gvm m.val b mode r s))
            outstanding := some (nextArrival s.spe.arrival) })
        (select (accepted .gvm m.val b mode r s)) := by
  unfold submitRecord
  rw [submit_ok m.val hjudge]

/-- A request that begins moves QUEUED work only (R71). -/
theorem noteBegun_work_capturing {m : Fin 8} {s : State} (h : s.gvm.work[m].work = .capturing) (q : AnalysisRequest) :
    (noteBegun q s).gvm.work[m] = s.gvm.work[m] := by
  unfold noteBegun
  split
  · exact (vmap_getElem _ _ m.val m.isLt).trans (if_neg fun hq => absurd (h.symm.trans hq.2) (by decide))
  · rfl
  · rfl

theorem beginRequest_work_capturing {m : Fin 8} {s : State} (h : s.gvm.work[m].work = .capturing)
    (q : AnalysisRequest) : (beginRequest q s).gvm.work[m] = s.gvm.work[m] := by
  unfold beginRequest
  exact noteBegun_work_capturing (by exact h) q

@[simp] theorem beginRequest_inProgress (q : AnalysisRequest) (s : State) : (beginRequest q s).spe.inProgress = some q := by
  unfold beginRequest noteBegun; split <;> rfl

/-- What every accepted request of a measurement leaves alone (R47). -/
structure RequestFrame (s t : State) : Prop where
  counters : t.gvm.counters = s.gvm.counters
  skipMark : t.gvm.skipMark = s.gvm.skipMark
  mon : t.mon = s.mon
  cfg : t.cfg = s.cfg
  ccu : t.ccu = s.ccu
  ghm : t.ghm = s.ghm
  bim : t.bim = s.bim

section
variable {m : Fin 8} {b : BufferId} {s : State} {r' : CaptureRecord} {mode : AnalysisMode}
  (hjudge : judgeSubmission .gvm b mode (setBuffer b (.full r') s) = .ok r')
include hjudge

/-- On an idle engine the request begins (R48, R49, R71). -/
theorem submitRecord_idle (hwork : s.gvm.work[m].work = .capturing) (hidle : s.spe.inProgress = none)
    (hqueue : s.spe.queue = []) :
    let request := newRequest .gvm m.val b mode r' s
    let t := submitRecord m b mode (setBuffer b (.full r') s)
    t.afe.buffers = s.afe.buffers.set b (.inAnalysis r') ∧
      t.gvm.work[m] = { s.gvm.work[m] with work := .analysing, outstanding := some request.arrival } ∧
      t.spe =
        { inProgress := some request, queue := [], marker := .gvm, arrival := request.arrival
          counters :=
            { s.spe.counters with
              gvm := { s.spe.counters.gvm with accepted := inc16 s.spe.counters.gvm.accepted } } } ∧
      RequestFrame s t := by
  dsimp only
  rw [submitRecord_ok hjudge, select_accepted_idle (s := setBuffer b (.full r') s) hidle hqueue]
  refine ⟨?_, ?_, ?_, ?_⟩
  · simp [beginRequest, noteBegun, newRequest, accepted, bufferOf, setBuffer, Buffer.toAnalysis]
  · rw [withWork_work_self, beginRequest_work_capturing (s := accepted .gvm m.val b mode r' (setBuffer b (.full r') s)) hwork]
    simp [workAfterSubmit, newRequest, accepted]
  · simp [beginRequest, noteBegun, newRequest, accepted, hqueue, setBuffer, markerAfter, PerMonitor.get, PerMonitor.set]
  · constructor <;> simp [beginRequest, noteBegun, newRequest, accepted, withWork]

/-- With another request in progress it waits last in the queue (R47, R71). -/
theorem submitRecord_busy {q : AnalysisRequest} (hbusy : s.spe.inProgress = some q) (hq : q.buffer ≠ b) :
    let request := newRequest .gvm m.val b mode r' s
    let t := submitRecord m b mode (setBuffer b (.full r') s)
    t.afe.buffers = s.afe.buffers.set b (.full r') ∧
      t.gvm.work[m] = { s.gvm.work[m] with work := .queued, outstanding := some request.arrival } ∧
      t.spe =
        { inProgress := some q, queue := s.spe.queue ++ [request], marker := s.spe.marker, arrival := request.arrival
          counters :=
            { s.spe.counters with
              gvm := { s.spe.counters.gvm with accepted := inc16 s.spe.counters.gvm.accepted } } } ∧
      RequestFrame s t := by
  dsimp only
  rw [submitRecord_ok hjudge, select_accepted_busy (s := setBuffer b (.full r') s) (by simp [hbusy])]
  refine ⟨rfl, ?_, ?_, ?_⟩
  · rw [withWork_work_self]
    simp [newRequest, accepted, workAfterSubmit, hbusy, hq, setBuffer]
  · simp [newRequest, accepted, hbusy, setBuffer, PerMonitor.get, PerMonitor.set]
  · constructor <;> simp [accepted, withWork]

end

/-- Settles O6: the peak capture by `submitPeak_begins`, a measurement by the branches of `judgeCompletion`. -/
theorem peakCaptureCompletes : Obligations.PeakCaptureCompletes := by
  refine ⟨fun segments r r' k s hop hbuf hkind hshort hcomplete hout hidle hqueue hrange hhigh hfloor =>
      peakCapture_begins hop hbuf hkind hshort hcomplete hout hidle hqueue hrange hhigh hfloor,
    fun b segments ch d n r r' m ctx s hop hb hbuf hkind hcomplete hwork hctx hctxb hone hp hbands => ?_⟩
  intro v w c pulse regimeOk steadyAt calm matched list free ended after
  have hafter : after = .next (rechecked s (judgeCompletion m ctx r'.stored d (setBuffer b (.full r') s))) := by
    rw [← afeFixedComplete_gvm hb hbuf hkind hcomplete hwork hctx hctxb hone]
    exact inOperation_operating _ hop
  subst hctxb
  have hended (c' : GvmCounters) : Host.Outcome.next (rechecked s (endedWith m ctx.buffer c' s)) = ended c' := by
    rw [rechecked_kept] <;> rfl
  have hrejected (reason : Rejection) (hj : judgeRecord m ctx s = .error reason) :
      after = ended (countRejection reason c) := by
    rw [hafter, judgeCompletion_rejected _ _ _ hp hj, hended]
  refine ⟨fun hregime => hrejected .regime (judgeRecord_regime hregime),
    fun hregime hunsteady => hrejected .unsteady (judgeRecord_unsteady hregime hunsteady),
    fun e hregime hsteady => ?_⟩
  obtain ⟨hdisturbance, hmismatch, hok⟩ := judgeRecord_steady hregime hsteady
  refine ⟨fun hcalm => hrejected .disturbance (hdisturbance hcalm),
    fun hcalm hmatched => hrejected .mismatch (hmismatch hcalm hmatched),
    fun hcalm hmatched hlist => ?_, fun hcalm hmatched hlist => ?_⟩
  · rw [hafter, judgeCompletion_noBands _ _ _ hp (hok hcalm hmatched) hbands hlist, hended]
    rfl
  · rw [judgeCompletion_bands _ _ _ (hok hcalm hmatched) hbands hlist] at hafter
    intro named arrival idle request
    refine ⟨fun hnamed => ⟨_, hafter, submitRecord_named r' _ hp ((bufferNamed_iff _ s).mpr hnamed)⟩,
      fun hunnamed hlength hstart hend hlow hsix hplaces hserves => ⟨_, hafter, ?_⟩⟩
    have howner : bufferOwner ctx.buffer = .gvm := by rcases hb with h | h <;> rw [h] <;> rfl
    have hmode := modeOk_bands (completeFixed_fields hkind hcomplete).1 hlength hlow (by omega) hbands hlist hsix hplaces
    have hname : bufferNamed ctx.buffer (setBuffer ctx.buffer (.full r') s) = false := by
      rw [Bool.eq_false_iff]
      exact mt (bufferNamed_iff _ s).mp hunnamed
    have hjudge := judgeSubmission_ok (source := .gvm) (bufferOf_setBuffer_self ..) howner hname hmode
    cases hprogress : s.spe.inProgress with
    | none =>
      obtain ⟨hbuffers, hself, hspe, hframe⟩ := submitRecord_idle hjudge hwork hprogress (hserves hprogress)
      rw [show idle = true by simp [idle, hprogress]]
      exact ⟨hbuffers, hself, hframe.counters, hframe.skipMark, hspe, hframe.mon, hframe.cfg, hframe.ccu, hframe.ghm,
        hframe.bim⟩
    | some q =>
      have hother : q.buffer ≠ ctx.buffer := fun h => hunnamed (.inr ⟨q, hprogress, h⟩)
      obtain ⟨hbuffers, hself, hspe, hframe⟩ := submitRecord_busy (m := m) hjudge hprogress hother
      rw [show idle = false by simp [idle, hprogress]]
      exact ⟨hbuffers, hself, hframe.counters, hframe.skipMark, hspe, hframe.mon, hframe.cfg, hframe.ccu, hframe.ghm,
        hframe.bim⟩

end Sys2Proof.Machine
end

section
/-! The GVM enable item (R69): what the cancellation of the measurements does to works, captures and requests. -/

namespace Sys2Proof.Machine

/-! ## Releases and cancellations of buffers (R15, R16) -/

theorem releaseBuffer_cases (b : BufferId) (s : State) :
    releaseBuffer b s = s ∨ (∃ r, bufferOf s b = .full r) ∧ releaseBuffer b s = setBuffer b .free s := by
  unfold releaseBuffer
  cases h : bufferOf s b <;> simp [Buffer.isFull]

theorem cancelBuffer_cases (b : BufferId) (s : State) :
    (∀ r, bufferOf s b ≠ .filling r) ∧ cancelBuffer b s = s ∨ cancelBuffer b s = setBuffer b .free s := by
  unfold cancelBuffer
  cases h : bufferOf s b <;> simp

/-! ## One cancellation -/

/-- A work record after its work was cancelled: IDLE with an empty holder (R69). -/
structure WorkEmptied (w : WorkRecord) : Prop where
  idle : w.work = .idle
  outstanding : w.outstanding = none
  context : w.context = none
  pending : w.pending = none

theorem WorkEnded.emptied {w w' : WorkRecord} (h : WorkEnded w w') : WorkEmptied w' :=
  ⟨h.idle, h.outstanding, h.context, h.pending⟩

/-- What the cancellation of measurement `m` can do outside the engine, with the buffers it may touch. -/
structure CancelStep (m : Fin 8) (touched : BufferId → Prop) (s t : State) : Prop where
  ptu : t.ptu = s.ptu
  spe : t.spe = s.spe
  cfg : t.cfg = { s.cfg with measurements := t.cfg.measurements, bands := t.cfg.bands }
  others : ∀ k, k ≠ m → t.gvm.work[k] = s.gvm.work[k]
  self : t.gvm.work[m] = s.gvm.work[m] ∨ WorkEmptied t.gvm.work[m]
  filling : ∀ b r, bufferOf s b = .filling r → bufferOf t b = .filling r ∨ bufferOf t b = .free
  free : ∀ b, bufferOf s b = .free → bufferOf t b = .free
  untouched : ∀ b, ¬ touched b → bufferOf t b = bufferOf s b

section
variable {m : Fin 8} {touched : BufferId → Prop}

theorem CancelStep.refl (s : State) : CancelStep m touched s s :=
  ⟨rfl, rfl, rfl, fun _ _ => rfl, .inl rfl, fun _ _ h => .inl h, fun _ h => h, fun _ _ => rfl⟩

theorem CancelStep.trans {s t u : State} (h : CancelStep m touched s t) (k : CancelStep m touched t u) :
    CancelStep m touched s u where
  ptu := k.ptu.trans h.ptu
  spe := k.spe.trans h.spe
  cfg := by rw [k.cfg, h.cfg]
  others j hj := (k.others j hj).trans (h.others j hj)
  self := by
    rcases k.self with hk | hk
    · rw [hk]
      exact h.self
    · exact .inr hk
  filling b r hb := by
    rcases h.filling b r hb with ht | ht
    · exact k.filling b r ht
    · exact .inr (k.free b ht)
  free b hb := k.free b (h.free b hb)
  untouched b hb := (k.untouched b hb).trans (h.untouched b hb)

/-- A step that leaves the captures as they are. -/
theorem CancelStep.of_gvmOnly {s t : State} (h : GvmOnly s t) (others : ∀ k, k ≠ m → t.gvm.work[k] = s.gvm.work[k])
    (self : t.gvm.work[m] = s.gvm.work[m] ∨ WorkEmptied t.gvm.work[m]) : CancelStep m touched s t where
  ptu := h.ptu
  spe := h.spe
  cfg := h.cfg
  others := others
  self := self
  filling b r hb := .inl (by rw [bufferOf_congr h.afe, hb])
  free b hb := by rw [bufferOf_congr h.afe, hb]
  untouched b _ := bufferOf_congr h.afe b

/-- A touched buffer becomes FREE. -/
theorem CancelStep.of_setBuffer_free {b : BufferId} (hb : touched b) (s : State) :
    CancelStep m touched s (setBuffer b .free s) where
  ptu := rfl
  spe := rfl
  cfg := rfl
  others _ _ := rfl
  self := .inl rfl
  filling d r hd := by
    rw [bufferOf_setBuffer]
    by_cases h : d = b
    · simp [h]
    · simp [h, hd]
  free d hd := by simp [bufferOf_setBuffer, hd]
  untouched d hd := by
    rw [bufferOf_setBuffer, if_neg]
    rintro rfl
    exact hd hb

theorem endOfWork_cancelStep (s : State) : CancelStep m touched s (endOfWork m s) :=
  .of_gvmOnly (endOfWork_reach m s).toGvmOnly (endOfWork_reach m s).others (.inr (endOfWork_reach m s).self.emptied)

/-- A removal report of the measurement's own request (R75). -/
theorem gvmRemoval_cancelStep {q : AnalysisRequest} (htag : q.tag = m.val) (hq : touched q.buffer) (s : State) :
    CancelStep m touched s (gvmRemoval s q) ∧
      (s.gvm.work[m].work ≠ .queued → (gvmRemoval s q).gvm.work[m] = s.gvm.work[m]) := by
  have hm : Fin.ofNat 8 q.tag = m := Fin.ext (by simp [htag])
  have hrelease : CancelStep m touched s (releaseBuffer q.buffer s) ∧ (releaseBuffer q.buffer s).gvm = s.gvm := by
    rcases releaseBuffer_cases q.buffer s with h | ⟨-, h⟩ <;> rw [h]
    · exact ⟨.refl s, rfl⟩
    · exact ⟨.of_setBuffer_free hq s, rfl⟩
  obtain ⟨hstep, hgvm⟩ := hrelease
  unfold gvmRemoval
  simp only [hm, hgvm]
  split
  · next hqueued =>
    have hcount : CancelStep m touched (releaseBuffer q.buffer s)
        (countGvm (fun c => { c with removed := inc16 c.removed }) (releaseBuffer q.buffer s)) :=
      .of_gvmOnly (gvmOnly_of_updates rfl rfl rfl) (fun _ _ => rfl) (.inl rfl)
    exact ⟨hstep.trans (hcount.trans (endOfWork_cancelStep _)), fun h => absurd hqueued h⟩
  · exact ⟨hstep, fun _ => by simp only [hgvm]⟩

/-- The removal reports of the measurement's requests: QUEUED work may end, any other stays (R75). -/
theorem removals_cancelStep {l : List AnalysisRequest} (hl : ∀ q ∈ l, q.tag = m.val ∧ touched q.buffer) (s : State) :
    CancelStep m touched s (l.foldl gvmRemoval s) ∧
      (s.gvm.work[m].work ≠ .queued → (l.foldl gvmRemoval s).gvm.work[m] = s.gvm.work[m]) := by
  refine foldl_related (R := fun s t => CancelStep m touched s t ∧
    (s.gvm.work[m].work ≠ .queued → t.gvm.work[m] = s.gvm.work[m])) (fun s => ⟨.refl s, fun _ => rfl⟩)
    (fun h k => ⟨h.1.trans k.1, fun hs => ?_⟩) l (fun t q hq => gvmRemoval_cancelStep (hl q hq).1 (hl q hq).2 t) s
  have ht := h.2 hs
  rw [k.2 (by rwa [ht]), ht]

/-- The capture of a measurement is cancelled into a touched buffer, which is then FREE (R69). -/
theorem cancelCapture_cancelStep {s : State} (hctx : ∀ c, s.gvm.work[m].context = some c → touched c.buffer) :
    CancelStep m touched s (cancelCapture m s) ∧ (cancelCapture m s).gvm = s.gvm ∧
      ∀ b r, CapturesInto m b s → bufferOf s b = .filling r ∨ bufferOf s b = .free →
        bufferOf (cancelCapture m s) b = .free := by
  unfold cancelCapture
  split
  · next c hw hc =>
    have hb : touched c.buffer := hctx c hc
    have hinto (b : BufferId) (h : CapturesInto m b s) : c.buffer = b := by
      obtain ⟨-, c', hc', rfl⟩ := h
      rw [hc] at hc'
      cases hc'
      rfl
    rcases cancelBuffer_cases c.buffer s with ⟨hn, h⟩ | h <;> rw [h]
    · refine ⟨.refl s, rfl, fun b r hinto' hbuf => ?_⟩
      cases hinto b hinto'
      exact hbuf.resolve_left (hn r)
    · refine ⟨.of_setBuffer_free hb s, rfl, fun b r hinto' _ => ?_⟩
      rw [← hinto b hinto', bufferOf_setBuffer_self]
  · next hno =>
    exact ⟨.refl s, rfl, fun b r ⟨hw, c, hc, _⟩ _ => absurd hc (hno c hw)⟩

end

/-! ## A cancellation as a whole -/

/-- What any cancellation keeps (R69). -/
structure CancelReach (s t : State) : Prop where
  ptu : t.ptu = s.ptu
  cfg : t.cfg = { s.cfg with measurements := t.cfg.measurements, bands := t.cfg.bands }
  idle : ∀ k : Fin 8, s.gvm.work[k].work = .idle → t.gvm.work[k] = s.gvm.work[k]
  works : ∀ k : Fin 8, t.gvm.work[k] = s.gvm.work[k] ∨ WorkEmptied t.gvm.work[k]
  filling : ∀ b r, bufferOf s b = .filling r → bufferOf t b = .filling r ∨ bufferOf t b = .free
  free : ∀ b, bufferOf s b = .free → bufferOf t b = .free
  untouched : ∀ b, (∀ (m : Fin 8) c, s.gvm.work[m].context = some c → c.buffer ≠ b) →
    (∀ q ∈ s.spe.queue, q.source = .gvm → q.buffer ≠ b) → bufferOf t b = bufferOf s b
  queue : ∀ q ∈ t.spe.queue, q ∈ s.spe.queue
  kept : ∀ q ∈ s.spe.queue, q.source ≠ .gvm → q ∈ t.spe.queue
  progress : ∀ r, s.spe.inProgress = some r →
    t.spe.inProgress = some r ∨ t.spe.inProgress = some { r with discard := true }

theorem CancelReach.refl (s : State) : CancelReach s s :=
  ⟨rfl, rfl, fun _ _ => rfl, fun _ => .inl rfl, fun _ _ h => .inl h, fun _ h => h, fun _ _ _ => rfl, fun _ h => h,
    fun _ h _ => h, fun _ h => .inl h⟩

theorem CancelReach.trans {s t u : State} (h : CancelReach s t) (k : CancelReach t u) : CancelReach s u where
  ptu := k.ptu.trans h.ptu
  cfg := by rw [k.cfg, h.cfg]
  idle j hj := by
    have ht := h.idle j hj
    rw [k.idle j (by rw [ht]; exact hj), ht]
  works j := by
    rcases k.works j with hk | hk
    · rw [hk]
      exact h.works j
    · exact .inr hk
  filling b r hb := by
    rcases h.filling b r hb with ht | ht
    · exact k.filling b r ht
    · exact .inr (k.free b ht)
  free b hb := k.free b (h.free b hb)
  untouched b hctx hq := by
    have ht := h.untouched b hctx hq
    rw [k.untouched b (fun m c hc => ?_) fun q hq' => hq q (h.queue q hq'), ht]
    rcases h.works m with hw | hw
    · exact hctx m c (by rw [← hw]; exact hc)
    · rw [hw.context] at hc
      cases hc
  queue q hq := h.queue q (k.queue q hq)
  kept q hq hs := k.kept q (h.kept q hq hs) hs
  progress r hr := by
    rcases h.progress r hr with ht | ht
    · exact k.progress r ht
    · rcases k.progress _ ht with hu | hu
      · exact .inr hu
      · exact .inr hu

/-- What the cancellation of measurement `m` brings about where it is busy (R69). -/
structure CancelDone (m : Fin 8) (s t : State) : Prop where
  emptied : WorkEmptied t.gvm.work[m]
  freed : ∀ b r, CapturesInto m b s → bufferOf s b = .filling r ∨ bufferOf s b = .free → bufferOf t b = .free
  withdrawn : ∀ q ∈ t.spe.queue, ¬ (q.source = .gvm ∧ q.tag = m.val)
  discarded : ∀ r, s.spe.inProgress = some r → r.source = .gvm → r.tag = m.val →
    t.spe.inProgress = some { r with discard := true }

theorem withdrawn_iff (m : Fin 8) (q : AnalysisRequest) :
    withdrawn .gvm (some m.val) q = true ↔ q.source = .gvm ∧ q.tag = m.val := by
  simp [withdrawn]

/-- Work that its requests' removal did not end is ended last (R69). -/
def finishWork (m : Fin 8) (s : State) : State := if s.gvm.work[m].work = .idle then s else endOfWork m s

theorem finishWork_cancelStep {m : Fin 8} {touched : BufferId → Prop} (s : State) :
    CancelStep m touched s (finishWork m s) := by
  unfold finishWork
  split
  · exact .refl s
  · exact endOfWork_cancelStep s

theorem gvmCancel_busy {m : Fin 8} {s : State} (h : s.gvm.work[m].work ≠ .idle) :
    gvmCancel s m =
      finishWork m (cancelCapture m
        ((withdraw .gvm (some m.val) s).1.foldl gvmRemoval (withdraw .gvm (some m.val) s).2)) := if_neg h

/-- The buffers of a measurement's context and of the GVM's waiting requests. -/
def mayTouch (m : Fin 8) (s : State) (b : BufferId) : Prop :=
  (∃ c, s.gvm.work[m].context = some c ∧ c.buffer = b) ∨ ∃ q ∈ s.spe.queue, q.source = .gvm ∧ q.buffer = b

/-- A busy measurement's cancellation, from its withdrawal on: what its steps reach, and what they bring about (R69). -/
theorem gvmCancel_afterWithdraw {m : Fin 8} {s : State} (hbusy : s.gvm.work[m].work ≠ .idle) :
    CancelStep m (mayTouch m s) (withdraw .gvm (some m.val) s).2 (gvmCancel s m) ∧
      WorkEmptied (gvmCancel s m).gvm.work[m] ∧
      ∀ b r, CapturesInto m b s → bufferOf s b = .filling r ∨ bufferOf s b = .free → bufferOf (gvmCancel s m) b = .free := by
  rw [gvmCancel_busy hbusy]
  generalize hu0 : (withdraw .gvm (some m.val) s).2 = u0
  have hgvm : u0.gvm = s.gvm := by rw [← hu0]; rfl
  have hread (b : BufferId) : bufferOf u0 b = bufferOf s b := by rw [← hu0]; rfl
  have hown : ∀ q ∈ (withdraw .gvm (some m.val) s).1, q.tag = m.val ∧ mayTouch m s q.buffer := fun q hq => by
    obtain ⟨hmem, hw⟩ := List.mem_filter.mp hq
    obtain ⟨hsource, htag⟩ := (withdrawn_iff m q).mp hw
    exact ⟨htag, .inr ⟨q, hmem, hsource, rfl⟩⟩
  obtain ⟨hremovals, hunqueued⟩ := removals_cancelStep hown u0
  rw [hgvm] at hunqueued
  generalize (withdraw .gvm (some m.val) s).1.foldl gvmRemoval u0 = u1 at *
  have hself : u1.gvm.work[m] = s.gvm.work[m] ∨ WorkEmptied u1.gvm.work[m] := by
    have h := hremovals.self
    simp only [hgvm] at h
    exact h
  have hctx (c : StartContext) (hc : u1.gvm.work[m].context = some c) : mayTouch m s c.buffer := by
    rcases hself with h | h
    · exact .inl ⟨c, by rw [← h]; exact hc, rfl⟩
    · rw [h.context] at hc
      cases hc
  obtain ⟨hcancel, hcancelled, hfreed⟩ := cancelCapture_cancelStep hctx
  refine ⟨(hremovals.trans hcancel).trans (finishWork_cancelStep _), ?_, fun b r hinto hbuf => ?_⟩
  · unfold finishWork
    split
    · next hidle =>
      simp only [hcancelled] at hidle ⊢
      rcases hself with h | h
      · rw [h] at hidle
        exact absurd hidle hbusy
      · exact h
    · exact (endOfWork_reach m _).self.emptied
  · have hsame := hunqueued (by rw [hinto.1]; decide)
    have hinto' : CapturesInto m b u1 := by
      unfold CapturesInto at hinto ⊢
      rwa [hsame]
    have hbuf' : bufferOf u1 b = .filling r ∨ bufferOf u1 b = .free := by
      rw [← hread] at hbuf
      rcases hbuf with h | h
      · exact hremovals.filling b r h
      · exact .inr (hremovals.free b h)
    exact (finishWork_cancelStep (touched := mayTouch m s) _).free b (hfreed b r hinto' hbuf')

/-- The cancellation of one measurement: other measurements' work stays, an IDLE one is left alone, a busy one is IDLE with
its captures and requests gone (R69). -/
theorem gvmCancel_spec (m : Fin 8) (s : State) :
    CancelReach s (gvmCancel s m) ∧ (∀ k, k ≠ m → (gvmCancel s m).gvm.work[k] = s.gvm.work[k]) ∧
      (s.gvm.work[m].work ≠ .idle → CancelDone m s (gvmCancel s m)) := by
  by_cases hbusy : s.gvm.work[m].work = .idle
  · rw [gvmCancel, if_pos hbusy]
    exact ⟨.refl s, fun _ _ => rfl, fun h => absurd hbusy h⟩
  · obtain ⟨hstep, hemptied, hfreed⟩ := gvmCancel_afterWithdraw hbusy
    have hqueue (q : AnalysisRequest) : q ∈ (gvmCancel s m).spe.queue ↔
        q ∈ s.spe.queue ∧ ¬ (q.source = .gvm ∧ q.tag = m.val) := by
      rw [hstep.spe, ← withdrawn_iff]
      change q ∈ s.spe.queue.filter (fun r => !withdrawn .gvm (some m.val) r) ↔ _
      simp [List.mem_filter]
    have hprogress : (gvmCancel s m).spe.inProgress =
        s.spe.inProgress.map fun r => if withdrawn .gvm (some m.val) r then { r with discard := true } else r := by
      rw [hstep.spe]
      rfl
    refine ⟨⟨hstep.ptu, hstep.cfg, fun k hk => ?_, fun k => ?_, hstep.filling, hstep.free, fun b hctx hq => ?_,
      fun q hq => ((hqueue q).mp hq).1, fun q hq hs => (hqueue q).mpr ⟨hq, fun h => hs h.1⟩, fun r hr => ?_⟩,
      hstep.others, fun _ => ⟨hemptied, hfreed, fun q hq => ((hqueue q).mp hq).2, fun r hr hsource htag => ?_⟩⟩
    · exact hstep.others k fun h => hbusy (h ▸ hk)
    · by_cases hk : k = m
      · rw [hk]
        exact hstep.self
      · exact .inl (hstep.others k hk)
    · refine hstep.untouched b ?_
      rintro (⟨c, hc, rfl⟩ | ⟨q, hmem, hsource, rfl⟩)
      · exact hctx m c hc rfl
      · exact hq q hmem hsource rfl
    · rw [hprogress, hr, Option.map_some]
      split
      · exact .inr rfl
      · exact .inl rfl
    · rw [hprogress, hr, Option.map_some, if_pos ((withdrawn_iff m r).mpr ⟨hsource, htag⟩)]

/-! ## All measurements -/

theorem gvmCancel_reach (s : State) (m : Fin 8) : CancelReach s (gvmCancel s m) := (gvmCancel_spec m s).1

theorem foldl_gvmCancel_reach (l : List (Fin 8)) (s : State) : CancelReach s (l.foldl gvmCancel s) :=
  foldl_related CancelReach.refl CancelReach.trans l (fun t m _ => gvmCancel_reach t m) s

theorem foldl_gvmCancel_work {l : List (Fin 8)} {m : Fin 8} (h : m ∉ l) (s : State) :
    (l.foldl gvmCancel s).gvm.work[m] = s.gvm.work[m] :=
  foldl_related (R := fun s t => t.gvm.work[m] = s.gvm.work[m]) (fun _ => rfl) (fun h k => k.trans h) l
    (fun t k hk => (gvmCancel_spec k t).2.1 m fun e => h (e ▸ hk)) s

/-- The cancellation of every measurement brings about, for each busy one, what its own brings about (R69). -/
theorem cancelAll_done (m : Fin 8) (s : State) (hbusy : s.gvm.work[m].work ≠ .idle) :
    CancelDone m s ((List.finRange 8).foldl gvmCancel s) := by
  obtain ⟨l, l', hl⟩ := List.append_of_mem (List.mem_finRange m)
  have hfresh : m ∉ l := by
    have hnodup := List.nodup_finRange 8
    rw [hl] at hnodup
    exact fun hm => List.disjoint_of_nodup_append hnodup hm List.mem_cons_self
  rw [hl, List.foldl_append, List.foldl_cons]
  have hbefore := foldl_gvmCancel_reach l s
  have hwork := foldl_gvmCancel_work hfresh s
  generalize l.foldl gvmCancel s = s1 at hbefore hwork ⊢
  have hdone := (gvmCancel_spec m s1).2.2 (by rwa [hwork])
  have hafter := foldl_gvmCancel_reach l' (gvmCancel s1 m)
  generalize l'.foldl gvmCancel (gvmCancel s1 m) = t at hafter ⊢
  refine ⟨?_, fun b r hinto hbuf => ?_, fun q hq => hdone.withdrawn q (hafter.queue q hq), fun r hr hsource htag => ?_⟩
  · rw [hafter.idle m hdone.emptied.idle]
    exact hdone.emptied
  · have hinto' : CapturesInto m b s1 := by
      unfold CapturesInto at hinto ⊢
      rwa [hwork]
    refine hafter.free b (hdone.freed b r hinto' ?_)
    rcases hbuf with h | h
    · exact hbefore.filling b r h
    · exact .inr (hbefore.free b h)
  · have hdiscarded : (gvmCancel s1 m).spe.inProgress = some { r with discard := true } := by
      rcases hbefore.progress r hr with h | h
      · exact hdone.discarded r h hsource htag
      · exact hdone.discarded { r with discard := true } h hsource htag
    rcases hafter.progress _ hdiscarded with h | h <;> exact h

/-- The disable cancels every measurement, then stops the timer (R69). -/
theorem disableGvm_cancelled (s : State) :
    ∃ u, disableGvm s = { u with cfg := { u.cfg with gvmEnable := false }, gvm := { u.gvm with periodTimer := none } } ∧
      CancelReach s u ∧ ∀ m : Fin 8, s.gvm.work[m].work ≠ .idle → CancelDone m s u :=
  ⟨_, rfl, foldl_gvmCancel_reach (List.finRange 8) s, fun m => cancelAll_done m s⟩

/-! ## The write of the enable item -/

/-- A write of the GVM enable item in operation, admitted on its port. -/
theorem exec_writeGvmEnable (p : Port) (v : Bool) (s : State) (hop : s.ret.operating = true) (hp : FarmOrPresence p s) :
    exec (.writeGvmEnable p v) s = .next (rechecked s (formReply p 0x31
      (gvmWriteEnable v (countPort p (fun c => { c with taken := inc16 c.taken }) s)))) := by
  have htake := takeRequest_writeConfig p (.gvmEnable v) s hp
  exact (inOperation_operating (takeRequest p (.writeConfig (.gvmEnable v))) hop).trans (by rw [htake]; rfl)

/-- Settles O27: the disable is the fold of `gvmCancel`, with what each cancellation keeps and brings about. -/
theorem gvmEnableWrite : Obligations.GvmEnableWrite := by
  intro p s hop hp
  refine ⟨fun v hv => ?_, fun hoff => ?_, fun hon => ?_⟩
  · have hsame : gvmWriteEnable v (countPort p (fun c => { c with taken := inc16 c.taken }) s) =
        (countPort p (fun c => { c with taken := inc16 c.taken }) s, plain .ok) := if_pos hv
    rw [exec_writeGvmEnable p v s hop hp, hsame, formReply_answered p 0x31 (plain .ok) s (.inr rfl),
      rechecked_answered_self]
  · have hchange : gvmWriteEnable true (countPort p (fun c => { c with taken := inc16 c.taken }) s) =
        (countPort p (fun c => { c with taken := inc16 c.taken }) (enableGvm s), plain .ok) := by
      simp only [gvmWriteEnable, countPort_cfg, hoff]
      rfl
    rw [exec_writeGvmEnable p true s hop hp, hchange, formReply_answered p 0x31 (plain .ok) (enableGvm s) (.inr rfl)]
    rfl
  · have hchange : gvmWriteEnable false (countPort p (fun c => { c with taken := inc16 c.taken }) s) =
        (disableGvm (countPort p (fun c => { c with taken := inc16 c.taken }) s), plain .ok) := by
      simp only [gvmWriteEnable, countPort_cfg, hon]
      rfl
    refine ⟨_, exec_writeGvmEnable p false s hop hp, ?_⟩
    rw [hchange]
    generalize hs1 : countPort p (fun c => { c with taken := inc16 c.taken }) s = s1
    have hgvm : s.gvm = s1.gvm := by rw [← hs1, countPort_gvm]
    have hspe : s.spe = s1.spe := by rw [← hs1, countPort_spe]
    have hcfg : s.cfg = s1.cfg := by rw [← hs1, countPort_cfg]
    have hptu : s.ptu = s1.ptu := by rw [← hs1, countPort_ptu]
    have hbuf (b : BufferId) : bufferOf s b = bufferOf s1 b := bufferOf_congr (by rw [← hs1, countPort_afe]) b
    obtain ⟨u, hdisable, hreach, hdone⟩ := disableGvm_cancelled s1
    simp only [CapturesInto, hgvm, hspe, hcfg, hptu, hbuf, hdisable]
    refine ⟨rfl, rfl, hreach.idle, fun m hm => ?_, fun m b r hinto hb => (hdone m ?_).freed b r hinto (.inl hb),
      hreach.untouched, hreach.queue, hreach.kept, fun m hm => (hdone m hm).withdrawn,
      fun r m hr hsource htag hm => (hdone m hm).discarded r hr hsource htag, ?_, ?_, ?_, hreach.ptu, ?_⟩
    · exact ⟨(hdone m hm).emptied.idle, (hdone m hm).emptied.outstanding, (hdone m hm).emptied.context,
        (hdone m hm).emptied.pending⟩
    · rw [hinto.1]
      decide
    · exact congrArg (·.gvmPeriod) hreach.cfg
    · exact congrArg (·.ghm) hreach.cfg
    · exact congrArg (·.bim) hreach.cfg
    · exact formReply_status p 0x31 _

end Sys2Proof.Machine
end

section
/-! The step of the BIM (R112 to R116): its score, what a transition can change, and the peak capture it asks for. -/

namespace Sys2Proof.Machine

/-! ## The expected power (R114) -/

theorem expectedPower_below (curve : Vector Nat 40) {w : Int} (h : w < 30) : expectedPower curve w = 0 := if_pos h

theorem expectedPower_above (curve : Vector Nat 40) {w : Int} (h : 225 ≤ w) : expectedPower curve w = curve[39] := by
  rw [expectedPower, if_neg (by omega), if_pos h]

/-- An interpolation between two powers does not fall below 0. -/
theorem interpolated_nonneg (row next : Nat) {r : Nat} (hr : r < 5) :
    0 ≤ (row : Int) + Int.tdiv (((next : Int) - row) * r) 5 := by
  have hlow : -(5 * (row : Int)) ≤ ((next : Int) - row) * r := by
    have hnext : 0 ≤ (next : Int) * r := by positivity
    have hrow : (row : Int) * r ≤ row * 5 := Int.mul_le_mul_of_nonneg_left (by omega) (by omega)
    rw [Int.sub_mul]
    omega
  generalize ((next : Int) - row) * r = x at hlow ⊢
  have hdiv := Int.mul_tdiv_add_tmod x 5
  have hmod := Int.tmod_lt_of_pos x (show (0 : Int) < 5 by decide)
  omega

theorem expectedPower_between (curve : Vector Nat 40) {w : Int} {i r row next : Nat} (hi : i < 39) (hr : r < 5)
    (hw : w = 30 + 5 * i + r) (hrow : curve.toList[i]? = some row) (hnext : curve.toList[i + 1]? = some next) :
    (expectedPower curve w : Int) = row + Int.tdiv (((next : Int) - row) * r) 5 := by
  have hindex : ((w - 30) / 5).toNat = i := by omega
  have hrest : (w - 30) % 5 = r := by omega
  rw [expectedPower, if_neg (by omega), if_neg (by omega)]
  simp only [hindex, hrest, List.getD_eq_getElem?_getD, hrow, hnext, Option.getD_some]
  exact Int.toNat_of_nonneg (interpolated_nonneg row next hr)

/-! ## The score of a step (R113, R115) -/

theorem clampInt_permille (x : Int) : clampInt 0 1000 x = max 0 (min 1000 x) := by
  unfold clampInt
  split <;> [skip; split] <;> omega

theorem deficitOf_eq (expected : Nat) (actual : Int) :
    (deficitOf expected actual : Int) =
      max 0 (min 1000 (Int.tdiv (1000 * ((expected : Int) - actual)) expected)) := by
  rw [deficitOf, clampInt_permille, Int.toNat_of_nonneg (le_max_left _ _)]

theorem dropOf_none (fRef previous : Nat) : dropOf fRef previous none = 0 := rfl

theorem dropOf_some (fRef previous : Nat) (h : HeldPeak) :
    (dropOf fRef previous (some h) : Int) =
      if h.peak = true ∧ h.step = previous then
        max 0 (min 1000 (Int.tdiv (1000 * ((fRef : Int) - h.freq)) fRef))
      else 0 := by
  rw [dropOf, clampInt_permille]
  split
  · exact Int.toNat_of_nonneg (le_max_left _ _)
  · rfl

/-- A step number is the one before the next in 16 bits exactly where it is a 16-bit number that is followed by it. -/
theorem eq_previousStep_iff (k n : Nat) :
    k = previousStep (next16 n) ↔ (k + 1) % 65536 = (n + 1) % 65536 ∧ k < 65536 := by
  unfold previousStep next16
  omega

theorem ringWith_eq (score : Nat) {ring : List Nat} (h : ring.length ≤ 10) :
    ringWith score ring = (ring ++ [score]).drop (ring.length - 9) := by
  rw [List.drop_append_of_le_length (by omega), ringWith]
  split
  · rw [show ring.length - 9 = 0 by omega, List.drop_zero]
  · rfl

/-! ## The frame of a transition (R127) -/

/-- The day record a step reports to: that of the open day, or the undated tally under an unset calendar (R161). -/
def reportedDay (s : State) : DayRecord := if s.cal = none then s.plan.undated else s.plan.openDay.record

theorem reportedDay_reportDay (f : DayRecord → DayRecord) (s : State) :
    reportedDay (reportDay f s) = f (reportedDay s) := by
  unfold reportedDay reportDay
  cases h : s.cal <;> simp

/-- What a transition of the icing state keeps: the blocks it does not name, the BIM up to its override, the score ring and
the icing minutes of the day. -/
structure TransitionFrame (s t : State) : Prop where
  cfg : t.cfg = s.cfg
  cal : t.cal = s.cal
  afe : t.afe = s.afe
  ptu : t.ptu = s.ptu
  rch : t.rch = s.rch
  spe : t.spe = s.spe
  ghm : t.ghm = s.ghm
  bim : t.bim = { s.bim with override := t.bim.override }
  ring : t.mon.icing.ring = s.mon.icing.ring
  iced : (reportedDay t).icedMinutes = (reportedDay s).icedMinutes
  suspect : (reportedDay t).suspectMinutes = (reportedDay s).suspectMinutes

theorem TransitionFrame.refl (s : State) : TransitionFrame s s := ⟨rfl, rfl, rfl, rfl, rfl, rfl, rfl, rfl, rfl, rfl, rfl⟩

theorem TransitionFrame.trans {s t u : State} (h : TransitionFrame s t) (k : TransitionFrame t u) :
    TransitionFrame s u where
  cfg := k.cfg.trans h.cfg
  cal := k.cal.trans h.cal
  afe := k.afe.trans h.afe
  ptu := k.ptu.trans h.ptu
  rch := k.rch.trans h.rch
  spe := k.spe.trans h.spe
  ghm := k.ghm.trans h.ghm
  bim := by rw [k.bim, h.bim]
  ring := k.ring.trans h.ring
  iced := k.iced.trans h.iced
  suspect := k.suspect.trans h.suspect

/-- An update of the parts a transition may change. -/
theorem transitionFrame_of_updates {s t : State} (hring : t.mon.icing.ring = s.mon.icing.ring)
    (hday : reportedDay t = reportedDay s) (hbim : t.bim = { s.bim with override := t.bim.override })
    (h : t =
      { s with
        mon := t.mon, plan := t.plan, records := t.records, bim := t.bim, ccu := t.ccu, mpl := t.mpl, lnk := t.lnk }) :
    TransitionFrame s t where
  cfg := (congrArg State.cfg h :)
  cal := (congrArg State.cal h :)
  afe := (congrArg State.afe h :)
  ptu := (congrArg State.ptu h :)
  rch := (congrArg State.rch h :)
  spe := (congrArg State.spe h :)
  ghm := (congrArg State.ghm h :)
  bim := hbim
  ring := hring
  iced := by rw [hday]
  suspect := by rw [hday]

/-! ### Alarms -/

theorem enteredActive_frame (b : Bool) (c : AlarmCode) (x : Source) (s : State) :
    TransitionFrame s (enteredActive b c x s) := by
  have hreport : TransitionFrame s (reportDay .addAlarm (setNotice .alarmRaised s)) :=
    ⟨by simp, by simp, by simp, by simp, by simp, by simp, by simp, by simp, by simp,
      by rw [reportedDay_reportDay]; rfl, by rw [reportedDay_reportDay]; rfl⟩
  have hsnapshot (t : State) : TransitionFrame t (takeSnapshot c x t) := by
    unfold takeSnapshot
    split
    · exact .refl t
    · exact transitionFrame_of_updates rfl rfl rfl rfl
  unfold enteredActive
  dsimp only
  split
  · exact hreport.trans (hsnapshot _)
  · exact hreport

theorem createAlarm_frame (b : Bool) (c : AlarmCode) (x : Source) (s : State) :
    TransitionFrame s (createAlarm b c x s) := by
  have hentry : TransitionFrame s { s with ccu := { s.ccu with alarms := s.ccu.alarms ++
      [{ code := c, source := x, raisedAt := s.cal, lastChange := s.cal }] } } :=
    transitionFrame_of_updates rfl rfl rfl rfl
  exact hentry.trans (enteredActive_frame b c x _)

theorem raiseIntoFull_frame (b : Bool) (c : AlarmCode) (x : Source) (s : State) :
    TransitionFrame s (raiseIntoFull b c x s) := by
  have hevict (l : List AlarmEntry) : TransitionFrame s { s with ccu := countEviction { s.ccu with alarms := l } } :=
    transitionFrame_of_updates rfl rfl rfl rfl
  unfold raiseIntoFull
  split
  · exact (hevict _).trans (createAlarm_frame b c x _)
  · split
    · exact (hevict _).trans (createAlarm_frame b c x _)
    · exact transitionFrame_of_updates rfl rfl rfl rfl

theorem raise_frame (c : AlarmCode) (x : Source) (s : State) : TransitionFrame s (raise c x s) := by
  have hupdate (f : AlarmEntry → AlarmEntry) : TransitionFrame s (updateAlarm c x f s) :=
    transitionFrame_of_updates rfl rfl rfl rfl
  unfold raise raiseWith
  split
  · split
    · exact hupdate _
    · exact hupdate _
    · exact (hupdate _).trans (enteredActive_frame true c x _)
  · split
    · exact createAlarm_frame true c x s
    · exact raiseIntoFull_frame true c x s

theorem clearAlarm_frame (c : AlarmCode) (x : Source) (s : State) : TransitionFrame s (clearAlarm c x s) := by
  unfold clearAlarm
  split
  · exact .refl s
  · split
    · exact transitionFrame_of_updates rfl rfl rfl rfl
    · exact transitionFrame_of_updates rfl rfl rfl rfl
    · exact .refl s

theorem icingAlarms_frame (old new : IcingState) (s : State) : TransitionFrame s (icingAlarms old new s) := by
  unfold icingAlarms
  split
  · exact raise_frame ..
  · exact clearAlarm_frame ..
  · exact (clearAlarm_frame ..).trans (raise_frame ..)
  · exact clearAlarm_frame ..
  · exact .refl s

/-! ### Posts -/

theorem postContribution_frame (w : Contributor) (v : Nat) (s : State) :
    TransitionFrame s (postContribution w v s) := by
  rcases postContribution_cases w v s with ⟨-, e⟩ | ⟨-, e⟩ <;> rw [e] <;> exact transitionFrame_of_updates rfl rfl rfl rfl

theorem postIcing_frame (s : State) : TransitionFrame s (postIcing s) := by
  unfold postIcing
  split
  · exact .refl s
  · exact postContribution_frame ..

theorem dropWaiting_frame (c : Fin 16) (s : State) : TransitionFrame s (dropWaiting c s) := by
  have hmark : TransitionFrame s (withWaiting (·.set c false) s) := transitionFrame_of_updates rfl rfl rfl rfl
  unfold dropWaiting
  dsimp only
  split
  · split
    · exact hmark
    · exact hmark.trans (clearAlarm_frame ..)
  · exact .refl s

theorem gradeChanged_frame (c : Fin 16) (old new : Nat) (s : State) : TransitionFrame s (gradeChanged c old new s) := by
  have hwear : TransitionFrame s (withWear c (gradedWear s.cal old new)
      (withCompInterval c (fun i => { i with worst := max i.worst new }) s)) := transitionFrame_of_updates rfl rfl rfl rfl
  unfold gradeChanged
  dsimp only
  split
  · exact hwear.trans (dropWaiting_frame c _)
  · exact hwear

theorem postGrades_frame (f : HeldGrades → HeldGrades) (s : State) : TransitionFrame s (postGrades f s) := by
  have hheld : TransitionFrame s (withGrades f s) := transitionFrame_of_updates rfl rfl rfl rfl
  refine hheld.trans (foldl_related TransitionFrame.refl TransitionFrame.trans _ (fun t c _ => ?_) _)
  dsimp only
  split
  · exact .refl t
  · exact gradeChanged_frame c _ _ t

theorem postIcingGrade_frame (old new : IcingState) (s : State) : TransitionFrame s (postIcingGrade old new s) := by
  unfold postIcingGrade
  split
  · exact .refl s
  · exact postGrades_frame _ s

/-! ### The rule and the transition -/

/-- An update of the retained icing state that keeps the score ring. -/
theorem withIcing_frame {f : IcingRetained → IcingRetained} {s : State}
    (h : (f s.mon.icing).ring = s.mon.icing.ring) : TransitionFrame s (withIcing f s) :=
  transitionFrame_of_updates h rfl rfl rfl

theorem enter_ring (new : IcingState) (r : IcingRetained) : (r.enter new).ring = r.ring := by cases new <;> rfl

theorem icingTransition_frame (old new : IcingState) (s : State) : TransitionFrame s (icingTransition old new s) := by
  have hposted : TransitionFrame s
      (postIcingGrade old new (icingAlarms old new (withIcing (IcingRetained.enter new) s))) :=
    ((withIcing_frame (enter_ring new _)).trans (icingAlarms_frame old new _)).trans (postIcingGrade_frame old new _)
  have hnotice (t : State) : TransitionFrame t (setNotice .icingState t) := transitionFrame_of_updates rfl rfl rfl rfl
  unfold icingTransition
  dsimp only
  split
  · have hend (t : State) : TransitionFrame t { t with bim := { t.bim with override := none } } :=
      transitionFrame_of_updates rfl rfl rfl rfl
    exact ((hposted.trans (hend _)).trans (postIcing_frame _)).trans (hnotice _)
  · exact (hposted.trans (postIcing_frame _)).trans (hnotice _)

/-! Every branch of a rule moves counts only. -/

theorem clearRule_ring (v : StepView) (r : IcingRetained) : (clearRule v r).1.ring = r.ring := by
  simp only [clearRule, apply_ite Prod.fst, ite_self]

theorem suspectRule_ring (v : StepView) (r : IcingRetained) : (suspectRule v r).1.ring = r.ring := by
  unfold suspectRule
  cases v.mean <;> simp only [apply_ite Prod.fst, apply_ite IcingRetained.ring, ite_self]

theorem icedRule_ring (v : StepView) (r : IcingRetained) : (icedRule v r).1.ring = r.ring := by
  unfold icedRule
  cases v.mean <;> simp only [apply_ite Prod.fst, apply_ite IcingRetained.ring, ite_self]

theorem sheddingRule_ring (v : StepView) (r : IcingRetained) : (sheddingRule v r).1.ring = r.ring := by
  simp only [sheddingRule, apply_ite Prod.fst, apply_ite IcingRetained.ring, ite_self]

theorem icingRule_ring (v : StepView) (r : IcingRetained) : (icingRule v r).1.ring = r.ring := by
  unfold icingRule
  split
  · exact clearRule_ring v r
  · exact suspectRule_ring v r
  · exact icedRule_ring v r
  · exact sheddingRule_ring v r

theorem applyRule_frame (v : StepView) (s : State) : TransitionFrame s (applyRule v s).2 := by
  have hrule : TransitionFrame s (withIcing (fun _ => (icingRule v s.mon.icing).1) s) :=
    withIcing_frame (icingRule_ring v _)
  unfold applyRule
  dsimp only
  split
  · exact hrule
  · exact hrule.trans (icingTransition_frame ..)

/-! ## The peak capture (R11, R116) -/

/-- What refuses the peak capture of an evaluable step (R11). -/
def peakRefusal (a : AfeState) : Option CaptureRefusal :=
  if a.converterFault then some .converter
  else if a.accel.n1.fault ≠ .none then some .channelFault
  else if a.buffers.bimA ≠ .free then some .noBuffer
  else none

theorem isFree_iff (b : Buffer) : b.isFree = true ↔ b = .free := by cases b <;> simp [Buffer.isFree]

theorem judgeCapture_peak (s : State) :
    judgeCapture .bim peakCapture s =
      match peakRefusal s.afe with
      | some r => .error r
      | none => .ok .bimA := by
  have hparams : captureParamsOk .bim peakCapture = true := by decide
  have hchannel : captureChannelFaulty s peakCapture = decide (s.afe.accel.n1.fault ≠ .none) := rfl
  have hbuffer : bufferOf s .bimA = s.afe.buffers.bimA := rfl
  rw [judgeCapture, hparams, hchannel, peakRefusal]
  by_cases hconverter : s.afe.converterFault = true
  · simp [hconverter]
  · by_cases hfault : s.afe.accel.n1.fault = .none
    · by_cases hfree : s.afe.buffers.bimA = .free
      · simp [hconverter, hfault, hfree, Monitor.buffers, hbuffer, Buffer.isFree]
      · have hbusy : s.afe.buffers.bimA.isFree = false := by
          rw [← Bool.not_eq_true, isFree_iff]
          exact hfree
        simp [hconverter, hfault, hfree, Monitor.buffers, hbuffer, hbusy]
    · simp [hconverter, hfault]

theorem requestPeak_refused {s : State} {r : CaptureRefusal} (h : peakRefusal s.afe = some r) :
    requestPeak s = countBim (countPeakRefusal r) (setOutstanding none s) := by
  rw [requestPeak, judgeCapture_peak, h]

theorem requestPeak_accepted {s : State} (h : peakRefusal s.afe = none) :
    requestPeak s = setOutstanding (some s.bim.stepNumber) (beginCapture .bimA peakCapture s) := by
  rw [requestPeak, judgeCapture_peak, h]

/-! ## A step (R112) -/

/-- The refusal of the peak capture of a step; a step that is not evaluable asks for none (R116). -/
def stepRefusal (s : State) : Option CaptureRefusal := if stepStop s ≠ none then none else peakRefusal s.afe

/-- The answer to the peak capture of a step, counted where it is a refusal. -/
def countAnswer : Option CaptureRefusal → BimCounters → BimCounters
  | none, c => c
  | some r, c => countPeakRefusal r c

/-- A 16-bit saturating count that goes up where `b` holds. -/
def bump (b : Bool) (x : Nat) : Nat := if b then min (x + 1) 65535 else x

theorem countAnswer_countStep (refusal : Option CaptureRefusal) (stop : Option StepStop) (c : BimCounters) :
    countAnswer refusal (countStep stop { c with steps := inc16 c.steps }) =
      { c with
        steps := bump true c.steps, evaluable := bump (stop = none) c.evaluable
        regime := bump (stop = some .regime) c.regime, disturbance := bump (stop = some .disturbance) c.disturbance
        noAmbient := bump (stop = some .noAmbient) c.noAmbient, lowWind := bump (stop = some .lowWind) c.lowWind
        refusedConverter := bump (refusal = some .converter) c.refusedConverter
        refusedChannelFault := bump (refusal = some .channelFault) c.refusedChannelFault
        refusedNoBuffer := bump (refusal = some .noBuffer) c.refusedNoBuffer } := by
  have hstep : countStep stop { c with steps := inc16 c.steps } =
      { c with
        steps := bump true c.steps, evaluable := bump (stop = none) c.evaluable
        regime := bump (stop = some .regime) c.regime, disturbance := bump (stop = some .disturbance) c.disturbance
        noAmbient := bump (stop = some .noAmbient) c.noAmbient
        lowWind := bump (stop = some .lowWind) c.lowWind } := by
    rcases stop with _ | _ | _ | _ | _ <;> rfl
  rw [hstep]
  rcases refusal with _ | _ | _ | _ | _ <;> rfl

/-- The state a step leaves before its minute is reported and its record written (R112). -/
structure StepTaken (s v : State) : Prop where
  timer : v.bim.stepTimer = some 60
  number : v.bim.stepNumber = next16 s.bim.stepNumber
  recorded : v.bim.recorded = s.ghm.disturbances
  held : v.bim.heldPeak = s.bim.heldPeak
  counters : v.bim.counters =
    countAnswer (stepRefusal s) (countStep (stepStop s) { s.bim.counters with steps := inc16 s.bim.counters.steps })
  outstanding : v.bim.outstanding =
    if stepStop s ≠ none then s.bim.outstanding
    else if stepStop s = none ∧ stepRefusal s = none then some (next16 s.bim.stepNumber) else none
  afe : v.afe =
    if stepStop s = none ∧ stepRefusal s = none then
      { s.afe with buffers :=
        { s.afe.buffers with bimA := .filling { kind := .fixed .n1 16 65536, trims := [[s.cfg.trims[4]]] } } }
    else s.afe
  stoppedRing : stepStop s ≠ none → v.mon.icing.ring = s.mon.icing.ring
  scoredRing : stepStop s = none →
    v.mon.icing.ring = ringWith (scoreTerms (openStep none s)).score s.mon.icing.ring
  cal : v.cal = s.cal
  iced : (reportedDay v).icedMinutes = (reportedDay s).icedMinutes
  suspect : (reportedDay v).suspectMinutes = (reportedDay s).suspectMinutes
  spe : v.spe = s.spe
  ghm : v.ghm = s.ghm
  ptu : v.ptu = s.ptu
  rch : v.rch = s.rch

theorem stepTaken_of_stopped {s u : State} {x : StepStop} (hstop : stepStop s = some x)
    (h : TransitionFrame (openStep (some x) s) u) : StepTaken s u where
  timer := by rw [h.bim]; rfl
  number := by rw [h.bim]; rfl
  recorded := by rw [h.bim]; rfl
  held := by rw [h.bim]; rfl
  counters := by rw [h.bim, stepRefusal, hstop]; rfl
  outstanding := by rw [h.bim, hstop]; rfl
  afe := by rw [h.afe, hstop]; rfl
  stoppedRing _ := h.ring
  scoredRing hnone := by rw [hstop] at hnone; cases hnone
  cal := h.cal
  iced := h.iced
  suspect := h.suspect
  spe := h.spe
  ghm := h.ghm
  ptu := h.ptu
  rch := h.rch

/-- The state in which the peak capture of an evaluable step is asked for: the step opened, its score entered. -/
def scoredStep (s : State) : State := enterScore (some (scoreTerms (openStep none s))) (openStep none s)

theorem stepTaken_of_evaluable {s u : State} (hstop : stepStop s = none) (h : TransitionFrame (scoredStep s) u) :
    StepTaken s (requestPeak u) := by
  have hafe : u.afe = s.afe := h.afe
  have hanswer : stepRefusal s = peakRefusal u.afe := by rw [hafe, stepRefusal, hstop]; rfl
  cases hrefusal : peakRefusal u.afe with
  | some r =>
    rw [requestPeak_refused hrefusal]
    rw [hrefusal] at hanswer
    exact {
      timer := congrArg BimState.stepTimer h.bim
      number := congrArg BimState.stepNumber h.bim
      recorded := congrArg BimState.recorded h.bim
      held := (congrArg BimState.heldPeak h.bim :)
      counters := by
        rw [hanswer, hstop]
        exact congrArg (fun b : BimState => countPeakRefusal r b.counters) h.bim
      outstanding := by rw [hanswer, hstop]; rfl
      afe := by rw [hanswer, hstop]; exact hafe
      stoppedRing := fun hsome => absurd hstop hsome
      scoredRing := fun _ => h.ring
      cal := h.cal, iced := h.iced, suspect := h.suspect, spe := h.spe, ghm := h.ghm, ptu := h.ptu, rch := h.rch }
  | none =>
    rw [requestPeak_accepted hrefusal]
    rw [hrefusal] at hanswer
    have htrim : trimsFor u.cfg.trims peakCapture = [s.cfg.trims[4]] := by rw [h.cfg]; rfl
    exact {
      timer := congrArg BimState.stepTimer h.bim
      number := congrArg BimState.stepNumber h.bim
      recorded := congrArg BimState.recorded h.bim
      held := (congrArg BimState.heldPeak h.bim :)
      counters := by
        rw [hanswer, hstop]
        exact congrArg BimState.counters h.bim
      outstanding := by
        rw [hanswer, hstop]
        exact congrArg (fun b : BimState => some b.stepNumber) h.bim
      afe := by
        rw [hanswer, hstop]
        simp only [setOutstanding, beginCapture, setBuffer, htrim, hafe]
        rfl
      stoppedRing := fun hsome => absurd hstop hsome
      scoredRing := fun _ => h.ring
      cal := h.cal, iced := h.iced, suspect := h.suspect, spe := h.spe, ghm := h.ghm, ptu := h.ptu, rch := h.rch }

/-- The end of a step: its minute is reported and its record written (R112, R161). -/
def closeStep (last : StepRecord) (s : State) : State :=
  let s1 := reportDay (DayRecord.addMinute s.mon.icing.state) s
  { s1 with bim := { s1.bim with lastStep := some last } }

/-- A step that is not evaluable applies the rule only (R112). -/
theorem takeStep_stopped {s : State} {x : StepStop} (hstop : stepStop s = some x) :
    ∃ view last, takeStep s = closeStep last (applyRule view (openStep (some x) s)).2 ∧
      last.number = (applyRule view (openStep (some x) s)).2.bim.stepNumber ∧ last.stop = some x := by
  simp only [takeStep, hstop]
  exact ⟨_, _, rfl, congrArg BimState.stepNumber (reportDay_bim ..), rfl⟩

/-- An evaluable step enters its score, applies the rule and asks for a peak capture (R112). -/
theorem takeStep_evaluable {s : State} (hstop : stepStop s = none) :
    ∃ view last, takeStep s = closeStep last (requestPeak (applyRule view (scoredStep s)).2) ∧
      last.number = (requestPeak (applyRule view (scoredStep s)).2).bim.stepNumber ∧ last.stop = none := by
  simp only [takeStep, hstop]
  exact ⟨_, _, rfl, congrArg BimState.stepNumber (reportDay_bim ..), rfl⟩

theorem takeStep_spec (s : State) :
    ∃ last v, takeStep s = closeStep last v ∧ StepTaken s v ∧ last.number = v.bim.stepNumber ∧
      last.stop = stepStop s := by
  cases hstop : stepStop s with
  | some x =>
    obtain ⟨view, last, hstep, hnumber, hlast⟩ := takeStep_stopped hstop
    exact ⟨last, _, hstep, stepTaken_of_stopped hstop (applyRule_frame ..), hnumber, hlast⟩
  | none =>
    obtain ⟨view, last, hstep, hnumber, hlast⟩ := takeStep_evaluable hstop
    exact ⟨last, _, hstep, stepTaken_of_evaluable hstop (applyRule_frame ..), hnumber, hlast⟩

/-! ### Closing a step -/

theorem addMinute_icedMinutes (st : IcingState) (r : DayRecord) :
    (r.addMinute st).icedMinutes = bump (st = .iced) r.icedMinutes := by cases st <;> rfl

theorem addMinute_suspectMinutes (st : IcingState) (r : DayRecord) :
    (r.addMinute st).suspectMinutes = bump (st = .suspect) r.suspectMinutes := by cases st <;> rfl

theorem reportedDay_closeStep (last : StepRecord) (s : State) :
    reportedDay (closeStep last s) = (reportedDay s).addMinute s.mon.icing.state :=
  reportedDay_reportDay _ s

section
variable (last : StepRecord) (s : State)

theorem closeStep_bim : (closeStep last s).bim = { s.bim with lastStep := some last } :=
  congrArg (fun b : BimState => { b with lastStep := some last }) (reportDay_bim ..)

theorem closeStep_mon : (closeStep last s).mon = s.mon := reportDay_mon ..
theorem closeStep_cal : (closeStep last s).cal = s.cal := reportDay_cal ..
theorem closeStep_afe : (closeStep last s).afe = s.afe := reportDay_afe ..
theorem closeStep_spe : (closeStep last s).spe = s.spe := reportDay_spe ..
theorem closeStep_ghm : (closeStep last s).ghm = s.ghm := reportDay_ghm ..
theorem closeStep_ptu : (closeStep last s).ptu = s.ptu := reportDay_ptu ..
theorem closeStep_rch : (closeStep last s).rch = s.rch := reportDay_rch ..

end

theorem bimStepExpiry_eq (s : State) : bimStepExpiry s = if s.bim.stepTimer = some 0 then takeStep s else s := by
  unfold bimStepExpiry
  split
  · next h => simp [h]
  · next h => simp [h]
  · next h => simp [h]

/-- Settles O33: a step leaves `StepTaken`, and closing it reports the minute and the record. -/
theorem icingStepScores : Obligations.IcingStepScores := by
  refine ⟨fun curve w => ⟨expectedPower_below curve, expectedPower_above curve,
    fun i r row next hi hr hw hrow hnext => expectedPower_between curve hi hr hw hrow hnext⟩, fun s hop => ?_⟩
  have hexec : exec .bimStep s = .next (rechecked s (bimStepExpiry s)) := inOperation_operating bimStepExpiry hop
  rw [hexec, bimStepExpiry_eq]
  refine ⟨fun hidle => by rw [if_neg hidle, rechecked_self], fun hdue => ?_⟩
  intro op expected clamp deficit number drop score stop c up refusal accepted day
  have hstop : stepStop s = stop := by
    simp only [stepStop, Bool.or_eq_true, decide_eq_true_eq]
    rfl
  have hrefusal : stepRefusal s = refusal := by
    rw [stepRefusal, hstop]
    rfl
  have haccepted : accepted = true ↔ stop = none ∧ refusal = none := by simp [accepted]
  have hscore : (scoreTerms (openStep none s)).score = score := by
    have hdeficit : (deficitOf expected (op.power.getD 0) : Int) = deficit := deficitOf_eq _ _
    have hdrop : (dropOf s.cfg.bim.fRef (previousStep number) s.bim.heldPeak : Int) = drop := by
      simp only [drop]
      cases s.bim.heldPeak with
      | none => rfl
      | some k =>
        have hprevious : k.step = previousStep number ↔ (k.step + 1) % 65536 = number ∧ k.step < 65536 :=
          eq_previousStep_iff k.step s.bim.stepNumber
        simp only [dropOf_some, hprevious, clamp]
    change min (deficitOf expected (op.power.getD 0) + 4 * dropOf s.cfg.bim.fRef (previousStep number) s.bim.heldPeak) 2000 =
      (min 2000 (deficit + 4 * drop)).toNat
    omega
  have hday (x : State) (hx : x.cal = s.cal) : day x = reportedDay x := by
    simp only [day, reportedDay, hx]
  rw [if_pos hdue]
  obtain ⟨last, v, hstep, h, hnumber, hlast⟩ := takeStep_spec s
  have hdays : day (rechecked s (closeStep last v)) = (reportedDay v).addMinute v.mon.icing.state :=
    (hday _ ((closeStep_cal last v).trans h.cal)).trans (reportedDay_closeStep last v)
  have hmon : (rechecked s (closeStep last v)).mon = v.mon := closeStep_mon last v
  have hbim : (rechecked s (closeStep last v)).bim = { v.bim with lastStep := some last } := closeStep_bim last v
  have hcounters := h.counters
  have houtstanding := h.outstanding
  have hafe := h.afe
  rw [hstop, hrefusal] at hcounters houtstanding hafe
  rw [hstep]
  refine ⟨hstop, _, rfl, ?_⟩
  rw [hbim, hmon, hdays, hday s rfl]
  refine ⟨h.timer, h.number, h.recorded, h.held, hcounters.trans (countAnswer_countStep ..), ?_, ?_, ?_, ?_, ?_, ?_, ?_,
    (closeStep_spe last v).trans h.spe, (closeStep_ghm last v).trans h.ghm, (closeStep_ptu last v).trans h.ptu,
    (closeStep_rch last v).trans h.rch⟩
  · rw [Option.map_some, hnumber, h.number, hlast, hstop]
    rfl
  · simp only [houtstanding, haccepted]
    rfl
  · simp only [haccepted]
    exact (closeStep_afe last v).trans hafe
  · rw [addMinute_icedMinutes, h.iced]
    rfl
  · rw [addMinute_suspectMinutes, h.suspect]
    rfl
  · intro hsome
    exact h.stoppedRing (by rwa [hstop])
  · intro hnone hlen
    rw [h.scoredRing (hstop.trans hnone), hscore, ringWith_eq _ hlen]

end Sys2Proof.Machine
end

section
/-! Keyed alarm tables, and what a window of the grid monitor can change. -/

namespace Sys2Proof.Machine

/-! ## Keyed alarm tables (R142, R143) -/

theorem alarmQuiet_iff (c : AlarmCode) (x : Source) (s : State) :
    AlarmQuiet c x s ↔ ∀ e ∈ alarmsOf c x s, e.state = .clearedUnack := by
  simp [AlarmQuiet, alarmsOf, AlarmEntry.has_iff]

/-- An update that keeps code and source keeps the table keyed. -/
theorem updateAlarm_keyed {c : AlarmCode} {x : Source} {f : AlarmEntry → AlarmEntry} {s : State}
    (hf : ∀ e, (f e).code = e.code ∧ (f e).source = e.source) (hk : AlarmsKeyed s) :
    AlarmsKeyed (updateAlarm c x f s) := by
  obtain ⟨hlen, hnodup⟩ := hk
  have hkeys : (updateAlarm c x f s).ccu.alarms.map (fun e => (e.code, e.source)) =
      s.ccu.alarms.map fun e => (e.code, e.source) := by
    rw [updateAlarm_alarms, List.map_map]
    refine List.map_congr_left fun e _ => ?_
    by_cases he : e.has c x = true <;> simp [he, hf]
  exact ⟨by simpa using hlen, hkeys ▸ hnodup⟩

/-- A fresh entry joins a keyed table that has a place for it. -/
theorem createAlarm_keyed {b : Bool} {c : AlarmCode} {x : Source} {s : State} (hlen : s.ccu.alarms.length < 32)
    (hnodup : (s.ccu.alarms.map fun e => (e.code, e.source)).Nodup) (hfresh : ∀ e ∈ s.ccu.alarms, e.has c x = false) :
    AlarmsKeyed (createAlarm b c x s) := by
  unfold AlarmsKeyed
  rw [createAlarm_alarms, List.map_append, List.nodup_append]
  refine ⟨by simpa using hlen, hnodup, by simp, ?_⟩
  simp only [List.mem_map, List.map_cons, List.map_nil, List.mem_singleton]
  rintro _ ⟨e, he, rfl⟩ _ rfl hkey
  have hsame : e.has c x = true := (AlarmEntry.has_iff ..).mpr (Prod.mk.inj hkey)
  simp [hfresh e he] at hsame

/-- A raise into a full table keeps it keyed: it evicts an entry before it appends one (R146). -/
theorem raiseIntoFull_keyed {b : Bool} {c : AlarmCode} {x : Source} {s : State} (hk : AlarmsKeyed s)
    (hfresh : ∀ e ∈ s.ccu.alarms, e.has c x = false) : AlarmsKeyed (raiseIntoFull b c x s) := by
  obtain ⟨hlen, hnodup⟩ := hk
  have evicted (p : AlarmEntry → Bool) (hp : s.ccu.alarms.any p = true) :
      AlarmsKeyed (createAlarm b c x { s with ccu := countEviction { s.ccu with alarms := removeOldest p s.ccu.alarms } }) := by
    obtain ⟨e, he, hpe⟩ := List.any_eq_true.mp hp
    have hpos := List.length_pos_of_mem he
    have hshort : (s.ccu.alarms.eraseP p).length < 32 := by
      rw [List.length_eraseP_of_mem he hpe]; omega
    have hsub : (s.ccu.alarms.eraseP p).Sublist s.ccu.alarms := List.eraseP_sublist
    exact createAlarm_keyed hshort (hnodup.sublist (hsub.map _)) fun a ha => hfresh a (hsub.subset ha)
  unfold raiseIntoFull
  split
  · next h => exact evicted _ h
  · split
    · next h => exact evicted _ h
    · exact ⟨hlen, hnodup⟩

/-- A raise keeps the table keyed (R143). -/
theorem raise_keyed (c : AlarmCode) (x : Source) {s : State} (hk : AlarmsKeyed s) : AlarmsKeyed (raise c x s) := by
  unfold raise raiseWith
  split
  · next e _ =>
    cases e.state with
    | activeUnack | activeAck => exact updateAlarm_keyed (fun _ => ⟨rfl, rfl⟩) hk
    | clearedUnack =>
      have hreturn : AlarmsKeyed (updateAlarm c x (AlarmEntry.return s.cal) s) :=
        updateAlarm_keyed (fun _ => ⟨rfl, rfl⟩) hk
      simpa only [AlarmsKeyed, enteredActive_alarms] using hreturn
  · next hnone =>
    have hfresh : ∀ e ∈ s.ccu.alarms, e.has c x = false := by
      simpa [findAlarm] using List.find?_eq_none.mp hnone
    split
    · next hlen => exact createAlarm_keyed hlen hk.2 hfresh
    · exact raiseIntoFull_keyed hk hfresh

/-- A clear keeps the table keyed (R144). -/
theorem clearAlarm_keyed (c : AlarmCode) (x : Source) {s : State} (hk : AlarmsKeyed s) :
    AlarmsKeyed (clearAlarm c x s) := by
  rcases clearAlarm_cases c x s with e | ⟨_, -, -, e⟩ | ⟨_, -, -, e⟩ <;> rw [e]
  · exact hk
  · exact updateAlarm_keyed (f := fun e => { e with state := .clearedUnack, lastChange := s.cal })
      (fun _ => ⟨rfl, rfl⟩) hk
  · have hsub : (s.ccu.alarms.eraseP (AlarmEntry.has c x)).Sublist s.ccu.alarms := List.eraseP_sublist
    exact ⟨hsub.length_le.trans hk.1, hk.2.sublist (hsub.map _)⟩

/-! ## What a window of the grid monitor can change (R90 to R94)

A window ends in captures, requests and settlements: these stay among the AFE, the engine, the monitors it serves and the
day record. -/

/-- From `s` to `t` only the AFE, the engine, the GVM, the GHM and the planner's section may have changed. -/
def WindowsOnly (s t : State) : Prop :=
  t = { s with afe := t.afe, spe := t.spe, gvm := t.gvm, ghm := t.ghm, plan := t.plan }

theorem WindowsOnly.refl (s : State) : WindowsOnly s s := rfl

theorem WindowsOnly.trans {s t u : State} (h : WindowsOnly s t) (k : WindowsOnly t u) : WindowsOnly s u :=
  Eq.trans k
    (congrArg (fun x : State => { x with afe := u.afe, spe := u.spe, gvm := u.gvm, ghm := u.ghm, plan := u.plan }) h)

section
variable {s t : State} (h : WindowsOnly s t)
include h

theorem WindowsOnly.ptu : t.ptu = s.ptu := (congrArg State.ptu h :)
theorem WindowsOnly.rch : t.rch = s.rch := (congrArg State.rch h :)
theorem WindowsOnly.ret : t.ret = s.ret := (congrArg State.ret h :)
theorem WindowsOnly.cal : t.cal = s.cal := (congrArg State.cal h :)
theorem WindowsOnly.cfg : t.cfg = s.cfg := (congrArg State.cfg h :)
theorem WindowsOnly.ccu : t.ccu = s.ccu := (congrArg State.ccu h :)

theorem WindowsOnly.alarmActive {c : AlarmCode} {x : Source} (ha : AlarmActive c x s) : AlarmActive c x t := by
  unfold AlarmActive; rwa [h.ccu]

theorem WindowsOnly.alarmQuiet {c : AlarmCode} {x : Source} (ha : AlarmQuiet c x s) : AlarmQuiet c x t := by
  unfold AlarmQuiet; rwa [h.ccu]

end

theorem withGhm_windowsOnly (f : GhmState → GhmState) (s : State) : WindowsOnly s (withGhm f s) := rfl

theorem withEntry_windowsOnly (n : Nat) (f : WindowEntry → WindowEntry) (s : State) :
    WindowsOnly s (withEntry n f s) := rfl

theorem setBuffer_windowsOnly (b : BufferId) (x : Buffer) (s : State) : WindowsOnly s (setBuffer b x s) := rfl

theorem settleWindow_windowsOnly (n : Nat) (o : WindowOutcome) (s : State) : WindowsOnly s (settleWindow n o s) := by
  rw [settleWindow_eq]; rfl

theorem releaseBuffer_windowsOnly (b : BufferId) (s : State) : WindowsOnly s (releaseBuffer b s) := by
  rcases releaseBuffer_cases b s with e | ⟨-, e⟩ <;> rw [e] <;> rfl

theorem cancelBuffer_windowsOnly (b : BufferId) (s : State) : WindowsOnly s (cancelBuffer b s) := by
  rcases cancelBuffer_cases b s with ⟨-, e⟩ | e <;> rw [e] <;> rfl

/-- A request that begins reaches the engine, its buffer and the monitor that owns it (R49). -/
theorem beginRequest_windowsOnly (r : AnalysisRequest) (s : State) : WindowsOnly s (beginRequest r s) := by
  unfold beginRequest noteBegun
  split <;> rfl

theorem select_windowsOnly (s : State) : WindowsOnly s (select s) := by
  unfold select
  split
  · exact .refl s
  · split
    · exact .refl s
    · exact beginRequest_windowsOnly ..

theorem submit_windowsOnly (source : Monitor) (tag : Nat) (b : BufferId) (mode : AnalysisMode) (s : State) :
    WindowsOnly s (submit source tag b mode s).2 := by
  unfold submit
  split
  · rfl
  · refine WindowsOnly.trans ?_ (select_windowsOnly _)
    rfl

theorem submitWindow_windowsOnly (n : Nat) (b : BufferId) (closing : PulseResult) (stored : Nat) (s : State) :
    WindowsOnly s (submitWindow n b closing stored s) := by
  have hsubmit := submit_windowsOnly .ghm n b (.harmonics closing.n closing.t stored) s
  unfold submitWindow
  split
  · next arrival s1 e =>
    rw [e] at hsubmit
    exact hsubmit.trans (withEntry_windowsOnly ..)
  · next s1 e =>
    rw [e] at hsubmit
    exact (hsubmit.trans (releaseBuffer_windowsOnly ..)).trans (settleWindow_windowsOnly ..)

theorem judgeWindow_windowsOnly (n : Nat) (b : BufferId) (r : CaptureRecord) (s : State) :
    WindowsOnly s (judgeWindow n b r s) := by
  have hinvalid : WindowsOnly s (settleWindow n .invalidFrequency (releaseBuffer b s)) :=
    (releaseBuffer_windowsOnly ..).trans (settleWindow_windowsOnly ..)
  unfold judgeWindow
  split
  · split
    · exact hinvalid
    · exact submitWindow_windowsOnly ..
  · exact hinvalid

theorem endCapture_windowsOnly (n : Nat) (b : BufferId) (segments : List (List GridInstant)) (s : State) :
    WindowsOnly s (endCapture n b segments s) := by
  unfold endCapture
  split
  · exact (setBuffer_windowsOnly ..).trans (judgeWindow_windowsOnly ..)
  all_goals exact .refl s

theorem afterEnd_windowsOnly (e : WindowEntry) (segments : List (List GridInstant)) (s : State) :
    WindowsOnly s (afterEnd e segments s) := by
  unfold afterEnd
  split
  · rfl
  · exact endCapture_windowsOnly ..
  · exact settleWindow_windowsOnly ..
  · exact .refl s

theorem endWindow_windowsOnly (closing : PulseResult) (segments : List (List GridInstant)) (s : State) :
    WindowsOnly s (endWindow closing segments s) := by
  unfold endWindow
  split
  · exact .refl s
  · exact (withEntry_windowsOnly ..).trans (afterEnd_windowsOnly ..)

theorem openWindow_windowsOnly (s : State) : WindowsOnly s (openWindow s) := by
  unfold openWindow
  split <;> rfl

/-- A VALID P2 result ends a window and opens the next (R90). -/
theorem ghmValid_windowsOnly (closing : PulseResult) (segments : List (List GridInstant)) (s : State) :
    WindowsOnly s (ghmValid closing segments s) := by
  unfold ghmValid
  split
  · exact .refl s
  · exact openWindow_windowsOnly s
  · exact (endWindow_windowsOnly ..).trans (openWindow_windowsOnly _)

/-- The end of a window whose capture has been given up (R93). -/
def endAbandoned (e : WindowEntry) (now : Option Timestamp) (s : State) : State :=
  let s1 := withEntry e.number (fun e => { e with ended := true, endTime := now }) s
  match e.outcome with
  | some _ => pruneEntries s1
  | none => settleWindow e.number .abandoned s1

theorem abandonWindow_eq (s : State) :
    abandonWindow s =
      match openEntry s with
      | none => s
      | some e => endAbandoned e s.cal (match e.buffer with
        | none => s
        | some b => cancelBuffer b s) := rfl

/-- An abandoned window is settled ABANDONED where it is not settled yet, which is no stall (R93, R109). -/
theorem endAbandoned_spec (e : WindowEntry) (now : Option Timestamp) (s : State) :
    WindowsOnly s (endAbandoned e now s) ∧ (endAbandoned e now s).ghm.counters.stalls = s.ghm.counters.stalls := by
  unfold endAbandoned
  dsimp only
  split
  · exact ⟨rfl, rfl⟩
  · obtain ⟨-, -, hcounters⟩ :=
      settleWindow_ghm e.number .abandoned (withEntry e.number (fun e => { e with ended := true, endTime := now }) s)
    exact ⟨(withEntry_windowsOnly ..).trans (settleWindow_windowsOnly ..), (congrArg GhmCounters.stalls hcounters :)⟩

theorem abandonWindow_spec (s : State) :
    WindowsOnly s (abandonWindow s) ∧ (abandonWindow s).ghm.counters.stalls = s.ghm.counters.stalls := by
  rw [abandonWindow_eq]
  split
  · exact ⟨.refl s, rfl⟩
  · next e _ =>
    cases e.buffer with
    | none => exact endAbandoned_spec e s.cal s
    | some b =>
      obtain ⟨hframe, hstalls⟩ := endAbandoned_spec e s.cal (cancelBuffer b s)
      have hghm : (cancelBuffer b s).ghm = s.ghm := by
        rcases cancelBuffer_cases b s with ⟨-, e⟩ | e <;> rw [e]
        rfl
      exact ⟨(cancelBuffer_windowsOnly b s).trans hframe, hstalls.trans (by rw [hghm])⟩

theorem addDisturbedWindow_windowsOnly (s : State) : WindowsOnly s (addDisturbedWindow s) := by
  unfold addDisturbedWindow reportDay
  split <;> rfl

theorem disturb_spec (g : GhmState) : g.disturb.disturbed = true ∧ g.disturb.counters = g.counters := by
  unfold GhmState.disturb
  by_cases h : g.disturbed = true <;> simp [h]

theorem ghmStalled_windowsOnly (s : State) : WindowsOnly s (ghmStalled s) := by
  have habandon : WindowsOnly s (addDisturbedWindow (abandonWindow s)) :=
    (abandonWindow_spec s).1.trans (addDisturbedWindow_windowsOnly _)
  unfold ghmStalled
  split
  · exact .refl s
  all_goals exact habandon.trans (withGhm_windowsOnly ..)

/-- A stall of P2 with windows in use leaves the GHM SEARCHING and disturbed, and counts (R93, R96). -/
theorem ghmStalled_ghm {s : State} (h : s.ghm.window ≠ .off) :
    (ghmStalled s).ghm.window = .searching ∧ (ghmStalled s).ghm.disturbed = true ∧
      (ghmStalled s).ghm.counters.stalls = min (s.ghm.counters.stalls + 1) 65535 := by
  have hstalls : (addDisturbedWindow (abandonWindow s)).ghm.counters.stalls = s.ghm.counters.stalls := by
    rw [← (abandonWindow_spec s).2, addDisturbedWindow, reportDay_ghm]
    rfl
  have hseen : ghmStalled s = withGhm (fun g => { g with window := .searching })
      (countGhm (fun c => { c with stalls := inc16 c.stalls })
        (withGhm GhmState.disturb (addDisturbedWindow (abandonWindow s)))) := by
    unfold ghmStalled
    split
    · next e => exact absurd e h
    all_goals rfl
  obtain ⟨hflag, hcounters⟩ := disturb_spec (addDisturbedWindow (abandonWindow s)).ghm
  rw [hseen]
  refine ⟨rfl, hflag, ?_⟩
  rw [← hstalls, ← hcounters]
  rfl

end Sys2Proof.Machine
end

section
/-! Edges and stalls of the pulse inputs (R20 to R30): what the Pulse Timing Unit does with each. -/

namespace Sys2Proof.Machine

/-! ## Pulse inputs -/

@[simp] theorem PerPulse.get_set_self {α : Type} (v : PerPulse α) (p : Pulse) (x : α) : (v.set p x).get p = x := by
  cases p <;> rfl

@[simp] theorem PerPulse.set_set {α : Type} (v : PerPulse α) (p : Pulse) (x y : α) :
    (v.set p x).set p y = v.set p y := by cases p <;> rfl

@[simp] theorem PerPulse.set_get {α : Type} (v : PerPulse α) (p : Pulse) : v.set p (v.get p) = v := by
  cases p <;> rfl

@[simp] theorem setPulse_ptu (p : Pulse) (x : PulseState) (s : State) :
    (setPulse p x s).ptu = { s.ptu with chan := s.ptu.chan.set p x } := rfl

/-- A pulse input is no part of a section. -/
@[simp] theorem rechecked_setPulse (p : Pulse) (x : PulseState) (s : State) :
    rechecked s (setPulse p x s) = setPulse p x s := rechecked_kept s _ rfl rfl rfl rfl rfl

/-- The pulse count in force: configured for P0 and P1, the window cycle count for P2 (R27). -/
theorem configuredCount_eq (cfg : ConfigSection) (p : Pulse) :
    configuredCount cfg p =
      if p = .p2 then (if cfg.ghm.nominalFrequency = 60 then 12 else 10) else (cfg.ptu.chan.get p).n := by
  cases p <;> rfl

/-- A measurement begins at its start pulse with the pulse count and the stall limit in force (R21, R24). -/
theorem startMeasurement_eq (cfg : ConfigSection) (p : Pulse) (tick : Nat) (x : PulseState) :
    startMeasurement cfg p tick x =
      { x with
        meas := .measuring (configuredCount cfg p) 0 tick (cfg.ptu.chan.get p).stallLimit
        stallIn := min (cfg.ptu.chan.get p).stallLimit 429 } := by
  simp only [startMeasurement, stallSeconds_eq]

/-- A WAITING period begins with the stall limit in force (R24). -/
theorem startWaiting_eq (cfg : ConfigSection) (p : Pulse) (tick : Nat) (x : PulseState) :
    startWaiting cfg p tick x =
      { x with
        meas := .waiting tick (cfg.ptu.chan.get p).stallLimit
        stallIn := min (cfg.ptu.chan.get p).stallLimit 429 } := by
  simp only [startWaiting, stallSeconds_eq]

/-! ## Edges (R20, R21) -/

theorem edgeAccepted_iff (spacing : Nat) (previous : Option Nat) (tick : Nat) :
    edgeAccepted spacing previous tick = true ↔ ∀ t, previous = some t → t < tick ∧ spacing ≤ tick - t := by
  cases previous <;> simp [edgeAccepted]

section
variable {p : Pulse} {tick : Nat} {s : State} (segments : List (List GridInstant))

/-- An edge in operation. -/
theorem exec_pulseEdge (hop : s.ret.operating = true) :
    exec (.pulseEdge p tick segments) s = .next (rechecked s (ptuEdge p tick segments s)) :=
  inOperation_operating (ptuEdge p tick segments) hop

theorem ptuEdge_rejected {t : Nat} (hprev : (s.ptu.chan.get p).prevAccepted = some t)
    (h : tick ≤ t ∨ tick - t < (s.cfg.ptu.chan.get p).spacing) :
    ptuEdge p tick segments s =
      setPulse p { s.ptu.chan.get p with rejected := inc16 (s.ptu.chan.get p).rejected } s :=
  if_neg fun ha => by
    have := (edgeAccepted_iff ..).mp ha t hprev
    omega

theorem ptuEdge_accepted
    (h : ∀ t, (s.ptu.chan.get p).prevAccepted = some t → t < tick ∧ (s.cfg.ptu.chan.get p).spacing ≤ tick - t) :
    ptuEdge p tick segments s = acceptPulse p tick segments s := if_pos ((edgeAccepted_iff ..).mpr h)

theorem acceptPulse_waiting {since limit : Nat} (h : (s.ptu.chan.get p).meas = .waiting since limit) :
    acceptPulse p tick segments s =
      setPulse p (startMeasurement s.cfg p tick { s.ptu.chan.get p with prevAccepted := some tick }) s := by
  simp [acceptPulse, h]

theorem acceptPulse_counts {n k since limit : Nat} (h : (s.ptu.chan.get p).meas = .measuring n k since limit)
    (hk : k + 1 < n) :
    acceptPulse p tick segments s =
      setPulse p { s.ptu.chan.get p with prevAccepted := some tick, meas := .measuring n (k + 1) since limit } s := by
  simp [acceptPulse, h, hk]

end

/-- The result an end pulse issues (R22). -/
def endResult (p : Pulse) (tick n since : Nat) (s : State) : PulseResult :=
  validResult p s.cfg.ptu.teeth (next16 (s.ptu.chan.get p).seqCount) n (min (tick - since) max32)

/-- The pulse input once an end pulse has issued its result and begun the next measurement (R21, R22). -/
def issuedPulse (p : Pulse) (tick n since : Nat) (s : State) : PulseState :=
  (startMeasurement s.cfg p tick { s.ptu.chan.get p with prevAccepted := some tick }).issue (endResult p tick n since s)

theorem acceptPulse_ends {p : Pulse} {tick n k since limit : Nat} {s : State} (segments : List (List GridInstant))
    (h : (s.ptu.chan.get p).meas = .measuring n k since limit) (hk : n ≤ k + 1) :
    acceptPulse p tick segments s =
      afterValid p (endResult p tick n since s) segments (setPulse p (issuedPulse p tick n since s) s) := by
  simp [acceptPulse, h, Nat.not_lt.mpr hk, endResult, issuedPulse]

/-- Settles O8: rejected, beginning and counting edges are cases of `ptuEdge` and `acceptPulse`. -/
theorem edgeWithoutResult : Obligations.EdgeWithoutResult := by
  intro p tick segments s hop
  refine ⟨fun t hprev h => ?_, fun haccept => ⟨fun since limit hmeas => ?_, fun n k since limit hmeas hk => ?_⟩⟩
  · rw [exec_pulseEdge segments hop, ptuEdge_rejected segments hprev h, rechecked_setPulse]
    rfl
  · rw [exec_pulseEdge segments hop, ptuEdge_accepted segments haccept, acceptPulse_waiting segments hmeas,
      rechecked_setPulse, startMeasurement_eq, configuredCount_eq]
    rfl
  · rw [exec_pulseEdge segments hop, ptuEdge_accepted segments haccept, acceptPulse_counts segments hmeas hk,
      rechecked_setPulse]
    rfl

/-! ## What alarms and the pulse inputs leave alone -/

/-- From `s` to `t` the configuration, the calendar, the supply and every block of measurements but the PTU stay as they
are. -/
structure PulseFrame (s t : State) : Prop where
  cfg : t.cfg = s.cfg
  cal : t.cal = s.cal
  ret : t.ret = s.ret
  rch : t.rch = s.rch
  afe : t.afe = s.afe
  spe : t.spe = s.spe
  gvm : t.gvm = s.gvm
  ghm : t.ghm = s.ghm

theorem PulseFrame.refl (s : State) : PulseFrame s s := ⟨rfl, rfl, rfl, rfl, rfl, rfl, rfl, rfl⟩

theorem PulseFrame.trans {s t u : State} (h : PulseFrame s t) (k : PulseFrame t u) : PulseFrame s u :=
  ⟨k.cfg.trans h.cfg, k.cal.trans h.cal, k.ret.trans h.ret, k.rch.trans h.rch, k.afe.trans h.afe, k.spe.trans h.spe,
    k.gvm.trans h.gvm, k.ghm.trans h.ghm⟩

theorem setPulse_pulseFrame (p : Pulse) (x : PulseState) (s : State) : PulseFrame s (setPulse p x s) :=
  ⟨rfl, rfl, rfl, rfl, rfl, rfl, rfl, rfl⟩

theorem raise_pulseFrame (c : AlarmCode) (x : Source) (s : State) : PulseFrame s (raise c x s) :=
  ⟨raise_cfg .., raise_cal .., raise_ret .., raise_rch .., raise_afe .., raise_spe .., raise_gvm .., raise_ghm ..⟩

theorem clearAlarm_pulseFrame (c : AlarmCode) (x : Source) (s : State) : PulseFrame s (clearAlarm c x s) :=
  ⟨clearAlarm_cfg .., clearAlarm_cal .., clearAlarm_ret .., clearAlarm_rch .., clearAlarm_afe .., clearAlarm_spe ..,
    clearAlarm_gvm .., clearAlarm_ghm ..⟩

/-! ## The clear of TACHO_STALL (R25) -/

theorem clearStall_of_mark {p : Pulse} {s : State} (h : (s.ptu.chan.get p).stallMark = true) :
    clearStall p s =
      clearAlarm .tachoStall (.pulse p) (setPulse p { s.ptu.chan.get p with stallMark := false } s) := if_pos h

theorem clearStall_of_no_mark {p : Pulse} {s : State} (h : (s.ptu.chan.get p).stallMark = false) :
    clearStall p s = s := if_neg (by simp [h])

/-- A VALID result leaves the mark clear, and nothing else of the PTU changes with it (R25). -/
theorem clearStall_ptu (p : Pulse) (s : State) :
    (clearStall p s).ptu =
      { s.ptu with chan := s.ptu.chan.set p { s.ptu.chan.get p with stallMark := false } } := by
  cases h : (s.ptu.chan.get p).stallMark with
  | true => rw [clearStall_of_mark h, clearAlarm_ptu, setPulse_ptu]
  | false =>
    have hsame : { s.ptu.chan.get p with stallMark := false } = s.ptu.chan.get p := by rw [← h]
    rw [clearStall_of_no_mark h, hsame, PerPulse.set_get]

theorem clearStall_pulseFrame (p : Pulse) (s : State) : PulseFrame s (clearStall p s) := by
  unfold clearStall
  split
  · exact (setPulse_pulseFrame ..).trans (clearAlarm_pulseFrame ..)
  · exact .refl s

theorem clearStall_quiet {p : Pulse} {s : State} (h : (s.ptu.chan.get p).stallMark = true) (hk : AlarmsKeyed s) :
    AlarmQuiet .tachoStall (.pulse p) (clearStall p s) := by
  rw [clearStall_of_mark h]
  exact clearAlarm_quiet _ _ (setPulse p _ s) hk

/-- The clear leaves the entries of every other alarm code. -/
theorem alarmsOf_clearStall {c : AlarmCode} (h : c ≠ .tachoStall) (x : Source) (p : Pulse) (s : State) :
    alarmsOf c x (clearStall p s) = alarmsOf c x s := by
  unfold clearStall
  split
  · exact alarmsOf_clearAlarm_of_ne h x (.pulse p) (setPulse p _ s)
  · rfl

/-! ## The comparison of the two speeds (R28, R29) -/

/-- The tolerance test over the integers (R28). -/
theorem outOfTolerance_iff (cfg : PtuConfig) (rotor hss : Nat) :
    outOfTolerance cfg rotor hss = true ↔
      ((rotor * cfg.gearRatio / 1000 : Nat) : Int) * cfg.tolerance <
        |(hss : Int) - (rotor * cfg.gearRatio / 1000 : Nat)| * 1000 := by
  rw [outOfTolerance, decide_eq_true_iff, Int.abs_eq_natAbs]
  exact_mod_cast Iff.rfl

theorem mismatchAlarm_pulseFrame (u v : PtuState) (s : State) :
    PulseFrame s (mismatchAlarm u v s) ∧ (mismatchAlarm u v s).ptu = s.ptu := by
  unfold mismatchAlarm
  split
  · exact ⟨raise_pulseFrame .., raise_ptu ..⟩
  · exact ⟨clearAlarm_pulseFrame .., clearAlarm_ptu ..⟩
  · exact ⟨.refl s, rfl⟩

theorem mismatchAlarm_keyed (u v : PtuState) {s : State} (hk : AlarmsKeyed s) :
    AlarmsKeyed (mismatchAlarm u v s) := by
  unfold mismatchAlarm
  split
  · exact raise_keyed _ _ hk
  · exact clearAlarm_keyed _ _ hk
  · exact hk

/-- A comparison keeps the pulse inputs (R29). -/
@[simp] theorem compared_chan (out : Bool) (u : PtuState) : (u.compared out).chan = u.chan := by
  unfold PtuState.compared
  dsimp only
  split
  · split <;> rfl
  · rfl

/-- Without a VALID result of P0 nothing is compared (R28). -/
theorem compareSpeeds_none {r : PulseResult} {s : State} (h : comparison s.cfg.ptu s.ptu.chan.p0.latest r.derived = none) :
    compareSpeeds r s = s := by simp [compareSpeeds, h]

theorem compareSpeeds_some {r : PulseResult} {s : State} {out : Bool}
    (h : comparison s.cfg.ptu s.ptu.chan.p0.latest r.derived = some out) :
    compareSpeeds r s = mismatchAlarm s.ptu (s.ptu.compared out) { s with ptu := s.ptu.compared out } := by
  simp [compareSpeeds, h]

theorem compareSpeeds_frame (r : PulseResult) (s : State) :
    PulseFrame s (compareSpeeds r s) ∧ (compareSpeeds r s).ptu.chan = s.ptu.chan ∧
      (AlarmsKeyed s → AlarmsKeyed (compareSpeeds r s)) := by
  cases h : comparison s.cfg.ptu s.ptu.chan.p0.latest r.derived with
  | none => rw [compareSpeeds_none h]; exact ⟨.refl s, rfl, id⟩
  | some out =>
    rw [compareSpeeds_some h]
    obtain ⟨hframe, hptu⟩ := mismatchAlarm_pulseFrame s.ptu (s.ptu.compared out) { s with ptu := s.ptu.compared out }
    have hwrite : PulseFrame s { s with ptu := s.ptu.compared out } := ⟨rfl, rfl, rfl, rfl, rfl, rfl, rfl, rfl⟩
    exact ⟨hwrite.trans hframe, by rw [hptu, compared_chan], fun hk => mismatchAlarm_keyed _ _ (s := { s with ptu := _ }) hk⟩

/-- Out of tolerance the counter goes up; at 3 the flag is set with one more event, and its alarm raised (R29). -/
theorem compareSpeeds_out {r : PulseResult} {s : State}
    (h : comparison s.cfg.ptu s.ptu.chan.p0.latest r.derived = some true) :
    let t := compareSpeeds r s
    let c := min (s.ptu.mismatchCounter + 1) 255
    t.ptu.mismatchCounter = c ∧
      (c = 3 → t.ptu.mismatchFlag = true ∧ t.ptu.mismatchEvents = (s.ptu.mismatchEvents + 1) % 65536 ∧
        (s.ptu.mismatchFlag = false → HasRoom .tachoMismatch .ptu s → AlarmActive .tachoMismatch .ptu t)) ∧
      (c ≠ 3 → t.ptu.mismatchFlag = s.ptu.mismatchFlag ∧ t.ptu.mismatchEvents = s.ptu.mismatchEvents) := by
  dsimp only
  rw [compareSpeeds_some h, (mismatchAlarm_pulseFrame ..).2]
  by_cases hc : min (s.ptu.mismatchCounter + 1) 255 = 3
  · have hat : s.ptu.compared true =
        { s.ptu with mismatchCounter := min (s.ptu.mismatchCounter + 1) 255, mismatchFlag := true,
                     mismatchEvents := next16 s.ptu.mismatchEvents } := by simp [PtuState.compared, hc]
    rw [hat]
    refine ⟨rfl, fun _ => ⟨rfl, rfl, fun hclear hroom => ?_⟩, fun hne => absurd hc hne⟩
    simp only [mismatchAlarm, hclear]
    exact raise_active _ _ { s with ptu := _ } hroom
  · have hbelow : s.ptu.compared true = { s.ptu with mismatchCounter := min (s.ptu.mismatchCounter + 1) 255 } := by
      simp [PtuState.compared, hc]
    rw [hbelow]
    exact ⟨rfl, fun h3 => absurd h3 hc, fun _ => ⟨rfl, rfl⟩⟩

/-- Within tolerance the counter and the flag go, with the alarm of a flag that was set (R29). -/
theorem compareSpeeds_within {r : PulseResult} {s : State}
    (h : comparison s.cfg.ptu s.ptu.chan.p0.latest r.derived = some false) :
    let t := compareSpeeds r s
    t.ptu.mismatchCounter = 0 ∧ t.ptu.mismatchFlag = false ∧ t.ptu.mismatchEvents = s.ptu.mismatchEvents ∧
      (s.ptu.mismatchFlag = true → AlarmsKeyed s → AlarmQuiet .tachoMismatch .ptu t) := by
  dsimp only
  rw [compareSpeeds_some h, (mismatchAlarm_pulseFrame ..).2]
  refine ⟨rfl, rfl, rfl, fun hset hkeyed => ?_⟩
  simp only [mismatchAlarm, hset, PtuState.compared]
  exact clearAlarm_quiet _ _ { s with ptu := _ } hkeyed

/-! ## What follows a VALID result (R25, R28, R30) -/

/-- Whatever follows it, a VALID result leaves the mark of its channel clear and the other channels as they are. -/
theorem afterValid_chan (p : Pulse) (r : PulseResult) (segments : List (List GridInstant)) (s : State) :
    (afterValid p r segments s).ptu.chan = s.ptu.chan.set p { s.ptu.chan.get p with stallMark := false } := by
  cases p with
  | p0 => exact congrArg PtuState.chan (clearStall_ptu .p0 s)
  | p1 =>
    have hclear := congrArg PtuState.chan (clearStall_ptu .p1 (compareSpeeds r s))
    rwa [(compareSpeeds_frame r s).2.1] at hclear
  | p2 =>
    exact congrArg PtuState.chan ((ghmValid_windowsOnly r segments (clearStall .p2 s)).ptu.trans (clearStall_ptu .p2 s))

/-- Only a P1 result moves the mismatch counter, flag and event counter (R29). -/
theorem afterValid_ptu {p : Pulse} (h : p ≠ .p1) (r : PulseResult) (segments : List (List GridInstant)) (s : State) :
    (afterValid p r segments s).ptu =
      { s.ptu with chan := s.ptu.chan.set p { s.ptu.chan.get p with stallMark := false } } := by
  cases p with
  | p0 => exact clearStall_ptu .p0 s
  | p1 => exact absurd rfl h
  | p2 => exact (ghmValid_windowsOnly r segments (clearStall .p2 s)).ptu.trans (clearStall_ptu .p2 s)

/-- Only a P2 result reaches the captures, the engine and the monitors (R30). -/
theorem afterValid_pulseFrame {p : Pulse} (h : p ≠ .p2) (r : PulseResult) (segments : List (List GridInstant)) (s : State) :
    PulseFrame s (afterValid p r segments s) := by
  cases p with
  | p0 => exact clearStall_pulseFrame ..
  | p1 => exact (compareSpeeds_frame r s).1.trans (clearStall_pulseFrame ..)
  | p2 => exact absurd rfl h

theorem afterValid_frame (p : Pulse) (r : PulseResult) (segments : List (List GridInstant)) (s : State) :
    (afterValid p r segments s).rch = s.rch ∧ (afterValid p r segments s).ret = s.ret ∧
      (afterValid p r segments s).cal = s.cal ∧ (afterValid p r segments s).cfg = s.cfg := by
  by_cases h : p = .p2
  · subst h
    have hclear := clearStall_pulseFrame .p2 s
    have hgrid := ghmValid_windowsOnly r segments (clearStall .p2 s)
    exact ⟨hgrid.rch.trans hclear.rch, hgrid.ret.trans hclear.ret, hgrid.cal.trans hclear.cal, hgrid.cfg.trans hclear.cfg⟩
  · have hframe := afterValid_pulseFrame h r segments s
    exact ⟨hframe.rch, hframe.ret, hframe.cal, hframe.cfg⟩

/-- A VALID result of a channel whose mark is set clears its TACHO_STALL (R25). -/
theorem afterValid_quiet {p : Pulse} {s : State} (r : PulseResult) (segments : List (List GridInstant))
    (hmark : (s.ptu.chan.get p).stallMark = true) (hk : AlarmsKeyed s) :
    AlarmQuiet .tachoStall (.pulse p) (afterValid p r segments s) := by
  cases p with
  | p0 => exact clearStall_quiet hmark hk
  | p1 =>
    obtain ⟨-, hchan, hkeyed⟩ := compareSpeeds_frame r s
    exact clearStall_quiet (by rw [hchan]; exact hmark) (hkeyed hk)
  | p2 => exact (ghmValid_windowsOnly ..).alarmQuiet (clearStall_quiet hmark hk)

/-! ## The end pulse (R21 to R23) -/

/-- An accepted end pulse in operation. -/
theorem exec_endPulse {p : Pulse} {tick n k since limit : Nat} {s : State} (segments : List (List GridInstant))
    (hop : s.ret.operating = true)
    (haccept : ∀ t, (s.ptu.chan.get p).prevAccepted = some t → t < tick ∧ (s.cfg.ptu.chan.get p).spacing ≤ tick - t)
    (hmeas : (s.ptu.chan.get p).meas = .measuring n k since limit) (hk : n ≤ k + 1) :
    exec (.pulseEdge p tick segments) s =
      .next (rechecked s
        (afterValid p (endResult p tick n since s) segments (setPulse p (issuedPulse p tick n since s) s))) := by
  rw [exec_pulseEdge segments hop, ptuEdge_accepted segments haccept, acceptPulse_ends segments hmeas hk]

/-- Settles O9: the result and the new measurement are written first, and what follows keeps them by `afterValid_chan`. -/
theorem endPulseIssuesResult : Obligations.EndPulseIssuesResult := by
  intro p tick n k since limit segments s hop haccept hmeas hk _
  have hissued : { issuedPulse p tick n since s with stallMark := false } =
      { meas := .measuring (configuredCount s.cfg p) 0 tick (s.cfg.ptu.chan.get p).stallLimit,
        prevAccepted := some tick, latest := some (endResult p tick n since s),
        seqCount := next16 (s.ptu.chan.get p).seqCount, rejected := (s.ptu.chan.get p).rejected,
        stallMark := false, stallIn := min (s.cfg.ptu.chan.get p).stallLimit 429 } := by
    rw [issuedPulse, startMeasurement_eq]
    rfl
  let u := setPulse p (issuedPulse p tick n since s) s
  obtain ⟨hrch, hret, hcal, hcfg⟩ := afterValid_frame p (endResult p tick n since s) segments u
  refine ⟨_, exec_endPulse segments hop haccept hmeas hk, ?_, fun hmark hkeyed => ?_, hrch, hret, hcal, hcfg,
    fun hp => ?_, fun hp => ?_⟩
  · rw [rechecked_ptu, afterValid_chan, setPulse_ptu, PerPulse.get_set_self, PerPulse.set_set, hissued,
      configuredCount_eq]
    cases p <;> rfl
  · have hkept : (u.ptu.chan.get p).stallMark = true := by
      rw [← hmark, setPulse_ptu, PerPulse.get_set_self]
      rfl
    exact afterValid_quiet (s := u) _ segments hkept hkeyed
  · rw [rechecked_ptu, afterValid_ptu hp]
    exact ⟨rfl, rfl, rfl⟩
  · have hframe := afterValid_pulseFrame hp (endResult p tick n since s) segments u
    exact ⟨hframe.afe, hframe.spe, hframe.ghm, hframe.gvm⟩

/-- The clear of TACHO_STALL behind a comparison leaves the mismatch state as the comparison left it. -/
theorem clearStall_mismatch (p : Pulse) (s : State) :
    (clearStall p s).ptu.mismatchCounter = s.ptu.mismatchCounter ∧
      (clearStall p s).ptu.mismatchFlag = s.ptu.mismatchFlag ∧
      (clearStall p s).ptu.mismatchEvents = s.ptu.mismatchEvents := by
  rw [clearStall_ptu]
  exact ⟨rfl, rfl, rfl⟩

/-- Settles O10: the comparison moves the mismatch state, which the clear of TACHO_STALL behind it keeps with its alarm. -/
theorem tachoConsistency : Obligations.TachoConsistency := by
  intro tick n k since limit s hop haccept hmeas hk _
  let r := endResult .p1 tick n since s
  let u := setPulse .p1 (issuedPulse .p1 tick n since s) s
  have halarms := alarmsOf_clearStall (c := .tachoMismatch) (by decide) .ptu .p1 (compareSpeeds r u)
  obtain ⟨hcounter, hflag, hevents⟩ := clearStall_mismatch .p1 (compareSpeeds r u)
  have hcomparison (r0 : PulseResult) (hr0 : s.ptu.chan.p0.latest = some r0) :
      comparison u.cfg.ptu u.ptu.chan.p0.latest r.derived =
        if r0.status = .valid then some (outOfTolerance s.cfg.ptu r0.derived r.derived) else none := by
    show comparison s.cfg.ptu s.ptu.chan.p0.latest r.derived = _
    rw [hr0]
    rfl
  have hafter : afterValid .p1 r [] u = clearStall .p1 (compareSpeeds r u) := rfl
  refine ⟨_, r, exec_endPulse (p := .p1) [] hop haccept hmeas hk, ?_, fun r0 hr0 hvalid => ?_, fun hstalled => ?_⟩
  · exact congrArg (fun c : PerPulse PulseState => c.p1.latest) (afterValid_chan .p1 r [] u)
  · have hcompared := (hcomparison r0 hr0).trans (if_pos hvalid)
    rw [rechecked_ptu, hafter, hcounter, hflag, hevents]
    refine ⟨fun hout => ?_, fun hin => ?_⟩
    · rw [(outOfTolerance_iff ..).mpr hout] at hcompared
      obtain ⟨hc, hthird, hother⟩ := compareSpeeds_out hcompared
      refine ⟨hc, fun h3 => ?_, hother⟩
      obtain ⟨hset, hevent, hraise⟩ := hthird h3
      refine ⟨hset, hevent, fun hclear hroom => (alarmActive_iff ..).mpr ?_⟩
      exact halarms ▸ (alarmActive_iff ..).mp (hraise hclear hroom)
    · rw [Bool.eq_false_iff.mpr (mt (outOfTolerance_iff ..).mp hin)] at hcompared
      obtain ⟨hc, hclear, hevent, hquiet⟩ := compareSpeeds_within hcompared
      refine ⟨hc, hclear, hevent, fun hset hkeyed => (alarmQuiet_iff ..).mpr ?_⟩
      exact halarms ▸ (alarmQuiet_iff ..).mp (hquiet hset hkeyed)
  · have hnone : comparison u.cfg.ptu u.ptu.chan.p0.latest r.derived = none := by
      cases hr0 : s.ptu.chan.p0.latest with
      | none => exact congrArg (fun x => comparison s.cfg.ptu x r.derived) hr0
      | some r0 => rw [hcomparison r0 hr0, hstalled r0 hr0, if_neg (by decide)]
    rw [rechecked_ptu, hafter, hcounter, hflag, hevents, compareSpeeds_none hnone]
    exact ⟨rfl, rfl, rfl⟩

/-! ## Stalls (R24, R25, R30) -/

/-- A stall in operation. -/
theorem exec_stall (p : Pulse) {s : State} (hop : s.ret.operating = true) :
    exec (.stall p) s = .next (rechecked s (ptuStall p s)) := inOperation_operating (ptuStall p) hop

theorem raiseStall_silent {p : Pulse} {s : State}
    (h : s.ccu.op.regime ≠ .producing ∨ (s.ptu.chan.get p).stallMark = true) : raiseStall p s = s :=
  if_neg fun hraise => by
    obtain ⟨hregime, hmark⟩ := hraise
    rcases h with h | h
    · exact h hregime
    · simp [hmark] at h

theorem raiseStall_raises {p : Pulse} {s : State} (hregime : s.ccu.op.regime = .producing)
    (hmark : (s.ptu.chan.get p).stallMark = false) :
    raiseStall p s = raise .tachoStall (.pulse p) (setPulse p { s.ptu.chan.get p with stallMark := true } s) :=
  if_pos ⟨hregime, hmark⟩

/-- While PRODUCING a stall leaves the mark set (R25). -/
theorem raiseStall_ptu (p : Pulse) (s : State) :
    (raiseStall p s).ptu =
      { s.ptu with
        chan := s.ptu.chan.set p
          { s.ptu.chan.get p with stallMark := (s.ptu.chan.get p).stallMark || s.ccu.op.regime = .producing } } := by
  by_cases h : s.ccu.op.regime = .producing ∧ (s.ptu.chan.get p).stallMark = false
  · obtain ⟨hregime, hmark⟩ := h
    rw [raiseStall_raises hregime hmark, raise_ptu, setPulse_ptu]
    simp [hregime]
  · have hsilent : s.ccu.op.regime ≠ .producing ∨ (s.ptu.chan.get p).stallMark = true := by
      simpa [or_iff_not_imp_left] using h
    have hsame : ((s.ptu.chan.get p).stallMark || decide (s.ccu.op.regime = .producing)) = (s.ptu.chan.get p).stallMark := by
      rcases hsilent with h | h <;> simp [h]
    rw [raiseStall_silent hsilent, hsame, PerPulse.set_get]

theorem raiseStall_pulseFrame (p : Pulse) (s : State) : PulseFrame s (raiseStall p s) := by
  unfold raiseStall
  split
  · exact (setPulse_pulseFrame ..).trans (raise_pulseFrame ..)
  · exact .refl s

theorem raiseStall_active {p : Pulse} {s : State} (hregime : s.ccu.op.regime = .producing)
    (hmark : (s.ptu.chan.get p).stallMark = false) (hroom : HasRoom .tachoStall (.pulse p) s) :
    AlarmActive .tachoStall (.pulse p) (raiseStall p s) := by
  rw [raiseStall_raises hregime hmark]
  exact raise_active _ _ (setPulse p _ s) hroom

/-- The pulse input once a stall has issued its result and begun the WAITING period, before the mark (R24). -/
def stalledPulse (p : Pulse) (n since limit : Nat) (s : State) : PulseState :=
  let x := s.ptu.chan.get p
  (startWaiting s.cfg p (since + stallTicks limit) x).issue (stalledResult (next16 x.seqCount) n (stallTicks limit))

theorem stalledPulse_eq (p : Pulse) (n since limit : Nat) (s : State) :
    stalledPulse p n since limit s =
      { s.ptu.chan.get p with
        meas := .waiting (since + min (limit * 10000000) 4294967295) (s.cfg.ptu.chan.get p).stallLimit
        stallIn := min (s.cfg.ptu.chan.get p).stallLimit 429
        latest := some
          { seq := ((s.ptu.chan.get p).seqCount + 1) % 65536, n := n, t := min (limit * 10000000) 4294967295,
            status := .stalled, freq := 0, derived := 0 }
        seqCount := ((s.ptu.chan.get p).seqCount + 1) % 65536 } := by
  simp only [stalledPulse, startWaiting_eq]
  rfl

/-- At a stall the result is issued, then the alarm raised, and on P2 the GHM told (R24, R25, R30). -/
theorem stallChannel_eq {p : Pulse} {n since limit : Nat} {s : State}
    (h : stalledSpan s.cfg p (s.ptu.chan.get p).meas = (n, since, limit)) :
    stallChannel p s =
      if p = .p2 then ghmStalled (raiseStall p (setPulse p (stalledPulse p n since limit s) s))
      else raiseStall p (setPulse p (stalledPulse p n since limit s) s) := by
  cases p <;> simp only [stallChannel, h] <;> rfl

/-- The handling of a STALLED result by the GHM stays among windows. -/
theorem stallChannel_windowsOnly {p : Pulse} {n since limit : Nat} {s : State}
    (h : stalledSpan s.cfg p (s.ptu.chan.get p).meas = (n, since, limit)) :
    WindowsOnly (raiseStall p (setPulse p (stalledPulse p n since limit s) s)) (stallChannel p s) := by
  rw [stallChannel_eq h]
  split
  · exact ghmStalled_windowsOnly _
  · exact .refl _

/-- Settles O11: every clause is read off `raiseStall`, and off `ghmStalled` behind it on P2. -/
theorem stallIssuesResult : Obligations.StallIssuesResult := by
  refine ⟨fun p s hop hrun => ?_, fun p n since limit s hop hdone => ?_⟩
  · have hstay : ptuStall p s = s := if_neg hrun
    rw [exec_stall p hop, hstay, rechecked_self]
  intro x count hspan ticks seq y
  have hstalls : ptuStall p s = stallChannel p s := if_pos hdone
  have hended : stalledSpan s.cfg p (s.ptu.chan.get p).meas = (n, since, limit) := by
    rcases hspan with ⟨k, hmeas⟩ | ⟨hmeas, hcount⟩
    · exact congrArg (stalledSpan s.cfg p) hmeas
    · rw [show (s.ptu.chan.get p).meas = .waiting since limit from hmeas, hcount]
      exact congrArg (·, since, limit) (configuredCount_eq s.cfg p)
  have hy : stalledPulse p n since limit s = y := stalledPulse_eq p n since limit s
  let u := setPulse p y s
  have hchan : u.ptu.chan.get p = y := PerPulse.get_set_self ..
  have hmark : (u.ptu.chan.get p).stallMark = x.stallMark := by rw [hchan]
  have hchannel := stallChannel_eq hended
  have hreach := stallChannel_windowsOnly hended
  rw [hy] at hchannel hreach
  have hframe := raiseStall_pulseFrame p u
  have hexec : exec (.stall p) s = .next (rechecked s (stallChannel p s)) := by rw [exec_stall p hop, hstalls]
  refine ⟨fun hp hquiet => ?_, _, hexec, ?_, fun hregime hclear hroom => ?_, fun hp => ?_, fun hp hwindow => ?_⟩
  · rw [hexec, hchannel, if_neg hp, raiseStall_silent (hquiet.imp_right hmark.trans)]
    exact congrArg _ (rechecked_setPulse p y s)
  · rw [rechecked_ptu, hreach.ptu, raiseStall_ptu, hchan]
    exact congrArg (fun c => { s.ptu with chan := c }) (PerPulse.set_set s.ptu.chan p y _)
  · exact hreach.alarmActive (raiseStall_active (s := u) hregime (hmark.trans hclear) hroom)
  · rw [hchannel, if_neg hp]
    exact ⟨hframe.afe, hframe.spe, hframe.ghm⟩
  · have hstall := ghmStalled_ghm (s := raiseStall p u) (by rwa [hframe.ghm])
    rw [hframe.ghm] at hstall
    rwa [hchannel, if_pos hp]

end Sys2Proof.Machine
end

section
/-! Writes of the PTU and RCH items (R26, R27, R40). -/

namespace Sys2Proof.Machine

/-- A configuration write in operation that R195 admits. -/
theorem inOperation_writeConfig (p : Port) (w : ConfigWrite) (s : State) (hop : s.ret.operating = true)
    (hp : FarmOrPresence p s) :
    inOperation (takeRequest p (.writeConfig w)) s = .next (rechecked s (formReply p 0x31
      (handleWrite w (countPort p (fun c => { c with taken := inc16 c.taken }) s)))) := by
  rw [inOperation_operating _ hop, takeRequest_writeConfig p w s hp]

/-! ## PTU items (R26, R27) -/

/-- A PTU item is stored in range and refused out of it. -/
theorem formReply_ptuStore (p : Port) (lo hi v : Nat) (f : PtuConfig → PtuConfig) (s : State) :
    formReply p 0x31 (ptuStore lo hi v f (countPort p (fun c => { c with taken := inc16 c.taken }) s)) =
      if lo ≤ v ∧ v ≤ hi then answered p 0x31 (plain .ok) { s with cfg := { s.cfg with ptu := f s.cfg.ptu } }
      else answered p 0x31 (plain .range) s := by
  unfold ptuStore
  split
  · exact formReply_answered p 0x31 (plain .ok) { s with cfg := { s.cfg with ptu := f s.cfg.ptu } } (.inr rfl)
  · exact formReply_answered p 0x31 (plain .range) s (.inr rfl)

/-! ## RCH items (R40) -/

theorem strictlyRising_iff (l : List (Nat × Int)) :
    strictlyRising l = true ↔ l.IsChain fun p q => p.1 < q.1 := by
  induction l with
  | nil => simp [strictlyRising]
  | cons p l ih =>
    cases l with
    | nil => simp [strictlyRising]
    | cons q rest => simp [strictlyRising, ih]

/-- The check of a conversion table, point by point (R40). -/
theorem tableOk_iff (t : Vector (Nat × Int) 8) :
    tableOk t = true ↔
      (∀ i : Fin 8, 1 ≤ t[i].1 ∧ t[i].1 ≤ 4294967295 ∧ -600 ≤ t[i].2 ∧ t[i].2 ≤ 2000) ∧
        ∀ i : Fin 7, t[i.castSucc].1 < t[i.succ].1 := by
  have hpoints : (t.toList.all fun p => 1 ≤ p.1 && p.1 ≤ max32 && -600 ≤ p.2 && p.2 ≤ 2000) = true ↔
      ∀ i : Fin 8, 1 ≤ t[i].1 ∧ t[i].1 ≤ 4294967295 ∧ -600 ≤ t[i].2 ∧ t[i].2 ≤ 2000 := by
    simp only [List.all_eq_true, List.forall_mem_iff_getElem, Vector.length_toList, Vector.getElem_toList,
      Fin.forall_iff, Bool.and_eq_true, decide_eq_true_iff, and_assoc]
    rfl
  have hrising : strictlyRising t.toList = true ↔ ∀ i : Fin 7, t[i.castSucc].1 < t[i.succ].1 := by
    rw [strictlyRising_iff, List.isChain_iff_getElem]
    simp only [Vector.length_toList, Vector.getElem_toList, Fin.forall_iff]
    exact ⟨fun h i hi => h i (Nat.succ_lt_succ hi), fun h i hi => h i (Nat.lt_of_succ_lt_succ hi)⟩
  rw [tableOk, Bool.and_eq_true, hpoints, hrising]

/-- A change of the RCH items behind a check is stored where the check holds and refused elsewhere. -/
theorem formReply_rchStore (p : Port) {ok ok' : Prop} [Decidable ok] [Decidable ok'] (h : ok ↔ ok')
    (f : RchConfig → RchConfig) (s : State) :
    formReply p 0x31
        (if ok then (withRchConfig f (countPort p (fun c => { c with taken := inc16 c.taken }) s), { status := .ok })
        else (countPort p (fun c => { c with taken := inc16 c.taken }) s, { status := .range })) =
      if ok' then answered p 0x31 (plain .ok) { s with cfg := { s.cfg with rch := f s.cfg.rch } }
      else answered p 0x31 (plain .range) s := by
  by_cases hok : ok
  · rw [if_pos hok, if_pos (h.mp hok)]
    exact formReply_answered p 0x31 (plain .ok) { s with cfg := { s.cfg with rch := f s.cfg.rch } } (.inr rfl)
  · rw [if_neg hok, if_neg (mt h.mpr hok)]
    exact formReply_answered p 0x31 (plain .range) s (.inr rfl)

/-- Settles O15: each item is one `ptuStore`, or one check of R40 with its store. -/
theorem sensorItemWrites : Obligations.SensorItemWrites := by
  refine ⟨fun p index value s hop hp => ?_, fun p item s hop hp => ?_⟩
  · refine (inOperation_writeConfig p (.ptu index value) s hop hp).trans ?_
    congr 2
    match index with
    | 0 | 1 | 2 | 3 | 4 | 5 | 6 | 7 | 8 | 9 | 10 => exact formReply_ptuStore ..
    | _ + 11 => exact formReply_answered p 0x31 (plain .unknownItem) s (.inr rfl)
  · refine (inOperation_writeConfig p (.rch item) s hop hp).trans ?_
    congr 2
    cases item with
    | refResistance v => exact formReply_rchStore p Iff.rfl _ s
    | refWindow low high => exact formReply_rchStore p Iff.rfl _ s
    | table ch points => exact formReply_rchStore p (tableOk_iff points) _ s
    | srefTable => exact formReply_answered p 0x31 (plain .unknownItem) s (.inr rfl)

end Sys2Proof.Machine
end

section
/-! What raises and clears leave alone: the planner's accounting, the blocks that measure, the entries of other codes. -/

namespace Sys2Proof.Machine

/-! ## What alarms leave of the planner's section (R161) -/

/-- From `s` to `t` the planner's section changes in its day record and its undated tally only. -/
def PlanDayOnly (s t : State) : Prop :=
  t.plan = { s.plan with openDay := t.plan.openDay, undated := t.plan.undated }

theorem reportDay_planDayOnly (f : DayRecord → DayRecord) (s : State) : PlanDayOnly s (reportDay f s) := by
  unfold PlanDayOnly reportDay
  split <;> rfl

theorem enteredActive_planDayOnly (b : Bool) (c : AlarmCode) (x : Source) (s : State) :
    PlanDayOnly s (enteredActive b c x s) := by
  have hreport : PlanDayOnly s (reportDay DayRecord.addAlarm (setNotice .alarmRaised s)) :=
    reportDay_planDayOnly DayRecord.addAlarm (setNotice .alarmRaised s)
  unfold enteredActive
  dsimp only
  split
  · unfold PlanDayOnly
    rw [takeSnapshot_plan]
    exact hreport
  · exact hreport

theorem raiseIntoFull_planDayOnly (b : Bool) (c : AlarmCode) (x : Source) (s : State) :
    PlanDayOnly s (raiseIntoFull b c x s) := by
  unfold raiseIntoFull
  split
  · exact enteredActive_planDayOnly b c x _
  · split
    · exact enteredActive_planDayOnly b c x _
    · rfl

theorem raise_planDayOnly (c : AlarmCode) (x : Source) (s : State) : PlanDayOnly s (raise c x s) := by
  unfold raise raiseWith
  split
  · split
    · rfl
    · rfl
    · exact enteredActive_planDayOnly true c x _
  · split
    · exact enteredActive_planDayOnly true c x _
    · exact raiseIntoFull_planDayOnly true c x s

/-! ## What alarms and writes of the resistance channels keep -/

/-- From `s` to `t` the blocks that measure otherwise, the calendar, the supply and the configuration stay as they are. -/
structure BlockFrame (s t : State) : Prop where
  afe : t.afe = s.afe
  ptu : t.ptu = s.ptu
  spe : t.spe = s.spe
  cal : t.cal = s.cal
  ret : t.ret = s.ret
  cfg : t.cfg = s.cfg

/-- The components and their accounting interval stay as they are, too. -/
structure ResultFrame (s t : State) : Prop extends BlockFrame s t where
  interval : t.plan.interval = s.plan.interval
  components : t.plan.config = s.plan.config

theorem BlockFrame.trans {s t u : State} (h : BlockFrame s t) (k : BlockFrame t u) : BlockFrame s u :=
  ⟨k.afe.trans h.afe, k.ptu.trans h.ptu, k.spe.trans h.spe, k.cal.trans h.cal, k.ret.trans h.ret, k.cfg.trans h.cfg⟩

theorem ResultFrame.refl (s : State) : ResultFrame s s := ⟨⟨rfl, rfl, rfl, rfl, rfl, rfl⟩, rfl, rfl⟩

theorem ResultFrame.trans {s t u : State} (h : ResultFrame s t) (k : ResultFrame t u) : ResultFrame s u :=
  ⟨h.toBlockFrame.trans k.toBlockFrame, k.interval.trans h.interval, k.components.trans h.components⟩

theorem withRch_resultFrame (r : RchState) (s : State) : ResultFrame s { s with rch := r } :=
  ⟨⟨rfl, rfl, rfl, rfl, rfl, rfl⟩, rfl, rfl⟩

theorem raise_resultFrame (c : AlarmCode) (x : Source) (s : State) : ResultFrame s (raise c x s) :=
  have hplan := raise_planDayOnly c x s
  ⟨⟨raise_afe .., raise_ptu .., raise_spe .., raise_cal .., raise_ret .., raise_cfg ..⟩,
    (congrArg PlanSection.interval hplan :), (congrArg PlanSection.config hplan :)⟩

theorem clearAlarm_resultFrame (c : AlarmCode) (x : Source) (s : State) : ResultFrame s (clearAlarm c x s) :=
  have hplan := clearAlarm_plan c x s
  ⟨⟨clearAlarm_afe .., clearAlarm_ptu .., clearAlarm_spe .., clearAlarm_cal .., clearAlarm_ret .., clearAlarm_cfg ..⟩,
    congrArg PlanSection.interval hplan, congrArg PlanSection.config hplan⟩

/-! ## A raise beside the entries of another code -/

theorem alarmsOf_updateAlarm_of_ne {c d : AlarmCode} (h : c ≠ d) (x y : Source) {f : AlarmEntry → AlarmEntry}
    (hf : ∀ e, (f e).code = e.code) (s : State) : alarmsOf c x (updateAlarm d y f s) = alarmsOf c x s := by
  have apart (e : AlarmEntry) (he : e.code = d) : e.has c x = false := by simp [AlarmEntry.has, he, h.symm]
  show List.filter _ (List.map _ s.ccu.alarms) = List.filter _ s.ccu.alarms
  induction s.ccu.alarms with
  | nil => rfl
  | cons a l ih =>
    by_cases ha : a.has d y = true
    · obtain ⟨hcode, -⟩ := (AlarmEntry.has_iff d y a).mp ha
      simp [ha, apart a hcode, apart (f a) ((hf a).trans hcode), ih]
    · simp [ha, ih, List.filter_cons]

/-- Where the table has a free entry, a raise leaves the entries of every other code (R143). -/
theorem alarmsOf_raise_of_ne {c d : AlarmCode} (h : c ≠ d) (x y : Source) {s : State} (hroom : s.ccu.alarms.length < 32) :
    alarmsOf c x (raise d y s) = alarmsOf c x s := by
  unfold raise raiseWith
  split
  · split
    · exact alarmsOf_updateAlarm_of_ne h x y (f := AlarmEntry.again s.cal) (fun _ => rfl) s
    · exact alarmsOf_updateAlarm_of_ne h x y (f := AlarmEntry.again s.cal) (fun _ => rfl) s
    · rw [alarmsOf, enteredActive_alarms]
      exact alarmsOf_updateAlarm_of_ne h x y (f := AlarmEntry.return s.cal) (fun _ => rfl) s
  · rw [if_pos hroom, alarmsOf, createAlarm_alarms, List.filter_append]
    simp [alarmsOf, AlarmEntry.has, h.symm]

end Sys2Proof.Machine
end

section
/-! Results of the resistance channels (R33 to R42): the reference, the sensors, their alarms and temperature events. -/

namespace Sys2Proof.Machine

/-! ## The conversion sequence (R33) -/

/-- The state with the conversion sequence at its next channel. -/
def nextGate (s : State) : State := { s with rch := { s.rch with pos := s.rch.pos.next } }

/-- The gate of Sref ends in operation. -/
theorem exec_gateEnd_ref (count : Nat) {s : State} (hop : s.ret.operating = true) (h : s.rch.pos = .ref) :
    exec (.gateEnd count) s = .next (rechecked s (refResult (min count 16777215) (nextGate s))) := by
  have hresult : rchGateEnd count s = refResult (min count 16777215) (nextGate s) := by
    simp only [rchGateEnd, nextGate, h]
  rw [← hresult]
  exact inOperation_operating (rchGateEnd count) hop

/-- The gate of a sensor ends in operation. -/
theorem exec_gateEnd_sensor (count : Nat) {s : State} {ch : Temp} (hop : s.ret.operating = true)
    (h : s.rch.pos = .sensor ch) :
    exec (.gateEnd count) s = .next (rechecked s (sensorResult ch (min count 16777215) (nextGate s))) := by
  have hresult : rchGateEnd count s = sensorResult ch (min count 16777215) (nextGate s) := by
    simp only [rchGateEnd, nextGate, h]
  rw [← hresult]
  exact inOperation_operating (rchGateEnd count) hop

/-- The held record is STALE where it was GOOD, and as it was otherwise (R41). -/
theorem TempRecord.hold_eq (r : TempRecord) :
    r.hold = { r with status := if r.status = .good then .stale else r.status } := by
  unfold TempRecord.hold
  split <;> rfl

/-! ## The reference (R34, R35) -/

theorem refInWindow_iff (cfg : RchConfig) (c : Nat) :
    refInWindow cfg c = true ↔ cfg.windowLow ≤ c ∧ c ≤ cfg.windowHigh := by simp [refInWindow]

/-- A reference count in window is the reference count, and REF_FAULT is clear. -/
theorem refResult_rch_within {c : Nat} {s : State} (h : refInWindow s.cfg.rch c = true) :
    (refResult c s).rch = { s.rch with rawRef := some c, cRef := some c, refFault := false } := by
  cases hf : s.rch.refFault <;> simp [refResult, hf, h]

/-- A reference count out of window sets REF_FAULT, which on its entry holds the four records. -/
theorem refResult_rch_outside {c : Nat} {s : State} (h : refInWindow s.cfg.rch c = false) :
    (refResult c s).rch =
      { s.rch with
        rawRef := some c
        refFault := true
        sensor :=
          if s.rch.refFault then s.rch.sensor else s.rch.sensor.map fun x => { x with record := x.record.hold } } := by
  cases hf : s.rch.refFault <;> simp [refResult, hf, h, holdRecords]

theorem refResult_resultFrame (c : Nat) (s : State) : ResultFrame s (refResult c s) := by
  unfold refResult
  dsimp only
  split
  · exact withRch_resultFrame ..
  · exact ((withRch_resultFrame _ s).trans (raise_resultFrame ..)).trans (withRch_resultFrame ..)
  · exact withRch_resultFrame ..
  · exact (withRch_resultFrame _ s).trans (clearAlarm_resultFrame ..)

/-- A count in window leaves no active TEMP_REF_FAULT where REF_FAULT was set. -/
theorem refResult_quiet {c : Nat} {s : State} (h : refInWindow s.cfg.rch c = true) (hf : s.rch.refFault = true)
    (hk : AlarmsKeyed s) : AlarmQuiet .tempRefFault .rch (refResult c s) := by
  simp only [refResult, hf, h]
  exact clearAlarm_quiet _ _ { s with rch := _ } hk

/-- A count out of window leaves TEMP_REF_FAULT active where REF_FAULT was clear. -/
theorem refResult_active {c : Nat} {s : State} (h : refInWindow s.cfg.rch c = false) (hf : s.rch.refFault = false)
    (hroom : HasRoom .tempRefFault .rch s) : AlarmActive .tempRefFault .rch (refResult c s) := by
  simp only [refResult, hf, h]
  exact raise_active _ _ { s with rch := _ } hroom

/-- In either outcome the count is the latest raw one, and the sequence stays where it is. -/
theorem refResult_raw (c : Nat) (s : State) :
    (refResult c s).rch.rawRef = some c ∧ (refResult c s).rch.pos = s.rch.pos := by
  cases h : refInWindow s.cfg.rch c with
  | true => rw [refResult_rch_within h]; exact ⟨rfl, rfl⟩
  | false => rw [refResult_rch_outside h]; exact ⟨rfl, rfl⟩

/-- Settles O12: both outcomes of `refResult`, each with its alarm. -/
theorem referenceResult : Obligations.ReferenceResult := by
  intro count s hop hpos hk c inWindow stale
  have hwindow : refInWindow (nextGate s).cfg.rch c = true ↔ inWindow := refInWindow_iff s.cfg.rch c
  have hframe := refResult_resultFrame c (nextGate s)
  obtain ⟨hraw, hkept⟩ := refResult_raw c (nextGate s)
  have hnext : (nextGate s).rch.pos = .sensor .s0 := congrArg SeqPos.next hpos
  refine ⟨_, exec_gateEnd_ref count hop hpos, hkept.trans hnext, hraw, fun hin => ?_, fun hout => ?_, hframe.afe,
    hframe.ptu, hframe.spe, hframe.interval, hframe.cal, hframe.ret⟩
  · have hwithin := hwindow.mpr hin
    rw [rechecked_rch, refResult_rch_within hwithin]
    exact ⟨rfl, rfl, rfl, fun hf => refResult_quiet (s := nextGate s) hwithin hf hk⟩
  · have houtside := Bool.eq_false_iff.mpr (mt hwindow.mp hout)
    rw [rechecked_rch, refResult_rch_outside houtside]
    refine ⟨rfl, rfl, fun hf => if_pos hf,
      fun hf => ⟨refResult_active (s := nextGate s) houtside hf, (if_neg (Bool.eq_false_iff.mp hf)).trans ?_⟩⟩
    simp only [TempRecord.hold_eq]
    rfl

/-! ## The alarms of a channel (R37) -/

/-- The alarm of a channel fault state. -/
def ChannelFault.alarm : ChannelFault → Option AlarmCode
  | .none => Option.none
  | .openCircuit => some .tempOpen
  | .shortCircuit => some .tempShort

/-- The alarm `old` is cleared, where there is one, and then the alarm `new` raised. -/
def moveAlarm (x : Source) (old new : Option AlarmCode) (s : State) : State :=
  let u := old.elim s (clearAlarm · x s)
  new.elim u (raise · x u)

/-- A change of the channel fault state moves its alarm; without a change there is none. -/
theorem sensorAlarms_eq (t : Temp) (old new : ChannelFault) (s : State) :
    sensorAlarms t old new s = if old = new then s else moveAlarm (.temp t) old.alarm new.alarm s := by
  cases old <;> cases new <;> rfl

/-- Two channel fault states with the same alarm are one. -/
theorem ChannelFault.alarm_injective : ∀ {a b : ChannelFault}, a.alarm = b.alarm → a = b
  | .none, .none, _ | .openCircuit, .openCircuit, _ | .shortCircuit, .shortCircuit, _ => rfl

section
variable (x : Source) (old new : Option AlarmCode) (s : State)

theorem moveAlarm_resultFrame : ResultFrame s (moveAlarm x old new s) := by
  have hclear : ResultFrame s (old.elim s (clearAlarm · x s)) := by
    cases old with
    | none => exact .refl s
    | some c => exact clearAlarm_resultFrame c x s
  cases new with
  | none => exact hclear
  | some d => exact hclear.trans (raise_resultFrame d x _)

theorem moveAlarm_rch : (moveAlarm x old new s).rch = s.rch := by
  cases old <;> cases new <;> simp [moveAlarm]

end

/-- The alarm moved to is active where the table had a free entry. -/
theorem moveAlarm_active {x : Source} {old : Option AlarmCode} {d : AlarmCode} {s : State}
    (hroom : s.ccu.alarms.length < 32) : AlarmActive d x (moveAlarm x old (some d) s) := by
  cases old with
  | none => exact raise_active d x s (.inl hroom)
  | some c => exact raise_active d x _ (.inl ((length_alarms_clearAlarm_le c x s).trans_lt hroom))

/-- The alarm moved from is quiet where the table was keyed and had a free entry. -/
theorem moveAlarm_quiet {x : Source} {c : AlarmCode} {new : Option AlarmCode} {s : State} (hk : AlarmsKeyed s)
    (hroom : s.ccu.alarms.length < 32) (hne : new ≠ some c) : AlarmQuiet c x (moveAlarm x (some c) new s) := by
  have hquiet := clearAlarm_quiet c x s hk
  cases new with
  | none => exact hquiet
  | some d =>
    have hcd : c ≠ d := fun h => hne (congrArg some h.symm)
    have hcleared := (length_alarms_clearAlarm_le c x s).trans_lt hroom
    rw [alarmQuiet_iff] at hquiet ⊢
    exact alarmsOf_raise_of_ne hcd x x hcleared ▸ hquiet

theorem sensorAlarms_resultFrame (t : Temp) (old new : ChannelFault) (s : State) :
    ResultFrame s (sensorAlarms t old new s) ∧ (sensorAlarms t old new s).rch = s.rch := by
  rw [sensorAlarms_eq]
  split
  · exact ⟨.refl s, rfl⟩
  · exact ⟨moveAlarm_resultFrame .., moveAlarm_rch ..⟩

theorem sensorAlarms_active {t : Temp} {old new : ChannelFault} {d : AlarmCode} {s : State} (hnew : new.alarm = some d)
    (hne : old ≠ new) (hroom : s.ccu.alarms.length < 32) : AlarmActive d (.temp t) (sensorAlarms t old new s) := by
  rw [sensorAlarms_eq, if_neg hne, hnew]
  exact moveAlarm_active hroom

theorem sensorAlarms_quiet {t : Temp} {old new : ChannelFault} {c : AlarmCode} {s : State} (hold : old.alarm = some c)
    (hne : old ≠ new) (hk : AlarmsKeyed s) (hroom : s.ccu.alarms.length < 32) :
    AlarmQuiet c (.temp t) (sensorAlarms t old new s) := by
  rw [sensorAlarms_eq, if_neg hne, hold]
  exact moveAlarm_quiet hk hroom fun hnew => hne (ChannelFault.alarm_injective (hold.trans hnew.symm))

/-! ## Temperature events (R42, R158) -/

/-- The value a record reports to the planner: that of a record that is not NONE. -/
def TempRecord.reported (r : TempRecord) : Option Int := if r.status = .none then none else r.value

/-- A component's part of the interval with a temperature added where the component is on the channel. -/
def ComponentInterval.withTemperature (t : Temp) (y : Int) (cfg : ComponentConfig) (i : ComponentInterval) :
    ComponentInterval :=
  if cfg.tempChannel = some t then { i with tempSum := i.tempSum + y, tempCount := i.tempCount + 1 } else i

/-- A temperature event reaches the planner's section only. -/
theorem temperatureEvent_keeps (t : Temp) (s : State) :
    temperatureEvent t s = { s with plan := (temperatureEvent t s).plan } := by
  unfold temperatureEvent
  split <;> rfl

/-- A temperature event adds the value its record reports at the components on the channel. -/
theorem temperatureEvent_comps (t : Temp) (s : State) :
    (temperatureEvent t s).plan.interval.comps =
      (s.rch.sensor.get t).record.reported.elim s.plan.interval.comps fun y =>
        vzip (ComponentInterval.withTemperature t y) s.plan.config s.plan.interval.comps := by
  unfold temperatureEvent TempRecord.reported
  cases (s.rch.sensor.get t).record.status <;> cases (s.rch.sensor.get t).record.value <;> rfl

theorem temperatureEvent_blockFrame (t : Temp) (s : State) : BlockFrame s (temperatureEvent t s) := by
  rw [temperatureEvent_keeps]
  exact ⟨rfl, rfl, rfl, rfl, rfl, rfl⟩

/-! ## Sensor results (R36 to R42) -/

@[simp] theorem PerTemp.get_set_self {α : Type} (v : PerTemp α) (t : Temp) (x : α) : (v.set t x).get t = x := by
  cases t <;> rfl

@[simp] theorem PerTemp.set_set {α : Type} (v : PerTemp α) (t : Temp) (x y : α) :
    (v.set t x).set t y = v.set t y := by cases t <;> rfl

/-- The channel after a result: its raw count, and where REF_FAULT is clear what the count gives (R35, R36). -/
def sensorAfter (t : Temp) (c : Nat) (s : State) : SensorState :=
  let x := { s.rch.sensor.get t with rawCount := some c }
  if s.rch.refFault then x else evaluatedResult s.cfg.rch t (s.rch.cRef.getD 0) c x

/-- A result as it stands before its temperature event: the channel written, its alarm moved. -/
def sensorJudged (t : Temp) (c : Nat) (s : State) : State :=
  sensorAlarms t (s.rch.sensor.get t).fault (sensorAfter t c s).fault (setSensor t (sensorAfter t c s) s)

theorem sensorAfter_of_refFault {t : Temp} {c : Nat} {s : State} (h : s.rch.refFault = true) :
    sensorAfter t c s = { s.rch.sensor.get t with rawCount := some c } := by simp [sensorAfter, h]

/-- Under REF_FAULT a result writes the raw count and no alarm (R35). -/
theorem sensorJudged_of_refFault {t : Temp} {c : Nat} {s : State} (h : s.rch.refFault = true) :
    sensorJudged t c s = setSensor t (sensorAfter t c s) s := by
  rw [sensorJudged, sensorAlarms_eq, if_pos]
  rw [sensorAfter_of_refFault h]

theorem sensorResult_eq (t : Temp) (c : Nat) (s : State) :
    sensorResult t c s = temperatureEvent t (sensorJudged t c s) := by
  cases h : s.rch.refFault with
  | true =>
    rw [sensorJudged_of_refFault h, sensorAfter_of_refFault h]
    simp [sensorResult, setSensor, h]
  | false => simp [sensorResult, sensorJudged, sensorAfter, evaluateSensor, setSensor, h]

/-- The channel after a result, branch by branch (R35 to R39). -/
theorem sensorAfter_eq (t : Temp) (c : Nat) {cref : Nat} {s : State}
    (h : s.rch.refFault = false → s.rch.cRef = some cref) :
    let x := s.rch.sensor.get t
    let r := min (s.cfg.rch.refResistance * cref / c) 4294967295
    let v := temperatureOf (s.cfg.rch.table.get t) r
    sensorAfter t c s =
      if s.rch.refFault then { x with rawCount := some c }
      else if c < 50 then { x with rawCount := some c, fault := .openCircuit, record := x.record.hold }
      else if 20 * cref < c then { x with rawCount := some c, fault := .shortCircuit, record := x.record.hold }
      else
        { fault := .none, record := { value := some v.1, status := .good, outOfTable := v.2, age := some 0 }
          rawCount := some c, lastResistance := some r } := by
  dsimp only
  cases hf : s.rch.refFault with
  | true => rw [sensorAfter_of_refFault hf]; rfl
  | false =>
    simp only [sensorAfter, hf, h hf, evaluatedResult, classifyCount]
    by_cases hopen : c < 50
    · simp [hopen]
    · by_cases hshort : 20 * cref < c
      · simp [hopen, hshort]
      · simp [hopen, hshort, goodResult, resistanceOf, sat32, max32]

theorem sensorJudged_resultFrame (t : Temp) (c : Nat) (s : State) : ResultFrame s (sensorJudged t c s) :=
  (withRch_resultFrame _ s).trans (sensorAlarms_resultFrame ..).1

theorem sensorJudged_rch (t : Temp) (c : Nat) (s : State) :
    (sensorJudged t c s).rch = { s.rch with sensor := s.rch.sensor.set t (sensorAfter t c s) } :=
  (sensorAlarms_resultFrame ..).2

theorem sensorResult_blockFrame (t : Temp) (c : Nat) (s : State) : BlockFrame s (sensorResult t c s) := by
  rw [sensorResult_eq]
  exact (sensorJudged_resultFrame t c s).toBlockFrame.trans (temperatureEvent_blockFrame ..)

/-- A sensor result writes its own channel only (R33, R37). -/
theorem sensorResult_rch (t : Temp) (c : Nat) (s : State) :
    (sensorResult t c s).rch = { s.rch with sensor := s.rch.sensor.set t (sensorAfter t c s) } := by
  rw [sensorResult_eq, temperatureEvent_keeps]
  exact sensorJudged_rch t c s

/-- The alarm table after a sensor result is that after its alarms moved. -/
theorem sensorResult_alarms (t : Temp) (c : Nat) (s : State) :
    (sensorResult t c s).ccu.alarms = (sensorJudged t c s).ccu.alarms := by
  rw [sensorResult_eq, temperatureEvent_keeps]

/-- The components add what the channel's record then reports (R42, R158). -/
theorem sensorResult_comps (t : Temp) (c : Nat) (s : State) :
    (sensorResult t c s).plan.interval.comps =
      (sensorAfter t c s).record.reported.elim s.plan.interval.comps fun y =>
        vzip (ComponentInterval.withTemperature t y) s.plan.config s.plan.interval.comps := by
  have hframe := sensorJudged_resultFrame t c s
  rw [sensorResult_eq, temperatureEvent_comps, sensorJudged_rch, hframe.interval, hframe.components,
    PerTemp.get_set_self]

/-- A channel that comes into a fault state leaves that state's alarm active where the table had a free entry (R37). -/
theorem sensorResult_active {t : Temp} {c : Nat} {s : State} {f : ChannelFault} {d : AlarmCode} (hd : f.alarm = some d)
    (hroom : s.ccu.alarms.length < 32) (hnew : (sensorAfter t c s).fault = f) (hold : (s.rch.sensor.get t).fault ≠ f) :
    AlarmActive d (.temp t) (sensorResult t c s) := by
  subst hnew
  unfold AlarmActive
  rw [sensorResult_alarms]
  exact sensorAlarms_active (s := setSensor t _ s) hd hold hroom

/-- A channel that leaves a fault state leaves that state's alarm quiet (R37). -/
theorem sensorResult_quiet {t : Temp} {c : Nat} {s : State} {f : ChannelFault} {d : AlarmCode} (hd : f.alarm = some d)
    (hk : AlarmsKeyed s) (hroom : s.ccu.alarms.length < 32) (hold : (s.rch.sensor.get t).fault = f)
    (hnew : (sensorAfter t c s).fault ≠ f) : AlarmQuiet d (.temp t) (sensorResult t c s) := by
  subst hold
  unfold AlarmQuiet
  rw [sensorResult_alarms]
  exact sensorAlarms_quiet (s := setSensor t _ s) hd hnew.symm hk hroom

/-- Settles O13 (`sensorResult` is the model's own name): every clause is read off `sensorAfter`, with the alarm that moved
and the temperature event behind it. -/
theorem sensorResultHolds : Obligations.SensorResult := by
  intro ch count cref s hop hpos hcref c x stale r v after
  have hafter : sensorAfter ch c (nextGate s) = after := by
    rw [sensorAfter_eq ch c (s := nextGate s) hcref]
    simp only [TempRecord.hold_eq]
    rfl
  have hblocks := sensorResult_blockFrame ch c (nextGate s)
  have hrch := sensorResult_rch ch c (nextGate s)
  have hcomps := sensorResult_comps ch c (nextGate s)
  rw [hafter] at hrch hcomps
  refine ⟨_, exec_gateEnd_sensor count hop hpos, ?_, fun hf => ?_, fun hk hroom => ?_, fun i => ?_, hblocks.afe,
    hblocks.ptu, hblocks.spe, hblocks.cal, hblocks.ret, hblocks.cfg⟩
  · refine hrch.trans ?_
    simp only [nextGate, hpos]
    cases ch <;> rfl
  · refine (sensorResult_alarms ch c (nextGate s)).trans ?_
    rw [sensorJudged_of_refFault (s := nextGate s) hf]
    rfl
  · rw [← hafter]
    exact ⟨sensorResult_active (s := nextGate s) rfl hroom, sensorResult_active (s := nextGate s) rfl hroom,
      sensorResult_quiet (s := nextGate s) rfl hk hroom, sensorResult_quiet (s := nextGate s) rfl hk hroom⟩
  · refine (congrArg (fun comps : Vector ComponentInterval 16 => comps[i]) hcomps).trans ?_
    unfold TempRecord.reported
    cases after.record.status with
    | none => rfl
    | good | stale =>
      cases after.record.value with
      | none => rfl
      | some y => exact vzip_getElem _ _ _ i.val i.isLt

end Sys2Proof.Machine
end

section
/-! The temperature of a resistance (R39): the table read point by point, and the interpolation between two points. -/

namespace Sys2Proof.Machine

/-! ## The interpolation between two points -/

theorem interpolate_eq {p q : Nat × Int} (h : p.1 ≤ q.1) (r : Nat) :
    interpolate p q r = p.2 + ((r : Int) - p.1) * (q.2 - p.2) / ((q.1 : Int) - p.1) := by
  rw [interpolate, Int.fdiv_eq_ediv_of_nonneg _ (by omega)]

/-- Between two points the temperature is at least every bound below both. -/
theorem le_interpolate {p q : Nat × Int} {r : Nat} {lo : Int} (hp : p.1 ≤ r) (hq : r < q.1)
    (hlo : lo ≤ p.2 ∧ lo ≤ q.2) :
    lo ≤ interpolate p q r := by
  rw [interpolate_eq (by omega), ← sub_le_iff_le_add']
  refine Int.le_ediv_of_mul_le (by omega) ?_
  calc (lo - p.2) * ((q.1 : Int) - p.1) ≤ (lo - p.2) * ((r : Int) - p.1) :=
        mul_le_mul_of_nonpos_left (by omega) (by omega)
    _ ≤ (q.2 - p.2) * ((r : Int) - p.1) := mul_le_mul_of_nonneg_right (by omega) (by omega)
    _ = ((r : Int) - p.1) * (q.2 - p.2) := mul_comm ..

/-- Between two points the temperature is at most every bound above both. -/
theorem interpolate_le {p q : Nat × Int} {r : Nat} {hi : Int} (hp : p.1 ≤ r) (hq : r < q.1)
    (hhi : p.2 ≤ hi ∧ q.2 ≤ hi) :
    interpolate p q r ≤ hi := by
  rw [interpolate_eq (by omega), ← le_sub_iff_add_le']
  refine Int.ediv_le_of_le_mul (by omega) ?_
  calc ((r : Int) - p.1) * (q.2 - p.2) ≤ ((r : Int) - p.1) * (hi - p.2) := mul_le_mul_of_nonneg_left (by omega) (by omega)
    _ = (hi - p.2) * ((r : Int) - p.1) := mul_comm ..
    _ ≤ (hi - p.2) * ((q.1 : Int) - p.1) := mul_le_mul_of_nonneg_left (by omega) (by omega)

/-! ## The table -/

/-- From the first point on, a resistance lies between two neighbours of the table or at least at its last point. -/
theorem temperatureIn_cases (r : Nat) (l : List (Nat × Int)) (h0 : 0 < l.length) (h : l[0].1 ≤ r) :
    (∃ (i : Nat) (hi : i + 1 < l.length), l[i].1 ≤ r ∧ r < l[i + 1].1 ∧
        temperatureIn r l = (interpolate l[i] l[i + 1] r, false)) ∨
      (l[l.length - 1].1 ≤ r ∧ temperatureIn r l = (l[l.length - 1].2, decide (l[l.length - 1].1 < r))) := by
  induction l with
  | nil => exact absurd h0 (lt_irrefl 0)
  | cons p l ih =>
    cases l with
    | nil => exact .inr ⟨h, rfl⟩
    | cons q rest =>
      by_cases hq : r < q.1
      · exact .inl ⟨0, by simp, h, hq, if_pos hq⟩
      · have hstep : temperatureIn r (p :: q :: rest) = temperatureIn r (q :: rest) := if_neg hq
        rw [hstep]
        rcases ih (Nat.succ_pos _) (Nat.le_of_not_lt hq) with ⟨i, hi, hbetween⟩ | hlast
        · exact .inl ⟨i + 1, Nat.succ_lt_succ hi, hbetween⟩
        · exact .inr hlast

/-- A resistance lies below the first point, between two neighbours, or at least at the last point (R39). -/
theorem temperatureOf_cases (table : Vector (Nat × Int) 8) (r : Nat) :
    (r < table[0].1 ∧ temperatureOf table r = (table[0].2, true)) ∨
      (∃ i : Fin 7, table[i.castSucc].1 ≤ r ∧ r < table[i.succ].1 ∧
        temperatureOf table r = (interpolate table[i.castSucc] table[i.succ] r, false)) ∨
      (table[7].1 ≤ r ∧ temperatureOf table r = (table[7].2, decide (table[7].1 < r))) := by
  by_cases h : r < table[0].1
  · exact .inl ⟨h, if_pos h⟩
  · have hlist : temperatureOf table r = temperatureIn r table.toList := if_neg h
    have hcases := temperatureIn_cases r table.toList (by simp) (by simpa using h)
    rw [hlist]
    simp only [Vector.length_toList, Vector.getElem_toList] at hcases
    rcases hcases with ⟨i, hi, hbetween⟩ | hlast
    · exact .inr (.inl ⟨⟨i, Nat.lt_of_succ_lt_succ hi⟩, hbetween⟩)
    · exact .inr (.inr hlast)

/-- Settles O14: in a table that rises strictly one case of `temperatureOf_cases` is left, and each keeps the bounds. -/
theorem temperatureFromTable : Obligations.TemperatureFromTable := by
  intro table r hrise
  have hmono : StrictMono fun i : Fin 8 => table[i].1 := fun i j => hrise i j
  have hfirst (i : Fin 8) : table[0].1 ≤ table[i].1 := hmono.monotone (Fin.zero_le i)
  have hlast (i : Fin 8) : table[i].1 ≤ table[7].1 := hmono.monotone (Fin.le_last i)
  have hcases := temperatureOf_cases table r
  have hend (h : table[7].1 ≤ r) : temperatureOf table r = (table[7].2, decide (table[7].1 < r)) := by
    rcases hcases with ⟨hr, -⟩ | ⟨j, -, hr, -⟩ | ⟨-, he⟩
    · exact absurd (h.trans_lt hr) (hfirst 7).not_gt
    · exact absurd (h.trans_lt hr) (hlast j.succ).not_gt
    · exact he
  refine ⟨fun h => if_pos h, fun h => ?_, fun h => ?_, fun i hi hr => ?_, fun lo hi hbounds => ?_⟩
  · rw [hend h.le, decide_eq_true h]
  · rw [hend h.ge, h, decide_eq_false (lt_irrefl _)]
  · rcases hcases with ⟨h0, -⟩ | ⟨j, hj, hr', he⟩ | ⟨h7, -⟩
    · exact absurd (hi.trans_lt h0) (hfirst i.castSucc).not_gt
    · have hij : i.castSucc < j.succ := hmono.lt_iff_lt.mp (hi.trans_lt hr')
      have hji : j.castSucc < i.succ := hmono.lt_iff_lt.mp (hj.trans_lt hr)
      obtain rfl : i = j := le_antisymm (Fin.castSucc_lt_succ_iff.mp hij) (Fin.castSucc_lt_succ_iff.mp hji)
      rw [he, interpolate_eq (hi.trans hr.le)]
    · exact absurd (h7.trans_lt hr) (hlast i.succ).not_gt
  · rcases hcases with ⟨-, he⟩ | ⟨i, hi, hr, he⟩ | ⟨-, he⟩ <;> rw [he]
    · exact hbounds 0
    · obtain ⟨hlo, hhi⟩ := hbounds i.castSucc
      obtain ⟨hlo', hhi'⟩ := hbounds i.succ
      exact ⟨le_interpolate hi hr ⟨hlo, hlo'⟩, interpolate_le hi hr ⟨hhi, hhi'⟩⟩
    · exact hbounds 7

end Sys2Proof.Machine
end

section
/-! The exact numbers of the engine (R55): what each operation stands for over the reals, and the sign. -/

namespace Sys2Proof.Machine

/-! ## The generators 2 cos(2π / 2^(m+2)) -/

theorem cycGen_zero : cycGen 0 = 0 := by
  rw [cycGen, show 2 * Real.pi / 2 ^ (0 + 2) = Real.pi / 2 by ring, Real.cos_pi_div_two, mul_zero]

/-- The half-angle formula: a generator is the root of 2 plus the one below it. -/
theorem cycGen_succ_sq (m : Nat) : cycGen (m + 1) * cycGen (m + 1) = 2 + cycGen m := by
  have hangle : 2 * Real.pi / 2 ^ (m + 2) = 2 * (2 * Real.pi / 2 ^ (m + 1 + 2)) := by
    rw [pow_succ' _ (m + 2)]; field_simp
  rw [cycGen, cycGen, hangle, Real.cos_two_mul]
  ring

theorem cycGen_succ_pos (m : Nat) : 0 < cycGen (m + 1) := by
  have hpow : (2 : ℝ) ^ 3 ≤ 2 ^ (m + 1 + 2) := pow_le_pow_right₀ one_le_two (by omega)
  have hangle : 2 * Real.pi / 2 ^ (m + 1 + 2) < Real.pi / 2 := by
    rw [div_lt_div_iff₀ (by positivity) two_pos]
    nlinarith [Real.pi_pos]
  have hpos : 0 < 2 * Real.pi / 2 ^ (m + 1 + 2) := by positivity
  exact mul_pos two_pos (Real.cos_pos_of_mem_Ioo ⟨by linarith [Real.pi_pos], hangle⟩)

/-! ## What the operations stand for -/

@[simp] theorem cycReal_zero (x : Int) : cycReal 0 x = x := rfl

@[simp] theorem cycReal_pair (m : Nat) (u v : Cyc m) :
    cycReal (m + 1) (u, v) = cycReal m u + cycReal m v * cycGen (m + 1) := rfl

@[simp] theorem cycReal_int (m : Nat) (k : Int) : cycReal m (cycInt m k) = k := by
  induction m generalizing k with
  | zero => rfl
  | succ m ih => rw [cycInt, cycReal_pair, ih, ih, Int.cast_zero, zero_mul, add_zero]

@[simp] theorem cycReal_add (m : Nat) (x y : Cyc m) : cycReal m (cycAdd m x y) = cycReal m x + cycReal m y := by
  induction m with
  | zero => exact Int.cast_add x y
  | succ m ih =>
    obtain ⟨u, v⟩ := x
    obtain ⟨w, z⟩ := y
    simp only [cycAdd, cycReal_pair, ih]
    ring

@[simp] theorem cycReal_scale (m : Nat) (k : Int) (x : Cyc m) : cycReal m (cycScale m k x) = k * cycReal m x := by
  induction m with
  | zero => exact Int.cast_mul k x
  | succ m ih =>
    obtain ⟨u, v⟩ := x
    simp only [cycScale, cycReal_pair, ih]
    ring

@[simp] theorem cycReal_sub (m : Nat) (x y : Cyc m) : cycReal m (cycSub m x y) = cycReal m x - cycReal m y := by
  rw [cycSub, cycReal_add, cycReal_scale]
  push_cast
  ring

@[simp] theorem cycReal_mulGen (m : Nat) (x : Cyc m) : cycReal m (cycMulGen m x) = cycReal m x * cycGen m := by
  induction m with
  | zero => rw [cycGen_zero, mul_zero]; exact Int.cast_zero
  | succ m ih =>
    obtain ⟨u, v⟩ := x
    simp only [cycMulGen, cycReal_pair, cycReal_add, cycReal_scale, ih]
    push_cast
    linear_combination -cycReal m v * cycGen_succ_sq m

@[simp] theorem cycReal_mul (m : Nat) (x y : Cyc m) : cycReal m (cycMul m x y) = cycReal m x * cycReal m y := by
  induction m with
  | zero => exact Int.cast_mul x y
  | succ m ih =>
    obtain ⟨u, v⟩ := x
    obtain ⟨w, z⟩ := y
    simp only [cycMul, cycReal_pair, cycReal_add, cycReal_scale, cycReal_mulGen, ih]
    push_cast
    linear_combination -(cycReal m v * cycReal m z) * cycGen_succ_sq m

/-! ## The sign -/

/-- The sign of a real number as the integer that `cycSign` computes. -/
noncomputable def realSign (r : ℝ) : Int := (SignType.sign r : Int)

theorem realSign_of_pos {r : ℝ} (h : 0 < r) : realSign r = 1 := by simp [realSign, sign_pos h]

theorem realSign_of_neg {r : ℝ} (h : r < 0) : realSign r = -1 := by simp [realSign, sign_neg h]

@[simp] theorem realSign_zero : realSign 0 = 0 := by simp [realSign]

theorem realSign_mul (a b : ℝ) : realSign (a * b) = realSign a * realSign b := by simp [realSign, sign_mul]

theorem realSign_eq_one {r : ℝ} : realSign r = 1 ↔ 0 < r := by
  rcases lt_trichotomy r 0 with h | h | h
  · simp [realSign_of_neg h, h.le]
  · simp [h]
  · simp [realSign_of_pos h, h]

theorem realSign_eq_zero {r : ℝ} : realSign r = 0 ↔ r = 0 := by
  rcases lt_trichotomy r 0 with h | h | h
  · simp [realSign_of_neg h, h.ne]
  · simp [h]
  · simp [realSign_of_pos h, h.ne']

theorem realSign_eq_neg_one {r : ℝ} : realSign r = -1 ↔ r < 0 := by
  rcases lt_trichotomy r 0 with h | h | h
  · simp [realSign_of_neg h, h]
  · simp [h]
  · simp [realSign_of_pos h, h.le]

theorem realSign_intCast (k : Int) : realSign k = k.sign := by
  rcases lt_trichotomy k 0 with h | rfl | h
  · rw [Int.sign_eq_neg_one_of_neg h, realSign_of_neg (by exact_mod_cast h)]
  · rw [Int.cast_zero, realSign_zero, Int.sign_zero]
  · rw [Int.sign_eq_one_of_pos h, realSign_of_pos (by exact_mod_cast h)]

/-- The sign of u + w from those of u and w and, where they oppose, of u² - w²: the last is (u + w)(u - w), and u - w then
has the sign of u. -/
theorem realSign_add (u w : ℝ) :
    realSign (u + w) =
      if realSign u = realSign w ∨ realSign w = 0 then realSign u
      else if realSign u = 0 then realSign w
      else realSign u * realSign (u * u - w * w) := by
  have hfactor : realSign (u * u - w * w) = realSign (u + w) * realSign (u - w) := by rw [← realSign_mul]; ring_nf
  rcases lt_trichotomy u 0 with hu | rfl | hu <;> rcases lt_trichotomy w 0 with hw | rfl | hw
  case inl.inl => simp [realSign_of_neg, hu, hw, add_neg hu hw]
  case inl.inr.inr =>
    have hd : u - w < 0 := by linarith
    simp [hfactor, realSign_of_neg hu, realSign_of_pos hw, realSign_of_neg hd]
  case inr.inr.inl =>
    have hd : 0 < u - w := by linarith
    simp [hfactor, realSign_of_pos hu, realSign_of_neg hw, realSign_of_pos hd]
  case inr.inr.inr.inr => simp [realSign_of_pos, hu, hw, add_pos hu hw]
  all_goals simp [eq_comm (a := (0 : Int))]

/-- The sign computed with integers is that of the real number. -/
theorem cycSign_eq (m : Nat) (x : Cyc m) : cycSign m x = realSign (cycReal m x) := by
  induction m with
  | zero => exact (realSign_intCast x).symm
  | succ m ih =>
    obtain ⟨u, v⟩ := x
    have hsign : realSign (cycReal m v * cycGen (m + 1)) = realSign (cycReal m v) := by
      rw [realSign_mul, realSign_of_pos (cycGen_succ_pos m), mul_one]
    have hsquare : cycReal m v * cycGen (m + 1) * (cycReal m v * cycGen (m + 1)) =
        2 * (cycReal m v * cycReal m v) + cycReal m v * cycReal m v * cycGen m := by
      linear_combination cycReal m v * cycReal m v * cycGen_succ_sq m
    rw [cycReal_pair, realSign_add, hsign, hsquare]
    simp only [cycSign, ih, cycReal_sub, cycReal_add, cycReal_scale, cycReal_mulGen, cycReal_mul, Int.cast_ofNat]

/-- Settles O19: the sums and products of `cycReal`, and the sign of `cycSign_eq`. -/
theorem exactSigns : Obligations.ExactSigns := by
  intro m x y
  rw [cycSign_eq]
  exact ⟨cycReal_add m x y, cycReal_sub m x y, cycReal_mul m x y, realSign_eq_one, realSign_eq_zero, realSign_eq_neg_one⟩

end Sys2Proof.Machine
end

section
/-! The transform of the engine (R55, R57): floors by binary search, the cosine table, and the power of a bin. -/

namespace Sys2Proof.Machine

/-! ## Floors by binary search -/

/-- The search from `acc` finds the floor of a real that lies less than 2^b above it. -/
theorem greatestFrom_eq_floor {p : Nat → Bool} {r : ℝ} (hp : ∀ v, p v = true ↔ (v : ℝ) ≤ r) (b acc : Nat)
    (hlo : (acc : ℝ) ≤ r) (hhi : r < acc + 2 ^ b) : greatestFrom p b acc = ⌊r⌋₊ := by
  induction b generalizing acc with
  | zero => exact ((Nat.floor_eq_iff ((Nat.cast_nonneg acc).trans hlo)).2 ⟨hlo, by simpa using hhi⟩).symm
  | succ b ih =>
    have hstep : p (acc + 2 ^ b) = true ↔ (acc : ℝ) + 2 ^ b ≤ r := by rw [hp]; push_cast; rfl
    rw [greatestFrom]
    split
    case isTrue h => exact ih _ ((hp _).1 h) (by push_cast; rw [pow_succ] at hhi; linarith)
    case isFalse h => exact ih acc hlo (not_le.1 fun hle => h (hstep.2 hle))

theorem greatest_eq_floor {p : Nat → Bool} {r : ℝ} (hp : ∀ v, p v = true ↔ (v : ℝ) ≤ r) {bits : Nat}
    (hlo : 0 ≤ r) (hhi : r < 2 ^ bits) : greatest bits p = ⌊r⌋₊ :=
  greatestFrom_eq_floor hp bits 0 (by simpa using hlo) (by simpa using hhi)

theorem cycNonneg_iff (m : Nat) (x : Cyc m) : cycNonneg m x = true ↔ 0 ≤ cycReal m x := by
  rw [cycNonneg, decide_eq_true_iff, cycSign_eq]
  rcases lt_trichotomy (cycReal m x) 0 with h | h | h
  · simp [realSign_of_neg h, h]
  · simp [h]
  · simp [realSign_of_pos h, h.le]

/-! ## The cosine table -/

/-- The angle between two entries of the table of level m. -/
noncomputable def cycAngle (m : Nat) : ℝ := 2 * Real.pi / 2 ^ (m + 2)

theorem length_cycCosFrom (m k : Nat) (a b : Cyc m) : (cycCosFrom m k a b).length = k := by
  induction k generalizing a b with
  | zero => rfl
  | succ k ih => rw [cycCosFrom, List.length_cons, ih]

/-- From two neighbouring entries on, the recurrence gives the cosines of the angles that follow. -/
theorem cycReal_cycCosFrom (m : Nat) (z : Cyc m) (k j i : Nat) (a b : Cyc m) (hi : i < k)
    (ha : cycReal m a = 2 * Real.cos (j * cycAngle m)) (hb : cycReal m b = 2 * Real.cos ((j + 1 : Nat) * cycAngle m)) :
    cycReal m ((cycCosFrom m k a b).getD i z) = 2 * Real.cos ((j + i : Nat) * cycAngle m) := by
  induction k generalizing i j a b with
  | zero => exact absurd hi (Nat.not_lt_zero i)
  | succ k ih =>
    cases i with
    | zero => exact ha
    | succ i =>
      have hnext : cycReal m (cycSub m (cycMulGen m b) a) = 2 * Real.cos ((j + 1 + 1 : Nat) * cycAngle m) := by
        have hsum := Real.cos_add_cos ((j + 1 + 1 : Nat) * cycAngle m) (j * cycAngle m)
        have hhalf : ((j + 1 + 1 : Nat) * cycAngle m + j * cycAngle m) / 2 = (j + 1 : Nat) * cycAngle m := by
          push_cast; ring
        have hdiff : ((j + 1 + 1 : Nat) * cycAngle m - j * cycAngle m) / 2 = cycAngle m := by push_cast; ring
        rw [hhalf, hdiff] at hsum
        rw [cycReal_sub, cycReal_mulGen, ha, hb, show cycGen m = 2 * Real.cos (cycAngle m) from rfl]
        linarith
      rw [cycCosFrom, List.getD_cons_succ, ih (j + 1) i b _ (Nat.lt_of_succ_lt_succ hi) hb hnext]
      rw [Nat.add_right_comm, Nat.add_assoc]

/-- An entry of the table, at any index, is twice the cosine of its angle. -/
theorem cycReal_cosAt (m i : Nat) : cycReal m (cosAt m (cosTable m) i) = 2 * Real.cos (i * cycAngle m) := by
  have hlt : i % 2 ^ (m + 2) < 2 ^ (m + 2) := Nat.mod_lt i (by positivity)
  have hturn : (i : ℝ) * cycAngle m =
      (i % 2 ^ (m + 2) : Nat) * cycAngle m + (i / 2 ^ (m + 2) : Nat) * (2 * Real.pi) := by
    have hdiv : (i : ℝ) = (i % 2 ^ (m + 2) : Nat) + 2 ^ (m + 2) * (i / 2 ^ (m + 2) : Nat) := by
      exact_mod_cast (Nat.mod_add_div i (2 ^ (m + 2))).symm
    nth_rw 1 [hdiv]
    rw [cycAngle]
    field_simp
  have hentry := cycReal_cycCosFrom m (cycInt m 0) (2 ^ (m + 2)) 0 (i % 2 ^ (m + 2)) (cycInt m 2)
    (cycMulGen m (cycInt m 1)) hlt (by simp) (by simp [cycGen, cycAngle])
  rw [hturn, Real.cos_add_nat_mul_two_pi, ← Nat.zero_add (i % 2 ^ (m + 2)), ← hentry]
  simp [cosAt, cosTable]

/-! ## Sums over a record -/

theorem cycReal_cosSum (m i k j : Nat) (xs : List Int) :
    cycReal m (cosSum m (cosTable m) i k j xs) =
      2 * ∑ l ∈ Finset.range xs.length, (xs.getD l 0 : ℝ) * Real.cos ((i + (j + l) * k : Nat) * cycAngle m) := by
  induction xs generalizing j with
  | nil => simp [cosSum]
  | cons x xs ih =>
    rw [cosSum, cycReal_add, cycReal_scale, cycReal_cosAt, ih, List.length_cons, Finset.sum_range_succ']
    simp only [List.getD_cons_succ, List.getD_cons_zero, Nat.add_zero, Nat.add_right_comm j 1, Nat.add_assoc j]
    ring

/-- 8 times a part of the transform of the windowed record, at the phase that the shift adds (R55). -/
theorem cycReal_hannPart (m shift k : Nat) (xs : List Int) (hlen : xs.length = 2 ^ (m + 2)) :
    cycReal m (hannPart m (cosTable m) xs shift k) =
      8 * ∑ j ∈ Finset.range (2 ^ (m + 2)),
        hannSample (2 ^ (m + 2)) xs j * Real.cos ((j * k : Nat) * cycAngle m + shift * cycAngle m) := by
  have hwindow (j : Nat) :
      2 * Real.cos ((shift + (0 + j) * k : Nat) * cycAngle m) -
        (Real.cos ((shift + (0 + j) * (k + 1) : Nat) * cycAngle m) +
          Real.cos ((shift + (0 + j) * (k + 2 ^ (m + 2) - 1) : Nat) * cycAngle m)) =
      2 * (1 - Real.cos (j * cycAngle m)) * Real.cos ((j * k : Nat) * cycAngle m + shift * cycAngle m) := by
    have hplus : ((shift + (0 + j) * (k + 1) : Nat) : ℝ) * cycAngle m =
        ((j * k : Nat) * cycAngle m + shift * cycAngle m) + j * cycAngle m := by push_cast; ring
    have hminus : ((shift + (0 + j) * (k + 2 ^ (m + 2) - 1) : Nat) : ℝ) * cycAngle m =
        ((j * k : Nat) * cycAngle m + shift * cycAngle m) - j * cycAngle m + j * (2 * Real.pi) := by
      rw [Nat.add_sub_assoc Nat.one_le_two_pow]
      push_cast [Nat.one_le_two_pow]
      rw [cycAngle]
      field_simp
      ring
    have hsame : ((shift + (0 + j) * k : Nat) : ℝ) * cycAngle m = (j * k : Nat) * cycAngle m + shift * cycAngle m := by
      push_cast; ring
    rw [hsame, hplus, hminus, Real.cos_add_nat_mul_two_pi, Real.cos_add _ (j * cycAngle m), Real.cos_sub]
    ring
  rw [hannPart, cycReal_sub, cycReal_scale, cycReal_add, cycReal_cosSum, cycReal_cosSum, cycReal_cosSum, hlen,
    Finset.mul_sum, Finset.mul_sum, Finset.mul_sum, Finset.mul_sum, Finset.mul_sum, ← Finset.sum_add_distrib,
    ← Finset.sum_sub_distrib]
  refine Finset.sum_congr rfl fun j _ => ?_
  have hangle : 2 * Real.pi * j / (2 ^ (m + 2) : Nat) = j * cycAngle m := by rw [cycAngle]; push_cast; ring
  rw [hannSample, hangle]
  push_cast at hwindow ⊢
  linear_combination 2 * (xs.getD j 0 : ℝ) * hwindow j

/-! ## The power of a bin (R55) -/

theorem binAngle_eq (m j k : Nat) : 2 * Real.pi * j * k / (2 ^ (m + 2) : Nat) = (j * k : Nat) * cycAngle m := by
  rw [cycAngle]; push_cast; ring

/-- The shift of the sine is three quarters of a turn. -/
theorem cos_add_sineShift (m : Nat) (x : ℝ) : Real.cos (x + (sineShift m : Nat) * cycAngle m) = Real.sin x := by
  have hturn : ((sineShift m : Nat) : ℝ) * cycAngle m = 2 * Real.pi - Real.pi / 2 := by
    rw [sineShift, cycAngle, pow_add]
    push_cast
    field_simp
    ring
  rw [hturn, ← add_sub_assoc, add_sub_right_comm, Real.cos_add_two_pi, Real.cos_sub_pi_div_two]

theorem cycReal_squareSum (m : Nat) (a b : Cyc m) : cycReal m (squareSum m a b) = cycReal m a ^ 2 + cycReal m b ^ 2 := by
  rw [squareSum, cycReal_add, cycReal_mul, cycReal_mul, sq, sq]

/-- The number that `scaledPower` computes stands for 24 n² P_k. -/
theorem cycReal_scaledPower (m k : Nat) (xs : List Int) (hlen : xs.length = 2 ^ (m + 2)) :
    cycReal m (scaledPower m (cosTable m) xs k) = 24 * (2 ^ (m + 2)) ^ 2 * binPower (2 ^ (m + 2)) xs k := by
  have hsquare : cycReal m (squareSum m (hannPart m (cosTable m) xs 0 k) (hannPart m (cosTable m) xs (sineShift m) k)) =
      64 * transformSquare (2 ^ (m + 2)) xs k := by
    simp only [cycReal_squareSum, cycReal_hannPart _ _ _ _ hlen, transformSquare, binAngle_eq, cos_add_sineShift,
      Nat.cast_zero, zero_mul, add_zero]
    ring
  have hhalf : (k = 0 ∨ k = 2 ^ (m + 1)) ↔ (k = 0 ∨ 2 * k = 2 ^ (m + 2)) := by rw [pow_succ _ (m + 1)]; omega
  rw [scaledPower, binPower]
  push_cast
  simp only [hhalf]
  split
  · rw [hsquare]; field_simp; ring
  · rw [cycReal_scale, hsquare]; push_cast; field_simp; ring

theorem binPower_nonneg (n : Nat) (xs : List Int) (k : Nat) : 0 ≤ binPower n xs k := by
  rw [binPower, transformSquare]
  positivity

/-! ## Energies (R57, R63) -/

/-- The energy of a sum of scaled powers: the floor of 2500 times the powers' sum, saturated at 48 bits. -/
theorem energyOf_spec (m : Nat) (x : Cyc m) (p : ℝ) (hp : 0 ≤ p) (hx : cycReal m x = 24 * (2 ^ (m + 2)) ^ 2 * p) :
    ((energyOf m x).2 = true ↔ (2 : ℝ) ^ 48 ≤ 2500 * p) ∧
      (2500 * p < 2 ^ 48 → (energyOf m x).1 = ⌊2500 * p⌋₊) ∧
      ((2 : ℝ) ^ 48 ≤ 2500 * p → (energyOf m x).1 = 2 ^ 48 - 1) := by
  have hleast (e : Nat) : energyAtLeast m x e = true ↔ (e : ℝ) ≤ 2500 * p := by
    have hscale : (0 : ℝ) < 24 * (2 ^ (m + 2)) ^ 2 := by positivity
    have hleft : (((24 * 2 ^ (m + 2) * 2 ^ (m + 2) * e : Nat) : Int) : ℝ) = 24 * (2 ^ (m + 2)) ^ 2 * e := by
      push_cast; ring
    have hright : ((2500 : Int) : ℝ) * (24 * (2 ^ (m + 2)) ^ 2 * p) = 24 * (2 ^ (m + 2)) ^ 2 * (2500 * p) := by
      push_cast; ring
    rw [energyAtLeast, cycNonneg_iff, cycReal_sub, cycReal_scale, cycReal_int, hx, sub_nonneg, hright]
    exact hleft ▸ mul_le_mul_iff_right₀ hscale
  have hfull : energyAtLeast m x (max48 + 1) = true ↔ (2 : ℝ) ^ 48 ≤ 2500 * p := by
    rw [hleast, show ((max48 + 1 : Nat) : ℝ) = 2 ^ 48 by norm_num [max48]]
  by_cases h : energyAtLeast m x (max48 + 1) = true
  · have hge := hfull.1 h
    rw [energyOf, if_pos h]
    exact ⟨by simpa using hge, fun hlt => absurd hge hlt.not_ge, fun _ => rfl⟩
  · have hlt := not_le.1 (mt hfull.2 h)
    rw [energyOf, if_neg h]
    exact ⟨by simpa using hlt, fun _ => greatest_eq_floor hleast (by positivity) hlt, fun hge => absurd hge hlt.not_ge⟩

theorem levelOf_pow (m : Nat) : levelOf (2 ^ (m + 2)) = m := by rw [levelOf, Nat.log2_two_pow, Nat.add_sub_cancel]

theorem cycReal_scaledPowerSum (m count k : Nat) (xs : List Int) (hlen : xs.length = 2 ^ (m + 2)) :
    cycReal m (scaledPowerSum m (cosTable m) xs count k) =
      24 * (2 ^ (m + 2)) ^ 2 * ∑ i ∈ Finset.Ico k (k + count), binPower (2 ^ (m + 2)) xs i := by
  induction count generalizing k with
  | zero => simp [scaledPowerSum]
  | succ c ih =>
    rw [scaledPowerSum, cycReal_add, cycReal_scaledPower m k xs hlen, ih, Finset.sum_eq_sum_Ico_succ_bot (Nat.lt_add_of_pos_right c.succ_pos),
      Nat.add_right_comm k 1 c, Nat.add_assoc k c 1]
    ring

/-- The band energy of R57 over a range of bins, which may be empty. -/
theorem bandEnergy_spec (m kLo kHi : Nat) (xs : List Int) (hlen : xs.length = 2 ^ (m + 2)) :
    let e : ℝ := 2500 * ∑ k ∈ Finset.Icc kLo kHi, binPower (2 ^ (m + 2)) xs k
    ((bandEnergy xs (2 ^ (m + 2)) kLo kHi).2 = true ↔ (2 : ℝ) ^ 48 ≤ e) ∧
      (e < 2 ^ 48 → (bandEnergy xs (2 ^ (m + 2)) kLo kHi).1 = ⌊e⌋₊) ∧
      ((2 : ℝ) ^ 48 ≤ e → (bandEnergy xs (2 ^ (m + 2)) kLo kHi).1 = 2 ^ 48 - 1) := by
  have hrange : Finset.Ico kLo (kLo + (kHi + 1 - kLo)) = Finset.Icc kLo kHi := by
    ext k; simp only [Finset.mem_Ico, Finset.mem_Icc]; omega
  rw [bandEnergy, levelOf_pow]
  refine energyOf_spec m _ _ (Finset.sum_nonneg fun k _ => binPower_nonneg _ xs k) ?_
  rw [cycReal_scaledPowerSum m _ _ xs hlen, hrange]

end Sys2Proof.Machine
end

section
/-! BANDS and PEAK results (R56, R57, R62, R63) and levels (R58). -/

namespace Sys2Proof.Machine

/-! ## Placement (R56) -/

theorem ceilDiv_eq_ceil (a b : Nat) (hb : 0 < b) : ceilDiv a b = ⌈(a : ℚ) / b⌉₊ := by
  refine eq_of_forall_ge_iff fun c => ?_
  have hpos : (0 : ℚ) < b := by exact_mod_cast hb
  rw [Nat.ceil_le, div_le_iff₀ hpos, ceilDiv, ← Nat.lt_succ_iff, Nat.div_lt_iff_lt_mul hb, Nat.succ_mul]
  norm_cast
  omega

theorem bandEdges_eq (p : BandPlace) (speed : Nat) :
    bandEdges p speed =
      (⌊((if p.halfWidth ≤ p.centre then p.centre - p.halfWidth else 0 : Nat) * speed : ℚ) / 6000⌋₊,
        ⌊((p.centre + p.halfWidth : Nat) * speed : ℚ) / 6000⌋₊) := by
  have hlower : (if p.halfWidth ≤ p.centre then p.centre - p.halfWidth else 0) = p.centre - p.halfWidth := by
    split <;> omega
  have hfloor (x : Nat) : ⌊((x : ℚ) * speed) / 6000⌋₊ = x * speed / 6000 := by
    exact_mod_cast Nat.floor_div_eq_div (K := ℚ) (x * speed) 6000
  rw [hlower, hfloor, hfloor, bandEdges]

theorem binLimits_eq (fLo fHi n d : Nat) :
    binLimits fLo fHi n d =
      (if ⌈(fLo * n * d : ℚ) / 25600000⌉₊ = 0 then 1 else ⌈(fLo * n * d : ℚ) / 25600000⌉₊,
        if n / 2 < ⌊(fHi * n * d : ℚ) / 25600000⌋₊ then n / 2 else ⌊(fHi * n * d : ℚ) / 25600000⌋₊) := by
  have hceil : ⌈(fLo * n * d : ℚ) / 25600000⌉₊ = ceilDiv (fLo * n * d) 25600000 := by
    rw [ceilDiv_eq_ceil _ _ (by norm_num)]; push_cast; rfl
  have hfloor : ⌊(fHi * n * d : ℚ) / 25600000⌋₊ = fHi * n * d / 25600000 := by
    exact_mod_cast Nat.floor_div_eq_div (K := ℚ) (fHi * n * d) 25600000
  rw [hceil, hfloor, binLimits]
  ext <;> dsimp only <;> split <;> omega

/-- The bins of a band (R56 steps 1 to 4). -/
def bandBins (n d speed : Nat) (p : BandPlace) : Nat × Nat :=
  binLimits (bandEdges p speed).1 (bandEdges p speed).2 n d

theorem analyseBand_bins {xs : List Int} {n d speed : Nat} {p : BandPlace} {e : BandResult}
    (he : e = analyseBand xs n d speed p) : e.band = p.band ∧ (e.kLo, e.kHi) = bandBins n d speed p := by
  rw [he, analyseBand]
  split
  · exact ⟨rfl, rfl⟩
  · exact ⟨rfl, rfl⟩

theorem analyseBand_resolved_iff {xs : List Int} {n d speed : Nat} {p : BandPlace} {e : BandResult}
    (he : e = analyseBand xs n d speed p) :
    e.resolved = true ↔ (bandBins n d speed p).1 ≤ (bandBins n d speed p).2 := by
  rw [he, analyseBand]
  split
  case isTrue h => exact iff_of_true rfl h
  case isFalse h => exact iff_of_false Bool.false_ne_true h

/-- What a RESOLVED entry holds: the energy over its own bins and the level of that energy. -/
theorem analyseBand_of_resolved {xs : List Int} {n d speed : Nat} {p : BandPlace} {e : BandResult}
    (he : e = analyseBand xs n d speed p) (h : e.resolved = true) :
    (e.energy, e.saturated) = bandEnergy xs n e.kLo e.kHi ∧ e.level = levelFor e.energy e.saturated ∧
      (e.noEnergy = true ↔ e.energy = 0) := by
  have hbins := (analyseBand_resolved_iff he).1 h
  subst he
  rw [analyseBand, if_pos (by exact hbins)]
  exact ⟨rfl, rfl, by simp⟩

theorem analyseBand_of_unresolved {xs : List Int} {n d speed : Nat} {p : BandPlace} {e : BandResult}
    (he : e = analyseBand xs n d speed p) (h : e.resolved = false) :
    e.energy = 0 ∧ e.saturated = false ∧ e.level = 0 ∧ e.noEnergy = false := by
  have hbins := (analyseBand_resolved_iff he).not.1 (by simp [h])
  subst he
  rw [analyseBand, if_neg (by exact hbins)]
  exact ⟨rfl, rfl, rfl, rfl⟩

/-- Settles O18: the edges and limits as floors and ceilings, and the two kinds of entry. -/
theorem bandPlacement : Obligations.BandPlacement := by
  intro xs n d speed p lower upper fLo fHi kLo kHi e
  have hedges : bandEdges p speed = (fLo, fHi) := bandEdges_eq p speed
  have hbins : bandBins n d speed p = (kLo, kHi) := by rw [bandBins, hedges]; exact binLimits_eq fLo fHi n d
  have he : e = analyseBand xs n d speed p := rfl
  clear_value e
  obtain ⟨hband, hk⟩ := analyseBand_bins he
  obtain ⟨hlo, hhi⟩ := Prod.mk.inj (hk.trans hbins)
  have hresolved := analyseBand_resolved_iff he
  rw [hbins] at hresolved
  refine ⟨hband, hlo, hhi, hresolved, fun h => ?_, analyseBand_of_unresolved he⟩
  have hentry := analyseBand_of_resolved he h
  rwa [hlo, hhi] at hentry

/-! ## Energies (R57) -/

/-- Settles O20: the engine's sums stand for the real ones, and the bins of an entry are a range of the record. -/
theorem bandEnergyIsExact : Obligations.BandEnergyIsExact := by
  intro m xs hlen n isExact
  refine ⟨fun kLo kHi _ _ => bandEnergy_spec m kLo kHi xs hlen, ?_⟩
  intro d speed p r hr
  have hdef : r = analyseBand xs n d speed p := rfl
  clear_value r
  obtain ⟨henergy, -, -⟩ := analyseBand_of_resolved hdef hr
  obtain ⟨he, hs⟩ := Prod.mk.inj henergy
  rw [he, hs]
  exact bandEnergy_spec m r.kLo r.kHi xs hlen

/-! ## Levels (R58) -/

/-- The position b of the highest set bit, and the sixteenth of its octave an energy lies in. -/
theorem log2_sixteenth (e : Nat) (he : e ≠ 0) :
    2 ^ Nat.log2 e ≤ e ∧ e < 2 ^ (Nat.log2 e + 1) ∧ e * 16 / 2 ^ Nat.log2 e - 16 ≤ 15 := by
  have hlo := Nat.log2_self_le he
  have hhi := Nat.lt_log2_self (n := e)
  have hoctave : e * 16 / 2 ^ Nat.log2 e < 32 := by
    rw [Nat.div_lt_iff_lt_mul (by positivity)]
    rw [pow_succ] at hhi
    omega
  exact ⟨hlo, hhi, by omega⟩

theorem levelFor_of_energy {e : Nat} (he : e ≠ 0) :
    levelFor e false = 301 * Nat.log2 e + levelFraction (e * 16 / 2 ^ Nat.log2 e - 16) := by
  rw [levelFor, if_neg he, if_neg Bool.false_ne_true]

theorem levelFraction_le {m : Nat} (hm : m ≤ 15) : levelFraction m ≤ 287 := by
  interval_cases m <;> decide

theorem levelFor_le (e : Nat) (sat : Bool) (he : e < 2 ^ 48) : levelFor e sat ≤ 14434 := by
  by_cases h0 : e = 0
  · simp [levelFor, h0]
  cases sat with
  | true => simp [levelFor, h0]
  | false =>
    obtain ⟨hlo, -, hm⟩ := log2_sixteenth e h0
    have hb : Nat.log2 e < 48 := (Nat.pow_lt_pow_iff_right (by norm_num)).1 (hlo.trans_lt he)
    have hfraction := levelFraction_le hm
    rw [levelFor_of_energy h0]
    omega

/-- A logarithm lies within half a thousandth of t thousandths where the powers of its bounds do. -/
theorem abs_logb_sub_le {a b t : Nat} (ha : 0 < a) (hb : 0 < b) (hlo : 10 ^ (2 * t) * b ^ 2000 ≤ 10 * a ^ 2000)
    (hhi : a ^ 2000 ≤ 10 * (10 ^ (2 * t) * b ^ 2000)) :
    |1000 * Real.logb 10 ((a : ℝ) / b) - (t : ℝ)| ≤ 1 / 2 := by
  have hposA : (0 : ℝ) < a := by exact_mod_cast ha
  have hposB : (0 : ℝ) < b := by exact_mod_cast hb
  have hpowA : Real.logb 10 (10 * (a : ℝ) ^ 2000) = 1 + 2000 * Real.logb 10 a := by
    rw [Real.logb_mul (by norm_num) (by positivity), Real.logb_self_eq_one (by norm_num), Real.logb_pow]
    norm_num
  have hpowB : Real.logb 10 (10 ^ (2 * t) * (b : ℝ) ^ 2000) = 2 * t + 2000 * Real.logb 10 b := by
    rw [Real.logb_mul (by positivity) (by positivity), Real.logb_pow, Real.logb_pow,
      Real.logb_self_eq_one (by norm_num)]
    push_cast
    ring
  have hlower := Real.logb_le_logb_of_le (b := 10) (by norm_num) (by positivity)
    (by exact_mod_cast hlo : (10 : ℝ) ^ (2 * t) * b ^ 2000 ≤ 10 * a ^ 2000)
  have hupper := Real.logb_le_logb_of_le (b := 10) (by norm_num) (by positivity)
    (by exact_mod_cast hhi : (a : ℝ) ^ 2000 ≤ 10 * (10 ^ (2 * t) * b ^ 2000))
  rw [hpowA, hpowB] at hlower
  rw [Real.logb_mul (by norm_num) (by positivity), hpowB, Real.logb_pow, Real.logb_self_eq_one (by norm_num)] at hupper
  push_cast at hupper
  rw [Real.logb_div hposA.ne' hposB.ne', abs_le]
  exact ⟨by linarith, by linarith⟩

/-- The values of the table between the powers of the bounds of their sixteenths: the closed facts behind R58's table. -/
theorem levelFraction_bounds :
    ∀ m < 16, 10 ^ (2 * levelFraction m) * 16 ^ 2000 ≤ 10 * (16 + m) ^ 2000 ∧
      (16 + m) ^ 2000 ≤ 10 * (10 ^ (2 * levelFraction m) * 16 ^ 2000) := by
  decide +kernel

theorem levelFraction_is_rounded {m : Nat} (hm : m ≤ 15) :
    |1000 * Real.logb 10 (1 + (m : ℝ) / 16) - (levelFraction m : ℝ)| ≤ 1 / 2 := by
  obtain ⟨hlo, hhi⟩ := levelFraction_bounds m (Nat.lt_succ_of_le hm)
  have hratio : 1 + (m : ℝ) / 16 = ((16 + m : Nat) : ℝ) / (16 : Nat) := by push_cast; ring
  rw [hratio]
  exact abs_logb_sub_le (by omega) (by norm_num) hlo hhi

/-- Settles O17: the entry's level is that of its energy, by the highest set bit and the table. -/
theorem levelConversion : Obligations.LevelConversion := by
  refine ⟨fun xs n d speed p => ?_, fun m hm => levelFraction_is_rounded hm, by decide, levelFor_le⟩
  intro hr e
  have he : e = analyseBand xs n d speed p := rfl
  rw [← he] at hr
  clear_value e
  obtain ⟨-, hlevel, hempty⟩ := analyseBand_of_resolved he hr
  refine ⟨hempty, fun h0 => ?_, fun h0 hsat => ?_, fun h0 hsat => ?_⟩
  · rw [hlevel, levelFor, if_pos h0]
  · rw [hlevel, levelFor, if_neg h0, if_pos hsat]
  · obtain ⟨hlo, hhi, hm⟩ := log2_sixteenth e.energy h0
    exact ⟨_, _, hlo, hhi, rfl, hm, by rw [hlevel, hsat, levelFor_of_energy h0]⟩

/-! ## The strongest bin (R62, R63) -/

/-- `j` is the lowest of the places of greatest value among those from `lo` on and below `hi`. -/
structure IsStrongest (f : Nat → ℝ) (lo hi j : Nat) : Prop where
  lo_le : lo ≤ j
  lt_hi : j < hi
  greatest : ∀ i, lo ≤ i → i < hi → f i ≤ f j
  lowest : ∀ i, lo ≤ i → i < j → f i < f j

theorem isStrongest_single (f : Nat → ℝ) (j : Nat) : IsStrongest f j (j + 1) j where
  lo_le := le_rfl
  lt_hi := j.lt_succ_self
  greatest i hlo hhi := by rw [show i = j by omega]
  lowest i hlo hhi := absurd hhi hlo.not_gt

theorem IsStrongest.keep {f : Nat → ℝ} {lo hi j : Nat} (h : IsStrongest f lo hi j) (hle : f hi ≤ f j) :
    IsStrongest f lo (hi + 1) j where
  lo_le := h.lo_le
  lt_hi := h.lt_hi.trans hi.lt_succ_self
  greatest i hlo hhi := by
    rcases Nat.lt_succ_iff_lt_or_eq.1 hhi with hi' | rfl
    · exact h.greatest i hlo hi'
    · exact hle
  lowest := h.lowest

theorem IsStrongest.replace {f : Nat → ℝ} {lo hi j : Nat} (h : IsStrongest f lo hi j) (hlt : f j < f hi) :
    IsStrongest f lo (hi + 1) hi where
  lo_le := h.lo_le.trans h.lt_hi.le
  lt_hi := hi.lt_succ_self
  greatest i hlo hhi := by
    rcases Nat.lt_succ_iff_lt_or_eq.1 hhi with hi' | rfl
    · exact (h.greatest i hlo hi').trans hlt.le
    · exact le_rfl
  lowest i hlo hhi := (h.greatest i hlo hhi).trans_lt hlt

/-- Of two bins the exact comparison finds the one of greater real power. -/
theorem cycSign_scaledPower_sub (m i j : Nat) (xs : List Int) (hlen : xs.length = 2 ^ (m + 2)) :
    cycSign m (cycSub m (scaledPower m (cosTable m) xs i) (scaledPower m (cosTable m) xs j)) = 1 ↔
      binPower (2 ^ (m + 2)) xs j < binPower (2 ^ (m + 2)) xs i := by
  have hscale : (0 : ℝ) < 24 * (2 ^ (m + 2)) ^ 2 := by positivity
  rw [cycSign_eq, realSign_eq_one, cycReal_sub, cycReal_scaledPower m i xs hlen, cycReal_scaledPower m j xs hlen,
    sub_pos, mul_lt_mul_iff_right₀ hscale]

/-- The scan over the bins from `k` on keeps the strongest bin and its power. -/
theorem strongestBin_spec (m : Nat) (xs : List Int) (hlen : xs.length = 2 ^ (m + 2)) (lo count k j : Nat)
    (hj : IsStrongest (binPower (2 ^ (m + 2)) xs) lo k j) :
    ∃ i, strongestBin m (cosTable m) xs count k (j, scaledPower m (cosTable m) xs j) =
        (i, scaledPower m (cosTable m) xs i) ∧ IsStrongest (binPower (2 ^ (m + 2)) xs) lo (k + count) i := by
  induction count generalizing k j with
  | zero => exact ⟨j, rfl, hj⟩
  | succ count ih =>
    rw [strongestBin, ← Nat.add_assoc, Nat.add_right_comm]
    by_cases h : binPower (2 ^ (m + 2)) xs j < binPower (2 ^ (m + 2)) xs k
    · rw [if_pos ((cycSign_scaledPower_sub m k j xs hlen).2 h)]
      exact ih (k + 1) k (hj.replace h)
    · rw [if_neg (mt (cycSign_scaledPower_sub m k j xs hlen).1 h)]
      exact ih (k + 1) j (hj.keep (not_lt.1 h))

/-- The PEAK result over a range that holds a bin (R63): the strongest bin and its power. -/
theorem analysePeak_of_bins (m d fLo fHi floor : Nat) (xs : List Int) (hlen : xs.length = 2 ^ (m + 2))
    (hk : (binLimits fLo fHi (2 ^ (m + 2)) d).1 ≤ (binLimits fLo fHi (2 ^ (m + 2)) d).2) :
    ∃ j, IsStrongest (binPower (2 ^ (m + 2)) xs) (binLimits fLo fHi (2 ^ (m + 2)) d).1
        ((binLimits fLo fHi (2 ^ (m + 2)) d).2 + 1) j ∧
      let power := (energyOf m (scaledPower m (cosTable m) xs j)).1
      analysePeak xs (2 ^ (m + 2)) d fLo fHi floor =
        { peak := decide (floor ≤ power)
          emptyRange := false
          freq := if floor ≤ power then j * 25600000 / (2 ^ (m + 2) * d) else 0
          bin := some j
          power := power } := by
  generalize hlim : binLimits fLo fHi (2 ^ (m + 2)) d = k at hk ⊢
  obtain ⟨j, hbest, hj⟩ := strongestBin_spec m xs hlen k.1 (k.2 - k.1) (k.1 + 1) k.1 (isStrongest_single _ k.1)
  rw [show k.1 + 1 + (k.2 - k.1) = k.2 + 1 by omega] at hj
  refine ⟨j, hj, ?_⟩
  have hlevel := levelOf_pow m
  rw [analysePeak, hlim]
  generalize levelOf (2 ^ (m + 2)) = l at hlevel ⊢
  subst hlevel
  simp only [hbest, if_pos hk]
  split
  case isTrue h => simp [h.not_ge]
  case isFalse h => simp [not_lt.1 h]

/-- Settles O22: the bin and power of `analysePeak_of_bins`, and the power as a floor. -/
theorem peakIsExact : Obligations.PeakIsExact := by
  intro m d fLo fHi floor xs hlen _ _ n k r
  refine ⟨fun hk => ?_, fun hk => ?_⟩
  · exact if_neg hk.not_ge
  obtain ⟨j, hj, hr⟩ := analysePeak_of_bins m d fLo fHi floor xs hlen hk
  obtain ⟨-, hfloor, hfull⟩ := energyOf_spec m _ _ (binPower_nonneg _ xs j) (cycReal_scaledPower m j xs hlen)
  have hdef : r = analysePeak xs (2 ^ (m + 2)) d fLo fHi floor := rfl
  clear_value r
  rw [hr] at hdef
  subst hdef
  refine ⟨j, rfl, hj.lo_le, Nat.le_of_lt_succ hj.lt_hi, rfl, fun i hlo hhi => hj.greatest i hlo (Nat.lt_succ_of_le hhi),
    hj.lowest, hfloor, hfull, ?_, ?_⟩
  · simp
  · simp [n]

end Sys2Proof.Machine
end

section
/-! HARMONICS results (R60, R61): the resampled window folded on one cycle, and its magnitudes. -/

namespace Sys2Proof.Machine

/-- A resampled point in the units of the engine, 1 / (100,000 C) (R60). -/
theorem resampledPoint_cast (xs : List Int) (s c t j : Nat) (hc : 1 ≤ c) :
    (resampledPoint xs.toArray s c t j : ℝ) = 100000 * c * gridPoint xs s c t j := by
  have hpos : (0 : ℝ) < 100000 * c := by positivity
  simp only [resampledPoint, gridPoint, Array.getD_eq_getD_getElem?, List.getElem?_toArray, List.getD_eq_getElem?_getD]
  generalize j * t % (100000 * c) = r
  split
  · push_cast; field_simp
  · push_cast; ring

/-- A place of the folded cycle: the sum of the points that fall on it. -/
theorem foldedCycle_getD (xs : List Int) (s c t l : Nat) (hc : 1 ≤ c) (hl : l < 64) :
    (((foldedCycle xs.toArray s c t).getD l 0 : Int) : ℝ) =
      100000 * c * ∑ i ∈ Finset.range c, gridPoint xs s c t (64 * i + l) := by
  have hplace : (foldedCycle xs.toArray s c t).getD l 0 =
      ∑ i ∈ Finset.range c, resampledPoint xs.toArray s c t (64 * i + l) := by
    rw [foldedCycle, List.getD_eq_getElem?_getD, List.getElem?_map, List.getElem?_range hl]
    rfl
  rw [hplace, Int.cast_sum, Finset.mul_sum]
  exact Finset.sum_congr rfl fun i _ => resampledPoint_cast xs s c t _ hc

/-- A sum over the window, taken place by place of the cycle. -/
theorem sum_range_mul_fold (c : Nat) (f : Nat → ℝ) :
    ∑ j ∈ Finset.range (64 * c), f j = ∑ l ∈ Finset.range 64, ∑ i ∈ Finset.range c, f (64 * i + l) := by
  rw [Finset.sum_comm]
  induction c with
  | zero => rfl
  | succ c ih => rw [Nat.mul_succ, Finset.sum_range_add, ih, Finset.sum_range_succ (n := c)]

/-- A part of the transform of a folded cycle: 200,000 C times that over the whole window (R61). -/
theorem cycReal_cosSum_foldedCycle (xs : List Int) (s c t h shift : Nat) (hc : 1 ≤ c) :
    cycReal 4 (cosSum 4 (cosTable 4) shift h 0 (foldedCycle xs.toArray s c t)) =
      200000 * c * ∑ j ∈ Finset.range (64 * c),
        gridPoint xs s c t j * Real.cos (2 * Real.pi * h * j / 64 + shift * cycAngle 4) := by
  have hlen : (foldedCycle xs.toArray s c t).length = 64 := by simp [foldedCycle]
  have hphase (i l : Nat) : Real.cos (2 * Real.pi * h * (64 * i + l : Nat) / 64 + shift * cycAngle 4) =
      Real.cos ((shift + (0 + l) * h : Nat) * cycAngle 4) := by
    have hturn : 2 * Real.pi * h * (64 * i + l : Nat) / 64 + shift * cycAngle 4 =
        (shift + (0 + l) * h : Nat) * cycAngle 4 + (h * i : Nat) * (2 * Real.pi) := by
      rw [cycAngle]; push_cast; ring
    rw [hturn, Real.cos_add_nat_mul_two_pi]
  rw [cycReal_cosSum, hlen, sum_range_mul_fold, Finset.mul_sum, Finset.mul_sum]
  refine Finset.sum_congr rfl fun l hl => ?_
  simp only [hphase, ← Finset.sum_mul]
  rw [foldedCycle_getD xs s c t l hc (Finset.mem_range.1 hl)]
  ring

theorem harmonicMagnitude_nonneg (xs : List Int) (s c t h : Nat) : 0 ≤ harmonicMagnitude xs s c t h := by
  rw [harmonicMagnitude]
  positivity

/-- The square of the magnitude against the exact number the engine forms from the folded cycle (R61). -/
theorem cycReal_harmonicSquare (xs : List Int) (s c t h : Nat) (hc : 1 ≤ c) :
    8 * cycReal 4 (squareSum 4 (cosSum 4 (cosTable 4) 0 h 0 (foldedCycle xs.toArray s c t))
        (cosSum 4 (cosTable 4) (sineShift 4) h 0 (foldedCycle xs.toArray s c t))) =
      (c * (100000 * c)) ^ 2 * harmonicMagnitude xs s c t h ^ 2 := by
  have hpos : (0 : ℝ) < c := by exact_mod_cast hc
  simp only [cycReal_squareSum, cycReal_cosSum_foldedCycle xs s c t h _ hc, cos_add_sineShift, Nat.cast_zero, zero_mul,
    add_zero, harmonicMagnitude]
  rw [div_pow, mul_pow (256 * Real.sqrt 2), mul_pow 256, Real.sq_sqrt (by norm_num), Real.sq_sqrt (by positivity)]
  field_simp
  ring

theorem magnitude_eq_floor (xs : List Int) (s c t h : Nat) (hc : 1 ≤ c) (hfit : harmonicMagnitude xs s c t h < 2 ^ 32) :
    magnitude (cosTable 4) (foldedCycle xs.toArray s c t) c h = ⌊harmonicMagnitude xs s c t h⌋₊ := by
  refine greatest_eq_floor (fun v => ?_) (harmonicMagnitude_nonneg xs s c t h) hfit
  have hunit : (0 : ℝ) < (c * (100000 * c)) ^ 2 := by
    have : (0 : ℝ) < c := by exact_mod_cast hc
    positivity
  have hleft : (((v * v * (c * (100000 * c) * (c * (100000 * c))) : Nat) : Int) : ℝ) =
      (c * (100000 * c)) ^ 2 * (v : ℝ) ^ 2 := by
    push_cast; ring
  rw [cycNonneg_iff, cycReal_sub, cycReal_scale, cycReal_int, sub_nonneg]
  rw [show ((8 : Int) : ℝ) = 8 by norm_num, cycReal_harmonicSquare xs s c t h hc]
  exact hleft ▸ (mul_le_mul_iff_right₀ hunit).trans
    (pow_le_pow_iff_left₀ (Nat.cast_nonneg v) (harmonicMagnitude_nonneg xs s c t h) two_ne_zero)

/-- Settles O21: the list of magnitudes holds, for each order, the floor the search finds. -/
theorem magnitudeIsExact : Obligations.MagnitudeIsExact := by
  intro xs s c t h _ _ hc h1 h40 hfit
  rw [channelMagnitudes, List.getElem?_map, List.getElem?_range (by omega)]
  simp only [Option.map_some, Nat.sub_add_cancel h1]
  rw [magnitude_eq_floor xs s c t h hc hfit]

end Sys2Proof.Machine
end

section
/-! What every step keeps of the stores: the alarm table, the task table, the rings, the locks and the engine's queue. The
operations every block shares, and the engine. -/

namespace Sys2Proof.Machine

/-- The stores keep their sizes, keys and order, and no request waits on an idle engine. -/
def Stores (s : State) : Prop := AlarmsKeyed s ∧ TasksOrdered s ∧ StoresBounded s ∧ EngineServes s

/-! ## Updates of one store -/

/-- The parts of a state that `Stores` speaks of. -/
def storeParts (s : State) :=
  (s.ccu.alarms, s.plan.tasks, s.plan.days, s.plan.history, s.records.ring, s.records.slots, s.mon.icing.ring,
    s.spe.inProgress, s.spe.queue)

/-- An update that leaves those parts as they are. -/
theorem Stores.same {s t : State} (h : Stores s) (e : storeParts t = storeParts s) : Stores t := by
  simp only [storeParts, Prod.mk.injEq] at e
  obtain ⟨halarms, htasks, hdays, hhistory, hring, hslots, hscores, hidle, hqueue⟩ := e
  unfold Stores AlarmsKeyed TasksOrdered StoresBounded EngineServes
  rw [halarms, htasks, hdays, hhistory, hring, hslots, hscores, hidle, hqueue]
  exact h

section
variable {s t : State} (h : Stores s)
include h

theorem Stores.withAlarms (halarms : AlarmsKeyed t) (hplan : t.plan = s.plan) (hrecords : t.records = s.records)
    (hmon : t.mon = s.mon) (hspe : t.spe = s.spe) : Stores t := by
  obtain ⟨-, htasks, hbounds, hserves⟩ := h
  unfold Stores TasksOrdered StoresBounded EngineServes
  rw [hplan, hrecords, hmon, hspe]
  exact ⟨halarms, htasks, hbounds, hserves⟩

theorem Stores.withSpe (hserves : EngineServes t) (hccu : t.ccu = s.ccu) (hplan : t.plan = s.plan)
    (hrecords : t.records = s.records) (hmon : t.mon = s.mon) : Stores t := by
  obtain ⟨halarms, htasks, hbounds, -⟩ := h
  unfold Stores AlarmsKeyed TasksOrdered StoresBounded
  rw [hccu, hplan, hrecords, hmon]
  exact ⟨halarms, htasks, hbounds, hserves⟩

end

/-! ## Notices, reports and snapshots -/

theorem setNotice_stores (n : Notice) {s : State} (h : Stores s) : Stores (setNotice n s) := h.same rfl

theorem reportDay_stores (f : DayRecord → DayRecord) {s : State} (h : Stores s) : Stores (reportDay f s) := by
  unfold reportDay
  split
  · exact h
  · exact h

/-- A slot that takes an unlocked snapshot adds no lock. -/
theorem lockedSlots_set_le {slots : Vector (Option SnapshotSlot) 8} (i : Fin 8) {c : SnapshotSlot}
    (hc : c.locked = false) : lockedSlots (slots.set i (some c)) ≤ lockedSlots slots := by
  unfold lockedSlots
  rw [← List.countP_eq_length_filter, ← List.countP_eq_length_filter, Vector.toList_set, List.countP_set (by simp)]
  simp [hc]

theorem takeSnapshot_stores (c : AlarmCode) (x : Source) {s : State} (h : Stores s) : Stores (takeSnapshot c x s) := by
  unfold takeSnapshot
  split
  · exact h
  · next i _ =>
    obtain ⟨halarms, htasks, ⟨hring, hscores, hdays, hhistory, hrise, hlocks⟩, hserves⟩ := h
    exact ⟨halarms, htasks, ⟨hring, hscores, hdays, hhistory, hrise, (lockedSlots_set_le i rfl).trans hlocks⟩, hserves⟩

theorem enteredActive_stores (b : Bool) (c : AlarmCode) (x : Source) {s : State} (h : Stores s) :
    Stores (enteredActive b c x s) := by
  have hreport : Stores (reportDay DayRecord.addAlarm (setNotice .alarmRaised s)) := reportDay_stores _ (setNotice_stores _ h)
  unfold enteredActive
  dsimp only
  split
  · exact takeSnapshot_stores c x hreport
  · exact hreport

/-! ## Alarms -/

theorem updateAlarm_stores {c : AlarmCode} {x : Source} {f : AlarmEntry → AlarmEntry} {s : State}
    (hf : ∀ e, (f e).code = e.code ∧ (f e).source = e.source) (h : Stores s) : Stores (updateAlarm c x f s) :=
  h.withAlarms (updateAlarm_keyed hf h.1) rfl rfl rfl rfl

theorem removeAlarm_stores (c : AlarmCode) (x : Source) {s : State} (h : Stores s) : Stores (removeAlarm c x s) := by
  have hsub : (s.ccu.alarms.eraseP (AlarmEntry.has c x)).Sublist s.ccu.alarms := List.eraseP_sublist
  exact h.withAlarms ⟨hsub.length_le.trans h.1.1, h.1.2.sublist (hsub.map _)⟩ rfl rfl rfl rfl

theorem createAlarm_stores {b : Bool} {c : AlarmCode} {x : Source} {s : State} (h : Stores s)
    (hlen : s.ccu.alarms.length < 32) (hfresh : ∀ e ∈ s.ccu.alarms, e.has c x = false) : Stores (createAlarm b c x s) := by
  have hkeyed := createAlarm_keyed (b := b) hlen h.1.2 hfresh
  unfold AlarmsKeyed at hkeyed
  rw [createAlarm_alarms] at hkeyed
  exact enteredActive_stores b c x (h.withAlarms hkeyed rfl rfl rfl rfl)

theorem raiseIntoFull_stores {b : Bool} {c : AlarmCode} {x : Source} {s : State} (h : Stores s)
    (hfresh : ∀ e ∈ s.ccu.alarms, e.has c x = false) : Stores (raiseIntoFull b c x s) := by
  obtain ⟨hlen, hnodup⟩ := h.1
  have evicted (p : AlarmEntry → Bool) (hp : s.ccu.alarms.any p = true) :
      Stores (createAlarm b c x { s with ccu := countEviction { s.ccu with alarms := removeOldest p s.ccu.alarms } }) := by
    obtain ⟨e, he, hpe⟩ := List.any_eq_true.mp hp
    have hpos := List.length_pos_of_mem he
    have hsub : (s.ccu.alarms.eraseP p).Sublist s.ccu.alarms := List.eraseP_sublist
    have hshort : (s.ccu.alarms.eraseP p).length < 32 := by
      rw [List.length_eraseP_of_mem he hpe]; omega
    exact createAlarm_stores (h.withAlarms ⟨hshort.le, hnodup.sublist (hsub.map _)⟩ rfl rfl rfl rfl) hshort
      fun a ha => hfresh a (hsub.subset ha)
  unfold raiseIntoFull
  split
  · next hany => exact evicted _ hany
  · split
    · next hany => exact evicted _ hany
    · exact h

theorem raiseWith_stores (b : Bool) (c : AlarmCode) (x : Source) {s : State} (h : Stores s) :
    Stores (raiseWith b c x s) := by
  unfold raiseWith
  split
  · next e _ =>
    cases e.state with
    | activeUnack | activeAck => exact updateAlarm_stores (fun _ => ⟨rfl, rfl⟩) h
    | clearedUnack => exact enteredActive_stores b c x (updateAlarm_stores (fun _ => ⟨rfl, rfl⟩) h)
  · next hnone =>
    have hfresh : ∀ e ∈ s.ccu.alarms, e.has c x = false := by
      simpa [findAlarm] using List.find?_eq_none.mp hnone
    split
    · next hlen => exact createAlarm_stores h hlen hfresh
    · exact raiseIntoFull_stores h hfresh

theorem raise_stores (c : AlarmCode) (x : Source) {s : State} (h : Stores s) : Stores (raise c x s) :=
  raiseWith_stores true c x h

theorem clearAlarm_stores (c : AlarmCode) (x : Source) {s : State} (h : Stores s) : Stores (clearAlarm c x s) :=
  h.withAlarms (clearAlarm_keyed c x h.1) (by simp) (by simp) (by simp) (by simp)

theorem acknowledge_stores (p : Port) (e : AlarmEntry) {s : State} (h : Stores s) : Stores (acknowledge p e s).2.2 := by
  unfold acknowledge
  split
  · have hack := updateAlarm_stores (c := e.code) (x := e.source)
      (f := fun x => { x with state := .activeAck, ackBy := some p, lastChange := s.cal }) (fun _ => ⟨rfl, rfl⟩) h
    dsimp only
    split
    · exact clearAlarm_stores e.code e.source hack
    · exact hack
  · exact h
  · exact removeAlarm_stores e.code e.source h

/-! ## The ceiling -/

theorem postContribution_stores (w : Contributor) (v : Nat) {s : State} (h : Stores s) :
    Stores (postContribution w v s) := by
  rcases postContribution_cases w v s with ⟨-, e⟩ | ⟨-, e⟩ <;> rw [e]
  · exact h
  · exact h

/-! ## Buffers -/

theorem releaseBuffer_stores (b : BufferId) {s : State} (h : Stores s) : Stores (releaseBuffer b s) := by
  rcases releaseBuffer_cases b s with e | ⟨-, e⟩ <;> rw [e] <;> exact h

theorem cancelBuffer_stores (b : BufferId) {s : State} (h : Stores s) : Stores (cancelBuffer b s) := by
  rcases cancelBuffer_cases b s with ⟨-, e⟩ | e <;> rw [e] <;> exact h

/-! ## The engine -/

/-- What a beginning request leaves alone. -/
theorem beginRequest_frame (r : AnalysisRequest) (s : State) :
    (beginRequest r s).ccu = s.ccu ∧ (beginRequest r s).plan = s.plan ∧ (beginRequest r s).records = s.records ∧
      (beginRequest r s).mon = s.mon := by
  unfold beginRequest noteBegun
  split <;> exact ⟨rfl, rfl, rfl, rfl⟩

/-- A selection serves the queue whatever the engine was, so the state before needs no served queue. -/
theorem select_stores {s t : State} (h : Stores t) (hccu : s.ccu = t.ccu) (hplan : s.plan = t.plan)
    (hrecords : s.records = t.records) (hmon : s.mon = t.mon) : Stores (select s) := by
  have hframe : (select s).ccu = s.ccu ∧ (select s).plan = s.plan ∧ (select s).records = s.records ∧
      (select s).mon = s.mon := by
    unfold select
    split
    · exact ⟨rfl, rfl, rfl, rfl⟩
    · split
      · exact ⟨rfl, rfl, rfl, rfl⟩
      · exact beginRequest_frame _ s
  obtain ⟨hc, hp, hr, hm⟩ := hframe
  exact h.withSpe (select_serves s) (hc.trans hccu) (hp.trans hplan) (hr.trans hrecords) (hm.trans hmon)

theorem submit_stores (source : Monitor) (tag : Nat) (b : BufferId) (mode : AnalysisMode) {s : State} (h : Stores s) :
    Stores (submit source tag b mode s).2 := by
  unfold submit
  split
  · exact h
  · exact select_stores h rfl rfl rfl rfl

theorem withdraw_stores (source : Monitor) (tag : Option Nat) {s : State} (h : Stores s) :
    Stores (withdraw source tag s).2 := by
  refine h.withSpe ?_ rfl rfl rfl rfl
  intro hidle
  have hqueue : s.spe.queue = [] := h.2.2.2 (Option.map_eq_none_iff.mp hidle)
  show s.spe.queue.filter _ = []
  rw [hqueue, List.filter_nil]

theorem finishRequest_stores (r : AnalysisRequest) {s : State} (h : Stores s) : Stores (finishRequest r s) :=
  select_stores h rfl rfl rfl rfl

end Sys2Proof.Machine
end

section
/-! The planner keeps the stores: tasks in order of id, rising days, and the service history (R162, R165, R173). -/

namespace Sys2Proof.Machine

/-- A new planner's section that keeps the tasks ordered, the days rising and the sizes; the rest of the state may change
outside the stores. -/
theorem Stores.withPlan {s t : State} (h : Stores s) (htasks : TasksOrdered t) (hdays : t.plan.days.length ≤ 31)
    (hhistory : t.plan.history.length ≤ 64) (hrise : (t.plan.days.map (·.day)).Pairwise (· < ·)) (hccu : t.ccu = s.ccu)
    (hrecords : t.records = s.records) (hmon : t.mon = s.mon) (hspe : t.spe = s.spe) : Stores t := by
  obtain ⟨halarms, -, ⟨hring, hscores, -, -, -, hlocks⟩, hserves⟩ := h
  unfold Stores AlarmsKeyed StoresBounded EngineServes
  rw [hccu, hrecords, hmon, hspe]
  exact ⟨halarms, htasks, ⟨hring, hscores, hdays, hhistory, hrise, hlocks⟩, hserves⟩

/-! ## The task table (R165) -/

theorem withTasks_stores {f : List Task → List Task} {s : State} (h : Stores s) (hlen : (f s.plan.tasks).length ≤ 32)
    (hrise : ((f s.plan.tasks).map (·.id)).Pairwise (· < ·)) : Stores (withTasks f s) :=
  have ⟨_, _, ⟨_, _, hdays, hhistory, hdaysRise, _⟩, _⟩ := h
  h.withPlan ⟨hlen, hrise⟩ hdays hhistory hdaysRise rfl rfl rfl rfl

/-- A change of every task that keeps its id. -/
theorem mapTasks_stores {f : Task → Task} {s : State} (hid : ∀ t, (f t).id = t.id) (h : Stores s) :
    Stores (withTasks (List.map f) s) := by
  have hids : (s.plan.tasks.map f).map (·.id) = s.plan.tasks.map (·.id) := by simp [hid]
  exact withTasks_stores h (by simpa using h.2.1.1) (hids ▸ h.2.1.2)

theorem putTask_stores (t : Task) {s : State} (h : Stores s) : Stores (putTask t s) :=
  mapTasks_stores (fun x => by by_cases hx : x.id = t.id <;> simp [hx]) h

theorem filterTasks_stores (p : Task → Bool) {s : State} (h : Stores s) : Stores (withTasks (List.filter p) s) := by
  have hsub : (s.plan.tasks.filter p).Sublist s.plan.tasks := List.filter_sublist
  exact withTasks_stores h (hsub.length_le.trans h.2.1.1) (h.2.1.2.sublist (hsub.map _))

theorem length_insertTask (t : Task) (l : List Task) : (insertTask t l).length = l.length + 1 := by
  induction l with
  | nil => rfl
  | cons x l ih => unfold insertTask; split <;> simp [ih]

theorem mem_insertTask {t y : Task} {l : List Task} (h : y ∈ insertTask t l) : y = t ∨ y ∈ l := by
  induction l with
  | nil => exact .inl (by simpa [insertTask] using h)
  | cons x l ih =>
    unfold insertTask at h
    split at h
    · simpa using h
    · rcases List.mem_cons.mp h with rfl | hy
      · exact .inr List.mem_cons_self
      · exact (ih hy).imp_right (List.mem_cons_of_mem x)

/-- A task of a new id goes to its place in the order (log entry 7). -/
theorem insertTask_rising {t : Task} {l : List Task} (hl : (l.map (·.id)).Pairwise (· < ·))
    (hnew : ∀ x ∈ l, x.id ≠ t.id) : ((insertTask t l).map (·.id)).Pairwise (· < ·) := by
  induction l with
  | nil => simp [insertTask]
  | cons x l ih =>
    rw [List.map_cons, List.pairwise_cons] at hl
    obtain ⟨hx, hrest⟩ := hl
    have hlater (y : Task) (hy : y ∈ l) : x.id < y.id := hx _ (List.mem_map_of_mem hy)
    unfold insertTask
    split
    · next hlt =>
      simp only [List.map_cons, List.pairwise_cons, List.mem_cons, List.mem_map, forall_eq_or_imp]
      exact ⟨⟨hlt, by rintro _ ⟨y, hy, rfl⟩; exact hlt.trans (hlater y hy)⟩, by simpa using hlater, hrest⟩
    · next hge =>
      rw [List.map_cons, List.pairwise_cons]
      refine ⟨fun i hi => ?_, ih hrest fun y hy => hnew y (List.mem_cons_of_mem x hy)⟩
      obtain ⟨y, hy, rfl⟩ := List.mem_map.mp hi
      rcases mem_insertTask hy with rfl | hy
      · exact lt_of_le_of_ne (not_lt.mp hge) (hnew x List.mem_cons_self)
      · exact hlater y hy

theorem insertTask_stores {t : Task} {s : State} (h : Stores s) (hroom : s.plan.tasks.length < 32)
    (hnew : ∀ x ∈ s.plan.tasks, x.id ≠ t.id) : Stores (withTasks (insertTask t) s) :=
  withTasks_stores h (by rw [length_insertTask]; exact hroom) (insertTask_rising h.2.1.2 hnew)

/-! ## The recompute (R168, R169) -/

theorem taskAlarms_stores (id : Nat) (old new : TaskState) {s : State} (h : Stores s) :
    Stores (taskAlarms id old new s) := by
  unfold taskAlarms
  split
  · exact raise_stores _ _ h
  · exact raise_stores _ _ h
  · exact raise_stores _ _ (clearAlarm_stores _ _ h)
  · exact raise_stores _ _ (clearAlarm_stores _ _ h)
  · exact clearAlarm_stores _ _ h
  · exact clearAlarm_stores _ _ h
  · exact h
  · exact h
  · exact h

theorem postPlanner_stores {s : State} (h : Stores s) : Stores (postPlanner s) := by
  unfold postPlanner
  split
  · exact h
  · exact postContribution_stores _ _ h

theorem recompute_stores {s : State} (h : Stores s) : Stores (recompute s) := by
  unfold recompute
  split
  · exact h
  · next day _ =>
    have hfold : Stores (s.plan.tasks.foldl (recomputeOne day) (s, false)).1 :=
      List.foldlRecOn (motive := fun acc : State × Bool => Stores acc.1) s.plan.tasks (recomputeOne day) h
        fun acc hacc t _ => taskAlarms_stores _ _ _ (putTask_stores _ hacc)
    refine postPlanner_stores ?_
    split
    · exact setNotice_stores _ hfold
    · exact hfold

theorem reachTarget_id (day : Nat) (t : Task) (s : State) : (reachTarget day t s).id = t.id := by
  unfold reachTarget; split <;> rfl

theorem recomputeQuietly_stores {s : State} (h : Stores s) : Stores (recomputeQuietly s) := by
  unfold recomputeQuietly
  split
  · exact h
  · exact mapTasks_stores (fun t => reachTarget_id _ t s) h

/-! ## Condition tasks (R170) -/

theorem dropWaiting_stores (c : Fin 16) {s : State} (h : Stores s) : Stores (dropWaiting c s) := by
  unfold dropWaiting
  dsimp only
  split
  · split
    · exact h
    · exact clearAlarm_stores _ _ h
  · exact h

theorem freeId_fresh {s : State} {id : Nat} (hid : freeId s = some id) : ∀ x ∈ s.plan.tasks, x.id ≠ id := by
  have hall := List.find?_some hid
  simpa using hall

theorem treatCondition_stores (loud : Bool) (c : Fin 16) {s : State} (h : Stores s) : Stores (treatCondition loud c s) := by
  unfold treatCondition
  split
  · exact h
  split
  · exact h
  split
  · next hroom =>
    split
    · exact h
    · next id hid =>
      have hcreated (day days : Nat) : Stores (dropWaiting c (withTasks (insertTask (conditionTask c id day days)) s)) :=
        dropWaiting_stores c (insertTask_stores h hroom (freeId_fresh hid))
      dsimp only
      split
      · exact recompute_stores (setNotice_stores _ (hcreated _ _))
      · exact hcreated _ _
  · dsimp only
    split
    · exact raise_stores _ _ h
    · exact h

theorem serveWaiting_stores {s : State} (h : Stores s) : Stores (serveWaiting s) := by
  refine List.foldlRecOn (motive := Stores) _ _ h fun t ht c _ => ?_
  split
  · exact treatCondition_stores true c ht
  · exact ht

theorem removeTaskEntry_stores (id : Nat) {s : State} (h : Stores s) : Stores (removeTaskEntry id s) := by
  have hremoved := filterTasks_stores (fun t => t.id ≠ id) h
  unfold removeTaskEntry
  dsimp only
  split
  · exact serveWaiting_stores hremoved
  · exact hremoved

theorem treatFullDuration_stores (loud : Bool) (c : Fin 16) {s : State} (h : Stores s) :
    Stores (treatFullDuration loud s c) := by
  unfold treatFullDuration
  split
  · exact treatCondition_stores loud c h
  · exact h

theorem treatFullDurations_stores (loud : Bool) {s : State} (h : Stores s) : Stores (treatFullDurations loud s) :=
  List.foldlRecOn (motive := Stores) _ _ h fun _ ht c _ => treatFullDuration_stores loud c ht

/-! ## Grades (R157) -/

theorem gradeChanged_stores (c : Fin 16) (old new : Nat) {s : State} (h : Stores s) :
    Stores (gradeChanged c old new s) := by
  unfold gradeChanged
  dsimp only
  split
  · exact dropWaiting_stores c h
  · exact h

theorem regrade_stores {f : State → State} {s : State} (h : Stores (f s)) : Stores (regrade f s) := by
  refine List.foldlRecOn (motive := Stores) _ _ h fun t ht c _ => ?_
  dsimp only
  split
  · exact ht
  · exact gradeChanged_stores c _ _ ht

theorem postGrades_stores (f : HeldGrades → HeldGrades) {s : State} (h : Stores s) : Stores (postGrades f s) :=
  regrade_stores h

theorem settleStartGrades_stores {s : State} (h : Stores s) : Stores (settleStartGrades s) := by
  refine List.foldlRecOn (motive := Stores) _ _ h fun t ht c _ => ?_
  split
  · exact ht
  · exact ht

/-! ## The accounting interval (R158, R160) -/

theorem creditInterval_stores (dated : Bool) {s : State} (h : Stores s) : Stores (creditInterval dated s) := by
  refine h.same ?_
  unfold creditInterval creditDay storeParts
  cases dated
  · rfl
  · rfl

theorem newInterval_stores {s : State} (h : Stores s) : Stores (newInterval s) := h.same rfl

theorem endInterval_stores {s : State} (h : Stores s) : Stores (endInterval s) :=
  recompute_stores (newInterval_stores (creditInterval_stores s.cal.isSome h))

theorem temperatureEvent_stores (t : Temp) {s : State} (h : Stores s) : Stores (temperatureEvent t s) := by
  unfold temperatureEvent
  split
  · exact h
  · exact h
  · exact h.same (by simp only [storeParts])

theorem producingSecond_stores {s : State} (h : Stores s) : Stores (producingSecond s) := by
  unfold producingSecond
  split
  · exact h
  · exact h

theorem growDuration_stores (c : Fin 16) {s : State} (h : Stores s) : Stores (growDuration s c) := by
  unfold growDuration
  dsimp only
  split
  · split
    · exact treatCondition_stores true c h
    · exact h
  · exact h

/-! ## Days (R162, R163, R154) -/

/-- Rising days with a later one behind them rise. -/
theorem append_rising {l : List DaySummary} {day : Nat} {r : DayRecord} (hl : (l.map (·.day)).Pairwise (· < ·))
    (hlater : ∀ x ∈ l.getLast?, x.day < day) : ((l ++ [({ day := day, record := r } : DaySummary)]).map (·.day)).Pairwise (· < ·) := by
  rw [List.map_append, List.pairwise_append]
  refine ⟨hl, by simp, fun d hd e he => ?_⟩
  obtain rfl : e = day := by simpa using he
  obtain ⟨x, hx, rfl⟩ := List.mem_map.mp hd
  obtain ⟨m, y, rfl⟩ := List.eq_nil_or_concat l |>.resolve_left (List.ne_nil_of_mem hx)
  have hy : y.day < e := hlater y (by simp)
  rw [List.concat_eq_append] at hl hx
  rcases List.mem_append.mp hx with hx | hx
  · rw [List.map_append, List.pairwise_append] at hl
    exact (hl.2.2 _ (List.mem_map_of_mem hx) _ (by simp)).trans hy
  · rwa [List.mem_singleton.mp hx]

/-- A closed day joins the ring only where it is later than every stored one (R162). -/
theorem closeDay_stores (day : Nat) {s : State} (h : Stores s) : Stores (closeDay day s) := by
  have ⟨_, htasks, ⟨_, _, hdays, hhistory, hrise, _⟩, _⟩ := h
  rcases closeDay_cases day s with ⟨hlater, e⟩ | ⟨-, e⟩ <;> rw [e]
  · have hgrown := append_rising (r := s.plan.openDay.record) hrise hlater
    refine h.withPlan htasks ?_ hhistory ?_ rfl rfl rfl rfl
    · dsimp only
      split <;> simp at * <;> omega
    · dsimp only
      split
      · exact hgrown.sublist ((List.drop_sublist ..).map _)
      · exact hgrown
  · exact h

theorem openNewDay_stores (day : Nat) {s : State} (h : Stores s) : Stores (openNewDay day s) := h.same rfl

theorem dayRollover_stores (day : Nat) {s : State} (h : Stores s) : Stores (dayRollover day s) :=
  recompute_stores (openNewDay_stores _ (setNotice_stores .dayClosed (closeDay_stores day h)))

theorem foldTally_stores {s : State} (h : Stores s) : Stores (foldTally s) :=
  h.same (by unfold foldTally storeParts; rfl)

theorem bringDays_stores (new : Nat) {s : State} (h : Stores s) : Stores (bringDays new s) := by
  unfold bringDays
  split
  · exact h
  split
  · exact openNewDay_stores _ (setNotice_stores .dayClosed (closeDay_stores _ h))
  split
  · obtain ⟨-, htasks, ⟨-, -, hdays, hhistory, hrise, -⟩, -⟩ := id h
    have hsub : (s.plan.days.filter (·.day < new)).Sublist s.plan.days := List.filter_sublist
    exact h.withPlan htasks (hsub.length_le.trans hdays) hhistory (hrise.sublist (hsub.map _)) rfl rfl rfl rfl
  · exact h

theorem pruneTarget_id (new : Nat) (t : Task) : (pruneTarget new t).id = t.id := by
  unfold pruneTarget
  split
  · split <;> rfl
  · rfl

theorem setCalendar_stores (t : Timestamp) {s : State} (h : Stores s) : Stores (setCalendar t s) := by
  have hbrought : Stores (bringDays t.day (creditInterval s.cal.isSome { s with cal := some t })) :=
    bringDays_stores _ (creditInterval_stores _ h)
  unfold setCalendar
  dsimp only
  refine treatFullDurations_stores true (recompute_stores (mapTasks_stores (pruneTarget_id t.day) (newInterval_stores ?_)))
  split
  · exact hbrought
  · exact foldTally_stores hbrought

/-! ## The planner's requests -/

theorem mplPresenceEnd_stores {s : State} (h : Stores s) : Stores (mplPresenceEnd s).1 := by
  unfold mplPresenceEnd
  split
  · exact h
  · exact h

theorem findTask_none {id : Nat} {s : State} (hf : findTask id s = none) : ∀ x ∈ s.plan.tasks, x.id ≠ id := by
  simpa [findTask] using List.find?_eq_none.mp hf

theorem mplPlanTask_stores (f : TaskFields) {s : State} (h : Stores s) : Stores (mplPlanTask f s).1 := by
  unfold mplPlanTask
  split
  · exact h
  split
  · exact h
  split
  · exact h
  split
  · split
    · exact h
    · exact recompute_stores (setNotice_stores _ (putTask_stores _ h))
  · next hfresh =>
    split
    · next hroom => exact recompute_stores (setNotice_stores _ (insertTask_stores (t := plannedTask f _) h hroom (findTask_none hfresh)))
    · exact h

theorem clearTaskAlarms_stores (id : Nat) {s : State} (h : Stores s) : Stores (clearTaskAlarms id s) :=
  clearAlarm_stores _ _ (clearAlarm_stores _ _ h)

theorem restartDuration_stores (t : Task) {s : State} (h : Stores s) : Stores (restartDuration t s) := by
  unfold restartDuration
  split
  · exact h
  · exact h

theorem mplRemoveTask_stores (id : Nat) {s : State} (h : Stores s) : Stores (mplRemoveTask id s).1 := by
  unfold mplRemoveTask
  split
  · exact h
  split
  · exact h
  · next t _ =>
    have hcleared : Stores (clearTaskAlarms id (restartDuration t s)) :=
      clearTaskAlarms_stores id (restartDuration_stores t h)
    exact postPlanner_stores (removeTaskEntry_stores id (setNotice_stores _ hcleared))

theorem mplDeferTask_stores (id days : Nat) {s : State} (h : Stores s) : Stores (mplDeferTask id days s).1 := by
  unfold mplDeferTask
  split
  · exact h
  split
  · exact h
  split
  · exact h
  split
  · exact h
  split
  · exact h
  · exact recompute_stores (putTask_stores _ h)

theorem length_addHistory_le (e : HistoryEntry) {l : List HistoryEntry} : (addHistory e l).length ≤ 64 := by
  unfold addHistory
  split <;> simp <;> omega

theorem replaceComponent_stores (c : Fin 16) (day : Nat) {s : State} (h : Stores s) :
    Stores (replaceComponent c day s) := by
  refine mapTasks_stores (fun t => ?_) (h.same rfl)
  split <;> rfl

theorem closeEntry_stores (id : Nat) (outcome : CloseOutcome) (day : Nat) {s : State} (h : Stores s) :
    Stores (closeEntry id outcome day s) := by
  unfold closeEntry
  split
  · exact h
  split
  · exact removeTaskEntry_stores id (restartDuration_stores _ h)
  · exact putTask_stores _ h

theorem mplCloseTask_stores (id : Nat) (outcome : CloseOutcome) {s : State} (h : Stores s) :
    Stores (mplCloseTask id outcome s).1 := by
  unfold mplCloseTask
  split
  · exact h
  split
  · exact h
  split
  · exact h
  · dsimp only
    refine recompute_stores (setNotice_stores _ (clearTaskAlarms_stores id (closeEntry_stores id outcome _ ?_)))
    have ⟨_, htasks, ⟨_, _, hdays, _, hrise, _⟩, _⟩ := h
    have hentered (e : HistoryEntry) :
        Stores { s with plan := { s.plan with history := addHistory e s.plan.history } } :=
      h.withPlan htasks hdays (length_addHistory_le e) hrise rfl rfl rfl rfl
    split
    · exact replaceComponent_stores _ _ (hentered _)
    · exact hentered _

theorem applyComponent_stores (c : Fin 16) (new : ComponentConfig) {s : State} (h : Stores s) :
    Stores (applyComponent c new s) :=
  have hconfig : Stores { s with plan := { s.plan with config := s.plan.config.set c new } } := h.same rfl
  have hgraded : Stores (regrade (fun s => { s with plan := { s.plan with config := s.plan.config.set c new } }) s) :=
    regrade_stores hconfig
  hgraded.same rfl

theorem mplWriteComponent_stores (index : Nat) (new : ComponentConfig) {s : State} (h : Stores s) :
    Stores (mplWriteComponent index new s).1 := by
  unfold mplWriteComponent
  split
  · split
    · exact recompute_stores (applyComponent_stores _ new h)
    · exact h
  · exact h

/-! ## The start (R176) -/

theorem startDay_stores {s : State} (h : Stores s) : Stores (startDay s) := by
  unfold startDay
  split
  · exact h
  split
  · exact h
  split
  · exact openNewDay_stores _ (closeDay_stores _ h)
  · exact h

theorem mplStart_stores {f : State → State} (hf : f ∈ mplStart) {s : State} (h : Stores s) : Stores (f s) := by
  simp only [mplStart, List.mem_append, List.mem_cons, List.mem_map, List.not_mem_nil, or_false] at hf
  rcases hf with ((rfl | rfl) | ⟨c, -, rfl⟩) | rfl | rfl
  · exact settleStartGrades_stores h
  · exact startDay_stores h
  · exact treatFullDuration_stores false c h
  · exact recomputeQuietly_stores h
  · exact h

end Sys2Proof.Machine
end

section
/-! The icing monitor keeps the stores: its score ring holds at most ten scores (R115). -/

namespace Sys2Proof.Machine

/-- An update of the icing state that leaves at most ten scores. -/
theorem withIcing_stores {f : IcingRetained → IcingRetained} {s : State} (h : Stores s)
    (hring : (f s.mon.icing).ring.length ≤ 10) : Stores (withIcing f s) :=
  have ⟨halarms, htasks, ⟨hrecords, _, hdays, hhistory, hrise, hlocks⟩, hserves⟩ := h
  ⟨halarms, htasks, ⟨hrecords, hring, hdays, hhistory, hrise, hlocks⟩, hserves⟩

theorem Stores.scores {s : State} (h : Stores s) : s.mon.icing.ring.length ≤ 10 := h.2.2.1.2.1

/-! ## The contribution, the override and the threshold sets (R119 to R121, R128 to R130) -/

theorem postIcing_stores {s : State} (h : Stores s) : Stores (postIcing s) := by
  unfold postIcing
  split
  · exact h
  · exact postContribution_stores _ _ h

theorem setOverride_stores (o : Option Nat) {s : State} (h : Stores s) : Stores (setOverride o s) :=
  postIcing_stores (h.same rfl)

theorem endOverride_stores {s : State} (h : Stores s) : Stores (endOverride s) := by
  unfold endOverride
  split
  · exact h
  · exact setOverride_stores none h

theorem reloadProfile_stores (x : Heater) {s : State} (h : Stores s) : Stores (reloadProfile x s) :=
  postIcing_stores (withIcing_stores h h.scores)

theorem bimHeater_stores (x : Heater) {s : State} (h : Stores s) : Stores (bimHeater x s) := by
  unfold bimHeater
  split
  · exact reloadProfile_stores x h
  · exact h

theorem clearPin_stores {s : State} (h : Stores s) : Stores (clearPin s) :=
  reloadProfile_stores _ (withIcing_stores h h.scores)

theorem bimParked_stores {s : State} (h : Stores s) : Stores (bimParked s) := by
  unfold bimParked
  split
  · exact clearPin_stores h
  · exact h

theorem bimPin_stores (t : ThresholdSet) {s : State} (h : Stores s) : Stores (bimPin t s).1 := by
  unfold bimPin
  split
  · exact postIcing_stores (withIcing_stores h h.scores)
  · exact h

theorem bimUnpin_stores {s : State} (h : Stores s) : Stores (bimUnpin s).1 := by
  unfold bimUnpin
  split
  · exact clearPin_stores h
  · exact h

theorem bimWriteProfile_stores (x : Heater) (t : ThresholdSet) {s : State} (h : Stores s) :
    Stores (bimWriteProfile x t s).1 := by
  have hwritten : Stores (withBimConfig (BimConfig.withProfile x t) s) := h.same rfl
  unfold bimWriteProfile
  split
  · dsimp only
    split
    · exact reloadProfile_stores x hwritten
    · exact hwritten
  · exact h

/-! ## The transitions (R123 to R127) -/

theorem icingAlarms_stores (old new : IcingState) {s : State} (h : Stores s) : Stores (icingAlarms old new s) := by
  unfold icingAlarms
  split
  · exact raise_stores _ _ h
  · exact clearAlarm_stores _ _ h
  · exact raise_stores _ _ (clearAlarm_stores _ _ h)
  · exact clearAlarm_stores _ _ h
  · exact h

theorem postIcingGrade_stores (old new : IcingState) {s : State} (h : Stores s) : Stores (postIcingGrade old new s) := by
  unfold postIcingGrade
  split
  · exact h
  · exact postGrades_stores _ h

theorem icingTransition_stores (old new : IcingState) {s : State} (h : Stores s) :
    Stores (icingTransition old new s) := by
  have hentered : Stores (withIcing (IcingRetained.enter new) s) :=
    withIcing_stores h (by rw [enter_ring]; exact h.scores)
  have hposted : Stores (postIcingGrade old new (icingAlarms old new (withIcing (IcingRetained.enter new) s))) :=
    postIcingGrade_stores old new (icingAlarms_stores old new hentered)
  unfold icingTransition
  dsimp only
  split
  · exact setNotice_stores _ (postIcing_stores (hposted.same rfl))
  · exact setNotice_stores _ (postIcing_stores hposted)

theorem applyRule_stores (v : StepView) {s : State} (h : Stores s) : Stores (applyRule v s).2 := by
  have hcounted : Stores (withIcing (fun _ => (icingRule v s.mon.icing).1) s) :=
    withIcing_stores h (by rw [icingRule_ring]; exact h.scores)
  unfold applyRule
  dsimp only
  split
  · exact hcounted
  · exact icingTransition_stores _ _ hcounted

/-! ## Peak captures (R116, R117) -/

theorem requestPeak_stores {s : State} (h : Stores s) : Stores (requestPeak s) := by
  unfold requestPeak
  split
  · exact h.same rfl
  · exact h.same rfl

theorem submitPeak_stores (step : Nat) {s : State} (h : Stores s) : Stores (submitPeak step s) := by
  unfold submitPeak
  dsimp only
  have hsubmitted := submit_stores .bim step .bimA
    (.peak 65536 16 s.cfg.bim.searchLo s.cfg.bim.searchHi s.cfg.bim.powerFloor) h
  generalize submit .bim step .bimA _ s = r at hsubmitted ⊢
  obtain ⟨_ | _, s1⟩ := r
  · have hreleased : Stores (releaseBuffer .bimA s1) := releaseBuffer_stores _ hsubmitted
    exact reportDay_stores _ (hreleased.same rfl)
  · exact hsubmitted

theorem bimCompletion_stores {s : State} (h : Stores s) : Stores (bimCompletion s) := by
  unfold bimCompletion
  split
  · exact releaseBuffer_stores _ h
  · exact submitPeak_stores _ h

theorem bimAbort_stores (converter : Bool) {s : State} (h : Stores s) : Stores (bimAbort converter s) := h.same rfl

theorem bimResult_stores (r : AnalysisRequest) (p : PeakResult) {s : State} (h : Stores s) :
    Stores (bimResult r p s) := by
  unfold bimResult
  split
  · exact h.same rfl
  · exact h.same rfl

theorem bimRemoval_stores (r : AnalysisRequest) {s : State} (h : Stores s) : Stores (bimRemoval s r) := by
  have hreleased := releaseBuffer_stores r.buffer h
  unfold bimRemoval
  dsimp only
  split
  · exact hreleased.same rfl
  · exact hreleased

/-! ## The step (R112) -/

theorem length_ringWith_le (score : Nat) (l : List Nat) : (ringWith score l).length ≤ 10 := by
  unfold ringWith
  split <;> simp <;> omega

theorem enterScore_stores (terms : Option ScoreTerms) {s : State} (h : Stores s) : Stores (enterScore terms s) := by
  unfold enterScore
  split
  · exact h
  · exact withIcing_stores h (length_ringWith_le _ _)

theorem takeStep_stores {s : State} (h : Stores s) : Stores (takeStep s) := by
  have hopened : Stores (openStep (stepStop s) s) := h.same rfl
  unfold takeStep
  dsimp only
  refine Stores.same (reportDay_stores _ ?_) rfl
  split
  · exact requestPeak_stores (applyRule_stores _ (enterScore_stores _ hopened))
  · exact applyRule_stores _ (enterScore_stores _ hopened)

theorem bimStepExpiry_stores {s : State} (h : Stores s) : Stores (bimStepExpiry s) := by
  rcases bimStepExpiry_cases s with ⟨-, e⟩ | ⟨-, e⟩ <;> rw [e]
  · exact takeStep_stores h
  · exact h

theorem overrideExpiry_stores {s : State} (h : Stores s) : Stores (overrideExpiry s) := by
  rcases overrideExpiry_cases s with ⟨-, e⟩ | ⟨-, e⟩ <;> rw [e]
  · exact endOverride_stores h
  · exact h

/-! ## Requests -/

theorem bimOverrideBegin_stores (minutes : Nat) {s : State} (h : Stores s) : Stores (bimOverrideBegin minutes s).1 := by
  unfold bimOverrideBegin
  split
  · exact h
  split
  · exact h
  split
  · exact h
  · exact setOverride_stores _ h

theorem bimOverrideEnd_stores {s : State} (h : Stores s) : Stores (bimOverrideEnd s).1 := by
  unfold bimOverrideEnd
  split
  · exact endOverride_stores h
  · exact h

theorem disableBim_stores {s : State} (h : Stores s) : Stores (disableBim s) := by
  have hremoved : Stores ((withdraw .bim none s).1.foldl bimRemoval (withdraw .bim none s).2) :=
    List.foldlRecOn (motive := Stores) _ _ (withdraw_stores .bim none h) fun _ ht r _ => bimRemoval_stores r ht
  exact Stores.same (cancelBuffer_stores .bimA hremoved) rfl

theorem bimWriteEnable_stores (v : Bool) {s : State} (h : Stores s) : Stores (bimWriteEnable v s).1 := by
  unfold bimWriteEnable
  split
  · exact h
  split
  · exact h.same rfl
  · exact disableBim_stores h

theorem bimWritePeakItem_stores (item : BimPeakItem) {s : State} (h : Stores s) : Stores (bimWritePeakItem item s).1 := by
  unfold bimWritePeakItem
  split
  · exact h.same rfl
  · exact h

theorem bimWriteCurve_stores (rows : Vector Nat 40) {s : State} (h : Stores s) : Stores (bimWriteCurve rows s).1 := by
  unfold bimWriteCurve
  split
  · exact h.same rfl
  · exact h

end Sys2Proof.Machine
end

section
/-! The grid monitor keeps the stores: its compliance ring holds at most 144 records (R102). -/

namespace Sys2Proof.Machine

/-! ## Updates and posts -/

theorem withGhm_stores (f : GhmState → GhmState) {s : State} (h : Stores s) : Stores (withGhm f s) := h.same rfl

theorem countGhm_stores (f : GhmCounters → GhmCounters) {s : State} (h : Stores s) : Stores (countGhm f s) :=
  withGhm_stores _ h

theorem withGhmConfig_stores (f : GhmConfig → GhmConfig) {s : State} (h : Stores s) : Stores (withGhmConfig f s) :=
  h.same rfl

theorem withEntry_stores (n : Nat) (f : WindowEntry → WindowEntry) {s : State} (h : Stores s) :
    Stores (withEntry n f s) := withGhm_stores _ h

theorem pruneEntries_stores {s : State} (h : Stores s) : Stores (pruneEntries s) := withGhm_stores _ h

theorem postGrid_stores {s : State} (h : Stores s) : Stores (postGrid s) := by
  unfold postGrid
  split
  · exact h
  · exact postContribution_stores _ _ h

theorem currentAlarms_stores (old new : Nat) {s : State} (h : Stores s) : Stores (currentAlarms old new s) := by
  unfold currentAlarms
  dsimp only
  split
  · exact h
  have hcleared : Stores (if old = 1 then clearAlarm .gridCurrentAlert .ghm s
      else if old = 2 then clearAlarm .gridCurrentAlarm .ghm s else s) := by
    split
    · exact clearAlarm_stores _ _ h
    split
    · exact clearAlarm_stores _ _ h
    · exact h
  split
  · exact raise_stores _ _ hcleared
  split
  · exact raise_stores _ _ hcleared
  · exact hcleared

/-! ## Blocks and settlements (R97, R98) -/

theorem completeBlock_stores {s : State} (h : Stores s) : Stores (completeBlock s) := by
  unfold completeBlock
  dsimp only
  split
  · exact countGhm_stores _ (withGhm_stores _ h)
  · exact withGhm_stores _ h

theorem addSlot_stores {s : State} (h : Stores s) : Stores (addSlot s) := by
  unfold addSlot
  dsimp only
  split
  · exact completeBlock_stores (withGhm_stores _ h)
  · exact withGhm_stores _ h

theorem addDisturbedWindow_stores {s : State} (h : Stores s) : Stores (addDisturbedWindow s) :=
  reportDay_stores _ (withGhm_stores _ h)

theorem reportOutcome_stores (o : WindowOutcome) {s : State} (h : Stores s) : Stores (reportOutcome o s) := by
  unfold reportOutcome
  split
  · exact reportDay_stores _ h
  · exact h

theorem settleWindow_stores (n : Nat) (o : WindowOutcome) {s : State} (h : Stores s) : Stores (settleWindow n o s) :=
  addSlot_stores (reportOutcome_stores o (countGhm_stores _ (pruneEntries_stores (withEntry_stores n _ h))))

/-! ## Windows (R90 to R94) -/

theorem submitWindow_stores (n : Nat) (b : BufferId) (closing : PulseResult) (stored : Nat) {s : State} (h : Stores s) :
    Stores (submitWindow n b closing stored s) := by
  have hsubmitted := submit_stores .ghm n b (.harmonics closing.n closing.t stored) h
  unfold submitWindow
  generalize submit .ghm n b (.harmonics closing.n closing.t stored) s = r at hsubmitted ⊢
  obtain ⟨_ | _, s1⟩ := r
  · exact settleWindow_stores n _ (releaseBuffer_stores b hsubmitted)
  · exact withEntry_stores n _ hsubmitted

theorem judgeWindow_stores (n : Nat) (b : BufferId) (r : CaptureRecord) {s : State} (h : Stores s) :
    Stores (judgeWindow n b r s) := by
  unfold judgeWindow
  split
  · split
    · exact settleWindow_stores n _ (releaseBuffer_stores b h)
    · exact submitWindow_stores n b _ _ h
  · exact settleWindow_stores n _ (releaseBuffer_stores b h)

theorem ghmCompletion_stores (b : BufferId) (r : CaptureRecord) {s : State} (h : Stores s) :
    Stores (ghmCompletion b r s) := by
  unfold ghmCompletion
  split
  · exact releaseBuffer_stores b h
  · exact judgeWindow_stores _ b r h

theorem ghmAbort_stores (b : BufferId) {s : State} (h : Stores s) : Stores (ghmAbort b s) := by
  unfold ghmAbort
  split
  · exact h
  · exact settleWindow_stores _ _ h

theorem addEntry_stores (e : WindowEntry) {s : State} (h : Stores s) : Stores (addEntry e s) :=
  countGhm_stores _ (withGhm_stores _ h)

theorem setBuffer_stores (b : BufferId) (x : Buffer) {s : State} (h : Stores s) : Stores (setBuffer b x s) := h.same rfl

theorem openWindow_stores {s : State} (h : Stores s) : Stores (openWindow s) := by
  unfold openWindow
  split
  · exact setBuffer_stores _ _ (addEntry_stores _ h)
  · exact addEntry_stores _ h

theorem endCapture_stores (n : Nat) (b : BufferId) (segments : List (List GridInstant)) {s : State} (h : Stores s) :
    Stores (endCapture n b segments s) := by
  unfold endCapture
  split
  · exact judgeWindow_stores n b _ (setBuffer_stores b _ h)
  · exact h
  · exact h
  · exact h

theorem afterEnd_stores (e : WindowEntry) (segments : List (List GridInstant)) {s : State} (h : Stores s) :
    Stores (afterEnd e segments s) := by
  unfold afterEnd
  split
  · exact pruneEntries_stores h
  · exact endCapture_stores _ _ segments h
  · exact settleWindow_stores _ _ h
  · exact h

theorem endWindow_stores (closing : PulseResult) (segments : List (List GridInstant)) {s : State} (h : Stores s) :
    Stores (endWindow closing segments s) := by
  unfold endWindow
  split
  · exact h
  · exact afterEnd_stores _ segments (withEntry_stores _ _ h)

theorem ghmValid_stores (closing : PulseResult) (segments : List (List GridInstant)) {s : State} (h : Stores s) :
    Stores (ghmValid closing segments s) := by
  unfold ghmValid
  split
  · exact h
  · exact openWindow_stores h
  · exact openWindow_stores (endWindow_stores closing segments h)

theorem abandonWindow_stores {s : State} (h : Stores s) : Stores (abandonWindow s) := by
  unfold abandonWindow
  split
  · exact h
  · next e _ =>
    have hcancelled : Stores (match e.buffer with
        | none => s
        | some b => cancelBuffer b s) := by
      split
      · exact h
      · exact cancelBuffer_stores _ h
    dsimp only
    split
    · exact pruneEntries_stores (withEntry_stores _ _ hcancelled)
    · exact settleWindow_stores _ _ (withEntry_stores _ _ hcancelled)

theorem ghmStalled_stores {s : State} (h : Stores s) : Stores (ghmStalled s) := by
  have hstalled : Stores (withGhm (fun g => { g with window := .searching })
      (countGhm (fun c => { c with stalls := inc16 c.stalls })
        (withGhm GhmState.disturb (addDisturbedWindow (abandonWindow s))))) :=
    withGhm_stores _ (countGhm_stores _ (withGhm_stores _ (addDisturbedWindow_stores (abandonWindow_stores h))))
  unfold ghmStalled
  split
  · exact h
  · exact hstalled
  · exact hstalled

/-! ## The evaluation of a window (R95 to R97) -/

theorem evaluateWindow_stores (number freq : Nat) (mags : List (List Nat)) {s : State} (h : Stores s) :
    Stores (evaluateWindow number freq mags s) := by
  have hclassed (v : PerPhase Nat) : Stores (countNoFundamental v (withGhm (GhmState.classed (classOf v)) s)) := by
    unfold countNoFundamental
    split
    · exact countGhm_stores _ (withGhm_stores _ h)
    · exact withGhm_stores _ h
  unfold evaluateWindow
  dsimp only
  split
  · exact settleWindow_stores _ _ (addDisturbedWindow_stores (withGhm_stores _ (hclassed _)))
  · exact settleWindow_stores _ _ (withGhm_stores _ (hclassed _))

theorem ghmResult_stores (r : AnalysisRequest) (mags : List (List Nat)) {s : State} (h : Stores s) :
    Stores (ghmResult r mags s) := by
  unfold ghmResult
  split
  · exact countGhm_stores _ h
  · exact evaluateWindow_stores _ _ mags h

theorem ghmRemoval_stores (r : AnalysisRequest) {s : State} (h : Stores s) : Stores (ghmRemoval s r) := by
  unfold ghmRemoval
  dsimp only
  split
  · exact releaseBuffer_stores _ h
  · exact settleWindow_stores _ _ (releaseBuffer_stores _ h)

/-! ## Compliance records (R101 to R104) -/

/-- A new compliance ring of at most 144 records. -/
theorem withRing_stores {l : List ComplianceRecord} {s : State} (h : Stores s) (hlen : l.length ≤ 144) :
    Stores { s with records := { s.records with ring := l } } :=
  have ⟨halarms, htasks, ⟨_, hscores, hdays, hhistory, hrise, hlocks⟩, hserves⟩ := h
  ⟨halarms, htasks, ⟨hlen, hscores, hdays, hhistory, hrise, hlocks⟩, hserves⟩

theorem Stores.ring {s : State} (h : Stores s) : s.records.ring.length ≤ 144 := h.2.2.1.1

theorem length_ringAppend_le (r : ComplianceRecord) {l : List ComplianceRecord} (hl : l.length ≤ 144) :
    (ringAppend r l).length ≤ 144 := by
  unfold ringAppend
  split <;> simp_all; omega

theorem offerRecord_stores (r : ComplianceRecord) {s : State} (h : Stores s) : Stores (offerRecord r s) := by
  unfold offerRecord
  split
  · exact setNotice_stores _ (withRing_stores h (length_ringAppend_le r h.ring))
  · exact countGhm_stores _ h

theorem voltageAlarm_stores (r : ComplianceRecord) {s : State} (h : Stores s) : Stores (voltageAlarm r s) := by
  unfold voltageAlarm
  split
  · exact h
  split
  · exact clearAlarm_stores _ _ h
  · exact raise_stores _ _ h

theorem currentGradeChange_stores (old new : Nat) {s : State} (h : Stores s) : Stores (currentGradeChange old new s) := by
  unfold currentGradeChange
  split
  · exact h
  · exact postGrid_stores (postGrades_stores _ (currentAlarms_stores old new h))

theorem gradeCurrent_stores (r : ComplianceRecord) {s : State} (h : Stores s) : Stores (gradeCurrent r s) := by
  unfold gradeCurrent
  split
  · exact currentGradeChange_stores _ _ (h.same rfl)
  · exact h

theorem reportRecord_stores (r : ComplianceRecord) {s : State} (h : Stores s) : Stores (reportRecord r s) := by
  unfold reportRecord
  split
  · exact h
  · exact reportDay_stores _ h

theorem closeRecord_stores (r : ComplianceRecord) {s : State} (h : Stores s) : Stores (closeRecord r s) :=
  reportRecord_stores r (gradeCurrent_stores r (voltageAlarm_stores r (offerRecord_stores r (countGhm_stores _ h))))

theorem closeInterval_stores (timeSet : Bool) {s : State} (h : Stores s) : Stores (closeInterval timeSet s) := by
  unfold closeInterval
  refine withGhm_stores _ ?_
  split
  · exact countGhm_stores _ h
  · exact closeRecord_stores _ h

theorem ghmIntervalEnd_stores {s : State} (h : Stores s) : Stores (ghmIntervalEnd s) :=
  closeInterval_stores false (completeBlock_stores h)

theorem pruneRing_stores (t : Timestamp) {s : State} (h : Stores s) : Stores (pruneRing t s) := by
  have hsub : (s.records.ring.filter fun r => !recordAfter t r).Sublist s.records.ring := List.filter_sublist
  exact countGhm_stores _ (withRing_stores h (hsub.length_le.trans h.ring))

theorem ghmTimeSet_stores (t : Timestamp) {s : State} (h : Stores s) : Stores (ghmTimeSet t s) :=
  closeInterval_stores true (completeBlock_stores (pruneRing_stores t h))

/-! ## Configuration and enable (R107, R108) -/

theorem cancelFilling_stores (b : BufferId) {s : State} (h : Stores s) : Stores (cancelFilling b s) := by
  unfold cancelFilling
  split
  · exact cancelBuffer_stores b h
  · exact h

theorem disableGhm_stores {s : State} (h : Stores s) : Stores (disableGhm s) := by
  have hcancelled : Stores (cancelFilling .ghmB (cancelFilling .ghmA s)) :=
    cancelFilling_stores _ (cancelFilling_stores _ h)
  have hremoved := List.foldlRecOn (motive := Stores) (withdraw .ghm none (cancelFilling .ghmB (cancelFilling .ghmA s))).1
    ghmRemoval (withdraw_stores .ghm none hcancelled) fun _ ht r _ => ghmRemoval_stores r ht
  exact withGhmConfig_stores _ (withGhm_stores _ (completeBlock_stores (withGhm_stores _ hremoved)))

theorem enableGhm_stores {s : State} (h : Stores s) : Stores (enableGhm s) := by
  have henabled : Stores (withGhmConfig (fun c => { c with enable := true })
      (withGhm (fun g => { g with window := .searching }) s)) := withGhmConfig_stores _ (withGhm_stores _ h)
  unfold enableGhm resumeInterval
  split
  · exact withGhm_stores _ henabled
  · exact henabled

theorem ghmWriteEnable_stores (v : Bool) {s : State} (h : Stores s) : Stores (ghmWriteEnable v s).1 := by
  unfold ghmWriteEnable
  split
  · exact h
  split
  · exact enableGhm_stores h
  · exact disableGhm_stores h

theorem ghmWriteItem_stores (item : GhmItem) {s : State} (h : Stores s) : Stores (ghmWriteItem item s).1 := by
  have hwritten : Stores (withGhmConfig (GhmConfig.withItem item) s) := withGhmConfig_stores _ h
  unfold ghmWriteItem
  split
  · dsimp only
    split
    · exact postGrid_stores hwritten
    · exact hwritten
  · exact h

theorem ghmWriteLimit_stores (order value : Nat) {s : State} (h : Stores s) : Stores (ghmWriteLimit order value s).1 := by
  unfold ghmWriteLimit
  split
  · split
    · exact withGhmConfig_stores _ h
    · exact h
  · exact h

end Sys2Proof.Machine
end

section
/-! The gearbox monitor and the pulse timing unit keep the stores. -/

namespace Sys2Proof.Machine

/-! ## Updates -/

theorem countGvm_stores (f : GvmCounters → GvmCounters) {s : State} (h : Stores s) : Stores (countGvm f s) := h.same rfl

theorem withWork_stores (m : Fin 8) (f : WorkRecord → WorkRecord) {s : State} (h : Stores s) : Stores (withWork m f s) :=
  h.same rfl

theorem withBand_stores (b : Fin 24) (f : BandState → BandState) {s : State} (h : Stores s) : Stores (withBand b f s) :=
  h.same rfl

theorem withSkipMark_stores (b : Fin 24) (x : Bool) {s : State} (h : Stores s) : Stores (withSkipMark b x s) :=
  h.same rfl

theorem clearSkipMarks_stores (m : Fin 8) {s : State} (h : Stores s) : Stores (clearSkipMarks m s) :=
  h.same (by simp only [storeParts, clearSkipMarks])

theorem noteLevel_stores (b : Fin 24) (clipped : Bool) (e : BandResult) {s : State} (h : Stores s) :
    Stores (noteLevel b clipped e s) := h.same (by simp only [storeParts, noteLevel])

/-! ## Bands (R68, R80 to R82) -/

theorem postBands_stores {s : State} (h : Stores s) : Stores (postBands s) := by
  have hgrades := postGrades_stores (fun g => { g with bands := bandGrades s }) h
  unfold postBands
  dsimp only
  split
  · exact hgrades
  · exact postContribution_stores _ _ hgrades

theorem bandAlarms_stores (b : Fin 24) (old new : Nat) {s : State} (h : Stores s) : Stores (bandAlarms b old new s) := by
  unfold bandAlarms
  dsimp only
  split
  · exact h
  have hcleared : Stores (if old = 1 then clearAlarm .bandAlert (.band b.val) s
      else if old = 2 then clearAlarm .bandAlarm (.band b.val) s else s) := by
    split
    · exact clearAlarm_stores _ _ h
    split
    · exact clearAlarm_stores _ _ h
    · exact h
  split
  · exact raise_stores _ _ hcleared
  split
  · exact raise_stores _ _ hcleared
  · exact hcleared

theorem enterBand_stores (mode : BandMode) (b : Fin 24) {s : State} (h : Stores s) : Stores (enterBand mode b s) := by
  have hentered := withBand_stores b (BandState.entered mode) (bandAlarms_stores b s.mon.bands[b].grade 0 h)
  unfold enterBand
  dsimp only
  split
  · exact withSkipMark_stores b true hentered
  · exact hentered

theorem settleBand_stores (old : ConfigSection) (b : Fin 24) {s : State} (h : Stores s) : Stores (settleBand old s b) := by
  unfold settleBand
  split
  · exact h
  · exact enterBand_stores _ b h

theorem takeEffect_stores (f : ConfigSection → ConfigSection) {s : State} (h : Stores s) : Stores (takeEffect f s) := by
  have hwritten : Stores { s with cfg := f s.cfg } := h.same rfl
  exact postBands_stores
    (List.foldlRecOn (motive := Stores) _ _ hwritten fun _ ht b _ => settleBand_stores s.cfg b ht)

/-! ## The end of work (R71, R84) -/

theorem applyPending_stores (m : Fin 8) {s : State} (h : Stores s) : Stores (applyPending m s) := by
  unfold applyPending
  split
  · exact h
  · split
    · exact countGvm_stores _ (withWork_stores m _ h)
    · exact countGvm_stores _ (takeEffect_stores _ (withWork_stores m _ h))
  · exact countGvm_stores _ (takeEffect_stores _ (withWork_stores m _ h))

theorem endOfWork_stores (m : Fin 8) {s : State} (h : Stores s) : Stores (endOfWork m s) :=
  applyPending_stores m (clearSkipMarks_stores m (withWork_stores m _ h))

theorem gvmRemoval_stores (r : AnalysisRequest) {s : State} (h : Stores s) : Stores (gvmRemoval s r) := by
  unfold gvmRemoval
  dsimp only
  split
  · exact endOfWork_stores _ (countGvm_stores _ (releaseBuffer_stores _ h))
  · exact releaseBuffer_stores _ h

theorem gvmAbort_stores (b : BufferId) (converter : Bool) {s : State} (h : Stores s) : Stores (gvmAbort b converter s) := by
  unfold gvmAbort
  split
  · exact h
  · exact endOfWork_stores _ (countGvm_stores _ h)

theorem cancelCapture_stores (m : Fin 8) {s : State} (h : Stores s) : Stores (cancelCapture m s) := by
  unfold cancelCapture
  split
  · exact cancelBuffer_stores _ h
  · exact h

theorem gvmCancel_stores (m : Fin 8) {s : State} (h : Stores s) : Stores (gvmCancel s m) := by
  unfold gvmCancel
  split
  · exact h
  have hremoved := List.foldlRecOn (motive := Stores) (withdraw .gvm (some m.val) s).1 gvmRemoval
    (withdraw_stores .gvm (some m.val) h) fun _ ht r _ => gvmRemoval_stores r ht
  have hcancelled := cancelCapture_stores m hremoved
  dsimp only
  split
  · exact hcancelled
  · exact endOfWork_stores m hcancelled

/-! ## Captures (R70 to R74) -/

theorem beginCapture_stores (b : BufferId) (kind : CaptureKind) {s : State} (h : Stores s) :
    Stores (beginCapture b kind s) := setBuffer_stores _ _ h

theorem startAttempt_stores (m : Fin 8) {s : State} (h : Stores s) : Stores (startAttempt m s) := by
  unfold startAttempt
  dsimp only
  split
  · exact countGvm_stores _ h
  split
  · exact countGvm_stores _ h
  split
  · exact countGvm_stores _ h
  split
  · exact countGvm_stores _ h
  · exact withWork_stores m _ (beginCapture_stores _ _ h)

theorem takeSlot_stores {s : State} (h : Stores s) : Stores (takeSlot s) := by
  unfold takeSlot
  split
  · exact h
  · next m _ =>
    have hplaced : Stores { s with gvm := { s.gvm with position := some m } } := h.same rfl
    dsimp only
    split
    · exact countGvm_stores _ hplaced
    · exact startAttempt_stores m hplaced

theorem restartPeriod_stores {s : State} (h : Stores s) : Stores (restartPeriod s) := h.same rfl

theorem gvmPeriodExpiry_stores {s : State} (h : Stores s) : Stores (gvmPeriodExpiry s) := by
  rcases gvmPeriodExpiry_cases s with ⟨-, e⟩ | ⟨-, e⟩ <;> rw [e]
  · exact takeSlot_stores (restartPeriod_stores h)
  · exact h

theorem submitRecord_stores (m : Fin 8) (b : BufferId) (mode : AnalysisMode) {s : State} (h : Stores s) :
    Stores (submitRecord m b mode s) := by
  have hsubmitted := submit_stores .gvm m.val b mode h
  unfold submitRecord
  generalize submit .gvm m.val b mode s = r at hsubmitted ⊢
  obtain ⟨_ | _, s1⟩ := r
  · exact endOfWork_stores m (reportDay_stores _ (countGvm_stores _ (releaseBuffer_stores b hsubmitted)))
  · exact withWork_stores m _ hsubmitted

theorem judgeCompletion_stores (m : Fin 8) (ctx : StartContext) (n d : Nat) {s : State} (h : Stores s) :
    Stores (judgeCompletion m ctx n d s) := by
  unfold judgeCompletion
  split
  · exact endOfWork_stores m (countGvm_stores _ (releaseBuffer_stores _ h))
  split
  · exact endOfWork_stores m (countGvm_stores _ (releaseBuffer_stores _ h))
  · exact submitRecord_stores m _ _ h

theorem gvmCompletion_stores (b : BufferId) (n d : Nat) {s : State} (h : Stores s) : Stores (gvmCompletion b n d s) := by
  unfold gvmCompletion
  split
  · exact releaseBuffer_stores b h
  split
  · exact h
  · exact judgeCompletion_stores _ _ n d h

/-! ## Results (R77 to R79) -/

theorem evaluateEntry_stores (clipped : Bool) (e : BandResult) {s : State} (h : Stores s) :
    Stores (evaluateEntry clipped s e) := by
  have hnoted := noteLevel_stores (Fin.ofNat 24 e.band) clipped e h
  unfold evaluateEntry
  dsimp only
  split
  · exact hnoted
  · unfold learnBand
    split
    · exact hnoted
    split
    · exact withBand_stores _ _ hnoted
    · exact countGvm_stores _ hnoted
  · unfold gradeBand
    split
    · exact bandAlarms_stores _ _ _ (withBand_stores _ _ hnoted)
    · exact hnoted

theorem gvmResult_stores (r : AnalysisRequest) (entries : List BandResult) {s : State} (h : Stores s) :
    Stores (gvmResult r entries s) := by
  have hevaluated := List.foldlRecOn (motive := Stores) entries (evaluateEntry r.clipped) h
    fun _ ht e _ => evaluateEntry_stores r.clipped e ht
  unfold gvmResult
  dsimp only
  split
  · exact endOfWork_stores _ (postBands_stores (countGvm_stores _ hevaluated))
  · exact countGvm_stores _ h

/-! ## Requests -/

theorem gvmLearn_stores (target : LearnTarget) {s : State} (h : Stores s) : Stores (gvmLearn target s).1 := by
  unfold gvmLearn
  split
  · split
    · split
      · exact h
      · exact postBands_stores (enterBand_stores .learning _ h)
    · exact h
  · split
    · split
      · exact h
      · exact postBands_stores
          (List.foldlRecOn (motive := Stores) _ _ h fun _ ht b _ => enterBand_stores .learning b ht)
    · exact h

theorem holdWrite_stores (m : Fin 8) (w : PendingWrite) {s : State} (h : Stores s) : Stores (holdWrite m w s).1 := by
  unfold holdWrite
  split
  · exact withWork_stores m _ h
  · exact countGvm_stores _ (withWork_stores m _ h)

theorem gvmWriteMeasurement_stores (index : Nat) (v : MeasurementRecord) {s : State} (h : Stores s) :
    Stores (gvmWriteMeasurement index v s).1 := by
  unfold gvmWriteMeasurement
  dsimp only
  split
  · split
    · exact h
    split
    · dsimp only
      exact takeEffect_stores _ h
    split
    · dsimp only
      exact takeEffect_stores _ (gvmCancel_stores _ h)
    · exact holdWrite_stores _ _ h
  · exact h

theorem gvmWriteBand_stores (index : Nat) (v : BandConfig) {s : State} (h : Stores s) :
    Stores (gvmWriteBand index v s).1 := by
  unfold gvmWriteBand
  dsimp only
  split
  · split
    · exact h
    split
    · dsimp only
      exact takeEffect_stores _ h
    split
    · dsimp only
      exact takeEffect_stores _ h
    · exact holdWrite_stores _ _ h
  · exact h

theorem disableGvm_stores {s : State} (h : Stores s) : Stores (disableGvm s) := by
  have hcancelled := List.foldlRecOn (motive := Stores) (List.finRange 8) gvmCancel h fun _ ht m _ => gvmCancel_stores m ht
  exact hcancelled.same (by simp only [storeParts, disableGvm])

theorem gvmWriteEnable_stores (v : Bool) {s : State} (h : Stores s) : Stores (gvmWriteEnable v s).1 := by
  unfold gvmWriteEnable
  split
  · exact h
  split
  · exact h.same rfl
  · exact disableGvm_stores h

theorem gvmWritePeriod_stores (v : Nat) {s : State} (h : Stores s) : Stores (gvmWritePeriod v s).1 := by
  unfold gvmWritePeriod
  split
  · exact h.same rfl
  · exact h

/-! ## Pulse inputs (R20 to R30) -/

theorem setPulse_stores (p : Pulse) (x : PulseState) {s : State} (h : Stores s) : Stores (setPulse p x s) := h.same rfl

theorem mismatchAlarm_stores (before after : PtuState) {s : State} (h : Stores s) :
    Stores (mismatchAlarm before after s) := by
  unfold mismatchAlarm
  split
  · exact raise_stores _ _ h
  · exact clearAlarm_stores _ _ h
  · exact h

theorem compareSpeeds_stores (r : PulseResult) {s : State} (h : Stores s) : Stores (compareSpeeds r s) := by
  unfold compareSpeeds
  split
  · exact h
  · exact mismatchAlarm_stores _ _ (h.same rfl)

theorem clearStall_stores (p : Pulse) {s : State} (h : Stores s) : Stores (clearStall p s) := by
  unfold clearStall
  split
  · exact clearAlarm_stores _ _ (setPulse_stores p _ h)
  · exact h

theorem afterValid_stores (p : Pulse) (r : PulseResult) (segments : List (List GridInstant)) {s : State} (h : Stores s) :
    Stores (afterValid p r segments s) := by
  unfold afterValid
  split
  · exact clearStall_stores _ h
  · exact clearStall_stores _ (compareSpeeds_stores r h)
  · exact ghmValid_stores r segments (clearStall_stores _ h)

theorem ptuEdge_stores (p : Pulse) (tick : Nat) (segments : List (List GridInstant)) {s : State} (h : Stores s) :
    Stores (ptuEdge p tick segments s) := by
  unfold ptuEdge
  dsimp only
  split
  · unfold acceptPulse
    dsimp only
    split
    · exact setPulse_stores p _ h
    split
    · exact setPulse_stores p _ h
    · exact afterValid_stores p _ segments (setPulse_stores p _ h)
  · exact setPulse_stores p _ h

theorem raiseStall_stores (p : Pulse) {s : State} (h : Stores s) : Stores (raiseStall p s) := by
  unfold raiseStall
  split
  · exact raise_stores _ _ (setPulse_stores p _ h)
  · exact h

theorem ptuStall_stores (p : Pulse) {s : State} (h : Stores s) : Stores (ptuStall p s) := by
  rcases ptuStall_cases p s with ⟨-, e⟩ | ⟨-, e⟩ <;> rw [e]
  · unfold stallChannel
    dsimp only
    split
    · exact raiseStall_stores _ (setPulse_stores _ _ h)
    · exact raiseStall_stores _ (setPulse_stores _ _ h)
    · exact ghmStalled_stores (raiseStall_stores _ (setPulse_stores _ _ h))
  · exact h

theorem ptuStore_stores (lo hi v : Nat) (f : PtuConfig → PtuConfig) {s : State} (h : Stores s) :
    Stores (ptuStore lo hi v f s).1 := by
  unfold ptuStore
  split
  · exact h.same rfl
  · exact h

theorem ptuWrite_stores (index v : Nat) {s : State} (h : Stores s) : Stores (ptuWrite index v s).1 := by
  unfold ptuWrite
  split
  case h_12 => exact h
  all_goals exact ptuStore_stores _ _ _ _ h

end Sys2Proof.Machine
end

section
/-! The acquisition front end, the ceiling unit, the resistance channels and the clock keep the stores. -/

namespace Sys2Proof.Machine

/-! ## The acquisition front end (R2 to R17) -/

theorem abortBuffer_stores (converter : Bool) (b : BufferId) {s : State} (h : Stores s) :
    Stores (abortBuffer converter s b) := by
  unfold abortBuffer
  split
  · unfold reportAbort
    split
    · exact gvmAbort_stores b converter (setBuffer_stores b .free h)
    · exact bimAbort_stores converter (setBuffer_stores b .free h)
    · exact ghmAbort_stores b (setBuffer_stores b .free h)
  · exact h

theorem abortChannel_stores (ch : Accel) {s : State} (h : Stores s) : Stores (abortChannel ch s) := by
  refine List.foldlRecOn (motive := Stores) _ _ h fun t ht b _ => ?_
  split
  · exact abortBuffer_stores false b ht
  · exact ht

theorem setAccel_stores (ch : Accel) (a : AccelState) {s : State} (h : Stores s) : Stores (setAccel ch a s) := h.same rfl

theorem afeBiasFault_stores (ch : Accel) (bias : Int) {s : State} (h : Stores s) : Stores (afeBiasFault ch bias s) := by
  unfold afeBiasFault
  split
  · exact h
  · exact abortChannel_stores ch (raise_stores _ _ (setAccel_stores ch _ h))

theorem afeBiasInRange_stores (ch : Accel) (bias : Int) {s : State} (h : Stores s) : Stores (afeBiasInRange ch bias s) := by
  unfold afeBiasInRange
  dsimp only
  split
  · exact h
  · exact setAccel_stores ch _ h

theorem afeRecovery_stores (ch : Accel) {s : State} (h : Stores s) : Stores (afeRecovery ch s) := by
  rcases afeRecovery_cases ch s with ⟨-, e⟩ | ⟨-, e⟩ <;> rw [e]
  · exact clearAlarm_stores _ _ (setAccel_stores ch _ h)
  · exact h

theorem checkConverter_stores (ch cq : Int) {s : State} (h : Stores s) : Stores (checkConverter ch cq s) := by
  have hrecorded : Stores (recordCheck ch cq s) := h.same rfl
  have hfailed : Stores (failCheck (recordCheck ch cq s)) := hrecorded.same rfl
  unfold checkConverter
  dsimp only
  split
  · exact hrecorded
  · exact raise_stores _ _
      (List.foldlRecOn (motive := Stores) _ _ hfailed fun _ ht b _ => abortBuffer_stores true b ht)
  · exact hfailed
  · exact clearAlarm_stores _ _ (hrecorded.same rfl)

theorem afeCheck_stores (ch cq : Int) {s : State} (h : Stores s) : Stores (afeCheck ch cq s) := by
  rcases afeCheck_cases ch cq s with ⟨-, e⟩ | ⟨-, e⟩ <;> rw [e]
  · exact checkConverter_stores ch cq h
  · exact h

theorem afeFixedComplete_stores (b : BufferId) (segments : List (List Int)) {s : State} (h : Stores s) :
    Stores (afeFixedComplete b segments s) := by
  unfold afeFixedComplete
  split
  · split
    · exact h
    · unfold reportFixed
      split
      · exact gvmCompletion_stores b _ _ (setBuffer_stores b _ h)
      · exact bimCompletion_stores (setBuffer_stores b _ h)
      · exact setBuffer_stores b _ h
  · exact h
  · exact h
  · exact h

theorem afeWindowLimit_stores (b : BufferId) (segments : List (List GridInstant)) {s : State} (h : Stores s) :
    Stores (afeWindowLimit b segments s) := by
  unfold afeWindowLimit
  split
  · split
    · exact ghmCompletion_stores b _ (setBuffer_stores b _ h)
    · exact h
  · exact h
  · exact h
  · exact h

theorem storeConversion_stores (c : Conversion) {s : State} (h : Stores s) : Stores (storeConversion c s) := h.same rfl

/-- New check words leave the stores. -/
theorem rechecked_stores (s : State) {t : State} (h : Stores t) : Stores (rechecked s t) :=
  h.same (by simp only [storeParts, rechecked])

theorem afeConvert_stores (c : Conversion) {s : State} (h : Stores s) : Stores (afeConvert c s) := by
  unfold afeConvert
  split
  · exact rechecked_stores s (List.foldlRecOn (motive := Stores) _ _ (storeConversion_stores c h)
      fun _ ht b _ => afeWindowLimit_stores b [] (afeFixedComplete_stores b [] ht))
  · exact h

theorem afeWriteTrim_stores (index : Nat) (v : Int) {s : State} (h : Stores s) : Stores (afeWriteTrim index v s).1 := by
  unfold afeWriteTrim
  split
  · split
    · exact h
    split
    · exact h
    · exact h.same rfl
  · exact h

/-! ## The ceiling unit (R135 to R149) -/

theorem countCcu_stores (f : CcuCounters → CcuCounters) {s : State} (h : Stores s) : Stores (countCcu f s) := h.same rfl

theorem updateRecord_stores (regime : Regime) (wind power : Int) (heater : Heater) {s : State} (h : Stores s) :
    Stores (updateRecord regime wind power heater s) := h.same rfl

theorem ccuReport_stores (regime : Nat) (wind power : Int) (heater : Nat) {s : State} (h : Stores s) :
    Stores (ccuReport regime wind power heater s).1 := by
  unfold ccuReport
  split
  · next x hx _ _ =>
    have hheater := bimHeater_stores hx (clearAlarm_stores .controllerSilent .ccu (updateRecord_stores x wind power hx h))
    unfold acceptReport handReport
    dsimp only
    split
    · exact bimParked_stores hheater
    · exact hheater
  · exact countCcu_stores _ h

theorem ccuFreshness_stores {s : State} (h : Stores s) : Stores (ccuFreshness s) := by
  rcases ccuFreshness_cases s with ⟨-, e⟩ | ⟨-, e⟩ <;> rw [e]
  · exact countCcu_stores _ (raise_stores _ _ (h.same rfl))
  · exact h

theorem ccuCeilingAck_stores (number : Nat) {s : State} (h : Stores s) : Stores (ccuCeilingAck number s).1 := by
  unfold ccuCeilingAck
  split
  · exact h
  split
  · exact h
  · exact clearAlarm_stores _ _ (h.same rfl)

theorem ccuAckExpiry_stores {s : State} (h : Stores s) : Stores (ccuAckExpiry s) := by
  rcases ccuAckExpiry_cases s with ⟨-, e⟩ | ⟨-, e⟩ <;> rw [e]
  · exact countCcu_stores _ (raise_stores _ _ (h.same rfl))
  · exact h

theorem ccuAckAlarm_stores (p : Port) (target : AckTarget) {s : State} (h : Stores s) :
    Stores (ccuAckAlarm p target s).1 := by
  unfold ccuAckAlarm
  split
  · exact List.foldlRecOn (motive := fun acc : Nat × Nat × State => Stores acc.2.2) _ (acknowledgeNext p) h
      fun acc hacc e _ => acknowledge_stores p e hacc
  · split
    · exact h
    · exact acknowledge_stores p _ h

/-- New snapshot slots with at most six locks. -/
theorem withSlots_stores {slots : Vector (Option SnapshotSlot) 8} {s : State} (h : Stores s)
    (hlocks : lockedSlots slots ≤ 6) : Stores { s with records := { s.records with slots := slots } } :=
  have ⟨halarms, htasks, ⟨hring, hscores, hdays, hhistory, hrise, _⟩, hserves⟩ := h
  ⟨halarms, htasks, ⟨hring, hscores, hdays, hhistory, hrise, hlocks⟩, hserves⟩

theorem lockedSlots_set_le_succ (slots : Vector (Option SnapshotSlot) 8) (i : Fin 8) (c : SnapshotSlot) :
    lockedSlots (slots.set i (some c)) ≤ lockedSlots slots + 1 := by
  unfold lockedSlots
  rw [← List.countP_eq_length_filter, ← List.countP_eq_length_filter, Vector.toList_set, List.countP_set (by simp)]
  split <;> split <;> omega

theorem ccuLock_stores (slot : Nat) {s : State} (h : Stores s) : Stores (ccuLock slot s).1 := by
  unfold ccuLock
  split
  · split
    · exact h
    split
    · exact h
    split
    · exact h
    · next hfew => exact withSlots_stores h ((lockedSlots_set_le_succ _ _ _).trans (by omega))
  · exact h

theorem ccuUnlock_stores (slot : Nat) {s : State} (h : Stores s) : Stores (ccuUnlock slot s).1 := by
  have hlocks : lockedSlots s.records.slots ≤ 6 := h.2.2.1.2.2.2.2.2
  unfold ccuUnlock
  split
  · split
    · exact h
    split
    · exact withSlots_stores h ((lockedSlots_set_le _ rfl).trans hlocks)
    · exact h
  · exact h

theorem ccuWrite_stores (item : CcuItem) {s : State} (h : Stores s) : Stores (ccuWrite item s).1 := by
  unfold ccuWrite
  split
  · split
    · exact h.same rfl
    · exact h
  · split
    · exact h.same rfl
    · exact h

/-! ## The resistance channels (R33 to R42) -/

theorem holdRecords_stores {s : State} (h : Stores s) : Stores (holdRecords s) := h.same rfl

theorem refResult_stores (c : Nat) {s : State} (h : Stores s) : Stores (refResult c s) := by
  unfold refResult
  dsimp only
  split
  · exact h.same rfl
  · exact holdRecords_stores (raise_stores _ _ (h.same rfl))
  · exact h.same rfl
  · exact clearAlarm_stores _ _ (h.same rfl)

theorem sensorAlarms_stores (t : Temp) (old new : ChannelFault) {s : State} (h : Stores s) :
    Stores (sensorAlarms t old new s) := by
  unfold sensorAlarms
  split
  · exact raise_stores _ _ h
  · exact raise_stores _ _ h
  · exact raise_stores _ _ (clearAlarm_stores _ _ h)
  · exact clearAlarm_stores _ _ h
  · exact raise_stores _ _ (clearAlarm_stores _ _ h)
  · exact clearAlarm_stores _ _ h
  · exact h
  · exact h
  · exact h

theorem setSensor_stores (t : Temp) (x : SensorState) {s : State} (h : Stores s) : Stores (setSensor t x s) := h.same rfl

theorem sensorResult_stores (t : Temp) (c : Nat) {s : State} (h : Stores s) : Stores (sensorResult t c s) := by
  unfold sensorResult
  dsimp only
  refine temperatureEvent_stores t ?_
  split
  · exact setSensor_stores t _ h
  · exact sensorAlarms_stores t _ _ (setSensor_stores t _ (setSensor_stores t _ h))

theorem rchGateEnd_stores (count : Nat) {s : State} (h : Stores s) : Stores (rchGateEnd count s) := by
  unfold rchGateEnd
  dsimp only
  split
  · exact refResult_stores _ (h.same rfl)
  · exact sensorResult_stores _ _ (h.same rfl)

theorem rchWrite_stores (item : RchItem) {s : State} (h : Stores s) : Stores (rchWrite item s).1 := by
  unfold rchWrite
  split
  · split
    · exact h.same rfl
    · exact h
  · split
    · exact h.same rfl
    · exact h
  · split
    · exact h.same rfl
    · exact h
  · exact h

/-! ## Time (R152 to R158) -/

theorem ageRecords_stores {s : State} (h : Stores s) : Stores (ageRecords s) := h.same rfl

theorem countTimers_stores {s : State} (h : Stores s) : Stores (countTimers s) := h.same rfl

theorem operationSecond_stores {s : State} (h : Stores s) : Stores (operationSecond s) :=
  List.foldlRecOn (motive := Stores) _ _ (countTimers_stores (ageRecords_stores (producingSecond_stores h)))
    fun _ ht c _ => growDuration_stores c ht

theorem batterySecond_stores {s : State} (h : Stores s) : Stores (batterySecond s) := by
  unfold batterySecond
  split
  · exact h.same rfl
  · exact h

theorem mplBoundary_stores (now : Timestamp) {s : State} (h : Stores s) : Stores (mplBoundary now s) := by
  unfold mplBoundary
  split
  · exact endInterval_stores h
  · exact h

theorem ghmBoundary_stores (now : Timestamp) {s : State} (h : Stores s) : Stores (ghmBoundary now s) := by
  unfold ghmBoundary
  split
  · exact ghmIntervalEnd_stores h
  · exact h

theorem rolloverAt_stores (now : Timestamp) {s : State} (h : Stores s) : Stores (rolloverAt now s) := by
  rcases rolloverAt_cases now s with ⟨d, -, e⟩ | ⟨-, e⟩ <;> rw [e]
  · exact dayRollover_stores d h
  · exact h

theorem tenMinuteBoundary_stores {s : State} (h : Stores s) : Stores (tenMinuteBoundary s) := by
  rcases tenMinuteBoundary_cases s with ⟨-, e⟩ | ⟨now, -, -, e⟩ <;> rw [e]
  · exact h
  have hended := ghmBoundary_stores now (mplBoundary_stores now h)
  split
  · exact rolloverAt_stores now hended
  · exact hended

theorem ghmUnalignedEnd_stores {s : State} (h : Stores s) : Stores (ghmUnalignedEnd s) := by
  unfold ghmUnalignedEnd
  split
  · exact ghmIntervalEnd_stores h
  · exact h

theorem mplUndatedEnd_stores {s : State} (h : Stores s) : Stores (mplUndatedEnd s) := by
  unfold mplUndatedEnd
  split
  · exact endInterval_stores h
  · exact h

theorem setTime_stores (p : Port) (day sec : Nat) {s : State} (h : Stores s) : Stores (setTime p day sec s).1 := by
  unfold setTime
  split
  · exact ghmTimeSet_stores _ (setCalendar_stores _ h)
  · exact h

theorem presenceBegin_stores (technician hours : Nat) {s : State} (h : Stores s) :
    Stores (presenceBegin technician hours s).1 := by
  unfold presenceBegin
  split
  · exact endOverride_stores (h.same rfl)
  · exact h

theorem presenceExpiry_stores {s : State} (h : Stores s) : Stores (presenceExpiry s) := h.same rfl

end Sys2Proof.Machine
end

section
/-! Starts, cuts and the ports keep the stores, and so does every command. -/

namespace Sys2Proof.Machine

/-! ## Starts (R150, R175 to R185) -/

theorem lockedSlots_default : lockedSlots ({} : RecordsSection).slots = 0 := by decide

theorem takeDefaults_stores (failed : List RetSection) {s : State} (h : Stores s) : Stores (takeDefaults failed s) := by
  have hcal : Stores (if failed.contains .calendar then { s with cal := none } else s) := by
    split
    · exact h.same rfl
    · exact h
  unfold takeDefaults
  dsimp only
  generalize (if failed.contains .calendar then { s with cal := none } else s) = s1 at hcal ⊢
  have hcfg : Stores (if failed.contains .config then { s1 with cfg := {} } else s1) := by
    split
    · exact hcal.same rfl
    · exact hcal
  generalize (if failed.contains .config then { s1 with cfg := {} } else s1) = s2 at hcfg ⊢
  have hmon : Stores (if failed.contains .monitor then { s2 with mon := monitorDefault s2.cfg } else s2) := by
    split
    · obtain ⟨halarms, htasks, ⟨hring, -, hdays, hhistory, hrise, hlocks⟩, hserves⟩ := hcfg
      exact ⟨halarms, htasks, ⟨hring, Nat.zero_le 10, hdays, hhistory, hrise, hlocks⟩, hserves⟩
    · exact hcfg
  generalize (if failed.contains .monitor then { s2 with mon := monitorDefault s2.cfg } else s2) = s3 at hmon ⊢
  have hplan : Stores (if failed.contains .plan then { s3 with plan := planDefault (today s3) } else s3) := by
    split
    · exact hmon.withPlan ⟨Nat.zero_le 32, .nil⟩ (Nat.zero_le 31) (Nat.zero_le 64) .nil rfl rfl rfl rfl
    · exact hmon
  generalize (if failed.contains .plan then { s3 with plan := planDefault (today s3) } else s3) = s4 at hplan ⊢
  split
  · obtain ⟨halarms, htasks, ⟨-, hscores, hdays, hhistory, hrise, -⟩, hserves⟩ := hplan
    exact ⟨halarms, htasks, ⟨Nat.zero_le 144, hscores, hdays, hhistory, hrise, lockedSlots_default ▸ Nat.zero_le 6⟩, hserves⟩
  · exact hplan

theorem withMismatch_stores (failed : List RetSection) {s : State} (h : Stores s) : Stores (withMismatch failed s) :=
  h.same rfl

theorem validatePart_stores (failed done : List RetSection) {s : State} (h : Stores s) :
    Stores (validatePart failed done s) := withMismatch_stores _ (takeDefaults_stores _ h)

theorem validate_stores (cause : StartCause) (failed : List RetSection) {s : State} (h : Stores s) :
    Stores (validate cause failed s) := by
  unfold validate
  split
  · exact validatePart_stores _ _ h
  · exact validatePart_stores _ _ h
  · exact h
  · exact h

/-- The volatile start values empty the alarm table and the engine. -/
theorem volatileStart_stores {s : State} (h : Stores s) : Stores (volatileStart s) := by
  obtain ⟨-, htasks, hbounds, -⟩ := h
  exact ⟨⟨Nat.zero_le 32, .nil⟩, htasks, hbounds, fun _ => rfl⟩

theorem restoreTask_stores (t : Task) {s : State} (h : Stores s) : Stores (restoreTask s t) := by
  unfold restoreTask
  split
  · exact h
  · exact raiseWith_stores _ _ _ h
  · exact raiseWith_stores _ _ _ h

theorem restoreBand_stores (b : Fin 24) {s : State} (h : Stores s) : Stores (restoreBand s b) := by
  unfold restoreBand
  split
  · exact raiseWith_stores _ _ _ h
  split
  · exact raiseWith_stores _ _ _ h
  · exact h

theorem restoreCurrent_stores {s : State} (h : Stores s) : Stores (restoreCurrent s) := by
  unfold restoreCurrent
  split
  · exact raiseWith_stores _ _ _ h
  split
  · exact raiseWith_stores _ _ _ h
  · exact h

theorem restoreIcing_stores {s : State} (h : Stores s) : Stores (restoreIcing s) := by
  unfold restoreIcing
  split
  · exact h
  · exact raiseWith_stores _ _ _ h
  · exact raiseWith_stores _ _ _ h
  · exact raiseWith_stores _ _ _ h

theorem restoreWaiting_stores {s : State} (h : Stores s) : Stores (restoreWaiting s) := by
  unfold restoreWaiting
  split
  · exact raiseWith_stores _ _ _ h
  · exact h

theorem restorePlace_stores (i : Nat) {s : State} (h : Stores s) : Stores (restorePlace i s) := by
  unfold restorePlace
  split
  · exact h
  · exact restoreTask_stores _ h

theorem restoreLost_stores (failed : List RetSection) {s : State} (h : Stores s) : Stores (restoreLost failed s) := by
  unfold restoreLost
  split
  · exact h
  · exact raiseWith_stores _ _ _ h

theorem restoration_stores {failed : List RetSection} {f : State → State} (hf : f ∈ restoration failed) {s : State}
    (h : Stores s) : Stores (f s) := by
  simp only [restoration, List.mem_append, List.mem_cons, List.mem_map, List.not_mem_nil, or_false] at hf
  rcases hf with (((rfl | ⟨b, -, rfl⟩) | rfl | rfl) | ⟨i, -, rfl⟩) | rfl | rfl
  · exact restoreLost_stores failed h
  · exact restoreBand_stores b h
  · exact restoreCurrent_stores h
  · exact restoreIcing_stores h
  · exact restorePlace_stores i h
  · exact restoreWaiting_stores h
  · exact h.same rfl

theorem startOperation_stores {st : Start} {f : State → State} (hf : f ∈ startOperation st) {s : State}
    (h : Stores s) : Stores (f s) := by
  rcases List.mem_append.mp hf with hf | hf
  · obtain rfl := List.mem_singleton.mp hf
    exact h.same rfl
  · obtain ⟨ch, -, rfl⟩ := List.mem_map.mp hf
    exact afeBiasFault_stores ch _ h

theorem gvmStartPosts_stores {s : State} (h : Stores s) : Stores (gvmStartPosts s) :=
  h.same (by simp only [storeParts, gvmStartPosts, recordContribution, withGrades])

theorem ghmStartPosts_stores {s : State} (h : Stores s) : Stores (ghmStartPosts s) := h.same rfl

theorem bimStartPosts_stores {s : State} (h : Stores s) : Stores (bimStartPosts s) := h.same rfl

/-- Every action of a start keeps the stores. -/
theorem startStages_stores {st : Start} {l : List (State → State)} (hl : l ∈ startStages st) {f : State → State}
    (hf : f ∈ l) {s : State} (h : Stores s) : Stores (f s) := by
  simp only [startStages, List.mem_cons, List.not_mem_nil, or_false] at hl
  rcases hl with rfl | rfl | rfl | rfl | rfl | rfl | rfl
  · obtain rfl := List.mem_singleton.mp hf
    exact validate_stores st.cause st.failed h
  · simp only [List.mem_cons, List.not_mem_nil, or_false] at hf
    rcases hf with rfl | rfl
    · exact volatileStart_stores h
    · exact h.same rfl
  · obtain rfl := List.mem_singleton.mp hf
    exact h.same (by simp only [storeParts, gvmAdjust])
  · rcases List.mem_append.mp hf with hf | hf
    · simp only [List.mem_cons, List.not_mem_nil, or_false] at hf
      rcases hf with rfl | rfl | rfl
      · exact gvmStartPosts_stores h
      · exact ghmStartPosts_stores h
      · exact bimStartPosts_stores h
    · exact mplStart_stores hf h
  · exact restoration_stores hf h
  · obtain rfl := List.mem_singleton.mp hf
    exact setNotice_stores _ (h.same rfl)
  · exact startOperation_stores hf h

theorem assertReset_stores {s : State} (h : Stores s) : Stores (assertReset s) := volatileStart_stores (h.same rfl)

theorem losePower_stores {s : State} (h : Stores s) : Stores (losePower s) := volatileStart_stores (h.same rfl)

/-- Sections taken whole from a state that keeps the stores keep them (R177). -/
theorem withSections_stores (made : List RetSection) {s t : State} (ht : Stores t) (hs : Stores s) :
    Stores (withSections made t s) := by
  obtain ⟨-, htasks, ⟨hring, hscores, hdays, hhistory, hrise, hlocks⟩, -⟩ := ht
  obtain ⟨halarms, htasks', ⟨hring', hscores', hdays', hhistory', hrise', hlocks'⟩, hserves⟩ := hs
  refine ⟨halarms, ?_, ⟨?_, ?_, ?_, ?_, ?_, ?_⟩, hserves⟩
  all_goals
    dsimp only [withSections, TasksOrdered]
    split
    · assumption
    · assumption

theorem partialStart_stores (st : Start) (k : Nat) (x : StartInput) {s : State} (h : Stores s) :
    Stores (partialStart st k x s) := by
  unfold partialStart
  split
  · unfold partialStage1
    split
    · exact validatePart_stores _ _ h
    · exact validatePart_stores _ _ h
    · exact h
    · exact h
  have hstage {f : State → State} (hf : f ∈ (startStages st).getD k []) {t : State} (ht : Stores t) : Stores (f t) := by
    rw [List.getD_eq_getElem?_getD] at hf
    cases hk : (startStages st)[k]? with
    | none => simp [hk] at hf
    | some l => exact startStages_stores (List.mem_of_getElem? hk) (by simpa [hk] using hf) ht
  have hwhole : Stores (takeActions ((startStages st).take k).flatten s) := by
    refine takeActions_keeps (fun f hf t ht => ?_) h
    obtain ⟨l, hl, hfl⟩ := List.mem_flatten.mp hf
    exact startStages_stores (List.mem_of_mem_take hl) hfl ht
  rcases partialStage_eq ((startStages st).getD k []) x (takeActions ((startStages st).take k).flatten s) with
    ⟨-, e⟩ | ⟨f, hf, e⟩ <;> rw [e]
  · exact takeActions_keeps (fun f hf t ht => hstage hf ht) hwhole
  · have hbefore := takeActions_keeps (P := Stores) (l := ((startStages st).getD k []).take x.moments)
      (fun g hg t ht => hstage (List.mem_of_mem_take hg) ht) hwhole
    exact withSections_stores _ (hstage (List.mem_of_getElem? hf) hbefore) hbefore

theorem runStart_stores (st : Start) (x : StartInput) {s : State} (h : Stores s) : Stores (runStart st x s) := by
  cases hcut : x.abandonedAfter with
  | none =>
    rw [runStart_whole st x s hcut]
    refine takeActions_keeps (fun f hf t ht => ?_) h
    obtain ⟨l, hl, hfl⟩ := List.mem_flatten.mp hf
    exact startStages_stores hl hfl ht
  | some k =>
    rw [runStart_cut st x s k hcut]
    split
    · exact losePower_stores (partialStart_stores st k x h)
    · exact assertReset_stores (partialStart_stores st k x h)

theorem retPowerOn_stores (corrupt : List RetSection) (straps : PerPort (BitVec 2)) (start : StartInput) {s : State}
    (h : Stores s) : Stores (retPowerOn corrupt straps start s) := by
  unfold retPowerOn
  dsimp only
  split
  · exact h
  split
  · exact h.same rfl
  · exact runStart_stores _ start (h.same rfl)

theorem retRetentionLoss_stores {s : State} (h : Stores s) : Stores (retRetentionLoss s) := by
  unfold retRetentionLoss
  split
  · exact h.same rfl
  · exact h.same rfl

theorem retResetRelease_stores (start : StartInput) {s : State} (h : Stores s) : Stores (retResetRelease start s) := by
  unfold retResetRelease
  split
  · split
    · exact runStart_stores _ start (h.same rfl)
    · exact h.same rfl
  · exact h

theorem retServiceRestart_stores (start : StartInput) {s : State} (h : Stores s) : Stores (retServiceRestart start s) := by
  unfold retServiceRestart
  split
  · exact runStart_stores _ start h
  · exact h

/-! ## Requests (R189, R190) -/

theorem lnkWriteMask_stores (target : Port) (m : NoticeSet) {s : State} (h : Stores s) :
    Stores (lnkWriteMask target m s).1 := by
  unfold lnkWriteMask
  split
  · exact h.same rfl
  · exact h

theorem handleWrite_stores (w : ConfigWrite) {s : State} (h : Stores s) : Stores (handleWrite w s).1 := by
  cases w with
  | trim i v => exact afeWriteTrim_stores i v h
  | ptu i v => exact ptuWrite_stores i v h
  | rch item => exact rchWrite_stores item h
  | measurement i v => exact gvmWriteMeasurement_stores i v h
  | band i v => exact gvmWriteBand_stores i v h
  | gvmEnable v => exact gvmWriteEnable_stores v h
  | gvmPeriod v => exact gvmWritePeriod_stores v h
  | ghmEnable v => exact ghmWriteEnable_stores v h
  | ghm item => exact ghmWriteItem_stores item h
  | voltageLimit order v => exact ghmWriteLimit_stores order v h
  | bimEnable v => exact bimWriteEnable_stores v h
  | bimPeak item => exact bimWritePeakItem_stores item h
  | curve rows => exact bimWriteCurve_stores rows h
  | profile x t => exact bimWriteProfile_stores x t h
  | ccu item => exact ccuWrite_stores item h
  | component i v => exact mplWriteComponent_stores i v h
  | mask t m => exact lnkWriteMask_stores t m h

theorem handle_stores (p : Port) (r : Request) {s : State} (h : Stores s) : Stores (handle p r s).1 := by
  cases r with
  | readNotices => exact h.same rfl
  | ackAlarm t => exact ccuAckAlarm_stores p t h
  | operatingReport r w pw x => exact ccuReport_stores r w pw x h
  | ceilingAck n => exact ccuCeilingAck_stores n h
  | setTime d t => exact setTime_stores p d t h
  | writeConfig w => exact handleWrite_stores w h
  | learnBaseline t => exact gvmLearn_stores t h
  | pinThresholds t => exact bimPin_stores t h
  | unpinThresholds => exact bimUnpin_stores h
  | planTask f => exact mplPlanTask_stores f h
  | removeTask i => exact mplRemoveTask_stores i h
  | deferTask i d => exact mplDeferTask_stores i d h
  | overrideBegin m => exact bimOverrideBegin_stores m h
  | overrideEnd => exact bimOverrideEnd_stores h
  | presenceBegin t x => exact presenceBegin_stores t x h
  | presenceEnd => exact mplPresenceEnd_stores h
  | closeTask i o => exact mplCloseTask_stores i o h
  | lockSnapshot i => exact ccuLock_stores i h
  | unlockSnapshot i => exact ccuUnlock_stores i h
  | restart => exact h.same rfl
  | _ => exact h

theorem withPort_stores (p : Port) (f : PortState → PortState) {s : State} (h : Stores s) : Stores (withPort p f s) :=
  h.same rfl

theorem takeBody_stores (p : Port) (kind : Octet) (parsed : Except Status Request) {s : State} (h : Stores s) :
    Stores (takeBody p kind parsed s).1 := by
  have hcounted : Stores (countPort p (fun c => { c with taken := inc16 c.taken }) s) := withPort_stores p _ h
  unfold takeBody judgeRequest
  split
  · exact hcounted
  split
  · split
    · exact hcounted
    · exact handle_stores p _ hcounted
  · exact withPort_stores p _ hcounted

theorem takeRequest_stores (p : Port) (r : Request) {s : State} (h : Stores s) : Stores (takeRequest p r s) :=
  withPort_stores p _ (takeBody_stores p r.kind (.ok r) h)

/-! ## Frames and octets (R186 to R188) -/

theorem takeFrame_stores (p : Port) (f : Frame) {s : State} (h : Stores s) : Stores (takeFrame p f s) :=
  withPort_stores p _ (takeBody_stores p f.kind (parseRequest f.kind f.body) h)

theorem beginWork_stores (p : Port) (f : Frame) {s : State} (h : Stores s) : Stores (beginWork p f s) :=
  takeFrame_stores p f (withPort_stores p _ h)

theorem placeFrame_stores (p : Port) (f : Frame) (sending : Bool) {s : State} (h : Stores s) :
    Stores (placeFrame p f sending s) := by
  unfold placeFrame
  dsimp only
  split
  · exact beginWork_stores p f h
  split
  · exact withPort_stores p _ h
  · exact (withPort_stores p (PortState.drop sending) h).same rfl

theorem lnkReplySent_stores (p : Port) {s : State} (h : Stores s) : Stores (lnkReplySent p s) := by
  unfold lnkReplySent
  split
  · exact h
  · unfold takeWaiting
    split
    · exact withPort_stores p _ h
    split
    · exact beginWork_stores p _ (withPort_stores p _ (withPort_stores p _ h))
    · exact withPort_stores p _ h

theorem judgeFrame_stores (p : Port) (l : List Octet) (sending : Bool) {s : State} (h : Stores s) :
    Stores (judgeFrame p l sending s) := by
  unfold judgeFrame
  split
  · exact placeFrame_stores p _ sending (withPort_stores p _ h)
  · exact withPort_stores p _ h

theorem lnkOctet_stores (p : Port) (x : Octet) (sending : Bool) {s : State} (h : Stores s) :
    Stores (lnkOctet p x sending s) := by
  unfold lnkOctet
  split
  · split
    · exact withPort_stores p _ h
    · exact h
  · unfold receiveOctet
    dsimp only
    split
    · exact withPort_stores p _ h
    split
    · exact withPort_stores p _ h
    · exact judgeFrame_stores p _ sending h

/-! ## The end of a request of the engine (R50) -/

theorem speEnd_stores {s : State} (h : Stores s) : Stores (speEnd s) := by
  unfold speEnd
  split
  · exact h
  · next r _ =>
    split
    · exact finishRequest_stores r h
    · unfold deliverResult
      split
      · exact gvmResult_stores r _ (finishRequest_stores r h)
      · exact ghmResult_stores r _ (finishRequest_stores r h)
      · exact bimResult_stores r _ (finishRequest_stores r h)

end Sys2Proof.Machine
end

section
/-! Every step keeps the stores (R48, R102, R115, R143, R148, R162, R165, R173). -/

namespace Sys2Proof.Machine

/-- An event that keeps the stores keeps them as a command, in operation and without. -/
theorem inOperation_stores {f : State → State} {s t : State} (hf : ∀ {u}, Stores u → Stores (f u)) (h : Stores s)
    (e : inOperation f s = .next t) : Stores t := by
  obtain rfl := Host.Outcome.next.inj e
  split
  · exact rechecked_stores s (hf h)
  · exact h

/-- The whole effect of an event that can be cut short. -/
theorem ownedEffect_stores (c : Instr) {s t : State} (h : Stores s) (e : ownedEffect c s = .next t) : Stores t := by
  cases c with
  | powerOn | mainPowerLoss | batteryRetentionLoss | resetAssert | batteryClockSecond =>
    obtain rfl := Host.Outcome.next.inj e
    exact h
  | resetRelease start =>
    obtain rfl := Host.Outcome.next.inj e
    exact rechecked_stores s (retResetRelease_stores start h)
  | serviceRestartStart start =>
    obtain rfl := Host.Outcome.next.inj e
    exact rechecked_stores s (retServiceRestart_stores start h)
  | biasFault ch bias => exact inOperation_stores (afeBiasFault_stores ch bias) h e
  | biasInRange ch bias => exact inOperation_stores (afeBiasInRange_stores ch bias) h e
  | recoveryQualificationExpiry ch => exact inOperation_stores (afeRecovery_stores ch) h e
  | converterCheck ch cq => exact inOperation_stores (afeCheck_stores ch cq) h e
  | fixedCaptureComplete b segments => exact inOperation_stores (afeFixedComplete_stores b segments) h e
  | windowLimitReached b segments => exact inOperation_stores (afeWindowLimit_stores b segments) h e
  | pulseEdge p tick segments => exact inOperation_stores (ptuEdge_stores p tick segments) h e
  | stall p => exact inOperation_stores (ptuStall_stores p) h e
  | gateEnd count => exact inOperation_stores (rchGateEnd_stores count) h e
  | operationSecond => exact inOperation_stores operationSecond_stores h e
  | requestEnd => exact inOperation_stores speEnd_stores h e
  | gvmPeriodExpiry => exact inOperation_stores gvmPeriodExpiry_stores h e
  | tenMinuteBoundary => exact inOperation_stores tenMinuteBoundary_stores h e
  | ghmUnalignedIntervalEnd => exact inOperation_stores ghmUnalignedEnd_stores h e
  | mplUndatedIntervalEnd => exact inOperation_stores mplUndatedEnd_stores h e
  | bimStep => exact inOperation_stores bimStepExpiry_stores h e
  | overrideExpiry => exact inOperation_stores overrideExpiry_stores h e
  | freshnessTimeout => exact inOperation_stores ccuFreshness_stores h e
  | acknowledgeTimerExpiry => exact inOperation_stores ccuAckExpiry_stores h e
  | presenceExpiry => exact inOperation_stores presenceExpiry_stores h e
  | frameChecked p f sending => exact inOperation_stores (fun k => placeFrame_stores p f sending (withPort_stores p _ k)) h e
  | frameCheckFailure p => exact inOperation_stores (withPort_stores p _) h e
  | octetGapTimeout p => exact inOperation_stores (withPort_stores p _) h e
  | replySent p => exact inOperation_stores (lnkReplySent_stores p) h e
  | octetReceived p x sending => exact inOperation_stores (lnkOctet_stores p x sending) h e
  | _ => exact inOperation_stores (takeRequest_stores _ _) h e

/-- An event cut short makes whole updates of sections only, so what is left of it keeps the stores (R177). -/
theorem cutShort_stores {s : State} (h : Stores s) : Stores (cutShort s) := by
  rcases cutShort_eq s with e | ⟨c, rest, t, -, ht, e⟩ <;> rw [e]
  · exact h.same rfl
  · exact withSections_stores _ (ownedEffect_stores c (s := { s with pending := rest }) (h.same rfl) ht) (h.same rfl)

theorem exec_stores (c : Instr) {s t : State} (h : Stores s) (e : exec c s = .next t) : Stores t := by
  have of_owned (hc : exec c s = ownedEffect c s) : Stores t := ownedEffect_stores c h (hc ▸ e)
  cases c with
  | powerOn corrupt straps start =>
    obtain rfl := Host.Outcome.next.inj e
    exact retPowerOn_stores corrupt straps start h
  | mainPowerLoss =>
    obtain rfl := Host.Outcome.next.inj e
    split
    · exact rechecked_stores s (losePower_stores (cutShort_stores h))
    · exact h
  | batteryRetentionLoss =>
    obtain rfl := Host.Outcome.next.inj e
    exact retRetentionLoss_stores h
  | resetAssert =>
    obtain rfl := Host.Outcome.next.inj e
    split
    · exact h
    · exact rechecked_stores s (assertReset_stores (cutShort_stores h))
  | batteryClockSecond =>
    obtain rfl := Host.Outcome.next.inj e
    exact batterySecond_stores h
  | _ => exact of_owned rfl

/-- Settles O60: an empty queue takes a conversion or idles, any other executes its front. -/
theorem stepKeepsStores : Obligations.StepKeepsStores := by
  intro s t halarms htasks hbounds hserves hstep
  have h : Stores s := ⟨halarms, htasks, hbounds, hserves⟩
  unfold step at hstep
  split at hstep
  · split at hstep
    · exact Host.Outcome.next.inj hstep ▸ h
    · next conversion rest _ =>
      have hk : Stores (afeConvert conversion { s with conversions := rest }) := afeConvert_stores conversion (h.same rfl)
      obtain rfl := Host.Outcome.next.inj hstep
      exact hk
  · next c rest _ =>
    have hrest : Stores { s with pending := rest } := h.same rfl
    exact exec_stores c hrest hstep

end Sys2Proof.Machine
end

section
/-! The end of a request (R48 to R50): the engine's part, and which request begins next. -/

namespace Sys2Proof.Machine

/-! ## The request that begins -/

/-- The request the arbiter takes from the queue of a state (R48). -/
def nextRequest (s : State) : Option AnalysisRequest := choose s.spe.marker s.spe.queue

theorem nextRequest_eq (s : State) :
    nextRequest s =
      ((oldestOf .ghm s.spe.queue).or (oldestOf (if s.spe.marker = .gvm then .bim else .gvm) s.spe.queue)).or
        (oldestOf (if s.spe.marker = .gvm then .gvm else .bim) s.spe.queue) := by
  unfold nextRequest choose
  cases oldestOf .ghm s.spe.queue with
  | some q => rfl
  | none =>
    cases s.spe.marker with
    | gvm => simp only [alternation, Option.none_or, if_true]; cases oldestOf .bim s.spe.queue <;> rfl
    | bim => simp only [alternation, Option.none_or, if_neg (by decide : ¬ Marker.bim = .gvm)]; cases oldestOf .gvm s.spe.queue <;> rfl

/-- The window entries when a request begins (R94). -/
def begunEntries (q : AnalysisRequest) (l : List WindowEntry) : List WindowEntry :=
  match q.source with
  | .ghm => l.map fun e => if e.request = .queued q.arrival then { e with request := .analysing q.arrival } else e
  | .gvm | .bim => l

/-- The beginning of a request (R49): the engine and the buffer, and at the owner no more than its view of the request. -/
theorem beginRequest_eq (q : AnalysisRequest) (s : State) :
    ∃ work : Vector WorkRecord 8,
      beginRequest q s =
        { s with
          spe :=
            { s.spe with
              queue := s.spe.queue.eraseP (·.arrival = q.arrival)
              inProgress := some q
              marker := markerAfter q.source s.spe.marker }
          afe := { s.afe with buffers := s.afe.buffers.set q.buffer (bufferOf s q.buffer).toAnalysis }
          gvm := { s.gvm with work := work }
          ghm := { s.ghm with entries := begunEntries q s.ghm.entries } } ∧
      ∀ m : Fin 8, work[m].outstanding = s.gvm.work[m].outstanding ∧ work[m].pending = s.gvm.work[m].pending := by
  unfold beginRequest noteBegun begunEntries
  cases q.source with
  | gvm =>
    refine ⟨_, rfl, fun m => ?_⟩
    rw [Fin.getElem_fin, vmap_getElem]
    split <;> exact ⟨rfl, rfl⟩
  | ghm | bim => exact ⟨s.gvm.work, rfl, fun m => ⟨rfl, rfl⟩⟩

/-! ## The engine's part of an end -/

/-- The state in which the engine selects after the end of a request. -/
def freedState (r : AnalysisRequest) (s : State) : State :=
  { s with
    afe := { s.afe with buffers := s.afe.buffers.set r.buffer .free }
    spe :=
      { s.spe with
        inProgress := none
        counters := s.spe.counters.set r.source (countEnd r.discard (s.spe.counters.get r.source)) } }

theorem finishRequest_eq (r : AnalysisRequest) (s : State) :
    finishRequest r s = match nextRequest s with
      | none => freedState r s
      | some q => beginRequest q (freedState r s) := rfl

/-- What the engine's part of an end leaves, the next request in progress. -/
structure RequestFinished (r : AnalysisRequest) (s u : State) : Prop where
  inProgress : u.spe.inProgress = nextRequest s
  arrival : u.spe.arrival = s.spe.arrival
  counters : u.spe.counters = s.spe.counters.set r.source (countEnd r.discard (s.spe.counters.get r.source))
  queue : u.spe.queue = match nextRequest s with
    | none => s.spe.queue
    | some q => s.spe.queue.eraseP (·.arrival = q.arrival)
  marker : u.spe.marker = match (nextRequest s).map (·.source) with
    | some .gvm => .gvm
    | some .bim => .bim
    | _ => s.spe.marker
  buffers : u.afe.buffers = match nextRequest s with
    | none => s.afe.buffers.set r.buffer .free
    | some q => (s.afe.buffers.set r.buffer .free).set q.buffer ((s.afe.buffers.set r.buffer .free).get q.buffer).toAnalysis
  frame : u = { s with
    afe := u.afe, spe := u.spe, gvm := { s.gvm with work := u.gvm.work }, ghm := { s.ghm with entries := u.ghm.entries } }
  work : ∀ m : Fin 8, u.gvm.work[m].outstanding = s.gvm.work[m].outstanding ∧ u.gvm.work[m].pending = s.gvm.work[m].pending
  entries : u.ghm.entries = match nextRequest s with
    | none => s.ghm.entries
    | some q => begunEntries q s.ghm.entries

theorem finishRequest_spec (r : AnalysisRequest) (s : State) : RequestFinished r s (finishRequest r s) := by
  rw [finishRequest_eq]
  cases h : nextRequest s with
  | none =>
    exact
      { inProgress := h.symm
        arrival := rfl
        counters := rfl
        queue := by rw [h]; rfl
        marker := by rw [h]; rfl
        buffers := by rw [h]; rfl
        frame := rfl
        work := fun m => ⟨rfl, rfl⟩
        entries := by rw [h]; rfl }
  | some q =>
    obtain ⟨work, hbegin, hwork⟩ := beginRequest_eq q (freedState r s)
    dsimp only
    rw [hbegin]
    exact
      { inProgress := h.symm
        arrival := rfl
        counters := rfl
        queue := by rw [h]; rfl
        marker := by rw [h]; cases hq : q.source <;> simp [markerAfter, hq, freedState]
        buffers := by rw [h]; rfl
        frame := rfl
        work := hwork
        entries := by rw [h]; rfl }

/-- A selected GHM request is the first of the queue, and is taken before every other (R48). -/
theorem begunEntries_nextRequest (s : State) :
    (match nextRequest s with
      | none => s.ghm.entries
      | some q => begunEntries q s.ghm.entries) =
      match oldestOf .ghm s.spe.queue with
      | none => s.ghm.entries
      | some q => s.ghm.entries.map fun e =>
        if e.request = .queued q.arrival then { e with request := .analysing q.arrival } else e := by
  have source_of {m : Monitor} {q : AnalysisRequest} (h : oldestOf m s.spe.queue = some q) : q.source = m := by
    simpa using List.find?_some h
  rw [nextRequest_eq]
  cases hg : oldestOf .ghm s.spe.queue with
  | some q => simp [begunEntries, source_of hg]
  | none =>
    have hother {m k : Monitor} (hm : m ≠ .ghm) (hk : k ≠ .ghm) {q : AnalysisRequest}
        (h : (oldestOf m s.spe.queue).or (oldestOf k s.spe.queue) = some q) : q.source ≠ .ghm := by
      rcases Option.or_eq_some_iff.mp h with h | ⟨-, h⟩
      · exact source_of h ▸ hm
      · exact source_of h ▸ hk
    rw [Option.none_or]
    split
    · rfl
    · next q h =>
      have hq : q.source ≠ .ghm := hother (by split <;> decide) (by split <;> decide) h
      unfold begunEntries
      cases hs : q.source with
      | ghm => exact absurd hs hq
      | gvm | bim => rfl

end Sys2Proof.Machine
end

section
/-! The evaluation of the entries of a BANDS result (R77 to R80): each entry reaches its own band, its last level and its
alarms. -/

namespace Sys2Proof.Machine

/-! ## The alarms of another source -/

theorem has_of_source_ne {x y : Source} (h : x ≠ y) {c d : AlarmCode} {e : AlarmEntry} (he : e.has d y = true) :
    e.has c x = false := by
  obtain ⟨-, hy⟩ := (AlarmEntry.has_iff d y e).mp he
  simp [AlarmEntry.has, hy, h.symm]

theorem alarmsOf_updateAlarm_of_source_ne {x y : Source} (h : x ≠ y) (c d : AlarmCode) {f : AlarmEntry → AlarmEntry}
    (hf : ∀ e, e.has d y = true → (f e).has d y = true) (s : State) :
    alarmsOf c x (updateAlarm d y f s) = alarmsOf c x s := by
  show List.filter _ (List.map _ s.ccu.alarms) = List.filter _ s.ccu.alarms
  induction s.ccu.alarms with
  | nil => rfl
  | cons a l ih =>
    by_cases ha : a.has d y = true
    · simp [ha, has_of_source_ne h ha, has_of_source_ne h (hf a ha), ih]
    · simp [ha, ih, List.filter_cons]

theorem alarmsOf_clearAlarm_of_source_ne {x y : Source} (h : x ≠ y) (c d : AlarmCode) (s : State) :
    alarmsOf c x (clearAlarm d y s) = alarmsOf c x s := by
  rcases clearAlarm_cases d y s with e | ⟨_, -, -, e⟩ | ⟨_, -, -, e⟩ <;> rw [e]
  · exact alarmsOf_updateAlarm_of_source_ne h c d
      (f := fun e => { e with state := .clearedUnack, lastChange := s.cal }) (fun _ he => he) s
  · show List.filter _ (List.eraseP _ s.ccu.alarms) = List.filter _ s.ccu.alarms
    induction s.ccu.alarms with
    | nil => rfl
    | cons a l ih =>
      by_cases ha : a.has d y = true
      · simp [ha, has_of_source_ne h ha]
      · simp [ha, ih, List.filter_cons]

theorem alarmsOf_raise_of_source_ne {x y : Source} (h : x ≠ y) (c d : AlarmCode) {s : State}
    (hroom : s.ccu.alarms.length < 32) : alarmsOf c x (raise d y s) = alarmsOf c x s := by
  unfold raise raiseWith
  split
  · split
    · exact alarmsOf_updateAlarm_of_source_ne h c d (f := AlarmEntry.again s.cal) (fun _ he => he) s
    · exact alarmsOf_updateAlarm_of_source_ne h c d (f := AlarmEntry.again s.cal) (fun _ he => he) s
    · rw [alarmsOf, enteredActive_alarms]
      exact alarmsOf_updateAlarm_of_source_ne h c d (f := AlarmEntry.return s.cal) (fun _ he => he) s
  · rw [if_pos hroom, alarmsOf, createAlarm_alarms, List.filter_append]
    simp [alarmsOf, AlarmEntry.has, h.symm]

theorem length_alarms_raise_le (c : AlarmCode) (x : Source) (s : State) :
    (raise c x s).ccu.alarms.length ≤ s.ccu.alarms.length + 1 := by
  rcases raiseWith_alarms true c x s with ⟨f, e⟩ | ⟨-, -, e⟩ | ⟨-, -, ⟨p, -, e⟩ | e⟩ <;> rw [raise, e]
  · simp
  · simp
  · have := (List.eraseP_sublist (p := p) (l := s.ccu.alarms)).length_le
    simpa using this
  · exact Nat.le_succ _

/-- A change at one source: it makes one entry at most, and leaves those of every other source where there is room. -/
structure AlarmStep (x : Source) (s t : State) : Prop where
  count : t.ccu.alarms.length ≤ s.ccu.alarms.length + 1
  keyed : AlarmsKeyed s → AlarmsKeyed t
  others : s.ccu.alarms.length < 32 → ∀ c y, y ≠ x → alarmsOf c y t = alarmsOf c y s

theorem AlarmStep.of_alarms_eq {x : Source} {s t : State} (h : t.ccu.alarms = s.ccu.alarms) : AlarmStep x s t where
  count := h ▸ Nat.le_succ _
  keyed hk := by simpa only [AlarmsKeyed, h] using hk
  others _ c y _ := by rw [alarmsOf, alarmsOf, h]

theorem clearAlarm_alarmStep (c : AlarmCode) (x : Source) (s : State) : AlarmStep x s (clearAlarm c x s) where
  count := (length_alarms_clearAlarm_le c x s).trans (Nat.le_succ _)
  keyed := clearAlarm_keyed c x
  others _ d _ h := alarmsOf_clearAlarm_of_source_ne h d c s

theorem raise_alarmStep (c : AlarmCode) (x : Source) (s : State) : AlarmStep x s (raise c x s) where
  count := length_alarms_raise_le c x s
  keyed := raise_keyed c x
  others hroom d _ h := alarmsOf_raise_of_source_ne h d c hroom

theorem moveAlarm_alarmStep (x : Source) (old new : Option AlarmCode) (s : State) : AlarmStep x s (moveAlarm x old new s) := by
  cases old with
  | none =>
    cases new with
    | none => exact .of_alarms_eq rfl
    | some d => exact raise_alarmStep d x s
  | some c =>
    have hclear := clearAlarm_alarmStep c x s
    cases new with
    | none => exact hclear
    | some d =>
      have hle := length_alarms_clearAlarm_le c x s
      have hraise := raise_alarmStep d x (clearAlarm c x s)
      exact
        { count := hraise.count.trans (Nat.succ_le_succ hle)
          keyed := fun hk => hraise.keyed (hclear.keyed hk)
          others := fun hroom e y h =>
            (hraise.others (hle.trans_lt hroom) e y h).trans (hclear.others hroom e y h) }

/-! ## The grade of a band and its alarms (R80) -/

/-- The alarm of a grade (R80). -/
def gradeAlarm (grade : Nat) : Option AlarmCode :=
  if grade = 1 then some .bandAlert else if grade = 2 then some .bandAlarm else none

theorem gradeAlarm_eq_alert {grade : Nat} : gradeAlarm grade = some .bandAlert ↔ grade = 1 := by
  unfold gradeAlarm
  split
  · simpa
  · split <;> simpa

theorem gradeAlarm_eq_alarm {grade : Nat} : gradeAlarm grade = some .bandAlarm ↔ grade = 2 := by
  unfold gradeAlarm
  split
  · simp; omega
  · split <;> simpa

theorem bandAlarms_eq (b : Fin 24) {old new : Nat} (h : old ≠ new) (s : State) :
    bandAlarms b old new s = moveAlarm (.band b.val) (gradeAlarm old) (gradeAlarm new) s := by
  have hold : (if old = 1 then clearAlarm .bandAlert (.band b.val) s
      else if old = 2 then clearAlarm .bandAlarm (.band b.val) s else s) =
        (gradeAlarm old).elim s (clearAlarm · (.band b.val) s) := by
    unfold gradeAlarm
    split
    · rfl
    · split <;> rfl
  have hnew (u : State) : (if new = 1 then raise .bandAlert (.band b.val) u
      else if new = 2 then raise .bandAlarm (.band b.val) u else u) =
        (gradeAlarm new).elim u (raise · (.band b.val) u) := by
    unfold gradeAlarm
    split
    · rfl
    · split <;> rfl
  simp only [bandAlarms, if_neg h, hold, hnew, moveAlarm]

/-- The alarms of a band after its grade went from one to another (R80). -/
def GradeAlarmed (b : Fin 24) (old new : Nat) (t : State) : Prop :=
  (new = 1 → AlarmActive .bandAlert (.band b.val) t) ∧ (new = 2 → AlarmActive .bandAlarm (.band b.val) t) ∧
    (old = 1 → AlarmQuiet .bandAlert (.band b.val) t) ∧ (old = 2 → AlarmQuiet .bandAlarm (.band b.val) t)

theorem gradeAlarmed_congr {b : Fin 24} {old new : Nat} {s t : State}
    (h : ∀ c, c = .bandAlert ∨ c = .bandAlarm → alarmsOf c (.band b.val) t = alarmsOf c (.band b.val) s)
    (hs : GradeAlarmed b old new s) : GradeAlarmed b old new t := by
  simpa only [GradeAlarmed, alarmActive_iff, alarmQuiet_iff, h _ (.inl rfl), h _ (.inr rfl)] using hs

theorem bandAlarms_gradeAlarmed (b : Fin 24) {old new : Nat} (h : old ≠ new) {s : State} (hk : AlarmsKeyed s)
    (hroom : s.ccu.alarms.length < 32) : GradeAlarmed b old new (bandAlarms b old new s) := by
  rw [bandAlarms_eq b h]
  refine ⟨?_, ?_, ?_, ?_⟩
  · rintro rfl
    exact moveAlarm_active hroom
  · rintro rfl
    exact moveAlarm_active hroom
  · rintro rfl
    exact moveAlarm_quiet hk hroom fun e => h (gradeAlarm_eq_alert.mp e).symm
  · rintro rfl
    exact moveAlarm_quiet hk hroom fun e => h (gradeAlarm_eq_alarm.mp e).symm

theorem bandAlarms_alarmStep (b : Fin 24) (old new : Nat) (s : State) :
    AlarmStep (.band b.val) s (bandAlarms b old new s) := by
  by_cases h : old = new
  · rw [bandAlarms, if_pos h]
    exact .of_alarms_eq rfl
  · rw [bandAlarms_eq b h]
    exact moveAlarm_alarmStep ..

/-! ## What the evaluation may reach -/

/-- What an entry and the sections that the evaluation of a BANDS result leaves alone. -/
structure EvaluationFrame (s t : State) : Prop where
  afe : t.afe = s.afe
  spe : t.spe = s.spe
  ptu : t.ptu = s.ptu
  rch : t.rch = s.rch
  cal : t.cal = s.cal
  ret : t.ret = s.ret
  cfg : t.cfg = s.cfg
  gvm : t.gvm =
    { s.gvm with
      lastLevel := t.gvm.lastLevel
      counters := { s.gvm.counters with learnIgnored := t.gvm.counters.learnIgnored } }

theorem EvaluationFrame.refl (s : State) : EvaluationFrame s s := ⟨rfl, rfl, rfl, rfl, rfl, rfl, rfl, rfl⟩

theorem EvaluationFrame.trans {s t u : State} (h : EvaluationFrame s t) (k : EvaluationFrame t u) : EvaluationFrame s u where
  afe := k.afe.trans h.afe
  spe := k.spe.trans h.spe
  ptu := k.ptu.trans h.ptu
  rch := k.rch.trans h.rch
  cal := k.cal.trans h.cal
  ret := k.ret.trans h.ret
  cfg := k.cfg.trans h.cfg
  gvm := by rw [k.gvm, h.gvm]

theorem raise_evaluationFrame (c : AlarmCode) (x : Source) (s : State) : EvaluationFrame s (raise c x s) :=
  ⟨by simp, by simp, by simp, by simp, by simp, by simp, by simp, by simp⟩

theorem clearAlarm_evaluationFrame (c : AlarmCode) (x : Source) (s : State) : EvaluationFrame s (clearAlarm c x s) :=
  ⟨by simp, by simp, by simp, by simp, by simp, by simp, by simp, by simp⟩

theorem moveAlarm_evaluationFrame (x : Source) (old new : Option AlarmCode) (s : State) :
    EvaluationFrame s (moveAlarm x old new s) := by
  have hclear : EvaluationFrame s (old.elim s (clearAlarm · x s)) := by
    cases old with
    | none => exact .refl s
    | some c => exact clearAlarm_evaluationFrame c x s
  cases new with
  | none => exact hclear
  | some d => exact hclear.trans (raise_evaluationFrame d x _)

theorem moveAlarm_kept (x : Source) (old new : Option AlarmCode) (s : State) :
    (moveAlarm x old new s).mon = s.mon ∧ (moveAlarm x old new s).gvm = s.gvm := by
  cases old <;> cases new <;> simp [moveAlarm]

theorem bandAlarms_evaluationFrame (b : Fin 24) (old new : Nat) (s : State) :
    EvaluationFrame s (bandAlarms b old new s) ∧ (bandAlarms b old new s).mon = s.mon ∧
      (bandAlarms b old new s).gvm = s.gvm := by
  by_cases h : old = new
  · rw [bandAlarms, if_pos h]
    exact ⟨.refl s, rfl, rfl⟩
  · rw [bandAlarms_eq b h]
    exact ⟨moveAlarm_evaluationFrame .., moveAlarm_kept ..⟩

end Sys2Proof.Machine
end

section
/-! A BANDS result delivered to the GVM: all its entries, then the posts of the bands (R77 to R82). -/

namespace Sys2Proof.Machine

/-! ## One entry -/

/-- The band an entry is for. -/
def bandOf (e : BandResult) : Fin 24 := Fin.ofNat 24 e.band

/-- The last level and its flags from an entry (R77). -/
def lastLevelOf (clipped : Bool) (e : BandResult) : LastLevel :=
  { level := if e.resolved then some e.level else none, clipped := clipped, saturated := e.saturated,
    unresolved := !e.resolved }

/-- The confirm counter and the grade of an ARMED band after a RESOLVED entry (R79). -/
def BandState.graded (cfg : BandConfig) (clipped : Bool) (level : Nat) (old : BandState) : BandState :=
  let rise : Int := (level : Int) - old.baseline
  let confirm := confirmAfter cfg clipped rise old.confirm
  { old with confirm := confirm, grade := gradeAfter cfg clipped rise confirm old.grade }

/-- The state of a band after an entry (R78, R79). -/
def bandAfter (cfg : BandConfig) (skip clipped : Bool) (e : BandResult) (old : BandState) : BandState :=
  match old.mode with
  | .disabled => old
  | .learning =>
    if skip = false ∧ e.resolved = true ∧ e.saturated = false ∧ clipped = false then old.learn e.level else old
  | .armed => if e.resolved then old.graded cfg clipped e.level else old

/-- What the evaluation of one entry does. -/
structure EntryEvaluated (clipped : Bool) (e : BandResult) (s t : State) : Prop where
  frame : EvaluationFrame s t
  bands : t.mon.bands = s.mon.bands.set (bandOf e)
    (bandAfter s.cfg.bands[bandOf e] s.gvm.skipMark[bandOf e] clipped e s.mon.bands[bandOf e])
  lastLevel : t.gvm.lastLevel = s.gvm.lastLevel.set (bandOf e) (lastLevelOf clipped e)
  alarms : AlarmStep (.band (bandOf e).val) s t
  graded : s.mon.bands[bandOf e].grade ≠ t.mon.bands[bandOf e].grade → s.mon.bands[bandOf e].mode = .armed →
    AlarmsKeyed s → s.ccu.alarms.length < 32 →
      GradeAlarmed (bandOf e) s.mon.bands[bandOf e].grade t.mon.bands[bandOf e].grade t

/-- An update of the band, its last level and the LEARN_IGNORED counter alone, for a band that is not graded. -/
theorem EntryEvaluated.of_ungraded {clipped : Bool} {e : BandResult} {s t : State} (frame : EvaluationFrame s t)
    (bands : t.mon.bands = s.mon.bands.set (bandOf e)
      (bandAfter s.cfg.bands[bandOf e] s.gvm.skipMark[bandOf e] clipped e s.mon.bands[bandOf e]))
    (lastLevel : t.gvm.lastLevel = s.gvm.lastLevel.set (bandOf e) (lastLevelOf clipped e)) (alarms : t.ccu = s.ccu)
    (hkept : s.mon.bands[bandOf e].mode = .armed → t.mon.bands = s.mon.bands) : EntryEvaluated clipped e s t where
  frame := frame
  bands := bands
  lastLevel := lastLevel
  alarms := .of_alarms_eq (congrArg CcuState.alarms alarms)
  graded hne harmed := absurd (by rw [hkept harmed]) hne

/-- An entry that leaves its band as it is writes the last level alone, and at most counts LEARN_IGNORED. -/
theorem EntryEvaluated.of_kept {clipped : Bool} {e : BandResult} {s t : State}
    (h : bandAfter s.cfg.bands[bandOf e] s.gvm.skipMark[bandOf e] clipped e s.mon.bands[bandOf e] = s.mon.bands[bandOf e])
    (f : GvmCounters → GvmCounters) (hf : ∀ c, f c = { c with learnIgnored := (f c).learnIgnored })
    (ht : t = countGvm f (noteLevel (bandOf e) clipped e s)) : EntryEvaluated clipped e s t := by
  subst ht
  refine .of_ungraded ⟨rfl, rfl, rfl, rfl, rfl, rfl, rfl, ?_⟩ ?_ rfl rfl fun _ => rfl
  · simp only [countGvm, noteLevel]
    rw [hf]
  · rw [h]
    exact (Vector.set_getElem_self _).symm

theorem learnBand_spec {clipped : Bool} {e : BandResult} {s : State} (hmode : s.mon.bands[bandOf e].mode = .learning) :
    EntryEvaluated clipped e s (learnBand (bandOf e) clipped e (noteLevel (bandOf e) clipped e s)) := by
  have hafter : bandAfter s.cfg.bands[bandOf e] s.gvm.skipMark[bandOf e] clipped e s.mon.bands[bandOf e] =
      if s.gvm.skipMark[bandOf e] = false ∧ e.resolved = true ∧ e.saturated = false ∧ clipped = false then
        s.mon.bands[bandOf e].learn e.level
      else s.mon.bands[bandOf e] := by
    simp only [bandAfter, hmode]
  unfold learnBand
  by_cases hskip : s.gvm.skipMark[bandOf e] = true
  · rw [if_pos (by exact hskip)]
    exact .of_kept (hafter.trans (if_neg fun h => by simp [hskip] at h)) id (fun _ => rfl) rfl
  · rw [if_neg (by exact hskip)]
    by_cases htake : (e.resolved && !e.saturated && !clipped) = true
    · rw [if_pos htake]
      simp only [Bool.and_eq_true, Bool.not_eq_true'] at htake
      obtain ⟨⟨hresolved, hsaturated⟩, hclipped⟩ := htake
      rw [if_pos ⟨by simpa using hskip, hresolved, hsaturated, hclipped⟩] at hafter
      refine .of_ungraded ⟨rfl, rfl, rfl, rfl, rfl, rfl, rfl, rfl⟩ ?_ rfl rfl fun h => nomatch hmode.symm.trans h
      rw [hafter]
      rfl
    · rw [if_neg htake]
      exact .of_kept (hafter.trans (if_neg fun h => htake (by simp [h.2]))) _ (fun _ => rfl) rfl

theorem gradeBand_spec {clipped : Bool} {e : BandResult} {s : State} (hmode : s.mon.bands[bandOf e].mode = .armed) :
    EntryEvaluated clipped e s (gradeBand (bandOf e) clipped e (noteLevel (bandOf e) clipped e s)) := by
  have hafter : bandAfter s.cfg.bands[bandOf e] s.gvm.skipMark[bandOf e] clipped e s.mon.bands[bandOf e] =
      if e.resolved then s.mon.bands[bandOf e].graded s.cfg.bands[bandOf e] clipped e.level else s.mon.bands[bandOf e] := by
    simp only [bandAfter, hmode]
  unfold gradeBand
  by_cases hresolved : e.resolved = true
  · rw [if_pos hresolved] at hafter ⊢
    let new := s.mon.bands[bandOf e].graded s.cfg.bands[bandOf e] clipped e.level
    let u := withBand (bandOf e) (fun _ => new) (noteLevel (bandOf e) clipped e s)
    have hframe : EvaluationFrame s u := ⟨rfl, rfl, rfl, rfl, rfl, rfl, rfl, rfl⟩
    obtain ⟨halarms, hmon, hgvm⟩ := bandAlarms_evaluationFrame (bandOf e) s.mon.bands[bandOf e].grade new.grade u
    have hstep := bandAlarms_alarmStep (bandOf e) s.mon.bands[bandOf e].grade new.grade u
    show EntryEvaluated clipped e s (bandAlarms (bandOf e) s.mon.bands[bandOf e].grade new.grade u)
    have hbands : (bandAlarms (bandOf e) s.mon.bands[bandOf e].grade new.grade u).mon.bands =
        s.mon.bands.set (bandOf e) new := by
      rw [hmon]
      rfl
    have hband : (bandAlarms (bandOf e) s.mon.bands[bandOf e].grade new.grade u).mon.bands[bandOf e] = new := by
      rw [hbands]
      simp
    exact
      { frame := hframe.trans halarms
        bands := hbands.trans (by rw [hafter])
        lastLevel := by rw [hgvm]; rfl
        alarms := ⟨hstep.count, hstep.keyed, hstep.others⟩
        graded := fun hne _ hk hroom => by
          rw [hband] at hne ⊢
          exact bandAlarms_gradeAlarmed (bandOf e) hne (s := u) hk hroom }
  · rw [if_neg hresolved] at hafter ⊢
    exact .of_kept hafter id (fun _ => rfl) rfl

theorem evaluateEntry_spec (clipped : Bool) (s : State) (e : BandResult) :
    EntryEvaluated clipped e s (evaluateEntry clipped s e) := by
  have heval : evaluateEntry clipped s e = match s.mon.bands[bandOf e].mode with
    | .disabled => noteLevel (bandOf e) clipped e s
    | .learning => learnBand (bandOf e) clipped e (noteLevel (bandOf e) clipped e s)
    | .armed => gradeBand (bandOf e) clipped e (noteLevel (bandOf e) clipped e s) := rfl
  rw [heval]
  cases hmode : s.mon.bands[bandOf e].mode with
  | disabled => exact .of_kept (by simp only [bandAfter, hmode]) id (fun _ => rfl) rfl
  | learning => exact learnBand_spec hmode
  | armed => exact gradeBand_spec hmode

/-! ## All the entries -/

/-- What the evaluation of a list of entries does at a band that no entry is for. -/
structure BandKept (b : Fin 24) (s t : State) : Prop where
  band : t.mon.bands[b] = s.mon.bands[b]
  lastLevel : t.gvm.lastLevel[b] = s.gvm.lastLevel[b]

/-- What it does at the band of one of them; `n` is the number of entries. -/
structure BandEvaluated (clipped : Bool) (n : Nat) (e : BandResult) (s t : State) : Prop where
  band : t.mon.bands[bandOf e] =
    bandAfter s.cfg.bands[bandOf e] s.gvm.skipMark[bandOf e] clipped e s.mon.bands[bandOf e]
  lastLevel : t.gvm.lastLevel[bandOf e] = lastLevelOf clipped e
  graded : s.mon.bands[bandOf e].grade ≠ t.mon.bands[bandOf e].grade → s.mon.bands[bandOf e].mode = .armed →
    AlarmsKeyed s → s.ccu.alarms.length + n ≤ 32 →
      GradeAlarmed (bandOf e) s.mon.bands[bandOf e].grade t.mon.bands[bandOf e].grade t

theorem foldl_evaluateEntry_frame (clipped : Bool) (l : List BandResult) (s : State) :
    EvaluationFrame s (l.foldl (evaluateEntry clipped) s) :=
  foldl_related EvaluationFrame.refl EvaluationFrame.trans l (fun t e _ => (evaluateEntry_spec clipped t e).frame) s

theorem EntryEvaluated.bandKept {clipped : Bool} {e : BandResult} {s t : State} (h : EntryEvaluated clipped e s t)
    {b : Fin 24} (hb : bandOf e ≠ b) : BandKept b s t := by
  have hv : (bandOf e).val ≠ b.val := fun h => hb (Fin.ext h)
  exact ⟨by rw [h.bands]; simp [hv], by rw [h.lastLevel]; simp [hv]⟩

theorem foldl_evaluateEntry_kept (clipped : Bool) {b : Fin 24} (l : List BandResult) (s : State)
    (h : ∀ e ∈ l, bandOf e ≠ b) :
    BandKept b s (l.foldl (evaluateEntry clipped) s) ∧
      (s.ccu.alarms.length + l.length ≤ 32 → ∀ c, alarmsOf c (.band b.val) (l.foldl (evaluateEntry clipped) s) =
        alarmsOf c (.band b.val) s) := by
  induction l generalizing s with
  | nil => exact ⟨⟨rfl, rfl⟩, fun _ _ => rfl⟩
  | cons e l ih =>
    have hentry := evaluateEntry_spec clipped s e
    have hne : bandOf e ≠ b := h e List.mem_cons_self
    obtain ⟨hrest, halarms⟩ := ih (evaluateEntry clipped s e) fun x hx => h x (List.mem_cons_of_mem e hx)
    have hhead := hentry.bandKept hne
    refine ⟨⟨hrest.band.trans hhead.band, hrest.lastLevel.trans hhead.lastLevel⟩, fun hroom c => ?_⟩
    rw [List.length_cons] at hroom
    have hsource : Source.band b.val ≠ .band (bandOf e).val := fun hs => hne (Fin.ext (Source.band.inj hs).symm)
    exact (halarms (by have := hentry.alarms.count; omega) c).trans
      (hentry.alarms.others (by omega) c (.band b.val) hsource)

theorem foldl_evaluateEntry_done (clipped : Bool) (l : List BandResult) (hl : (l.map bandOf).Nodup) (s : State)
    (e : BandResult) (he : e ∈ l) : BandEvaluated clipped l.length e s (l.foldl (evaluateEntry clipped) s) := by
  induction l generalizing s with
  | nil => cases he
  | cons a l ih =>
    obtain ⟨hnot, hl⟩ := List.nodup_cons.mp hl
    have hentry := evaluateEntry_spec clipped s a
    have hcount := hentry.alarms.count
    rcases List.mem_cons.mp he with rfl | he
    · obtain ⟨hkept, halarms⟩ := foldl_evaluateEntry_kept clipped l (evaluateEntry clipped s e)
        fun x hx h => hnot (List.mem_map.mpr ⟨x, hx, h⟩)
      have hband := hkept.band
      refine ⟨hband.trans (by rw [hentry.bands]; simp), hkept.lastLevel.trans (by rw [hentry.lastLevel]; simp),
        fun hne harmed hk hroom => ?_⟩
      rw [List.length_cons] at hroom
      rw [List.foldl_cons, hband] at hne ⊢
      exact gradeAlarmed_congr (fun c _ => halarms (by omega) c) (hentry.graded hne harmed hk (by omega))
    · have hne : bandOf a ≠ bandOf e := fun h => hnot (h ▸ List.mem_map_of_mem he)
      obtain ⟨hband, hlevel, hgraded⟩ := ih hl (evaluateEntry clipped s a) he
      have hcfg := hentry.frame.cfg
      have hskip : (evaluateEntry clipped s a).gvm.skipMark = s.gvm.skipMark :=
        (congrArg GvmState.skipMark hentry.frame.gvm :)
      rw [(hentry.bandKept hne).band] at hband hgraded
      rw [hcfg, hskip] at hband
      refine ⟨hband, hlevel, fun hdiff harmed hk hroom => ?_⟩
      rw [List.length_cons] at hroom
      exact hgraded hdiff harmed (hentry.alarms.keyed hk) (by omega)

end Sys2Proof.Machine
end

section
/-! The posts after a BANDS result (R81, R82), and what the delivery of a result of each mode leaves alone (R50). -/

namespace Sys2Proof.Machine

/-! ## The posts of the bands -/

/-- What a post of grades or of a contribution leaves of the bands, their alarms and their configuration. -/
structure PostFrame (s t : State) : Prop where
  bands : t.mon.bands = s.mon.bands
  cfg : t.cfg = s.cfg
  gvm : t.gvm = s.gvm
  alarms : ∀ c x, c ≠ .taskTableFull → alarmsOf c x t = alarmsOf c x s

theorem PostFrame.refl (s : State) : PostFrame s s := ⟨rfl, rfl, rfl, fun _ _ _ => rfl⟩

theorem PostFrame.trans {s t u : State} (h : PostFrame s t) (k : PostFrame t u) : PostFrame s u where
  bands := k.bands.trans h.bands
  cfg := k.cfg.trans h.cfg
  gvm := k.gvm.trans h.gvm
  alarms c x hc := (k.alarms c x hc).trans (h.alarms c x hc)

theorem clearTaskTableFull_postFrame (s : State) : PostFrame s (clearAlarm .taskTableFull .mpl s) where
  bands := by rw [clearAlarm_mon]
  cfg := clearAlarm_cfg ..
  gvm := clearAlarm_gvm ..
  alarms _ x hc := alarmsOf_clearAlarm_of_ne hc x .mpl s

/-- A component that loses its waiting mark changes no grade held (R170). -/
theorem dropWaiting_postFrame (c : Fin 16) (s : State) :
    PostFrame s (dropWaiting c s) ∧ (dropWaiting c s).mpl.grades = s.mpl.grades := by
  have hmark : PostFrame s (withWaiting (·.set c false) s) := ⟨rfl, rfl, rfl, fun _ _ _ => rfl⟩
  unfold dropWaiting
  dsimp only
  split
  · split
    · exact ⟨hmark, rfl⟩
    · exact ⟨hmark.trans (clearTaskTableFull_postFrame _), by rw [clearAlarm_mpl]; rfl⟩
  · exact ⟨.refl s, rfl⟩

theorem gradeChanged_postFrame (c : Fin 16) (old new : Nat) (s : State) :
    PostFrame s (gradeChanged c old new s) ∧ (gradeChanged c old new s).mpl.grades = s.mpl.grades := by
  have hwear : PostFrame s (withWear c (gradedWear s.cal old new)
      (withCompInterval c (fun i => { i with worst := max i.worst new }) s)) := ⟨rfl, rfl, rfl, fun _ _ _ => rfl⟩
  unfold gradeChanged
  dsimp only
  split
  · obtain ⟨hdrop, hgrades⟩ := dropWaiting_postFrame c _
    exact ⟨hwear.trans hdrop, hgrades⟩
  · exact ⟨hwear, rfl⟩

/-- Posted grades are held (R157). -/
theorem postGrades_postFrame (f : HeldGrades → HeldGrades) (s : State) :
    PostFrame s (postGrades f s) ∧ (postGrades f s).mpl.grades = f s.mpl.grades := by
  have hheld : PostFrame s (withGrades f s) := ⟨rfl, rfl, rfl, fun _ _ _ => rfl⟩
  unfold postGrades regrade
  refine List.foldlRecOn (motive := fun t => PostFrame s t ∧ t.mpl.grades = f s.mpl.grades) (List.finRange 16) _
    ⟨hheld, rfl⟩ fun t ⟨ht, hgrades⟩ c _ => ?_
  dsimp only
  split
  · exact ⟨ht, hgrades⟩
  · obtain ⟨hchanged, hsame⟩ := gradeChanged_postFrame c (componentGrade s c) (componentGrade (withGrades f s) c) t
    exact ⟨ht.trans hchanged, hsame.trans hgrades⟩

theorem postContribution_postFrame (w : Contributor) (v : Nat) (s : State) :
    PostFrame s (postContribution w v s) ∧
      (postContribution w v s).ccu.contributions = s.ccu.contributions.set w v := by
  rcases postContribution_cases w v s with ⟨-, e⟩ | ⟨-, e⟩ <;> rw [e] <;> exact ⟨⟨rfl, rfl, rfl, fun _ _ _ => rfl⟩, rfl⟩

/-- The grades and the contribution that the bands post (R81, R82). -/
theorem postBands_spec (s : State) :
    PostFrame s (postBands s) ∧ (postBands s).mpl.grades.bands = bandGrades s ∧
      (postBands s).ccu.contributions.gearbox = some (gearboxContribution s) := by
  obtain ⟨hpost, hgrades⟩ := postGrades_postFrame (fun g => { g with bands := bandGrades s }) s
  have hbands := congrArg HeldGrades.bands hgrades
  have hvalue : gearboxContribution (postGrades (fun g => { g with bands := bandGrades s }) s) = gearboxContribution s := by
    unfold gearboxContribution
    rw [hpost.bands, hpost.cfg]
  unfold postBands
  dsimp only
  rw [hvalue]
  split
  · next hheld => exact ⟨hpost, hbands, hheld⟩
  · obtain ⟨hlast, hset⟩ := postContribution_postFrame .gearbox (gearboxContribution s)
      (postGrades (fun g => { g with bands := bandGrades s }) s)
    exact ⟨hpost.trans hlast, by rw [postContribution_mpl]; exact hbands, by rw [hset]; rfl⟩

/-! ## The greatest grade and the least ceiling -/

theorem le_foldl_max (l : List Nat) (a : Nat) : a ≤ l.foldl max a ∧ ∀ x ∈ l, x ≤ l.foldl max a := by
  induction l generalizing a with
  | nil => simp
  | cons b l ih =>
    obtain ⟨hab, hl⟩ := ih (max a b)
    refine ⟨(le_max_left a b).trans hab, fun x hx => ?_⟩
    rcases List.mem_cons.mp hx with rfl | hx
    · exact (le_max_right a x).trans hab
    · exact hl x hx

theorem foldl_max_mem (l : List Nat) (a : Nat) : l.foldl max a = a ∨ l.foldl max a ∈ l := by
  induction l generalizing a with
  | nil => exact .inl rfl
  | cons b l ih =>
    rcases ih (max a b) with h | h
    · rcases max_choice a b with hm | hm
      · exact .inl (h.trans hm)
      · exact .inr (List.mem_cons.mpr (.inl (h.trans hm)))
    · exact .inr (List.mem_cons_of_mem b h)

theorem foldl_min_le (l : List Nat) (a : Nat) : l.foldl min a ≤ a ∧ ∀ x ∈ l, l.foldl min a ≤ x := by
  induction l generalizing a with
  | nil => simp
  | cons b l ih =>
    obtain ⟨hab, hl⟩ := ih (min a b)
    refine ⟨hab.trans (min_le_left a b), fun x hx => ?_⟩
    rcases List.mem_cons.mp hx with rfl | hx
    · exact hab.trans (min_le_right a x)
    · exact hl x hx

theorem foldl_min_mem (l : List Nat) (a : Nat) : l.foldl min a = a ∨ l.foldl min a ∈ l := by
  induction l generalizing a with
  | nil => exact .inl rfl
  | cons b l ih =>
    rcases ih (min a b) with h | h
    · rcases min_choice a b with hm | hm
      · exact .inl (h.trans hm)
      · exact .inr (List.mem_cons.mpr (.inl (h.trans hm)))
    · exact .inr (List.mem_cons_of_mem b h)

/-- The band component grade is the greatest grade of an ARMED band of the component, 0 where there is none (R81). -/
theorem bandComponentGrade_greatest (s : State) (k : Fin 16) :
    (∀ b : Fin 24, s.mon.bands[b].mode = .armed → s.cfg.bands[b].component = some k.val →
      s.mon.bands[b].grade ≤ bandComponentGrade s k) ∧
    (bandComponentGrade s k = 0 ∨ ∃ b : Fin 24, s.mon.bands[b].mode = .armed ∧
      s.cfg.bands[b].component = some k.val ∧ s.mon.bands[b].grade = bandComponentGrade s k) := by
  unfold bandComponentGrade
  refine ⟨fun b harmed hcomp => ?_, ?_⟩
  · refine (le_foldl_max _ 0).2 _ (List.mem_map.mpr ⟨b, List.mem_finRange b, ?_⟩)
    exact if_pos ⟨harmed, hcomp⟩
  · rcases foldl_max_mem ((List.finRange 24).map fun b : Fin 24 =>
      if s.mon.bands[b].mode = .armed ∧ s.cfg.bands[b].component = some k.val then s.mon.bands[b].grade else 0) 0 with h | h
    · exact .inl h
    · obtain ⟨b, -, hb⟩ := List.mem_map.mp h
      split at hb
      · next hcond => exact .inr ⟨b, hcond.1, hcond.2, hb⟩
      · exact .inl hb.symm

/-- The gearbox contribution is the least ceiling of a derating band at grade 2, and 100 where there is none (R82). -/
theorem gearboxContribution_least (s : State) :
    gearboxContribution s ≤ 100 ∧
    (∀ b : Fin 24, s.cfg.bands[b].derate = true → s.mon.bands[b].grade = 2 →
      gearboxContribution s ≤ s.cfg.bands[b].derateCeiling) ∧
    (gearboxContribution s = 100 ∨ ∃ b : Fin 24, s.cfg.bands[b].derate = true ∧ s.mon.bands[b].grade = 2 ∧
      gearboxContribution s = s.cfg.bands[b].derateCeiling) := by
  unfold gearboxContribution
  refine ⟨(foldl_min_le _ 100).1, fun b hderate hgrade => ?_, ?_⟩
  · refine (foldl_min_le _ 100).2 _ (List.mem_map.mpr ⟨b, List.mem_finRange b, ?_⟩)
    exact if_pos ⟨hderate, hgrade⟩
  · rcases foldl_min_mem ((List.finRange 24).map fun b : Fin 24 =>
      if s.cfg.bands[b].derate = true ∧ s.mon.bands[b].grade = 2 then s.cfg.bands[b].derateCeiling else 100) 100 with h | h
    · exact .inl h
    · obtain ⟨b, -, hb⟩ := List.mem_map.mp h
      split at hb
      · next hcond => exact .inr ⟨b, hcond.1, hcond.2, hb.symm⟩
      · exact .inl hb.symm

/-! ## The delivery of a result -/

/-- What the delivery of a result leaves alone: the engine, its buffers and the blocks that measure. -/
structure DeliveryFrame (s t : State) : Prop where
  afe : t.afe = s.afe
  spe : t.spe = s.spe
  ptu : t.ptu = s.ptu
  rch : t.rch = s.rch
  cal : t.cal = s.cal
  ret : t.ret = s.ret

theorem DeliveryFrame.trans {s t u : State} (h : DeliveryFrame s t) (k : DeliveryFrame t u) : DeliveryFrame s u where
  afe := k.afe.trans h.afe
  spe := k.spe.trans h.spe
  ptu := k.ptu.trans h.ptu
  rch := k.rch.trans h.rch
  cal := k.cal.trans h.cal
  ret := k.ret.trans h.ret

theorem EvaluationFrame.deliveryFrame {s t : State} (h : EvaluationFrame s t) : DeliveryFrame s t :=
  ⟨h.afe, h.spe, h.ptu, h.rch, h.cal, h.ret⟩

theorem GvmOnly.deliveryFrame {s t : State} (h : GvmOnly s t) : DeliveryFrame s t :=
  ⟨h.afe, h.spe, h.ptu, h.rch, h.cal, h.ret⟩

theorem gvmResult_deliveryFrame (r : AnalysisRequest) (entries : List BandResult) (s : State) :
    DeliveryFrame s (gvmResult r entries s) := by
  unfold gvmResult
  dsimp only
  split
  · have hentries := (foldl_evaluateEntry_frame r.clipped entries s).deliveryFrame
    have hcount : DeliveryFrame s (countGvm (fun c => { c with results := inc16 c.results })
        (entries.foldl (evaluateEntry r.clipped) s)) := hentries.trans ⟨rfl, rfl, rfl, rfl, rfl, rfl⟩
    exact (hcount.trans (postBands_bandsOnly _).deliveryFrame).trans (endOfWork_reach _ _).deliveryFrame
  · exact ⟨rfl, rfl, rfl, rfl, rfl, rfl⟩

/-- At most the GHM and the day record differ. -/
def GridOnly (s t : State) : Prop := t = { s with ghm := t.ghm, plan := t.plan }

theorem GridOnly.trans {s t u : State} (h : GridOnly s t) (k : GridOnly t u) : GridOnly s u := by
  unfold GridOnly at *
  rw [k, h]

theorem withGhm_gridOnly (f : GhmState → GhmState) (s : State) : GridOnly s (withGhm f s) := rfl

theorem reportDay_gridOnly (f : DayRecord → DayRecord) (s : State) : GridOnly s (reportDay f s) := by
  unfold reportDay
  split <;> rfl

theorem countNoFundamental_gridOnly (v : PerPhase Nat) (s : State) : GridOnly s (countNoFundamental v s) := by
  unfold countNoFundamental
  split <;> rfl

theorem joinExcluded_gridOnly (freq : Nat) (s : State) : GridOnly s (joinExcluded freq s) :=
  ((withGhm_gridOnly _ s).trans (withGhm_gridOnly _ _)).trans (reportDay_gridOnly _ _)

/-- A window's evaluation reaches the GHM and the day record alone (R95 to R97). -/
theorem evaluateWindow_gridOnly (n freq : Nat) (mags : List (List Nat)) (s : State) :
    GridOnly s (evaluateWindow n freq mags s) := by
  have hclassed := (withGhm_gridOnly (GhmState.classed (classOf (voltageLevels s.cfg.ghm mags))) s).trans
    (countNoFundamental_gridOnly (voltageLevels s.cfg.ghm mags) _)
  unfold evaluateWindow
  dsimp only
  split
  · exact (hclassed.trans (joinExcluded_gridOnly freq _)).trans (settleWindow_eq ..)
  · exact (hclassed.trans (withGhm_gridOnly _ _)).trans (settleWindow_eq ..)

theorem ghmResult_gridOnly (r : AnalysisRequest) (mags : List (List Nat)) (s : State) :
    GridOnly s (ghmResult r mags s) := by
  unfold ghmResult
  split
  · exact withGhm_gridOnly ..
  · exact evaluateWindow_gridOnly ..

theorem GridOnly.deliveryFrame {s t : State} (h : GridOnly s t) : DeliveryFrame s t :=
  ⟨(congrArg State.afe h :), (congrArg State.spe h :), (congrArg State.ptu h :), (congrArg State.rch h :),
    (congrArg State.cal h :), (congrArg State.ret h :)⟩

theorem bimResult_eq (r : AnalysisRequest) (p : PeakResult) (s : State) :
    bimResult r p s = { s with bim := (bimResult r p s).bim } := by
  unfold bimResult
  dsimp only
  split <;> rfl

theorem deliverResult_frame (r : AnalysisRequest) (rows : List (List Int)) (s : State) :
    DeliveryFrame s (deliverResult r rows s) := by
  unfold deliverResult
  split
  · exact gvmResult_deliveryFrame ..
  · exact (ghmResult_gridOnly ..).deliveryFrame
  · rw [bimResult_eq]
    exact ⟨rfl, rfl, rfl, rfl, rfl, rfl⟩

end Sys2Proof.Machine
end

section
/-! The end of a request (R48 to R50): the delivery to the GVM and the BIM, and what the event leaves. -/

namespace Sys2Proof.Machine

/-! ## A BANDS result at its measurement (R75, R77 to R82) -/

/-- What an awaited BANDS result leaves, for a measurement without a held write. -/
structure BandsDelivered (r : AnalysisRequest) (entries : List BandResult) (m : Fin 8) (s t : State) : Prop where
  counters : t.gvm.counters =
    { s.gvm.counters with results := inc16 s.gvm.counters.results, learnIgnored := t.gvm.counters.learnIgnored }
  work : t.gvm.work[m].work = .idle ∧ t.gvm.work[m].outstanding = none ∧ t.gvm.work[m].context = none
  cfg : t.cfg = s.cfg
  kept : ∀ b, (∀ e ∈ entries, bandOf e ≠ b) → BandKept b s t
  done : (entries.map bandOf).Nodup → ∀ e ∈ entries, BandEvaluated r.clipped entries.length e s t
  grades : t.mpl.grades.bands = bandGrades t
  gearbox : t.ccu.contributions.gearbox = some (gearboxContribution t)

theorem gvmResult_eq {r : AnalysisRequest} {m : Fin 8} (htag : r.tag = m.val) (entries : List BandResult) (s : State) :
    gvmResult r entries s =
      if s.gvm.work[m].outstanding = some r.arrival then
        endOfWork m (postBands (countGvm (fun c => { c with results := inc16 c.results })
          (entries.foldl (evaluateEntry r.clipped) s)))
      else countGvm (fun c => { c with discarded := inc16 c.discarded }) s := by
  obtain rfl : Fin.ofNat 8 r.tag = m := by rw [htag]; exact Fin.ofNat_val_eq_self m
  rfl

theorem gvmResult_delivered {r : AnalysisRequest} {entries : List BandResult} {m : Fin 8} {s : State}
    (htag : r.tag = m.val) (hout : s.gvm.work[m].outstanding = some r.arrival) (hpending : s.gvm.work[m].pending = none) :
    BandsDelivered r entries m s (gvmResult r entries s) := by
  rw [gvmResult_eq htag, if_pos hout]
  have hframe := foldl_evaluateEntry_frame r.clipped entries s
  have hkept (b : Fin 24) (hb : ∀ e ∈ entries, bandOf e ≠ b) :=
    (foldl_evaluateEntry_kept (b := b) r.clipped entries s hb).1
  have hdone (hnodup : (entries.map bandOf).Nodup) := foldl_evaluateEntry_done r.clipped entries hnodup s
  generalize entries.foldl (evaluateEntry r.clipped) s = v at *
  obtain ⟨hpost, hgrades, hgearbox⟩ := postBands_spec (countGvm (fun c => { c with results := inc16 c.results }) v)
  generalize postBands (countGvm (fun c => { c with results := inc16 c.results }) v) = p at *
  have hbands : p.mon.bands = v.mon.bands := hpost.bands
  have hcfg : p.cfg = v.cfg := hpost.cfg
  have hgvm : p.gvm = { v.gvm with counters := { v.gvm.counters with results := inc16 v.gvm.counters.results } } := hpost.gvm
  have hwork : p.gvm.work = s.gvm.work := by rw [hgvm, hframe.gvm]
  have hlevels : p.gvm.lastLevel = v.gvm.lastLevel := by rw [hgvm]
  rw [endOfWork_of_pending_none m p (by rw [hwork, hpending])]
  refine ⟨?_, ?_, hcfg.trans hframe.cfg, fun b hb => ?_, fun hnodup e he => ?_, ?_, ?_⟩
  · show p.gvm.counters = { s.gvm.counters with
      results := inc16 s.gvm.counters.results, learnIgnored := p.gvm.counters.learnIgnored }
    rw [hgvm, hframe.gvm]
  · rw [idled_work_self]
    exact ⟨rfl, rfl, rfl⟩
  · have hkeptBand := hkept b hb
    exact ⟨(congrArg (·[b]) hbands).trans hkeptBand.band, (congrArg (·[b]) hlevels).trans hkeptBand.lastLevel⟩
  · obtain ⟨hband, hlevel, hgraded⟩ := hdone hnodup e he
    have heq : p.mon.bands[bandOf e] = v.mon.bands[bandOf e] := congrArg (·[bandOf e]) hbands
    refine ⟨heq.trans hband, (congrArg (·[bandOf e]) hlevels).trans hlevel, fun hne harmed hk hroom => ?_⟩
    change _ ≠ p.mon.bands[bandOf e].grade at hne
    show GradeAlarmed _ _ p.mon.bands[bandOf e].grade _
    rw [heq] at hne ⊢
    refine gradeAlarmed_congr (fun c hc => ?_) (hgraded hne harmed hk hroom)
    exact hpost.alarms c _ (by rcases hc with rfl | rfl <;> decide)
  · show p.mpl.grades.bands = bandGrades p
    rw [hgrades]
    unfold bandGrades bandComponentGrade
    rw [hbands, hcfg]
    rfl
  · show p.ccu.contributions.gearbox = some (gearboxContribution p)
    rw [hgearbox]
    unfold gearboxContribution
    rw [hbands, hcfg]
    rfl

/-- The state in which a result is delivered differs from the one before only where none of these looks. -/
theorem BandsDelivered.of_finished {r : AnalysisRequest} {entries : List BandResult} {m : Fin 8} {s u t : State}
    (hu : RequestFinished r s u) (h : BandsDelivered r entries m u t) : BandsDelivered r entries m s t := by
  obtain ⟨counters, work, cfg, kept, done, grades, gearbox⟩ := h
  rw [hu.frame] at counters cfg
  refine ⟨counters, work, cfg, fun b hb => ?_, fun hnodup e he => ?_, grades, gearbox⟩
  · obtain ⟨hband, hlevel⟩ := kept b hb
    rw [hu.frame] at hband hlevel
    exact ⟨hband, hlevel⟩
  · obtain ⟨hband, hlevel, hgraded⟩ := done hnodup e he
    rw [hu.frame] at hband hgraded
    exact ⟨hband, hlevel, hgraded⟩

/-! ## The event -/

/-- The end of the request in progress: the engine's part, then the delivery unless it is discarded (R50). -/
theorem speEnd_eq {r : AnalysisRequest} {s : State} (hr : s.spe.inProgress = some r) :
    speEnd s = if r.discard then finishRequest r s else deliverResult r (analysedRows r s) (finishRequest r s) := by
  simp only [speEnd, hr]

theorem exec_requestEnd {s : State} (hop : s.ret.operating = true) :
    exec .requestEnd s = .next (rechecked s (speEnd s)) := inOperation_operating speEnd hop

theorem speEnd_frame {r : AnalysisRequest} {s : State} (hr : s.spe.inProgress = some r) :
    DeliveryFrame (finishRequest r s) (speEnd s) := by
  rw [speEnd_eq hr]
  split
  · exact ⟨rfl, rfl, rfl, rfl, rfl, rfl⟩
  · exact deliverResult_frame ..

theorem analysedRows_eq {r : AnalysisRequest} {s : State} {c : CaptureRecord} (hc : bufferOf s r.buffer = .inAnalysis c) :
    analysedRows r s = c.samples := by
  simp only [analysedRows, hc, Buffer.record]

theorem speEnd_delivered {r : AnalysisRequest} {s : State} {c : CaptureRecord} (hr : s.spe.inProgress = some r)
    (hdiscard : r.discard = false) (hc : bufferOf s r.buffer = .inAnalysis c) :
    speEnd s = deliverResult r c.samples (finishRequest r s) := by
  rw [speEnd_eq hr, hdiscard, analysedRows_eq hc]
  rfl

/-- A discarded request with nothing waiting frees its buffer and counts, and nothing else (R50). -/
theorem speEnd_discarded {r : AnalysisRequest} {s : State} (hr : s.spe.inProgress = some r) (hdiscard : r.discard = true)
    (hnext : nextRequest s = none) : speEnd s = freedState r s := by
  rw [speEnd_eq hr, hdiscard, finishRequest_eq, hnext]
  rfl

end Sys2Proof.Machine
end

section
/-! The end of a request settles its buffer, its successor and its result (R48 to R50). -/

namespace Sys2Proof.Machine

theorem RequestFinished.mon {r : AnalysisRequest} {s u : State} (h : RequestFinished r s u) : u.mon = s.mon :=
  (congrArg State.mon h.frame :)

theorem RequestFinished.ccu {r : AnalysisRequest} {s u : State} (h : RequestFinished r s u) : u.ccu = s.ccu :=
  (congrArg State.ccu h.frame :)

theorem RequestFinished.mpl {r : AnalysisRequest} {s u : State} (h : RequestFinished r s u) : u.mpl = s.mpl :=
  (congrArg State.mpl h.frame :)

theorem RequestFinished.bim {r : AnalysisRequest} {s u : State} (h : RequestFinished r s u) : u.bim = s.bim :=
  (congrArg State.bim h.frame :)

theorem RequestFinished.gvm {r : AnalysisRequest} {s u : State} (h : RequestFinished r s u) :
    u.gvm = { s.gvm with work := u.gvm.work } := (congrArg State.gvm h.frame :)

/-- A BANDS result that its measurement no longer awaits only counts DISCARDED (R75). -/
theorem gvmResult_unawaited {r : AnalysisRequest} {m : Fin 8} (htag : r.tag = m.val) (entries : List BandResult)
    {s u : State} (hu : RequestFinished r s u) (hout : s.gvm.work[m].outstanding ≠ some r.arrival) :
    let t := gvmResult r entries u
    t.gvm.counters = { s.gvm.counters with discarded := inc16 s.gvm.counters.discarded } ∧
      t.gvm.lastLevel = s.gvm.lastLevel ∧ t.mon = s.mon ∧ t.ccu = s.ccu ∧ t.mpl = s.mpl := by
  intro t
  have ht : t = countGvm (fun c => { c with discarded := inc16 c.discarded }) u := by
    rw [← (hu.work m).1] at hout
    exact (gvmResult_eq htag entries u).trans (if_neg hout)
  clear_value t
  subst ht
  refine ⟨?_, ?_, hu.mon, hu.ccu, hu.mpl⟩
  · show { u.gvm.counters with discarded := inc16 u.gvm.counters.discarded } = _
    rw [hu.gvm]
  · show u.gvm.lastLevel = _
    rw [hu.gvm]

/-- A PEAK result becomes the held peak where its step is outstanding, and else counts DISCARDED (R117). -/
theorem bimResult_bim (r : AnalysisRequest) (p : PeakResult) (s : State) :
    (bimResult r p s).bim =
      if s.bim.outstanding = some r.tag then
        { s.bim with
          outstanding := none
          heldPeak := some { step := r.tag, peak := p.peak, freq := p.freq, power := p.power, clipped := r.clipped }
          counters :=
            { s.bim.counters with
              peak := if p.peak then inc16 s.bim.counters.peak else s.bim.counters.peak
              noPeak := if p.peak then s.bim.counters.noPeak else inc16 s.bim.counters.noPeak } }
      else { s.bim with counters := { s.bim.counters with discarded := inc16 s.bim.counters.discarded } } := by
  unfold bimResult
  dsimp only
  split
  · cases hp : p.peak <;> simp [countBim]
  · rfl

theorem bandOf_analyseBand {xs : List Int} {n d speed : Nat} {p : BandPlace} {e : BandResult}
    (he : e = analyseBand xs n d speed p) {b : Fin 24} (h : p.band = b.val) : bandOf e = b := by
  rw [bandOf, (analyseBand_bins he).1, h]
  exact Fin.ofNat_val_eq_self b

/-- What the evaluation does at the band of an entry, by the mode of the band (R77 to R80). -/
theorem BandEvaluated.by_mode {clipped : Bool} {k : Nat} {e : BandResult} {s t : State}
    (h : BandEvaluated clipped k e s t) :
    let old := s.mon.bands[bandOf e]
    let new := t.mon.bands[bandOf e]
    let rise : Int := (e.level : Int) - old.baseline
    let confirm := confirmAfter s.cfg.bands[bandOf e] clipped rise old.confirm
    t.gvm.lastLevel[bandOf e] =
      { level := if e.resolved then some e.level else none, clipped := clipped, saturated := e.saturated,
        unresolved := !e.resolved } ∧
    (old.mode = .disabled → new = old) ∧
    (old.mode = .learning → new =
      if s.gvm.skipMark[bandOf e] = false ∧ e.resolved = true ∧ e.saturated = false ∧ clipped = false then
        old.learn e.level
      else old) ∧
    (old.mode = .armed → new =
      if e.resolved then
        { old with
          confirm := confirm
          grade := gradeAfter s.cfg.bands[bandOf e] clipped rise confirm old.grade }
      else old) ∧
    (old.mode = .armed → new.grade ≠ old.grade → AlarmsKeyed s → s.ccu.alarms.length + k ≤ 32 →
      (new.grade = 1 → AlarmActive .bandAlert (.band (bandOf e).val) t) ∧
      (new.grade = 2 → AlarmActive .bandAlarm (.band (bandOf e).val) t) ∧
      (old.grade = 1 → AlarmQuiet .bandAlert (.band (bandOf e).val) t) ∧
      (old.grade = 2 → AlarmQuiet .bandAlarm (.band (bandOf e).val) t)) := by
  intro old new rise confirm
  have hband : new = bandAfter s.cfg.bands[bandOf e] s.gvm.skipMark[bandOf e] clipped e old := h.band
  refine ⟨h.lastLevel, fun hmode => ?_, fun hmode => ?_, fun hmode => ?_, fun hmode hne hk hroom =>
    h.graded hne.symm hmode hk hroom⟩
  · rw [hband, bandAfter, hmode]
  · rw [hband, bandAfter, hmode]
  · rw [hband]
    simp only [bandAfter, hmode, BandState.graded]
    rfl

/-- The bands of distinct entries of a list are distinct. -/
theorem bandOf_nodup {xs : List Int} {n d speed : Nat} {list : List BandPlace} (hnodup : (list.map (·.band)).Nodup)
    (hle : ∀ p ∈ list, p.band ≤ 23) : ((list.map (analyseBand xs n d speed)).map bandOf).Nodup := by
  rw [List.map_map]
  refine List.Nodup.map_on (fun p hp q hq h => ?_) (List.Nodup.of_map _ hnodup)
  rw [Function.comp_apply, Function.comp_apply, bandOf_analyseBand rfl (b := ⟨p.band, (hle p hp).trans_lt (by decide)⟩) rfl,
    bandOf_analyseBand rfl (b := ⟨q.band, (hle q hq).trans_lt (by decide)⟩) rfl] at h
  exact List.inj_on_of_nodup_map hnodup hp hq (congrArg Fin.val h)

/-! ## The event in operation -/

/-- The state after the end of a request, with the check words of the sections it changes. -/
def requestEnded (s : State) : State := rechecked s (speEnd s)

section
variable {r : AnalysisRequest} {s : State}

theorem requestEnded_frame (hr : s.spe.inProgress = some r) : DeliveryFrame (finishRequest r s) (requestEnded s) := by
  obtain ⟨hafe, hspe, hptu, hrch, hcal, hret⟩ := speEnd_frame hr
  exact ⟨hafe, hspe, hptu, hrch, hcal, hret⟩

theorem requestEnded_discarded (hr : s.spe.inProgress = some r) (hdiscard : r.discard = true)
    (hnext : nextRequest s = none) : requestEnded s = freedState r s := by
  rw [requestEnded, speEnd_discarded hr hdiscard hnext]
  exact rechecked_kept s _ rfl rfl rfl rfl rfl

variable {c : CaptureRecord} (hr : s.spe.inProgress = some r) (hdiscard : r.discard = false)
  (hc : bufferOf s r.buffer = .inAnalysis c)
include hr hdiscard hc

theorem speEnd_bands {n d speed : Nat} {list : List BandPlace} (hmode : r.mode = .bands n d speed list) :
    speEnd s = gvmResult r (list.map (analyseBand (column c.samples 0) n d speed)) (finishRequest r s) := by
  rw [speEnd_delivered hr hdiscard hc]
  simp only [deliverResult, hmode]

theorem requestEnded_bands {n d speed : Nat} {list : List BandPlace} {m : Fin 8}
    (hmode : r.mode = .bands n d speed list) (htag : r.tag = m.val)
    (hout : s.gvm.work[m].outstanding = some r.arrival) (hpending : s.gvm.work[m].pending = none) :
    BandsDelivered r (list.map (analyseBand (column c.samples 0) n d speed)) m s (requestEnded s) := by
  have hu := finishRequest_spec r s
  have hdelivered := (gvmResult_delivered (entries := list.map (analyseBand (column c.samples 0) n d speed)) htag
    ((hu.work m).1.trans hout) ((hu.work m).2.trans hpending)).of_finished hu
  rw [← speEnd_bands hr hdiscard hc hmode] at hdelivered
  unfold requestEnded
  generalize speEnd s = v at *
  exact
    { counters := hdelivered.counters
      work := hdelivered.work
      cfg := hdelivered.cfg
      kept := fun b hb => ⟨(hdelivered.kept b hb).band, (hdelivered.kept b hb).lastLevel⟩
      done := fun hnodup e he =>
        have hdone := hdelivered.done hnodup e he
        ⟨hdone.band, hdone.lastLevel, hdone.graded⟩
      grades := hdelivered.grades
      gearbox := hdelivered.gearbox }

theorem requestEnded_unawaited {n d speed : Nat} {list : List BandPlace} {m : Fin 8}
    (hmode : r.mode = .bands n d speed list) (htag : r.tag = m.val)
    (hout : s.gvm.work[m].outstanding ≠ some r.arrival) :
    (requestEnded s).gvm.counters = { s.gvm.counters with discarded := inc16 s.gvm.counters.discarded } ∧
      (requestEnded s).gvm.lastLevel = s.gvm.lastLevel ∧ (requestEnded s).mon = s.mon ∧
      (requestEnded s).ccu = s.ccu ∧ (requestEnded s).mpl = s.mpl := by
  have h := gvmResult_unawaited htag (list.map (analyseBand (column c.samples 0) n d speed)) (finishRequest_spec r s) hout
  rw [← speEnd_bands hr hdiscard hc hmode] at h
  exact h

theorem requestEnded_peak {n d lo hi floor : Nat} (hmode : r.mode = .peak n d lo hi floor) :
    (requestEnded s).bim = (bimResult r (analysePeak (column c.samples 0) n d lo hi floor) (finishRequest r s)).bim := by
  show (speEnd s).bim = _
  rw [speEnd_delivered hr hdiscard hc]
  simp only [deliverResult, hmode]

end

/-- Settles O16: the engine's part of the end by `finishRequest_spec`, then the result at the monitor of its mode. -/
theorem requestEndSelectsNext : Obligations.RequestEndSelectsNext := by
  intro r s hop hr counted first next freed
  have hcounted : s.spe.counters.set r.source (countEnd r.discard (s.spe.counters.get r.source)) = counted := by
    simp only [counted, countEnd, inc16]
  have hnext : nextRequest s = next := nextRequest_eq s
  have hfreed : s.afe.buffers.set r.buffer .free = freed := rfl
  have hu := finishRequest_spec r s
  have hframe := requestEnded_frame hr
  have hdiscarded := requestEnded_discarded hr
  have hbands (c : CaptureRecord) := requestEnded_bands (c := c) hr
  have hunawaited (c : CaptureRecord) := requestEnded_unawaited (c := c) hr
  have hpeak (c : CaptureRecord) := requestEnded_peak (c := c) hr
  have hexec : exec .requestEnd s = .next (requestEnded s) := exec_requestEnd hop
  clear_value counted next freed
  clear first
  subst hnext
  refine ⟨requestEnded s, hexec, ?_⟩
  generalize requestEnded s = t at hframe hdiscarded hbands hunawaited hpeak ⊢
  clear hexec
  refine ⟨?_, ?_, ?_, ?_, ?_, fun hnone => ?_, fun q c hq hfull => ?_, ?_, ?_, ?_, ?_, fun hdiscard hnone => ?_,
    fun c hdiscard hc => ?_⟩
  · rw [hframe.spe, hu.inProgress]
  · rw [hframe.spe, hu.arrival]
  · rw [hframe.spe, hu.counters, hcounted]
  · exact (congrArg SpeState.queue hframe.spe).trans hu.queue
  · exact (congrArg SpeState.marker hframe.spe).trans hu.marker
  · rw [hframe.afe, hu.buffers, hnone, hfreed]
  · rw [hframe.afe, hu.buffers, hq, hfreed]
    dsimp only
    rw [hfull]
    rfl
  · exact hframe.ptu.trans (congrArg State.ptu hu.frame :)
  · exact hframe.rch.trans (congrArg State.rch hu.frame :)
  · exact hframe.cal.trans (congrArg State.cal hu.frame :)
  · exact hframe.ret.trans (congrArg State.ret hu.frame :)
  · rw [hdiscarded hdiscard hnone, freedState, hcounted, hfreed]
  · intro xs
    refine ⟨fun n d speed list m hmode htag => ⟨hunawaited c hdiscard hc hmode htag,
      fun hout hpending hnodup hle => ?_⟩, fun n d lo hi floor hmode => ?_⟩
    · have hdelivered : BandsDelivered r (list.map (analyseBand xs n d speed)) m s t :=
        hbands c hdiscard hc hmode htag hout hpending
      obtain ⟨hwork, houtstanding, hcontext⟩ := hdelivered.work
      clear_value xs
      refine ⟨hdelivered.counters, hwork, houtstanding, hcontext, fun b hb => ?_, fun b p hp hband => ?_, fun k => ?_, ?_⟩
      · have hother : ∀ e ∈ list.map (analyseBand xs n d speed), bandOf e ≠ b := by
          intro e he hbe
          obtain ⟨p, hp, hpe⟩ := List.mem_map.mp he
          have hself := bandOf_analyseBand hpe.symm (b := ⟨p.band, (hle p hp).trans_lt (by decide)⟩) rfl
          exact hb p hp (congrArg Fin.val (hself.symm.trans hbe))
        exact ⟨(hdelivered.kept b hother).band, (hdelivered.kept b hother).lastLevel⟩
      · intro e
        have he : bandOf e = b := bandOf_analyseBand rfl hband
        have hdone : BandEvaluated r.clipped (list.map (analyseBand xs n d speed)).length e s t :=
          hdelivered.done (bandOf_nodup hnodup hle) e (List.mem_map_of_mem hp)
        rw [List.length_map] at hdone
        clear_value e
        subst he
        exact hdone.by_mode
      · have hgreatest := bandComponentGrade_greatest t k
        have hk : t.mpl.grades.bands[k] = bandComponentGrade t k := by
          rw [hdelivered.grades]
          simp [bandGrades]
        rw [hdelivered.cfg, ← hk] at hgreatest
        exact hgreatest
      · have hleast := gearboxContribution_least t
        rw [hdelivered.cfg] at hleast
        exact ⟨gearboxContribution t, hdelivered.gearbox, hleast⟩
    · intro p
      have hbim : t.bim = (bimResult r p (finishRequest r s)).bim := hpeak c hdiscard hc hmode
      rw [bimResult_bim, hu.bim] at hbim
      clear_value p
      exact ⟨fun hout => hbim.trans (if_pos hout), fun hout => hbim.trans (if_neg hout)⟩

end Sys2Proof.Machine
end

section
/-! The values of the grid monitor over the real numbers (R94, R95, R98). -/

namespace Sys2Proof.Machine

/-! ## Floors by binary search, with a limit -/

theorem greatestFrom_full {p : Nat → Bool} {r : ℝ} (hp : ∀ v, p v = true ↔ (v : ℝ) ≤ r) (bits acc : Nat)
    (h : (acc : ℝ) + 2 ^ bits ≤ r) : greatestFrom p bits acc = acc + 2 ^ bits - 1 := by
  induction bits generalizing acc with
  | zero => rfl
  | succ b ih =>
    rw [pow_succ] at h
    have hpos : (0 : ℝ) < 2 ^ b := by positivity
    have hstep : p (acc + 2 ^ b) = true := (hp _).2 (by push_cast; linarith)
    rw [greatestFrom, if_pos hstep, ih _ (by push_cast; linarith), pow_succ]
    omega

/-- The search gives the floor, or its greatest value where the floor is beyond it. -/
theorem greatest_eq_min_floor {p : Nat → Bool} {r : ℝ} (hp : ∀ v, p v = true ↔ (v : ℝ) ≤ r) (bits : Nat) (hlo : 0 ≤ r) :
    greatest bits p = min (2 ^ bits - 1) ⌊r⌋₊ := by
  rcases lt_or_ge r (2 ^ bits) with h | h
  · have hfloor : ⌊r⌋₊ < 2 ^ bits := (Nat.floor_lt hlo).2 (by exact_mod_cast h)
    rw [greatest_eq_floor hp hlo h]
    omega
  · have hfloor : 2 ^ bits ≤ ⌊r⌋₊ := Nat.le_floor (by exact_mod_cast h)
    have hfull := greatestFrom_full hp bits 0 (by simpa using h)
    rw [greatest, hfull]
    omega

/-! ## The values -/

/-- The test of the search for a THD (R95). -/
theorem thd_test_iff {m1 : Nat} (h : m1 ≠ 0) (sum v : Nat) :
    decide ((v * m1) ^ 2 ≤ 100000000 * sum) = true ↔ (v : ℝ) ≤ 10000 * Real.sqrt sum / m1 := by
  have hpos : (0 : ℝ) < m1 := by exact_mod_cast Nat.pos_of_ne_zero h
  have hroot : 10000 * Real.sqrt sum = Real.sqrt (100000000 * sum) := by
    rw [Real.sqrt_mul (by norm_num), show (100000000 : ℝ) = 10000 ^ 2 by norm_num, Real.sqrt_sq (by norm_num)]
  rw [decide_eq_true_iff, le_div_iff₀ hpos, hroot, Real.le_sqrt (by positivity) (by positivity)]
  exact_mod_cast Iff.rfl

/-- The search for a THD gives the floor, or 65535 where that is less (R95). -/
theorem thd_search {m1 : Nat} (h : m1 ≠ 0) (sum : Nat) :
    (greatest 16 fun v => (v * m1) ^ 2 ≤ 100000000 * sum) = min 65535 ⌊10000 * Real.sqrt sum / m1⌋₊ := by
  have hsearch := greatest_eq_min_floor (thd_test_iff h sum) 16 (by positivity)
  norm_num at hsearch
  exact hsearch

theorem sum_map_range_add_two (f : Nat → Nat) (n : Nat) :
    ((List.range n).map fun i => f (i + 2)).sum = ∑ h ∈ Finset.Ico 2 (n + 2), f h := by
  induction n with
  | zero => rfl
  | succ n ih =>
    rw [List.range_succ, List.map_append, List.sum_append, ih, show n + 1 + 2 = n + 2 + 1 by omega,
      Finset.sum_Ico_succ_top (Nat.le_add_left 2 n)]
    simp

theorem thdOf_eq {mags : List (List Nat)} {ch : Nat} (h : magnitudeAt mags ch 1 ≠ 0) :
    thdOf mags ch =
      min 65535 ⌊10000 * Real.sqrt (∑ h ∈ Finset.Icc 2 40, (magnitudeAt mags ch h : ℝ) ^ 2) / magnitudeAt mags ch 1⌋₊ := by
  have hsum : ((((List.range 39).map fun i => magnitudeAt mags ch (i + 2) ^ 2).sum : Nat) : ℝ) =
      ∑ h ∈ Finset.Icc 2 40, (magnitudeAt mags ch h : ℝ) ^ 2 := by
    rw [sum_map_range_add_two (fun h => magnitudeAt mags ch h ^ 2) 39, Nat.cast_sum]
    exact Finset.sum_congr rfl fun h _ => Nat.cast_pow ..
  rw [← hsum, thdOf]
  exact thd_search h _

theorem harmonicRatio_eq {m1 : Nat} (h : m1 ≠ 0) (order mh : Nat) :
    harmonicRatio m1 order mh = min 65535 ⌊(10000 * mh : ℝ) / m1⌋₊ := by
  rw [harmonicRatio, if_neg h, min_comm]
  congr 1
  rw [← Nat.floor_div_eq_div (K := ℝ)]
  push_cast
  rfl

theorem harmonicRatios_getElem? {mags : List (List Nat)} {ch h : Nat} (hlo : 2 ≤ h) (hhi : h ≤ 40) :
    (harmonicRatios mags ch).toList[h - 2]? =
      some (harmonicRatio (magnitudeAt mags ch 1) h (magnitudeAt mags ch h)) := by
  have hlt : h - 2 < 39 := by omega
  have horder : h - 2 + 2 = h := by omega
  simp [harmonicRatios, hlt, horder]

theorem root_of_count_zero (q : SquareSum) (h : q.count = 0) : q.root = none := if_pos h

/-- The test of the search for the root of a mean square (R98). -/
theorem root_test_iff {den : Nat} (h : den ≠ 0) (num v : Nat) :
    decide (v * v * den ≤ num) = true ↔ (v : ℝ) ≤ Real.sqrt (num / den) := by
  have hpos : (0 : ℝ) < den := by exact_mod_cast Nat.pos_of_ne_zero h
  rw [decide_eq_true_iff, Real.le_sqrt (by positivity) (by positivity), le_div_iff₀ hpos, pow_two]
  exact_mod_cast Iff.rfl

theorem root_eq {q : SquareSum} (h : q.count ≠ 0) (hlt : q.sum < 4294967296 * q.count) :
    q.root = some ⌊Real.sqrt ((q.sum : ℝ) / q.count)⌋₊ := by
  have hpos : (0 : ℝ) < q.count := by exact_mod_cast Nat.pos_of_ne_zero h
  have hroot : Real.sqrt ((q.sum : ℝ) / q.count) < 2 ^ 16 := by
    rw [Real.sqrt_lt' (by norm_num), div_lt_iff₀ hpos]
    have hcast : (q.sum : ℝ) < 4294967296 * q.count := by exact_mod_cast hlt
    linarith
  rw [SquareSum.root, if_neg h, rootRatio, greatest_eq_floor (root_test_iff h q.sum) (Real.sqrt_nonneg _) hroot]

end Sys2Proof.Machine
end

section
/-! The evaluation and settlement of an ended window (R94 to R99). -/

namespace Sys2Proof.Machine

/-! ## The slot of a settled window (R97, R98) -/

/-- The GHM after a slot joined the open block, which completes at its 15th. -/
def GhmState.slotAdded (g : GhmState) : GhmState :=
  let b := { g.block with slots := g.block.slots + 1 }
  { g with
    block := if b.slots = 15 then GridBlock.empty else b
    counters :=
      { g.counters with
        emptyBlock := if b.slots = 15 ∧ b.analysed = 0 then inc16 g.counters.emptyBlock else g.counters.emptyBlock }
    lastSummary :=
      if b.slots = 15 ∧ b.analysed ≠ 0 then some (summaryOf (b.sums.map SquareSum.root) b) else g.lastSummary
    interval := if b.slots = 15 ∧ b.analysed ≠ 0 then g.interval.addValue (b.sums.map SquareSum.root) else g.interval }

theorem addSlot_ghm (s : State) : (addSlot s).ghm = s.ghm.slotAdded := by
  unfold addSlot completeBlock GhmState.slotAdded
  by_cases hslots : s.ghm.block.slots + 1 = 15
  · by_cases hanalysed : s.ghm.block.analysed = 0
    · simp [withGhm, countGhm, hslots, hanalysed]
    · simp [withGhm, hslots, hanalysed, summaryOf]
  · simp [withGhm, hslots]

/-- The settlement of a window whose values have joined, but for the day record. -/
def GhmState.settled (n : Nat) (o : WindowOutcome) (g : GhmState) : GhmState :=
  GhmState.slotAdded { g with entries := settledEntries n o g.entries, counters := countOutcome o g.counters }

theorem settleWindow_settled (n : Nat) (o : WindowOutcome) (s : State) :
    (settleWindow n o s).ghm = s.ghm.settled n o := by
  unfold settleWindow
  rw [addSlot_ghm, reportOutcome_ghm]
  rfl

/-- A window that is not MISSED is no analysis skip (R97). -/
theorem settleWindow_plan {o : WindowOutcome} (h : o.isMissed = false) (n : Nat) (s : State) :
    (settleWindow n o s).plan = s.plan := by
  unfold settleWindow
  rw [(addSlot_eq _).1, reportOutcome, h]
  rfl

/-! ## The evaluation (R95 to R97) -/

/-- The class and the NO_FUNDAMENTAL count of an evaluated window (R95, R96). -/
def GhmState.judged (v : PerPhase Nat) (g : GhmState) : GhmState :=
  { g.classed (classOf v) with
    counters :=
      { g.counters with
        noFundamental := if v.toList.any (· < 1000) then inc16 g.counters.noFundamental else g.counters.noFundamental } }

/-- An evaluated window that is disturbed joins with its frequency alone (R97, R98). -/
def GhmState.excluded (n freq : Nat) (g : GhmState) : GhmState :=
  GhmState.settled n .excluded
    { g with
      block := g.block.addFreq freq
      interval := { g.interval.addFreq freq with disturbed := inc16 g.interval.disturbed } }

/-- One that is not joins with its values and becomes the last (R97, R98). -/
def GhmState.analysed (w : LastWindow) (g : GhmState) : GhmState :=
  GhmState.settled w.number .analysed
    { g with lastWindow := some w, block := g.block.addWindow w, interval := g.interval.addFreq w.freq }

theorem classed_counters (c : WindowClass) (g : GhmState) : (g.classed c).counters = g.counters := by
  cases c with
  | disturbed => unfold GhmState.classed GhmState.disturb; dsimp only; split <;> rfl
  | clean | marginal => rfl

theorem judged_ghm (v : PerPhase Nat) (s : State) :
    countNoFundamental v (withGhm (GhmState.classed (classOf v)) s) = withGhm (GhmState.judged v) s := by
  unfold countNoFundamental
  split
  · next h => simp only [countGhm, withGhm, GhmState.judged, h, if_true, classed_counters]
  · next h =>
    have hsame : s.ghm.judged v = s.ghm.classed (classOf v) := by
      rw [GhmState.judged, if_neg h, ← classed_counters (classOf v) s.ghm]
    rw [withGhm, withGhm, hsame]

theorem evaluateWindow_ghm (n freq : Nat) (mags : List (List Nat)) (s : State) :
    (evaluateWindow n freq mags s).ghm =
      let g := s.ghm.judged (voltageLevels s.cfg.ghm mags)
      if g.disturbed then g.excluded n freq else g.analysed (windowValues s.cfg.ghm n freq mags) := by
  unfold evaluateWindow
  dsimp only
  rw [judged_ghm]
  by_cases h : (s.ghm.judged (voltageLevels s.cfg.ghm mags)).disturbed = true
  · rw [if_pos (by exact h), if_pos h, settleWindow_settled, joinExcluded, addDisturbedWindow, reportDay_ghm]
    rfl
  · rw [if_neg (by exact h), if_neg h, settleWindow_settled]
    rfl

/-- A disturbed window counts in the day record of the moment (R97). -/
theorem evaluateWindow_day (n freq : Nat) (mags : List (List Nat)) (s : State) :
    (reportedDay (evaluateWindow n freq mags s)).disturbed =
      if (s.ghm.judged (voltageLevels s.cfg.ghm mags)).disturbed then inc16 (reportedDay s).disturbed
      else (reportedDay s).disturbed := by
  have hday {t u : State} (hcal : t.cal = u.cal) (hplan : t.plan = u.plan) : reportedDay t = reportedDay u := by
    rw [reportedDay, reportedDay, hcal, hplan]
  have hcal (o : WindowOutcome) (t : State) : (settleWindow n o t).cal = t.cal := by rw [settleWindow_eq]
  unfold evaluateWindow
  dsimp only
  rw [judged_ghm]
  by_cases h : (s.ghm.judged (voltageLevels s.cfg.ghm mags)).disturbed = true
  · rw [if_pos (by exact h), if_pos h, hday (hcal ..) (settleWindow_plan rfl ..), joinExcluded, addDisturbedWindow,
      reportedDay_reportDay]
    rfl
  · rw [if_neg (by exact h), if_neg h, hday (hcal ..) (settleWindow_plan rfl ..)]
    rfl

end Sys2Proof.Machine
end

section
/-! A HARMONICS result at the GHM (R94 to R99): the window that awaits it, and what its evaluation leaves. -/

namespace Sys2Proof.Machine

/-! ## The judged and evaluated GHM, field by field -/

/-- Whether a voltage level makes a window disturbed (R96). -/
def anyOut (v : PerPhase Nat) : Bool := v.toList.any fun x => x < 9000 || 11000 < x

/-- Whether all of them make it clean (R96). -/
def allIn (v : PerPhase Nat) : Bool := v.toList.all fun x => 9200 ≤ x && x ≤ 10800

theorem judged_eq (v : PerPhase Nat) (g : GhmState) :
    g.judged v =
      { g with
        disturbed := if anyOut v then true else if allIn v then false else g.disturbed
        disturbances := if anyOut v && !g.disturbed then next16 g.disturbances else g.disturbances
        counters :=
          { g.counters with
            noFundamental :=
              if v.toList.any (· < 1000) then inc16 g.counters.noFundamental else g.counters.noFundamental } } := by
  have hclass : classOf v = if anyOut v then .disturbed else if allIn v then .clean else .marginal := rfl
  unfold GhmState.judged
  rw [hclass]
  cases anyOut v with
  | true => cases hd : g.disturbed <;> simp [GhmState.classed, GhmState.disturb, hd]
  | false => cases allIn v <;> simp [GhmState.classed]

/-- The outcome of an evaluated window (R97). -/
def evaluationOutcome (g : GhmState) : WindowOutcome := if g.disturbed then .excluded else .analysed

/-- The judged GHM after the evaluation of a window with the given values. -/
def GhmState.evaluated (w : LastWindow) (g : GhmState) : GhmState :=
  if g.disturbed then g.excluded w.number w.freq else g.analysed w

/-- The open block with an evaluated window, before its slot is counted (R98). -/
def joinedBlock (w : LastWindow) (g : GhmState) : GridBlock :=
  { g.block with
    sums := if g.disturbed then g.block.sums else g.block.sums.zip SquareSum.add w.quantities
    freqSum := g.block.freqSum + w.freq
    freqCount := g.block.freqCount + 1
    analysed := if g.disturbed then g.block.analysed else g.block.analysed + 1 }

/-- The counters with the outcome of an evaluated window (R97, R109). -/
def joinedCounters (g : GhmState) : GhmCounters :=
  { g.counters with
    excluded := if g.disturbed then inc16 g.counters.excluded else g.counters.excluded
    analysed := if g.disturbed then g.counters.analysed else inc16 g.counters.analysed }

/-- The evaluation of a window field by field: its values or its frequency alone join, then its slot is counted. -/
theorem evaluated_eq (w : LastWindow) (g : GhmState) :
    g.evaluated w = GhmState.slotAdded
      { g with
        entries := settledEntries w.number (evaluationOutcome g) g.entries
        lastWindow := if g.disturbed then g.lastWindow else some w
        block := joinedBlock w g
        interval :=
          { g.interval.addFreq w.freq with
            disturbed := if g.disturbed then inc16 g.interval.disturbed else g.interval.disturbed }
        counters := joinedCounters g } := by
  obtain ⟨window, entries, nextWindow, lastWindow, disturbed, disturbances, block, lastSummary, interval, counters⟩ := g
  cases disturbed with
  | true => exact congrArg GhmState.slotAdded rfl
  | false => exact congrArg GhmState.slotAdded rfl

/-! ## The entries -/

/-- The entries of a window that was ENDED are gone once it is settled, with every other both ENDED and settled (R89). -/
theorem settledEntries_eq_filter {n : Nat} (o : WindowOutcome) {l : List WindowEntry}
    (h : ∀ x ∈ l, x.number = n → x.ended = true) :
    settledEntries n o l = l.filter fun x => x.number ≠ n && !(x.ended && x.outcome.isSome) := by
  unfold settledEntries
  induction l with
  | nil => rfl
  | cons x l ih =>
    rw [List.map_cons, List.filter_cons, List.filter_cons, ih fun y hy => h y (List.mem_cons_of_mem x hy)]
    by_cases hx : x.number = n
    · simp [hx, WindowEntry.stays, h x List.mem_cons_self hx]
    · simp [hx, WindowEntry.stays]

/-- An entry when the GHM request of a queue begins, if one does (R94). -/
def begunEntry (queue : List AnalysisRequest) (x : WindowEntry) : WindowEntry :=
  match oldestOf .ghm queue with
  | some q => if x.request = .queued q.arrival then { x with request := .analysing q.arrival } else x
  | none => x

theorem begunEntry_fields (queue : List AnalysisRequest) (x : WindowEntry) :
    (begunEntry queue x).number = x.number ∧ (begunEntry queue x).ended = x.ended ∧
      (begunEntry queue x).outcome = x.outcome ∧ (begunEntry queue x).closing = x.closing := by
  unfold begunEntry
  split
  · split <;> exact ⟨rfl, rfl, rfl, rfl⟩
  · exact ⟨rfl, rfl, rfl, rfl⟩

/-- An entry in analysis stays as it is when another request begins. -/
theorem begunEntry_analysing (queue : List AnalysisRequest) {x : WindowEntry} {a : Nat} (h : x.request = .analysing a) :
    begunEntry queue x = x := by
  unfold begunEntry
  split
  · exact if_neg (by simp [h])
  · rfl

/-- Whether an entry awaits a result does not depend on the request that begins after it. -/
theorem awaits_begunEntry (queue : List AnalysisRequest) (r : AnalysisRequest) (x : WindowEntry) :
    (begunEntry queue x).awaits r = x.awaits r := by
  unfold begunEntry
  split
  · next q _ =>
    split
    · next hx => simp [WindowEntry.awaits, hx]
    · rfl
  · rfl

theorem awaits_iff (r : AnalysisRequest) (x : WindowEntry) :
    x.awaits r = true ↔ x.number = r.tag ∧ (x.request = .queued r.arrival ∨ x.request = .analysing r.arrival) := by
  simp [WindowEntry.awaits]

theorem find?_awaits_begun (queue : List AnalysisRequest) (r : AnalysisRequest) (l : List WindowEntry) :
    (l.map (begunEntry queue)).find? (WindowEntry.awaits r) = (l.find? (WindowEntry.awaits r)).map (begunEntry queue) := by
  rw [List.find?_map]
  congr 1
  exact List.find?_congr fun x _ => awaits_begunEntry queue r x

/-- The settlement of an ENDED window, seen before the next request began. -/
theorem settledEntries_begun {n : Nat} (o : WindowOutcome) (queue : List AnalysisRequest) {l : List WindowEntry}
    (h : ∀ x ∈ l, x.number = n → x.ended = true) :
    settledEntries n o (l.map (begunEntry queue)) =
      (l.filter fun x => x.number ≠ n && !(x.ended && x.outcome.isSome)).map (begunEntry queue) := by
  rw [settledEntries_eq_filter o fun x hx hn => ?_, List.filter_map]
  · congr 2
    funext x
    obtain ⟨hnumber, hended, houtcome, -⟩ := begunEntry_fields queue x
    simp only [Function.comp_apply, hnumber, hended, houtcome]
  · obtain ⟨y, hy, rfl⟩ := List.mem_map.mp hx
    obtain ⟨hnumber, hended, -, -⟩ := begunEntry_fields queue y
    rw [hended]
    exact h y hy (hnumber.symm.trans hn)

theorem RequestFinished.ghm {r : AnalysisRequest} {s u : State} (h : RequestFinished r s u) :
    u.ghm = { s.ghm with entries := s.ghm.entries.map (begunEntry s.spe.queue) } := by
  have hghm : u.ghm = { s.ghm with entries := u.ghm.entries } := (congrArg State.ghm h.frame :)
  have hentries : u.ghm.entries = s.ghm.entries.map (begunEntry s.spe.queue) := by
    rw [h.entries]
    refine (begunEntries_nextRequest s).trans ?_
    cases hq : oldestOf .ghm s.spe.queue with
    | none =>
      have hbegun : begunEntry s.spe.queue = id := by funext x; simp only [begunEntry, hq]; rfl
      rw [hbegun, List.map_id]
    | some q =>
      have hbegun : begunEntry s.spe.queue = fun x =>
          if x.request = .queued q.arrival then { x with request := .analysing q.arrival } else x := by
        funext x
        simp only [begunEntry, hq]
      rw [hbegun]
  rw [hghm, hentries]

end Sys2Proof.Machine
end

section
/-! The end of a HARMONICS request (R50, R94 to R99). -/

namespace Sys2Proof.Machine

section
variable {r : AnalysisRequest} {s : State}

theorem RequestFinished.day {u : State} (h : RequestFinished r s u) : reportedDay u = reportedDay s := by
  rw [h.frame]
  rfl

/-- Without an entry that awaits it a result only counts DISCARDED (R94). -/
theorem ghmResult_unawaited {u : State} (hu : RequestFinished r s u) (mags : List (List Nat))
    (h : ∀ x ∈ s.ghm.entries, x.number = r.tag → x.request ≠ .queued r.arrival ∧ x.request ≠ .analysing r.arrival) :
    ghmResult r mags u = countGhm (fun c => { c with discarded := inc16 c.discarded }) u := by
  have hnone : s.ghm.entries.find? (WindowEntry.awaits r) = none := by
    refine List.find?_eq_none.mpr fun x hx hawaits => ?_
    obtain ⟨hnumber, hrequest⟩ := (awaits_iff r x).mp hawaits
    obtain ⟨hqueued, hanalysing⟩ := h x hx hnumber
    exact hrequest.elim hqueued hanalysing
  have hentries : u.ghm.entries.find? (WindowEntry.awaits r) = none := by
    rw [hu.ghm]
    exact (find?_awaits_begun s.spe.queue r s.ghm.entries).trans (by rw [hnone]; rfl)
  simp only [ghmResult, hentries]

/-- The one entry of its number that awaits a result in analysis has its window evaluated (R94, R95). -/
theorem ghmResult_awaited {u : State} (hu : RequestFinished r s u) (mags : List (List Nat)) {e : WindowEntry}
    {closing : PulseResult} (he : e ∈ s.ghm.entries) (hone : ∀ x ∈ s.ghm.entries, x.number = e.number → x = e)
    (htag : e.number = r.tag) (hrequest : e.request = .analysing r.arrival) (hclosing : e.closing = some closing) :
    ghmResult r mags u = evaluateWindow e.number closing.freq mags u := by
  have hawaits : e.awaits r = true := (awaits_iff r e).mpr ⟨htag, .inr hrequest⟩
  have hsome : s.ghm.entries.find? (WindowEntry.awaits r) = some e := by
    obtain ⟨x, hx⟩ := Option.isSome_iff_exists.mp (List.find?_isSome.mpr ⟨e, he, hawaits⟩)
    obtain ⟨hnumber, -⟩ := (awaits_iff r x).mp (List.find?_some hx)
    rw [hx, hone x (List.mem_of_find?_eq_some hx) (hnumber.trans htag.symm)]
  have hentries : u.ghm.entries.find? (WindowEntry.awaits r) = some e := by
    rw [hu.ghm]
    refine (find?_awaits_begun s.spe.queue r s.ghm.entries).trans ?_
    rw [hsome, Option.map_some, begunEntry_analysing s.spe.queue hrequest]
  simp only [ghmResult, hentries, hclosing, Option.map_some, Option.getD_some]

/-- What the end of a HARMONICS request leaves of the rest. -/
structure GridFrame (s t : State) : Prop where
  cfg : t.cfg = s.cfg
  mon : t.mon = s.mon
  ccu : t.ccu = s.ccu
  records : t.records = s.records

theorem GridOnly.gridFrame {t : State} (h : GridOnly s t) : GridFrame s t :=
  ⟨(congrArg State.cfg h :), (congrArg State.mon h :), (congrArg State.ccu h :), (congrArg State.records h :)⟩

theorem RequestFinished.gridFrame {u : State} (h : RequestFinished r s u) : GridFrame s u :=
  ⟨(congrArg State.cfg h.frame :), h.mon, h.ccu, (congrArg State.records h.frame :)⟩

variable {c tk stored : Nat} {cap : CaptureRecord} (hr : s.spe.inProgress = some r) (hdiscard : r.discard = false)
  (hmode : r.mode = .harmonics c tk stored) (hcap : bufferOf s r.buffer = .inAnalysis cap)
include hr hdiscard hmode hcap

theorem speEnd_harmonics :
    speEnd s = ghmResult r (analyseHarmonics cap.samples c tk stored) (finishRequest r s) := by
  rw [speEnd_delivered hr hdiscard hcap]
  simp only [deliverResult, hmode]

theorem requestEnded_gridFrame : GridFrame s (requestEnded s) := by
  have hgrid := (ghmResult_gridOnly r (analyseHarmonics cap.samples c tk stored) (finishRequest r s)).gridFrame
  rw [← speEnd_harmonics hr hdiscard hmode hcap] at hgrid
  obtain ⟨hcfg, hmon, hccu, hrecords⟩ := (finishRequest_spec r s).gridFrame
  exact ⟨hgrid.cfg.trans hcfg, hgrid.mon.trans hmon, hgrid.ccu.trans hccu, hgrid.records.trans hrecords⟩

theorem requestEnded_ghm_unawaited
    (h : ∀ x ∈ s.ghm.entries, x.number = r.tag → x.request ≠ .queued r.arrival ∧ x.request ≠ .analysing r.arrival) :
    (requestEnded s).ghm =
        { s.ghm with
          entries := s.ghm.entries.map (begunEntry s.spe.queue)
          counters := { s.ghm.counters with discarded := inc16 s.ghm.counters.discarded } } ∧
      (requestEnded s).plan = s.plan := by
  have hu := finishRequest_spec r s
  have hend := (speEnd_harmonics hr hdiscard hmode hcap).trans (ghmResult_unawaited hu _ h)
  refine ⟨?_, ?_⟩
  · show (speEnd s).ghm = _
    rw [hend]
    show { (finishRequest r s).ghm with
      counters := { (finishRequest r s).ghm.counters with discarded := inc16 (finishRequest r s).ghm.counters.discarded } } = _
    rw [hu.ghm]
  · show (speEnd s).plan = _
    rw [hend]
    exact (congrArg State.plan hu.frame :)

/-- The state in which an awaited window is evaluated: its voltage levels judged, the next request begun. -/
theorem requestEnded_ghm_awaited {e : WindowEntry} {closing : PulseResult} {mags : List (List Nat)}
    (hmags : analyseHarmonics cap.samples c tk stored = mags) (he : e ∈ s.ghm.entries)
    (hone : ∀ x ∈ s.ghm.entries, x.number = e.number → x = e) (htag : e.number = r.tag)
    (hrequest : e.request = .analysing r.arrival) (hclosing : e.closing = some closing) {judged : GhmState}
    (hjudged : judged = GhmState.judged (voltageLevels s.cfg.ghm mags)
      { s.ghm with entries := s.ghm.entries.map (begunEntry s.spe.queue) }) :
    (requestEnded s).ghm = judged.evaluated (windowValues s.cfg.ghm e.number closing.freq mags) ∧
      (reportedDay (requestEnded s)).disturbed =
        if judged.disturbed then inc16 (reportedDay s).disturbed else (reportedDay s).disturbed := by
  have hu := finishRequest_spec r s
  have hcfg : (finishRequest r s).cfg = s.cfg := (congrArg State.cfg hu.frame :)
  have hend := (speEnd_harmonics hr hdiscard hmode hcap).trans (ghmResult_awaited hu _ he hone htag hrequest hclosing)
  rw [hmags] at hend
  have hghm := evaluateWindow_ghm e.number closing.freq mags (finishRequest r s)
  have hday := evaluateWindow_day e.number closing.freq mags (finishRequest r s)
  rw [hcfg, hu.ghm, ← hjudged] at hghm hday
  rw [hu.day] at hday
  rw [← hend] at hghm hday
  exact ⟨hghm, hday⟩

end

theorem primaryValues_eq (cfg : GhmConfig) (mags : List (List Nat)) :
    primaryValues cfg mags =
      #v[magnitudeAt mags 0 1 * cfg.vtRatio * 5 / 25600, magnitudeAt mags 1 1 * cfg.vtRatio * 5 / 25600,
        magnitudeAt mags 2 1 * cfg.vtRatio * 5 / 25600, magnitudeAt mags 3 1 * cfg.ctRatio / 256000,
        magnitudeAt mags 4 1 * cfg.ctRatio / 256000, magnitudeAt mags 5 1 * cfg.ctRatio / 256000] := by
  refine Vector.ext fun i hi => ?_
  match i, hi with
  | 0, _ | 1, _ | 2, _ | 3, _ | 4, _ | 5, _ => simp [primaryValues]

end Sys2Proof.Machine
end

section
/-! The values of the grid monitor and the settlement of its windows. -/

namespace Sys2Proof.Machine

/-- The open block with an evaluated window and its slot, before it completes (R98). -/
def evaluatedBlock (w : LastWindow) (g : GhmState) : GridBlock :=
  { sums := if g.disturbed then g.block.sums else g.block.sums.zip SquareSum.add w.quantities
    freqSum := g.block.freqSum + w.freq
    freqCount := g.block.freqCount + 1
    slots := g.block.slots + 1
    analysed := if g.disturbed then g.block.analysed else g.block.analysed + 1 }

/-- The GHM `h` after the evaluation of a window with the values `w`, whose block before it completes is `b`. -/
structure WindowEvaluated (w : LastWindow) (b : GridBlock) (g h : GhmState) : Prop where
  disturbed : h.disturbed = g.disturbed
  disturbances : h.disturbances = g.disturbances
  window : h.window = g.window
  nextWindow : h.nextWindow = g.nextWindow
  entries : h.entries = settledEntries w.number (evaluationOutcome g) g.entries
  lastWindow : h.lastWindow = if g.disturbed then g.lastWindow else some w
  block : h.block = if b.slots = 15 then GridBlock.empty else b
  lastSummary : h.lastSummary =
    if b.slots = 15 ∧ b.analysed ≠ 0 then
      some
        { vThd := b.sums.thd.map SquareSum.root, iThd := b.sums.currentThd.map SquareSum.root
          freq := b.freqSum / b.freqCount }
    else g.lastSummary
  interval : h.interval =
    { g.interval with
      sums :=
        if b.slots = 15 ∧ b.analysed ≠ 0 then g.interval.sums.zip SquareSum.add (b.sums.map SquareSum.root)
        else g.interval.sums
      values := if b.slots = 15 ∧ b.analysed ≠ 0 then g.interval.values + 1 else g.interval.values
      freqSum := g.interval.freqSum + w.freq
      freqCount := g.interval.freqCount + 1
      disturbed := if g.disturbed then inc16 g.interval.disturbed else g.interval.disturbed }
  counters : h.counters =
    { g.counters with
      excluded := if g.disturbed then inc16 g.counters.excluded else g.counters.excluded
      analysed := if g.disturbed then g.counters.analysed else inc16 g.counters.analysed
      emptyBlock := if b.slots = 15 ∧ b.analysed = 0 then inc16 g.counters.emptyBlock else g.counters.emptyBlock }

theorem evaluated_spec (w : LastWindow) (g : GhmState) : WindowEvaluated w (evaluatedBlock w g) g (g.evaluated w) := by
  rw [evaluated_eq]
  refine ⟨rfl, rfl, rfl, rfl, rfl, rfl, rfl, rfl, ?_, rfl⟩
  unfold GhmState.slotAdded
  dsimp only
  by_cases h : (joinedBlock w g).slots + 1 = 15 ∧ (joinedBlock w g).analysed ≠ 0
  · have hblock : (evaluatedBlock w g).slots = 15 ∧ (evaluatedBlock w g).analysed ≠ 0 := h
    simp only [if_pos h, if_pos hblock]
    rfl
  · have hblock : ¬ ((evaluatedBlock w g).slots = 15 ∧ (evaluatedBlock w g).analysed ≠ 0) := h
    simp only [if_neg h, if_neg hblock]
    rfl

/-- Settles O30: the values by `thdOf_eq`, `harmonicRatio_eq` and `root_eq`, the settlement by `evaluated_eq`. -/
theorem gridValuesAreExact : Obligations.GridValuesAreExact := by
  refine ⟨fun mags ch hm1 => ⟨thdOf_eq hm1, fun h hlo hhi => ?_⟩, root_of_count_zero, fun q => root_eq,
    fun s r c tk stored cap hop hr hdiscard hmode hcap => ?_⟩
  · rw [harmonicRatios_getElem? hlo hhi, harmonicRatio_eq hm1]
  intro up day g begun cfg mags m1 volt amp present plus
  have hexec : exec .requestEnd s = .next (requestEnded s) := exec_requestEnd hop
  have hbegun : begun = begunEntry s.spe.queue := rfl
  have hplus : (@plus) = SquareSum.add := by
    funext q v
    cases v with
    | none => rfl
    | some x => simp only [plus, SquareSum.add, pow_two]
  refine ⟨fun h => ⟨requestEnded s, hexec, requestEnded_ghm_unawaited hr hdiscard hmode hcap h⟩, ?_⟩
  intro e closing he hone htag hrequest hended hclosing disturbing clean noFundamental f w quantities
  have hframe := requestEnded_gridFrame hr hdiscard hmode hcap
  have hcal : (requestEnded s).cal = s.cal :=
    (requestEnded_frame hr).cal.trans (congrArg State.cal (finishRequest_spec r s).frame :)
  have hmags : analyseHarmonics cap.samples c tk stored = mags := rfl
  clear_value mags
  have hw : windowValues s.cfg.ghm e.number closing.freq mags = w := by
    rw [windowValues, primaryValues_eq]
    rfl
  obtain ⟨judged, hjudged⟩ : ∃ judged, judged = GhmState.judged (voltageLevels s.cfg.ghm mags)
      { s.ghm with entries := s.ghm.entries.map (begunEntry s.spe.queue) } := ⟨_, rfl⟩
  obtain ⟨hghm, hday⟩ := requestEnded_ghm_awaited hr hdiscard hmode hcap hmags he hone htag hrequest hclosing hjudged
  have hdisturbing : anyOut (voltageLevels s.cfg.ghm mags) = disturbing := rfl
  have hclean : allIn (voltageLevels s.cfg.ghm mags) = clean := rfl
  have hlow : ((voltageLevels s.cfg.ghm mags).toList.any (· < 1000)) = noFundamental := rfl
  have hquantities : w.quantities = quantities := rfl
  have hnumber : w.number = e.number := rfl
  have hfreq : w.freq = f := rfl
  have hevaluated := evaluated_spec w judged
  rw [← hw, ← hghm, hw] at hevaluated
  rw [judged_eq, hdisturbing, hclean, hlow] at hjudged
  have hsettled := settledEntries_begun (n := e.number) (evaluationOutcome judged) s.spe.queue (l := s.ghm.entries)
    fun x hx hn => hone x hx hn ▸ hended
  generalize requestEnded s = t at hevaluated hday hframe hexec hcal
  clear_value disturbing clean noFundamental w plus begun f quantities
  clear hghm hw hdisturbing hclean hlow
  obtain rfl : SquareSum.add = plus := hplus.symm
  have hblock : judged.block = g.block := by rw [hjudged]
  have hinterval : judged.interval = g.interval := by rw [hjudged]
  have hcounters : judged.counters = { g.counters with
      noFundamental := if noFundamental then up g.counters.noFundamental else g.counters.noFundamental } :=
    (congrArg GhmState.counters hjudged).trans rfl
  refine ⟨t, evaluatedBlock w judged, hexec, ?_, ?_, ?_, ?_, ?_, ?_, ?_, ?_, ?_, ?_, ?_, ?_, hframe.cfg, hframe.mon,
    hframe.ccu, hframe.records⟩
  · rw [hevaluated.disturbed, hjudged]
  · rw [hevaluated.disturbances, hjudged]
    rfl
  · rw [hevaluated.window, hjudged]
  · rw [hevaluated.nextWindow, hjudged]
  · rw [hevaluated.entries, hnumber, hbegun, ← hsettled, hjudged]
  · rw [hevaluated.lastWindow, hevaluated.disturbed, hjudged]
  · rw [evaluatedBlock, hevaluated.disturbed, hblock, hquantities, hfreq]
  · rw [hevaluated.counters, hevaluated.disturbed, hcounters]
    rfl
  · exact hevaluated.block
  · rw [hevaluated.lastSummary, hjudged]
  · rw [hevaluated.interval, hevaluated.disturbed, hfreq]
    rw [hinterval]
    rfl
  · rw [hevaluated.disturbed]
    rw [reportedDay, hcal] at hday
    exact hday

end Sys2Proof.Machine
end

section
/-! Configuration writes that only store a value: the plain items of the monitors, the BIM and the CCU (R70, R105, R107, R114,
R118, R149). -/

namespace Sys2Proof.Machine

/-! ## A write answered without an effect of its own, and a write that stores -/

/-- The state in which the owner of an item meets a request row: the request is counted on its port (R189). -/
def requestCounted (p : Port) (s : State) : State := countPort p (fun c => { c with taken := inc16 c.taken }) s

section
variable {p : Port} {s : State} (hop : s.ret.operating = true) (hp : FarmOrPresence p s)
include hop hp

/-- An admitted write is answered by the owner of its item, who turns the state into `u`. -/
theorem writeConfig_replied {w : ConfigWrite} {u : State} {a : Answer}
    (hw : handleWrite w (requestCounted p s) = (u, a)) :
    inOperation (takeRequest p (.writeConfig w)) s = .next (rechecked s (formReply p 0x31 (u, a))) := by
  rw [inOperation_writeConfig p w s hop hp]
  exact congrArg (fun x => Host.Outcome.next (rechecked s (formReply p 0x31 x))) hw

/-- An admitted write whose owner turns `s` into `t`, the count on the port apart. -/
theorem writeConfig_answered {w : ConfigWrite} {t : State} {a : Answer}
    (hw : handleWrite w (requestCounted p s) = (requestCounted p t, a)) (ha : hasContent a.status = true ∨ a.content = []) :
    inOperation (takeRequest p (.writeConfig w)) s = .next (rechecked s (answered p 0x31 a t)) := by
  rw [writeConfig_replied hop hp hw, requestCounted, formReply_answered p 0x31 a t ha]

/-- An admitted write whose owner changes nothing. -/
theorem writeConfig_unchanged {w : ConfigWrite} {st : Status}
    (hw : handleWrite w (requestCounted p s) = (requestCounted p s, plain st)) :
    inOperation (takeRequest p (.writeConfig w)) s = .next (answered p 0x31 (plain st) s) := by
  rw [writeConfig_answered hop hp hw (.inr rfl), rechecked_answered_self]

/-- An admitted write that stores its value in the configuration behind a check. -/
theorem writeConfig_stores {w : ConfigWrite} {ok ok' : Prop} [Decidable ok] [Decidable ok'] (cfg : ConfigSection)
    (hw : handleWrite w (requestCounted p s) =
      if ok then (requestCounted p { s with cfg := cfg }, plain .ok) else (requestCounted p s, plain .range))
    (h : ok ↔ ok') :
    inOperation (takeRequest p (.writeConfig w)) s =
      if ok' then .next (rechecked s (answered p 0x31 (plain .ok) { s with cfg := cfg }))
      else .next (answered p 0x31 (plain .range) s) := by
  by_cases hok : ok
  · rw [if_pos (h.mp hok)]
    exact writeConfig_answered hop hp (hw.trans (if_pos hok)) (.inr rfl)
  · rw [if_neg (mt h.mpr hok)]
    exact writeConfig_unchanged hop hp (hw.trans (if_neg hok))

end

/-! ## The checks -/

theorem curve_check_iff (rows : Vector Nat 40) :
    rows.toList.all (· ≤ 1200) = true ↔ ∀ i : Fin 40, rows[i] ≤ 1200 := by
  simp only [List.all_eq_true, List.forall_mem_iff_getElem, Vector.length_toList, Vector.getElem_toList, Fin.forall_iff,
    decide_eq_true_iff]
  rfl

/-- The limit of an order of the table is the item two places before it (R107). -/
theorem ghmWriteLimit_eq (o : Fin 39) (v : Nat) (s : State) :
    ghmWriteLimit (o.val + 2) v s =
      if 1 ≤ v ∧ v ≤ 65535 then (withGhmConfig (fun c => { c with voltageLimit := c.voltageLimit.set o v }) s, plain .ok)
      else (s, plain .range) := dif_pos ⟨by omega, by omega⟩

/-! ## The grid ceiling (R105, R138) -/

/-- The contributions with the one the grid has by its configuration and its current grade (R105). -/
def gridPosted (s : State) : Contributions := { s.ccu.contributions with grid := some (gridContribution s) }

/-- What the post of the grid contribution, or its omission where it is held already, leaves. -/
structure GridPosted (s t : State) : Prop where
  frame : t = { s with ccu := t.ccu, mon := t.mon, lnk := t.lnk }
  contributions : t.ccu.contributions = gridPosted s
  alarms : t.ccu.alarms = s.ccu.alarms
  stays : s.ccu.ceiling = some (leastContribution (gridPosted s)) →
    t.mon = s.mon ∧ t.ccu = { s.ccu with contributions := gridPosted s }
  moves : s.ccu.ceiling ≠ some (leastContribution (gridPosted s)) →
    s.ccu.ceiling = some (leastContribution s.ccu.contributions) →
    t = publishCeiling (leastContribution (gridPosted s)) (recordContribution .grid (gridContribution s) s)

theorem postGrid_posted (s : State) : GridPosted s (postGrid s) := by
  by_cases hheld : s.ccu.contributions.grid = some (gridContribution s)
  · have hsame : gridPosted s = s.ccu.contributions := by rw [gridPosted, ← hheld]
    rw [postGrid, if_pos hheld]
    exact ⟨rfl, hsame.symm, rfl, fun _ => ⟨rfl, by rw [hsame]⟩, fun hne heq => absurd heq (by rwa [hsame] at hne)⟩
  · rw [postGrid, if_neg hheld]
    rcases postContribution_cases .grid (gridContribution s) s with ⟨hceiling, e⟩ | ⟨hceiling, e⟩ <;> rw [e]
    · exact ⟨rfl, rfl, rfl, fun _ => ⟨rfl, rfl⟩, fun hne _ => absurd hceiling hne⟩
    · exact ⟨rfl, rfl, rfl, fun heq => absurd heq hceiling, fun _ _ => rfl⟩

/-- A ceiling published leaves CEILING_CHANGED in the notice set of every port (R138). -/
theorem publishCeiling_notices (v : Nat) (s : State) (q : Port) :
    ((publishCeiling v s).lnk.get q).notices &&& 0x004#16 = 0x004#16 := by
  rw [publishCeiling, setNotice_get, refreshLine_notices, addNotice_notices]
  generalize (State.lnk _).get q = x
  change (x.notices ||| 0x004#16) &&& 0x004#16 = 0x004#16
  ext i
  rw [BitVec.getElem_and, BitVec.getElem_or]
  simpa using Or.inr

/-- The write of a grid ceiling stores it and posts the contribution it gives (R105, R107). -/
theorem writeConfig_gridCeiling {p : Port} {s : State} (hop : s.ret.operating = true) (hp : FarmOrPresence p s) {v : Nat}
    (hv : v ≤ 100) :
    ∃ u, GridPosted (withGhmConfig (GhmConfig.withItem (.gridCeiling v)) (requestCounted p s)) u ∧
      exec (.writeGhmItem p (.gridCeiling v)) s = .next (rechecked s (formReply p 0x31 (u, plain .ok))) := by
  have hok : ghmItemOk (.gridCeiling v) = true := decide_eq_true hv
  have hw : handleWrite (.ghm (.gridCeiling v)) (requestCounted p s) =
      (postGrid (withGhmConfig (GhmConfig.withItem (.gridCeiling v)) (requestCounted p s)), plain .ok) := if_pos hok
  exact ⟨_, postGrid_posted _, writeConfig_replied hop hp hw⟩

/-- The reply of a request row leaves the notices of every port. -/
theorem formReply_notices (p q : Port) (k : Octet) (r : State × Answer) :
    ((formReply p k r).lnk.get q).notices = (r.1.lnk.get q).notices := by
  cases p <;> cases q <;> rfl

/-- Settles O38: every item but the grid ceiling is one `writeConfig_stores`; the ceiling posts besides. -/
theorem plainItemWrites : Obligations.PlainItemWrites := by
  intro p s hop hp ok refused g withG withB
  have store {w : ConfigWrite} {c c' : Prop} [Decidable c] [Decidable c'] (cfg : ConfigSection)
      (hw : handleWrite w (requestCounted p s) =
        if c then (requestCounted p { s with cfg := cfg }, plain .ok) else (requestCounted p s, plain .range))
      (h : c ↔ c') := writeConfig_stores hop hp cfg hw h
  refine ⟨fun v => store _ rfl Iff.rfl,
    fun v => store (withG { g with nominalFrequency := v }) rfl (by simp [ghmItemOk]),
    fun v => store (withG { g with vNom := v }) rfl (by simp [ghmItemOk]),
    fun v => store (withG { g with iRated := v }) rfl (by simp [ghmItemOk]),
    fun v => store (withG { g with currentFloor := v }) rfl (by simp [ghmItemOk]),
    fun v => store (withG { g with vtRatio := v }) rfl (by simp [ghmItemOk]),
    fun v => store (withG { g with ctRatio := v }) rfl (by simp [ghmItemOk]),
    fun a b h => store (withG { g with iAlert := a, iAlarm := b, iHyst := h }) rfl (by simp [ghmItemOk, and_assoc]),
    fun v hv => ?_, fun v hv => ?_, fun o v ho => ?_, fun o v => ?_,
    fun v => store (withB { s.cfg.bim with fRef := v }) rfl (by simp [peakItemOk]),
    fun a b => store (withB { s.cfg.bim with searchLo := a, searchHi := b }) rfl (by simp [peakItemOk]),
    fun v => store (withB { s.cfg.bim with powerFloor := v }) rfl (decide_eq_true_iff.trans Nat.lt_succ_iff.symm),
    fun rows => store (withB { s.cfg.bim with curve := rows }) rfl (curve_check_iff rows),
    fun v => store _ rfl Iff.rfl, fun v => store _ rfl Iff.rfl⟩
  · exact writeConfig_unchanged hop hp (if_neg (by simpa [ghmItemOk] using hv))
  · obtain ⟨u, hposted, hexec⟩ := writeConfig_gridCeiling hop hp hv
    refine ⟨_, hexec, (congrArg State.cfg hposted.frame :), formReply_status .., (congrArg State.ghm hposted.frame :),
      (congrArg State.gvm hposted.frame :), (congrArg State.bim hposted.frame :), (congrArg State.spe hposted.frame :),
      (congrArg State.afe hposted.frame :), (congrArg State.plan hposted.frame :), (congrArg State.records hposted.frame :),
      (congrArg State.mpl hposted.frame :), hposted.alarms, hposted.contributions, fun hstays _ => hposted.stays hstays,
      fun hmoves hleast => ?_⟩
    have hu := hposted.moves hmoves (hleast hop)
    refine ⟨(congrArg State.mon hu :), (congrArg State.ccu hu :), fun q => ?_⟩
    rw [rechecked_lnk, formReply_notices, hu]
    exact publishCeiling_notices _ _ q
  · exact writeConfig_unchanged hop hp (dif_neg (by omega))
  · exact store (withG { g with voltageLimit := g.voltageLimit.set o v }) (ghmWriteLimit_eq o v _) Iff.rfl

end Sys2Proof.Machine
end

section
/-! Learning and grading of a band (R78, R79). -/

namespace Sys2Proof.Machine

/-! ## Learning (R78) -/

/-- The state of a band that entered LEARNING with a baseline and has taken `count` levels of a sum. -/
def learningBand (base count sum : Nat) : BandState :=
  { mode := .learning, baseline := base, learnCount := count, learnSum := sum }

theorem learn_learningBand (base count sum level : Nat) :
    (learningBand base count sum).learn level =
      if count + 1 = 16 then { mode := .armed, baseline := (sum + level) / 16 }
      else learningBand base (count + 1) (sum + level) := rfl

/-- Levels that leave the count below sixteen or bring it to sixteen. -/
theorem foldl_learn (base : Nat) (levels : List Nat) (count sum : Nat) (hcount : count < 16)
    (hlen : count + levels.length ≤ 16) :
    levels.foldl (fun b l => b.learn l) (learningBand base count sum) =
      if count + levels.length = 16 then { mode := .armed, baseline := (sum + levels.sum) / 16 }
      else learningBand base (count + levels.length) (sum + levels.sum) := by
  induction levels generalizing count sum with
  | nil => simp [hcount.ne]
  | cons l levels ih =>
    rw [List.length_cons] at hlen
    rw [List.foldl_cons, learn_learningBand, List.sum_cons, List.length_cons, ← Nat.add_assoc sum,
      Nat.add_comm levels.length, ← Nat.add_assoc count]
    by_cases hlast : count + 1 = 16
    · obtain rfl : levels = [] := List.length_eq_zero_iff.mp (by omega)
      simp [hlast]
    · rw [if_neg hlast, ih (count + 1) (sum + l) (by omega) (by omega)]

/-! ## Grading (R79) -/

/-- The limits of a band configuration that the tables of R79 rest on (R67). -/
theorem limits_of_bandOk {cfg : BandConfig} (h : bandOk cfg = true) :
    cfg.alertRise < cfg.alarmRise ∧ cfg.hysteresis < cfg.alertRise ∧ 1 ≤ cfg.confirmCount := by
  simp only [bandOk, Bool.and_eq_true, decide_eq_true_iff] at h
  omega

/-! The rows of R79, by the grade held. -/

theorem gradeFrom_zero (cfg : BandConfig) (rise : Int) (c : Nat) :
    gradeFrom cfg rise c 0 = if cfg.confirmCount ≤ c then 2 else if (cfg.alertRise : Int) ≤ rise then 1 else 0 := rfl

theorem gradeFrom_one (cfg : BandConfig) (rise : Int) (c : Nat) :
    gradeFrom cfg rise c 1 =
      if cfg.confirmCount ≤ c then 2 else if rise < (cfg.alertRise : Int) - cfg.hysteresis then 0 else 1 := rfl

theorem gradeFrom_two (cfg : BandConfig) (rise : Int) (c : Nat) :
    gradeFrom cfg rise c 2 =
      if (cfg.alarmRise : Int) - cfg.hysteresis ≤ rise then 2
      else if rise < (cfg.alertRise : Int) - cfg.hysteresis then 0 else 1 := rfl

/-- An unclipped result gives the grade of its row, a clipped one at least the grade held (R79). -/
theorem gradeAfter_eq (cfg : BandConfig) (clipped : Bool) (rise : Int) (c grade : Nat) :
    gradeAfter cfg clipped rise c grade =
      if clipped then max grade (gradeFrom cfg rise c grade) else gradeFrom cfg rise c grade := by
  cases clipped <;> simp only [gradeAfter]
  · rfl
  · simp only [true_and, if_true]
    split <;> omega

/-- Settles O28: the learning by induction on the levels, the grades row by row of R79. -/
theorem learningAndGrading : Obligations.LearningAndGrading := by
  refine ⟨fun base levels hlen => ?_, fun cfg clipped rise confirm grade hok hgrade => ?_⟩
  · have h := foldl_learn base levels 0 0 (by omega) (by omega)
    rw [Nat.zero_add, Nat.zero_add] at h
    exact h
  · intro c g
    obtain ⟨hrises, hhyst, hcount⟩ := limits_of_bandOk hok
    have hreach (h : (cfg.alarmRise : Int) ≤ rise) : c = min (confirm + 1) 4 := if_pos h
    have hbelow (h : rise < cfg.alarmRise) : c = if clipped then confirm else 0 := if_neg (not_le.mpr h)
    have hg : g = if clipped then max grade (gradeFrom cfg rise c grade) else gradeFrom cfg rise c grade :=
      gradeAfter_eq ..
    clear_value g c
    refine ⟨hreach, hbelow, ?_⟩
    have hunconfirmed (hu : clipped = false) (h : rise < cfg.alarmRise) : c = 0 := by rw [hbelow h, hu]; rfl
    obtain rfl | rfl | rfl : grade = 0 ∨ grade = 1 ∨ grade = 2 := by omega
    · rw [gradeFrom_zero] at hg
      grind
    · rw [gradeFrom_one] at hg
      grind
    · rw [gradeFrom_two] at hg
      grind

end Sys2Proof.Machine
end

section
/-! A period expiry of the GVM (R70, R72): the measurement in turn, the judgement of its start attempt and of its capture. -/

namespace Sys2Proof.Machine

/-! ## The measurement in turn (R70) -/

/-- How many places after the round-robin position a measurement comes, in cyclic order (R70). -/
def slotDistance (position : Option (Fin 8)) (k : Fin 8) : Nat :=
  match position with
  | none => k.val
  | some p => (k.val + 7 - p.val) % 8

/-- The measurement a number of places after the position. -/
def slotAt (position : Option (Fin 8)) (i : Nat) : Fin 8 :=
  Fin.ofNat 8 ((match position with
    | none => 0
    | some p => p.val + 1) + i)

theorem slotDistance_lt (position : Option (Fin 8)) (k : Fin 8) : slotDistance position k < 8 := by
  cases position <;> simp only [slotDistance] <;> omega

theorem slotAt_slotDistance (position : Option (Fin 8)) (k : Fin 8) : slotAt position (slotDistance position k) = k := by
  cases position <;> simp only [slotAt, slotDistance, Fin.ext_iff, Fin.val_ofNat] <;> omega

theorem slotDistance_slotAt (position : Option (Fin 8)) {i : Nat} (h : i < 8) :
    slotDistance position (slotAt position i) = i := by
  cases position <;> simp only [slotAt, slotDistance, Fin.val_ofNat] <;> omega

theorem nextMeasurement_eq (s : State) :
    nextMeasurement s =
      ((List.range 8).map (slotAt s.gvm.position)).find? fun m => s.cfg.measurements[m].enabled := by
  unfold nextMeasurement slotAt
  cases s.gvm.position <;> rfl

theorem nextMeasurement_none {s : State} (h : ∀ k : Fin 8, s.cfg.measurements[k].enabled = false) :
    nextMeasurement s = none := by
  rw [nextMeasurement_eq, List.find?_eq_none]
  exact fun k _ => ne_true_of_eq_false (h k)

/-- The enabled measurement nearest after the position is next. -/
theorem nextMeasurement_nearest {s : State} {m : Fin 8} (hm : s.cfg.measurements[m].enabled = true)
    (hnear : ∀ k : Fin 8, s.cfg.measurements[k].enabled = true →
      slotDistance s.gvm.position m ≤ slotDistance s.gvm.position k) :
    nextMeasurement s = some m := by
  have hfirst : (List.range 8).find? ((fun k : Fin 8 => s.cfg.measurements[k].enabled) ∘ slotAt s.gvm.position) =
      some (slotDistance s.gvm.position m) := by
    refine List.find?_range_eq_some.mpr ⟨?_, List.mem_range.mpr (slotDistance_lt _ m), fun j hj => ?_⟩
    · rw [Function.comp_apply, slotAt_slotDistance]
      exact hm
    · have hback := slotDistance_slotAt s.gvm.position (hj.trans (slotDistance_lt _ m))
      rw [Function.comp_apply, Bool.not_eq_true', ← Bool.not_eq_true]
      intro hk
      have := hnear _ hk
      omega
  rw [nextMeasurement_eq, List.find?_map, hfirst, Option.map_some, slotAt_slotDistance]

/-! ## The capture of a measurement (R10, R11) -/

/-- The limits of R10 for the capture of a measurement. -/
def CaptureAsked (v : MeasurementRecord) : Prop := v.decimation ∈ [1, 2, 4, 8, 16] ∧ 1 ≤ v.length ∧ v.length ≤ 65536

theorem captureParamsOk_iff (v : MeasurementRecord) :
    captureParamsOk .gvm (measurementCapture v) = true ↔ CaptureAsked v := by
  have hgear : gearAccel v.channel ≠ .n1 := by cases v.channel <;> decide
  simp [captureParamsOk, measurementCapture, CaptureAsked, hgear, and_assoc, or_assoc]

theorem judgeCapture_parameter {v : MeasurementRecord} {s : State} (h : ¬ CaptureAsked v) :
    judgeCapture .gvm (measurementCapture v) s = .error .parameter := by
  rw [← captureParamsOk_iff, Bool.not_eq_true] at h
  simp [judgeCapture, h]

/-- A capture inside the limits of R10 is judged by the converter, the channel and the buffers, in this order (R11). -/
theorem judgeCapture_asked {v : MeasurementRecord} (s : State) (h : CaptureAsked v) :
    judgeCapture .gvm (measurementCapture v) s =
      if s.afe.converterFault then .error .converter
      else if (s.afe.accel.get (gearAccel v.channel)).fault ≠ .none then .error .channelFault
      else if s.afe.buffers.gvmA = .free then .ok .gvmA
      else if s.afe.buffers.gvmB = .free then .ok .gvmB
      else .error .noBuffer := by
  have hok := (captureParamsOk_iff v).mpr h
  have hchannel : captureChannelFaulty s (measurementCapture v) =
    decide ((s.afe.accel.get (gearAccel v.channel)).fault ≠ .none) := rfl
  have hfind : (Monitor.gvm.buffers.find? fun b => (bufferOf s b).isFree) =
      if s.afe.buffers.gvmA = .free then some .gvmA else if s.afe.buffers.gvmB = .free then some .gvmB else none := by
    have hA : bufferOf s .gvmA = s.afe.buffers.gvmA := rfl
    have hB : bufferOf s .gvmB = s.afe.buffers.gvmB := rfl
    simp only [Monitor.buffers, List.find?, hA, hB]
    cases s.afe.buffers.gvmA <;> cases s.afe.buffers.gvmB <;> simp [Buffer.isFree]
  rw [judgeCapture, hok, hchannel, hfind]
  simp only [Bool.not_true, Bool.false_eq_true, if_false, decide_eq_true_iff]
  split_ifs <;> rfl

/-! ## The start attempt (R72) -/

theorem shaftSpeed_some {shaft : Shaft} {s : State} {r : PulseResult}
    (h : (s.ptu.chan.get (shaftPulse shaft)).latest = some r) (hvalid : r.status = .valid) (hturns : 1 ≤ r.derived) :
    shaftSpeed shaft s = some (r.derived, r.seq) := by
  simp [shaftSpeed, h, hvalid, hturns]

theorem shaftSpeed_none {shaft : Shaft} {s : State}
    (h : ¬ ∃ r, (s.ptu.chan.get (shaftPulse shaft)).latest = some r ∧ r.status = .valid ∧ 1 ≤ r.derived) :
    shaftSpeed shaft s = none := by
  unfold shaftSpeed
  split
  · rfl
  · next r hr => exact if_neg fun hok => h ⟨r, hr, hok⟩

section
variable {m : Fin 8} {s : State}

theorem startAttempt_regime (h : s.ccu.op.regime ≠ .producing) :
    startAttempt m s = countGvm (fun c => { c with skipRegime := inc16 c.skipRegime }) s := if_pos h

variable (hregime : s.ccu.op.regime = .producing)
include hregime

theorem startAttempt_noSpeed (h : shaftSpeed s.cfg.measurements[m].shaft s = none) :
    startAttempt m s = countGvm (fun c => { c with skipNoSpeed := inc16 c.skipNoSpeed }) s := by
  simp only [startAttempt, hregime, ne_eq, not_true_eq_false, if_false, h]

variable {speed : Nat × Nat} (hspeed : shaftSpeed s.cfg.measurements[m].shaft s = some speed)
include hspeed

theorem startAttempt_mismatch (h : s.ptu.mismatchFlag = true) :
    startAttempt m s = countGvm (fun c => { c with skipMismatch := inc16 c.skipMismatch }) s := by
  simp only [startAttempt, hregime, ne_eq, not_true_eq_false, if_false, hspeed, h, if_true]

/-- With a regime, a speed and tachos in order, a capture that the AFE refuses is counted by its reason. -/
theorem startAttempt_refused (h : s.ptu.mismatchFlag = false) {r : CaptureRefusal}
    (hjudged : judgeCapture .gvm (measurementCapture s.cfg.measurements[m]) s = .error r) :
    startAttempt m s = countGvm (countCaptureRefusal r) s := by
  simp only [startAttempt, hregime, ne_eq, not_true_eq_false, if_false, hspeed, h, Bool.false_eq_true, hjudged]

/-- A capture that the AFE accepts begins, and the measurement is CAPTURING with its start context. -/
theorem startAttempt_begins (h : s.ptu.mismatchFlag = false) {b : BufferId}
    (hjudged : judgeCapture .gvm (measurementCapture s.cfg.measurements[m]) s = .ok b) :
    startAttempt m s =
      withWork m (fun w => { w with work := .capturing, context := some (startContext b speed s) })
        (beginCapture b (measurementCapture s.cfg.measurements[m]) s) := by
  simp only [startAttempt, hregime, ne_eq, not_true_eq_false, if_false, hspeed, h, Bool.false_eq_true, hjudged]

end

/-! ## The expiry (R70) -/

/-- An expiry reaches the GVM and the captures, so that no check word moves. -/
theorem exec_gvmPeriodExpiry {s : State} {gvm : GvmState} {afe : AfeState} (hop : s.ret.operating = true)
    (h : gvmPeriodExpiry s = { s with gvm := gvm, afe := afe }) :
    exec .gvmPeriodExpiry s = .next { s with gvm := gvm, afe := afe } := by
  refine (inOperation_operating gvmPeriodExpiry hop).trans ?_
  rw [h]
  exact congrArg Host.Outcome.next (rechecked_kept s _ rfl rfl rfl rfl rfl)

/-- The timer restarted and a measurement at the position. -/
def slotTaken (m : Fin 8) (s : State) : State :=
  { s with gvm :=
    { s.gvm with period := s.cfg.gvmPeriod, periodTimer := some s.cfg.gvmPeriod, position := some m } }

section
variable {m : Fin 8} {s : State} (htimer : s.gvm.periodTimer = some 0) (hm : nextMeasurement s = some m)
include htimer hm

/-- A measurement in turn that is busy is an OVERRUN. -/
theorem gvmPeriodExpiry_busy (hbusy : s.gvm.work[m].work ≠ .idle) :
    gvmPeriodExpiry s = countGvm (fun c => { c with skipOverrun := inc16 c.skipOverrun }) (slotTaken m s) := by
  have hm' : nextMeasurement (restartPeriod s) = some m := hm
  simp only [gvmPeriodExpiry, htimer, takeSlot, hm']
  exact if_pos hbusy

/-- One that is IDLE attempts a start. -/
theorem gvmPeriodExpiry_idle (hidle : s.gvm.work[m].work = .idle) :
    gvmPeriodExpiry s = startAttempt m (slotTaken m s) := by
  have hm' : nextMeasurement (restartPeriod s) = some m := hm
  simp only [gvmPeriodExpiry, htimer, takeSlot, hm']
  exact if_neg (not_not.mpr hidle)

end

/-- Settles O23: the measurement in turn by `nextMeasurement_nearest`, then each skip and the start by the lemma of its case. -/
theorem periodExpiryTakesSlot : Obligations.PeriodExpiryTakesSlot := by
  refine ⟨fun s hop htimer => ?_, fun s hop htimer => ⟨fun hnone => ?_, fun m hm hnear => ?_⟩⟩
  · rcases gvmPeriodExpiry_cases s with ⟨h, -⟩ | ⟨-, h⟩
    · exact absurd h htimer
    · exact exec_gvmPeriodExpiry hop h
  · have hnext : nextMeasurement (restartPeriod s) = none := nextMeasurement_none hnone
    refine exec_gvmPeriodExpiry hop ?_
    simp only [gvmPeriodExpiry, htimer, takeSlot, hnext]
    rfl
  · have hnext := nextMeasurement_nearest hm hnear
    intro c v pulse ch speed asked skip
    have attempt {gvm : GvmState} {afe : AfeState} (hidle : s.gvm.work[m].work = .idle)
        (h : startAttempt m (slotTaken m s) = { s with gvm := gvm, afe := afe }) :
        exec .gvmPeriodExpiry s = .next { s with gvm := gvm, afe := afe } :=
      exec_gvmPeriodExpiry hop ((gvmPeriodExpiry_idle htimer hnext hidle).trans h)
    have judged (hasked : asked) := judgeCapture_asked (v := v) (slotTaken m s) hasked
    refine ⟨fun hbusy => exec_gvmPeriodExpiry hop (gvmPeriodExpiry_busy htimer hnext hbusy),
      fun hidle hregime => attempt hidle (startAttempt_regime hregime),
      fun hidle hregime hspeed => attempt hidle (startAttempt_noSpeed hregime (shaftSpeed_none hspeed)),
      fun hidle hregime ⟨r, hlatest, hvalid, hturns⟩ hflag =>
        attempt hidle (startAttempt_mismatch hregime (shaftSpeed_some hlatest hvalid hturns) hflag),
      fun hidle hregime ⟨r, hlatest, hvalid, hturns⟩ hflag => ?_,
      fun r b hidle hregime hlatest hvalid hturns hflag hasked hconverter hfault hfree => ?_⟩
    · have refused {why : CaptureRefusal} := startAttempt_refused (r := why) (m := m) (s := slotTaken m s) hregime
        (shaftSpeed_some hlatest hvalid hturns) hflag
      refine ⟨fun hasked => ?_, fun hasked hconverter => ?_, fun hasked hconverter hfault => ?_,
        fun hasked hconverter hfault hA hB => ?_⟩
      · exact attempt hidle (refused (judgeCapture_parameter hasked))
      · exact attempt hidle (refused ((judged hasked).trans (if_pos hconverter)))
      · refine attempt hidle (refused (why := .channelFault) ((judged hasked).trans ?_))
        exact (if_neg (ne_true_of_eq_false hconverter)).trans (if_pos hfault)
      · refine attempt hidle (refused (why := .noBuffer) ((judged hasked).trans ?_))
        exact (if_neg (ne_true_of_eq_false hconverter)).trans
          ((if_neg (not_not.mpr hfault)).trans ((if_neg hA).trans (if_neg hB)))
    · have hchosen : judgeCapture .gvm (measurementCapture v) (slotTaken m s) = .ok b := by
        refine (judged hasked).trans ((if_neg (ne_true_of_eq_false hconverter)).trans ((if_neg (not_not.mpr hfault)).trans ?_))
        rcases hfree with ⟨rfl, hA⟩ | ⟨rfl, hA, hB⟩
        · exact if_pos hA
        · exact (if_neg hA).trans (if_pos hB)
      exact attempt hidle (startAttempt_begins (s := slotTaken m s) hregime
        (shaftSpeed_some hlatest hvalid hturns) hflag hchosen)

end Sys2Proof.Machine
end

section
/-! Bands and the writes that take effect on them (R66 to R68): what an entry of a band writes, and the state of each band after
a write. -/

namespace Sys2Proof.Machine

/-! ## The checks of a write (R66, R67) -/

theorem measurementOk_iff (v : MeasurementRecord) :
    measurementOk v = true ↔
      v.decimation ∈ [1, 2, 4, 8, 16] ∧ v.length ∈ [4096, 8192, 16384, 32768, 65536] ∧ v.bands.length ≤ 6 ∧
        (∀ b ∈ v.bands, b ≤ 23) ∧ v.bands.Nodup ∧ 10 ≤ v.tolerance ∧ v.tolerance ≤ 100 := by
  simp [measurementOk, recordLengthOk, and_assoc, or_assoc]

theorem bandOk_iff (v : BandConfig) :
    bandOk v = true ↔
      v.centre ≤ 65535 ∧ v.halfWidth ≤ 65535 ∧ 1 ≤ v.alertRise ∧ v.alertRise ≤ 9999 ∧ v.alertRise < v.alarmRise ∧
        v.alarmRise ≤ 9999 ∧ v.hysteresis < v.alertRise ∧ 1 ≤ v.confirmCount ∧ v.confirmCount ≤ 4 ∧
        v.derateCeiling ≤ 100 ∧ ∀ c, v.component = some c → c ≤ 15 := by
  cases h : v.component <;> simp [bandOk, h, and_assoc]

theorem listConflict_iff (cfg : ConfigSection) (m : Fin 8) (list : List Nat) :
    listConflict cfg m list = true ↔ ∃ k : Fin 8, k ≠ m ∧ ∃ b ∈ list, b ∈ cfg.measurements[k].bands := by
  simp [listConflict]

theorem listConflict_false_iff (cfg : ConfigSection) (m : Fin 8) (list : List Nat) :
    listConflict cfg m list = false ↔ ∀ k : Fin 8, k ≠ m → ∀ b ∈ list, b ∉ cfg.measurements[k].bands := by
  rw [← Bool.not_eq_true, listConflict_iff]
  push Not
  rfl

/-! ## One band (R68, R76) -/

/-- What the entry of a band into LEARNING or DISABLED writes. -/
structure BandEntered (mode : BandMode) (b : Fin 24) (s t : State) : Prop where
  bands : t.mon.bands = s.mon.bands.set b (s.mon.bands[b].entered mode)
  cfg : t.cfg = s.cfg
  gvm : t.gvm =
    { s.gvm with
      skipMark := s.gvm.skipMark.set b (s.gvm.skipMark[b] || (decide (mode = .learning) && ownerBusy b s)) }

theorem enterBand_spec (mode : BandMode) (b : Fin 24) (s : State) : BandEntered mode b s (enterBand mode b s) := by
  obtain ⟨hframe, hmon, hgvm⟩ := bandAlarms_evaluationFrame b s.mon.bands[b].grade 0 s
  have hcfg := hframe.cfg
  unfold enterBand
  generalize bandAlarms b s.mon.bands[b].grade 0 s = u at *
  have hbusy : ownerBusy b (withBand b (BandState.entered mode) u) = ownerBusy b s := by
    simp only [ownerBusy, withBand_cfg, withBand_gvm, hcfg, hgvm]
  dsimp only
  rw [hbusy]
  split
  · next h =>
    refine ⟨by simp [withBand, hmon], by simp [hcfg], ?_⟩
    simp [withSkipMark, hgvm, h.1, h.2]
  · next h =>
    refine ⟨by simp [withBand, hmon], by simp [hcfg], ?_⟩
    have hmark : (decide (mode = .learning) && ownerBusy b s) = false := by simpa using h
    simp [hgvm, hmark]

/-- The retained state of a band after a write turned a configuration into another (R68). -/
def settledBand (old new : ConfigSection) (b : Fin 24) (st : BandState) : BandState :=
  (bandEntry old new b st.mode).elim st st.entered

/-- A band not enabled, or without an owning measurement, is DISABLED (R68). -/
theorem settledBand_disabled {old new : ConfigSection} {b : Fin 24} (st : BandState)
    (h : new.bands[b].enabled = false ∨ owningMeasurement new b = none) :
    settledBand old new b st = if st.mode = .disabled then st else st.entered .disabled := by
  have hentry : bandEntry old new b st.mode = if st.mode = .disabled then none else some .disabled := by
    cases howner : owningMeasurement new b with
    | none => simp only [bandEntry, howner]
    | some m =>
      have hoff : new.bands[b].enabled = false := h.resolve_right (by rw [howner]; exact nofun)
      simp only [bandEntry, howner, hoff, Bool.not_false, if_true]
  rw [settledBand, hentry]
  split <;> rfl

/-- An enabled band of a measurement is taught anew where it was DISABLED, came from another measurement, or its place in the
spectrum changed (R68). -/
theorem settledBand_owned {old new : ConfigSection} {b : Fin 24} {m : Fin 8} (st : BandState)
    (henabled : new.bands[b].enabled = true) (howner : owningMeasurement new b = some m) :
    settledBand old new b st =
      if st.mode = .disabled ∨ owningMeasurement old b ≠ some m ∨ placeChanged old new b m = true then st.entered .learning
      else st := by
  have hentry : bandEntry old new b st.mode =
      if st.mode = .disabled ∨ owningMeasurement old b ≠ some m ∨ placeChanged old new b m = true then some .learning
      else none := by
    simp only [bandEntry, howner, henabled, Bool.not_true, Bool.false_eq_true, if_false, Bool.or_eq_true,
      decide_eq_true_iff, or_assoc]
  rw [settledBand, hentry]
  split <;> rfl

/-! ## The bands of a write (R68) -/

/-- What the decision of one band leaves: its own state after the write, and every other band as it was. -/
structure BandSettled (old : ConfigSection) (b : Fin 24) (s t : State) : Prop where
  bands : t.mon.bands = s.mon.bands.set b (settledBand old s.cfg b s.mon.bands[b])
  cfg : t.cfg = s.cfg

theorem settleBand_spec (old : ConfigSection) (s : State) (b : Fin 24) : BandSettled old b s (settleBand old s b) := by
  unfold settleBand
  split
  · next h => exact ⟨by rw [settledBand, h, Option.elim_none]; simp, rfl⟩
  · next mode h =>
    have hentered := enterBand_spec mode b s
    exact ⟨by rw [hentered.bands, settledBand, h, Option.elim_some], hentered.cfg⟩

theorem foldl_settleBand_spec (old : ConfigSection) {l : List (Fin 24)} (hl : l.Nodup) (s : State) :
    (l.foldl (settleBand old) s).cfg = s.cfg ∧
      ∀ b : Fin 24, (l.foldl (settleBand old) s).mon.bands[b] =
        if b ∈ l then settledBand old s.cfg b s.mon.bands[b] else s.mon.bands[b] := by
  induction l generalizing s with
  | nil => simp
  | cons a l ih =>
    obtain ⟨hfresh, hl⟩ := List.nodup_cons.mp hl
    have hhead := settleBand_spec old s a
    obtain ⟨hcfg, hbands⟩ := ih hl (settleBand old s a)
    rw [List.foldl_cons]
    refine ⟨hcfg.trans hhead.cfg, fun b => ?_⟩
    rw [hbands b, hhead.cfg, hhead.bands]
    by_cases hb : b = a
    · subst hb
      simp [hfresh]
    · have hv : a.val ≠ b.val := fun h => hb (Fin.ext h.symm)
      simp [hb, hv]

/-- A write that takes effect leaves the configuration written and every band with the state R68 gives it; of the GVM it
reaches the skip marks alone. -/
structure TookEffect (f : ConfigSection → ConfigSection) (s t : State) : Prop where
  cfg : t.cfg = f s.cfg
  bands : ∀ b : Fin 24, t.mon.bands[b] = settledBand s.cfg (f s.cfg) b s.mon.bands[b]
  gvm : t.gvm = { s.gvm with skipMark := t.gvm.skipMark }
  afe : t.afe = s.afe
  spe : t.spe = s.spe

theorem takeEffect_spec (f : ConfigSection → ConfigSection) (s : State)
    (hf : f s.cfg = { s.cfg with measurements := (f s.cfg).measurements, bands := (f s.cfg).bands }) :
    TookEffect f s (takeEffect f s) := by
  have honly := takeEffect_bandsOnly f s hf
  have hsettled := foldl_settleBand_spec s.cfg (List.nodup_finRange 24) { s with cfg := f s.cfg }
  unfold takeEffect at *
  generalize (List.finRange 24).foldl (settleBand s.cfg) { s with cfg := f s.cfg } = u at *
  obtain ⟨hcfg, hbands⟩ := hsettled
  have hpost := (postBands_spec u).1
  exact ⟨hpost.cfg.trans hcfg,
    fun b => (congrArg (·[b]) hpost.bands).trans ((hbands b).trans (if_pos (List.mem_finRange b))),
    honly.gvm, honly.afe, honly.spe⟩

end Sys2Proof.Machine
end

section
/-! The writes of measurements and bands that take effect at once, and the state of each band after them (R66 to R68). -/

namespace Sys2Proof.Machine

/-! ## The configuration written -/

theorem getElem_set_fin {α : Type} {n : Nat} (v : Vector α n) (i k : Fin n) (x : α) :
    (v.set i x)[k] = if k = i then x else v[k] := by
  simp [Vector.getElem_set, Fin.ext_iff, eq_comm]

theorem withMeasurement_getElem (cfg : ConfigSection) (m k : Fin 8) (v : MeasurementRecord) :
    (cfg.withMeasurement m v).measurements[k] = if k = m then v else cfg.measurements[k] := getElem_set_fin ..

theorem withBandConfig_getElem (cfg : ConfigSection) (w b : Fin 24) (v : BandConfig) :
    (cfg.withBandConfig w v).bands[b] = if b = w then v else cfg.bands[b] := getElem_set_fin ..

theorem owningMeasurement_withMeasurement (cfg : ConfigSection) (m : Fin 8) (v : MeasurementRecord) (b : Fin 24) :
    owningMeasurement (cfg.withMeasurement m v) b =
      (List.finRange 8).find? fun k => (if k = m then v else cfg.measurements[k]).bands.contains b.val := by
  simp only [owningMeasurement, withMeasurement_getElem]

/-- A measurement write moves the bands of its own measurement, by its channel or its reference shaft. -/
theorem placeChanged_withMeasurement (cfg : ConfigSection) (m k : Fin 8) (v : MeasurementRecord) (b : Fin 24) :
    placeChanged cfg (cfg.withMeasurement m v) b k = true ↔
      k = m ∧ (cfg.measurements[m].channel ≠ v.channel ∨ cfg.measurements[m].shaft ≠ v.shaft) := by
  have hbands : (cfg.withMeasurement m v).bands = cfg.bands := rfl
  by_cases h : k = m
  · subst h
    simp only [placeChanged, withMeasurement_getElem, hbands]
    simp
  · simp only [placeChanged, withMeasurement_getElem, hbands, if_neg h]
    simp [h]

/-- A band write moves its own band, by its centre or its half-width. -/
theorem placeChanged_withBandConfig (cfg : ConfigSection) (w b : Fin 24) (v : BandConfig) (k : Fin 8) :
    placeChanged cfg (cfg.withBandConfig w v) b k = true ↔
      b = w ∧ (cfg.bands[w].centre ≠ v.centre ∨ cfg.bands[w].halfWidth ≠ v.halfWidth) := by
  have hmeasurements : (cfg.withBandConfig w v).measurements = cfg.measurements := rfl
  by_cases h : b = w
  · subst h
    simp only [placeChanged, withBandConfig_getElem, hmeasurements]
    simp
  · simp only [placeChanged, withBandConfig_getElem, hmeasurements, if_neg h]
    simp [h]

/-! ## The writes -/

/-- A measurement write inside the ranges of R66, on an IDLE measurement, takes effect at once. -/
theorem gvmWriteMeasurement_idle {m : Fin 8} {v : MeasurementRecord} {s : State} (hok : measurementOk v = true)
    (hfree : listConflict s.cfg m v.bands = false) (hidle : s.gvm.work[m].work = .idle) :
    gvmWriteMeasurement m.val v s = (takeEffect (ConfigSection.withMeasurement m v) s, plain .ok) := by
  have hcheck : (!measurementOk v || listConflict s.cfg m v.bands) = false := by rw [hok, hfree]; rfl
  exact (dif_pos m.isLt).trans ((if_neg (ne_true_of_eq_false hcheck)).trans (if_pos hidle))

/-- A band write inside the ranges of R67, on a band that no busy measurement owns, takes effect at once. -/
theorem gvmWriteBand_idle {b : Fin 24} {v : BandConfig} {s : State} (hok : bandOk v = true)
    (hidle : ∀ m : Fin 8, owningMeasurement s.cfg b = some m → s.gvm.work[m].work = .idle) :
    gvmWriteBand b.val v s = (takeEffect (ConfigSection.withBandConfig b v) s, plain .ok) := by
  refine (dif_pos b.isLt).trans ?_
  simp only [hok, Bool.not_true, Bool.false_eq_true, if_false, Fin.eta]
  split
  · rfl
  · next m howner => exact if_pos (hidle m howner)

/-- Settles O25: the bands of `takeEffect_spec`, by the two rows of R68 and what each write moves. -/
theorem bandStatesFollowWrites : Obligations.BandStatesFollowWrites := by
  refine ⟨fun p m v s hop hp hok hfree hidle => ?_, fun p w v s hop hp hok hidle => ?_⟩
  · have hw := gvmWriteMeasurement_idle (s := requestCounted p s) hok ((listConflict_false_iff ..).mpr hfree) hidle
    have heffect := takeEffect_spec (ConfigSection.withMeasurement m v) (requestCounted p s) rfl
    generalize takeEffect _ _ = u at hw heffect
    have hbands (b : Fin 24) : u.mon.bands[b] = settledBand s.cfg (s.cfg.withMeasurement m v) b s.mon.bands[b] :=
      heffect.bands b
    intro owner'
    refine ⟨_, writeConfig_replied hop hp (w := .measurement m.val v) hw, fun b => ?_⟩
    have howner : owningMeasurement (s.cfg.withMeasurement m v) b = owner' b := owningMeasurement_withMeasurement ..
    intro old entered
    refine ⟨fun h => (hbands b).trans (settledBand_disabled old (h.imp_right howner.trans)), fun k henabled hk => ?_⟩
    refine (hbands b).trans
      ((settledBand_owned (new := s.cfg.withMeasurement m v) old henabled (howner.trans hk)).trans ?_)
    exact if_congr (or_congr_right (or_congr_right (placeChanged_withMeasurement s.cfg m k v b))) rfl rfl
  · have hw := gvmWriteBand_idle (s := requestCounted p s) hok hidle
    have heffect := takeEffect_spec (ConfigSection.withBandConfig w v) (requestCounted p s) rfl
    generalize takeEffect _ _ = u at hw heffect
    have hbands (b : Fin 24) : u.mon.bands[b] = settledBand s.cfg (s.cfg.withBandConfig w v) b s.mon.bands[b] :=
      heffect.bands b
    refine ⟨_, writeConfig_replied hop hp (w := .band w.val v) hw, fun b => ?_⟩
    intro old entered enabled
    have henabled : (s.cfg.withBandConfig w v).bands[b].enabled = enabled := by
      rw [withBandConfig_getElem, apply_ite BandConfig.enabled]
    refine ⟨fun h => (hbands b).trans (settledBand_disabled old (h.imp_left henabled.trans)), fun hon hown => ?_⟩
    obtain ⟨k, hk⟩ := Option.ne_none_iff_exists'.mp hown
    refine (hbands b).trans ((settledBand_owned old (henabled.trans hon) hk).trans ?_)
    refine if_congr (or_congr_right ?_) rfl rfl
    exact (or_iff_right (not_not.mpr hk)).trans (placeChanged_withBandConfig s.cfg w b v k)

end Sys2Proof.Machine
end

section
/-! LEARN_BASELINE (R76): the bands it teaches anew and their skip marks. -/

namespace Sys2Proof.Machine

/-! ## The bands taught -/

/-- From `s` to `t` the bands of a list entered LEARNING: their baselines are kept, and a skip mark joins where the owning
measurement is busy. -/
structure BandsTaught (l : List (Fin 24)) (s t : State) : Prop where
  taught : ∀ b ∈ l, t.mon.bands[b] = s.mon.bands[b].entered .learning
  others : ∀ b, b ∉ l → t.mon.bands[b] = s.mon.bands[b]
  marks : ∀ b : Fin 24, t.gvm.skipMark[b] = (s.gvm.skipMark[b] || (decide (b ∈ l) && ownerBusy b s))
  gvm : t.gvm = { s.gvm with skipMark := t.gvm.skipMark }
  cfg : t.cfg = s.cfg
  afe : t.afe = s.afe
  spe : t.spe = s.spe

theorem ownerBusy_congr {s t : State} (hcfg : t.cfg = s.cfg) (hwork : t.gvm.work = s.gvm.work) (b : Fin 24) :
    ownerBusy b t = ownerBusy b s := by
  simp only [ownerBusy, hcfg, hwork]

theorem foldl_enterBand_taught (l : List (Fin 24)) (s : State) :
    BandsTaught l s (l.foldl (fun s b => enterBand .learning b s) s) := by
  induction l generalizing s with
  | nil => exact ⟨nofun, fun _ _ => rfl, fun _ => by simp, rfl, rfl, rfl, rfl⟩
  | cons a l ih =>
    have honly := enterBand_bandsOnly .learning a s
    have hhead := enterBand_spec .learning a s
    have hrest := ih (enterBand .learning a s)
    rw [List.foldl_cons]
    generalize enterBand .learning a s = u at *
    generalize l.foldl (fun s b => enterBand .learning b s) u = t at *
    have hband (b : Fin 24) : u.mon.bands[b] = if b = a then s.mon.bands[a].entered .learning else s.mon.bands[b] := by
      rw [hhead.bands, getElem_set_fin]
    have hmark (b : Fin 24) : u.gvm.skipMark[b] = (s.gvm.skipMark[b] || (decide (b = a) && ownerBusy b s)) := by
      rw [hhead.gvm, getElem_set_fin]
      by_cases hb : b = a
      · simp [hb]
      · simp [hb]
    refine ⟨fun b hb => ?_, fun b hb => ?_, fun b => ?_, by rw [hrest.gvm, honly.gvm], hrest.cfg.trans hhead.cfg,
      hrest.afe.trans honly.afe, hrest.spe.trans honly.spe⟩
    · by_cases hl : b ∈ l
      · rw [hrest.taught b hl, hband b]
        split
        · next h => rw [h]; rfl
        · rfl
      · obtain rfl : b = a := (List.mem_cons.mp hb).resolve_right hl
        rw [hrest.others b hl, hband b, if_pos rfl]
    · rw [hrest.others b (List.not_mem_of_not_mem_cons hb), hband b, if_neg (List.ne_of_not_mem_cons hb)]
    · rw [hrest.marks b, hmark b, ownerBusy_congr hhead.cfg (by rw [hhead.gvm])]
      simp only [List.mem_cons, Bool.decide_or, Bool.and_or_distrib_right, Bool.or_assoc]

/-- The posts that follow leave what was taught. -/
theorem BandsTaught.posted {l : List (Fin 24)} {s t : State} (h : BandsTaught l s t) : BandsTaught l s (postBands t) := by
  have hpost := (postBands_spec t).1
  have honly := postBands_bandsOnly t
  generalize postBands t = u at *
  have hband (b : Fin 24) : u.mon.bands[b] = t.mon.bands[b] := congrArg (·[b]) hpost.bands
  exact ⟨fun b hb => (hband b).trans (h.taught b hb), fun b hb => (hband b).trans (h.others b hb),
    fun b => by rw [hpost.gvm]; exact h.marks b, by rw [hpost.gvm]; exact h.gvm, hpost.cfg.trans h.cfg,
    honly.afe.trans h.afe, honly.spe.trans h.spe⟩

/-! ## The request -/

section
variable {p : Port} {s : State} (hop : s.ret.operating = true) (hp : FarmOrPresence p s)
include hop hp

/-- An admitted LEARN_BASELINE is answered by the GVM. -/
theorem exec_learnBaseline {target : LearnTarget} {u : State} {a : Answer}
    (h : gvmLearn target (requestCounted p s) = (u, a)) :
    exec (.learnBaseline p target) s = .next (rechecked s (formReply p 0x32 (u, a))) := by
  have htake : takeRequest p (.learnBaseline target) s = formReply p 0x32 (gvmLearn target (requestCounted p s)) :=
    takeRequest_admitted p (.learnBaseline target) .farmOrPresence s rfl (admits_farmOrPresence p s hp)
  refine (inOperation_operating (takeRequest p (.learnBaseline target)) hop).trans ?_
  rw [htake, h]

theorem exec_learnBaseline_refused {target : LearnTarget} {st : Status}
    (h : gvmLearn target (requestCounted p s) = (requestCounted p s, plain st)) :
    exec (.learnBaseline p target) s = .next (answered p 0x32 (plain st) s) := by
  rw [exec_learnBaseline hop hp h, requestCounted, formReply_answered p 0x32 (plain st) s (.inr rfl),
    rechecked_answered_self]

end

theorem gvmLearn_band_disabled {b : Fin 24} {s : State} (h : s.mon.bands[b].mode = .disabled) :
    gvmLearn (.band b.val) s = (s, plain .state) := (dif_pos b.isLt).trans (if_pos h)

theorem gvmLearn_band_taught {b : Fin 24} {s : State} (h : s.mon.bands[b].mode ≠ .disabled) :
    ∃ u, gvmLearn (.band b.val) s = (u, plain .ok) ∧ BandEntered .learning b s u ∧ u.afe = s.afe ∧ u.spe = s.spe := by
  have hw : gvmLearn (.band b.val) s = (postBands (enterBand .learning b s), plain .ok) :=
    (dif_pos b.isLt).trans (if_neg h)
  have honly := (enterBand_bandsOnly .learning b s).trans (postBands_bandsOnly _)
  have hentered := enterBand_spec .learning b s
  have hpost := (postBands_spec (enterBand .learning b s)).1
  exact ⟨_, hw, ⟨hpost.bands.trans hentered.bands, hpost.cfg.trans hentered.cfg, hpost.gvm.trans hentered.gvm⟩,
    honly.afe, honly.spe⟩

/-- The bands of a measurement that are LEARNING or ARMED, by their indices. -/
theorem mem_activeBands {m : Fin 8} {s : State} (hle : ∀ i ∈ s.cfg.measurements[m].bands, i ≤ 23) (b : Fin 24) :
    b ∈ activeBands m s ↔ b.val ∈ s.cfg.measurements[m].bands ∧ s.mon.bands[b].mode ≠ .disabled := by
  have hindex : b ∈ s.cfg.measurements[m].bands.map (fun i => Fin.ofNat 24 i) ↔ b.val ∈ s.cfg.measurements[m].bands := by
    rw [List.mem_map]
    refine ⟨fun ⟨i, hi, hb⟩ => ?_, fun hb => ⟨b.val, hb, Fin.ofNat_val_eq_self b⟩⟩
    have hval : i % 24 = b.val := congrArg Fin.val hb
    rwa [← hval, Nat.mod_eq_of_lt ((hle i hi).trans_lt (by decide))]
  rw [activeBands, List.mem_filter, hindex, decide_eq_true_iff]

theorem gvmLearn_measurement_none {m : Fin 8} {s : State} (h : activeBands m s = []) :
    gvmLearn (.measurement m.val) s = (s, plain .state) := by
  refine (dif_pos m.isLt).trans ?_
  rw [Fin.eta, h]
  rfl

theorem gvmLearn_measurement_taught {m : Fin 8} {s : State} (h : activeBands m s ≠ []) :
    ∃ u, gvmLearn (.measurement m.val) s = (u, plain .ok) ∧ BandsTaught (activeBands m s) s u := by
  obtain ⟨a, l, hl⟩ := List.exists_cons_of_ne_nil h
  refine ⟨_, ?_, (foldl_enterBand_taught (activeBands m s) s).posted⟩
  refine (dif_pos m.isLt).trans ?_
  rw [Fin.eta, hl]
  rfl

/-- Settles O26: a band by `enterBand_spec`, the bands of a measurement by `foldl_enterBand_taught`. -/
theorem learnBaselineRequest : Obligations.LearnBaselineRequest := by
  intro p s hop hp
  refine ⟨fun i hi => ?_, fun i hi => ?_, fun b hb => ?_, fun m hm => ?_, fun b hb => ?_, fun m hle hm => ?_⟩
  · exact exec_learnBaseline_refused hop hp (dif_neg (not_lt.mpr hi))
  · exact exec_learnBaseline_refused hop hp (dif_neg (not_lt.mpr hi))
  · exact exec_learnBaseline_refused hop hp (gvmLearn_band_disabled hb)
  · have hnone : activeBands m (requestCounted p s) = [] := by
      rw [activeBands, List.filter_eq_nil_iff, List.forall_mem_map]
      exact fun i hi => by
        have hmode : (requestCounted p s).mon.bands[Fin.ofNat 24 i].mode = .disabled := hm i hi
        rw [hmode]
        decide
    exact exec_learnBaseline_refused hop hp (gvmLearn_measurement_none hnone)
  · obtain ⟨u, hu, hentered, hafe, hspe⟩ := gvmLearn_band_taught (s := requestCounted p s) hb
    exact ⟨_, exec_learnBaseline hop hp hu, hentered.bands, hentered.gvm, hentered.cfg, hafe, hspe,
      formReply_status p 0x32 (u, plain .ok)⟩
  · have hmem := mem_activeBands (s := requestCounted p s) hle
    have hsome : activeBands m (requestCounted p s) ≠ [] := by
      obtain ⟨i, hi, hmode⟩ := hm
      have hindex : (Fin.ofNat 24 i).val = i := Nat.mod_eq_of_lt ((hle i hi).trans_lt (by decide))
      exact List.ne_nil_of_mem ((hmem (Fin.ofNat 24 i)).mpr ⟨by rwa [hindex], hmode⟩)
    obtain ⟨u, hu, htaught⟩ := gvmLearn_measurement_taught hsome
    intro taught busy
    have hbusy (b : Fin 24) : ownerBusy b s = true ↔ busy b := by
      unfold ownerBusy
      split
      · next hnone => simp [busy, hnone]
      · next k hk => simp [busy, hk]
    refine ⟨_, exec_learnBaseline hop hp hu, fun b => ⟨fun hb => htaught.taught b ((hmem b).mpr hb),
      fun hb => htaught.others b (mt (hmem b).mp hb), ?_⟩, htaught.gvm, htaught.cfg, htaught.afe, htaught.spe,
      formReply_status p 0x32 (u, plain .ok)⟩
    have hmark : u.gvm.skipMark[b] =
        (s.gvm.skipMark[b] || (decide (b ∈ activeBands m (requestCounted p s)) && ownerBusy b s)) := htaught.marks b
    change u.gvm.skipMark[b] = true ↔ _
    rw [hmark, Bool.or_eq_true, Bool.and_eq_true, decide_eq_true_iff, hmem b, hbusy b]
    rfl

end Sys2Proof.Machine
end

section
/-! Held writes and writes that cancel work (R66, R69, R83, R84). -/

namespace Sys2Proof.Machine

/-! ## A held write at the end of work (R84) -/

/-- What a write changes when it takes effect: the record of its measurement, or the band it names. -/
def PendingWrite.change (m : Fin 8) : PendingWrite → ConfigSection → ConfigSection
  | .measurement v => ConfigSection.withMeasurement m v
  | .band b v => ConfigSection.withBandConfig b v

section
variable {m : Fin 8} {s : State}

theorem idled_pending : (clearSkipMarks m (idleWork m s)).gvm.work[m].pending = s.gvm.work[m].pending :=
  (congrArg WorkRecord.pending (idled_work_self m s) :)

/-- A held measurement write that names a band of another measurement by now is dropped. -/
theorem endOfWork_dropped {v : MeasurementRecord} (hp : s.gvm.work[m].pending = some (.measurement v))
    (hconflict : listConflict s.cfg m v.bands = true) :
    endOfWork m s =
      countGvm (fun c => { c with pendingDropped := inc16 c.pendingDropped })
        (emptyHolder m .dropped (clearSkipMarks m (idleWork m s))) := by
  have hheld := idled_pending.trans hp
  simp only [endOfWork, applyPending, hheld]
  exact if_pos hconflict

theorem endOfWork_dropped_spec {v : MeasurementRecord} (hp : s.gvm.work[m].pending = some (.measurement v))
    (hconflict : listConflict s.cfg m v.bands = true) :
    (endOfWork m s).cfg = s.cfg ∧ (endOfWork m s).gvm.work[m].outcome = .dropped ∧
      (endOfWork m s).gvm.counters =
        { s.gvm.counters with pendingDropped := inc16 s.gvm.counters.pendingDropped } := by
  rw [endOfWork_dropped hp hconflict]
  refine ⟨by rw [countGvm_cfg, emptyHolder, withWork_cfg]; rfl, ?_, rfl⟩
  show (emptyHolder m .dropped (clearSkipMarks m (idleWork m s))).gvm.work[m].outcome = .dropped
  rw [emptyHolder, withWork_work_self]

/-- Every other held write takes effect. -/
theorem endOfWork_applied {w : PendingWrite} (hp : s.gvm.work[m].pending = some w)
    (hfits : ∀ v, w = .measurement v → listConflict s.cfg m v.bands = false) :
    endOfWork m s =
      countGvm (fun c => { c with pendingApplied := inc16 c.pendingApplied })
        (takeEffect (w.change m) (emptyHolder m .applied (clearSkipMarks m (idleWork m s)))) := by
  have hheld := idled_pending.trans hp
  cases w with
  | measurement v =>
    simp only [endOfWork, applyPending, hheld]
    exact if_neg (ne_true_of_eq_false (hfits v rfl))
  | band b v =>
    simp only [endOfWork, applyPending, hheld]
    rfl

/-- A held write leaves the configuration changed, its outcome APPLIED, and PENDING_APPLIED one higher. -/
theorem endOfWork_applied_spec {w : PendingWrite} (hp : s.gvm.work[m].pending = some w)
    (hfits : ∀ v, w = .measurement v → listConflict s.cfg m v.bands = false) :
    (endOfWork m s).cfg = w.change m s.cfg ∧ (endOfWork m s).gvm.work[m].outcome = .applied ∧
      (endOfWork m s).gvm.counters =
        { s.gvm.counters with pendingApplied := inc16 s.gvm.counters.pendingApplied } := by
  rw [endOfWork_applied hp hfits]
  have heffect := takeEffect_spec (w.change m) (emptyHolder m .applied (clearSkipMarks m (idleWork m s)))
    (by cases w <;> rfl)
  have hself : (emptyHolder m .applied (clearSkipMarks m (idleWork m s))).gvm.work[m].outcome = .applied := by
    rw [emptyHolder, withWork_work_self]
  generalize hu : takeEffect _ _ = u at heffect ⊢
  clear hu
  have hwork : u.gvm.work = (emptyHolder m .applied (clearSkipMarks m (idleWork m s))).gvm.work := by rw [heffect.gvm]
  have hcounters : u.gvm.counters = s.gvm.counters := by rw [heffect.gvm]; rfl
  refine ⟨heffect.cfg, ?_, ?_⟩
  · show u.gvm.work[m].outcome = _
    rw [hwork, hself]
  · show { u.gvm.counters with pendingApplied := inc16 u.gvm.counters.pendingApplied } = _
    rw [hcounters]

end

/-! ## The end of a measurement's work by a result (R75, R84) -/

theorem noteBegun_outcome (r : AnalysisRequest) (m : Fin 8) (s : State) :
    (noteBegun r s).gvm.work[m].outcome = s.gvm.work[m].outcome := by
  unfold noteBegun
  split
  · rw [Fin.getElem_fin, vmap_getElem]
    split <;> rfl
  · rfl
  · rfl

theorem finishRequest_outcome (r : AnalysisRequest) (m : Fin 8) (s : State) :
    (finishRequest r s).gvm.work[m].outcome = s.gvm.work[m].outcome := by
  rw [finishRequest_eq]
  split
  · rfl
  · exact noteBegun_outcome ..

/-- What the end of a request leaves of a measurement and its held write up to the end of its work. -/
structure AwaitsEnd (m : Fin 8) (s u : State) : Prop where
  cfg : u.cfg = s.cfg
  pending : u.gvm.work[m].pending = s.gvm.work[m].pending
  outcome : u.gvm.work[m].outcome = s.gvm.work[m].outcome
  applied : u.gvm.counters.pendingApplied = s.gvm.counters.pendingApplied
  dropped : u.gvm.counters.pendingDropped = s.gvm.counters.pendingDropped

/-- An awaited BANDS result ends the work of its measurement. -/
theorem speEnd_endsWork {r : AnalysisRequest} {n d speed : Nat} {list : List BandPlace} {m : Fin 8} {s : State}
    (hr : s.spe.inProgress = some r) (hdiscard : r.discard = false) (hmode : r.mode = .bands n d speed list)
    (htag : r.tag = m.val) (hout : s.gvm.work[m].outstanding = some r.arrival) :
    ∃ u, speEnd s = endOfWork m u ∧ AwaitsEnd m s u := by
  have hfinished := finishRequest_spec r s
  have houtcome := finishRequest_outcome r m s
  have hend : speEnd s = gvmResult r (list.map (analyseBand (column (analysedRows r s) 0) n d speed)) (finishRequest r s) := by
    rw [speEnd_eq hr, hdiscard]
    simp only [Bool.false_eq_true, if_false, deliverResult, hmode]
  generalize list.map (analyseBand (column (analysedRows r s) 0) n d speed) = entries at hend
  generalize finishRequest r s = v at *
  rw [gvmResult_eq htag, if_pos ((hfinished.work m).1.trans hout)] at hend
  have hframe := foldl_evaluateEntry_frame r.clipped entries v
  generalize entries.foldl (evaluateEntry r.clipped) v = e at *
  have hpost := (postBands_spec (countGvm (fun c => { c with results := inc16 c.results }) e)).1
  generalize postBands (countGvm (fun c => { c with results := inc16 c.results }) e) = u at *
  have hcfg : u.cfg = s.cfg := hpost.cfg.trans (hframe.cfg.trans (congrArg State.cfg hfinished.frame :))
  have hgvm : u.gvm =
      { e.gvm with counters := { e.gvm.counters with results := inc16 e.gvm.counters.results } } := hpost.gvm
  rw [hframe.gvm, hfinished.gvm] at hgvm
  refine ⟨u, hend, hcfg, ?_, ?_, by rw [hgvm], by rw [hgvm]⟩
  · rw [hgvm]
    exact (hfinished.work m).2
  · rw [hgvm]
    exact houtcome

/-! ## A cancellation without a held write (R69) -/

/-- A state with the configuration of `s`, in which a measurement's holder is empty. -/
def HolderEmpty (m : Fin 8) (s t : State) : Prop := t.cfg = s.cfg ∧ t.gvm.work[m].pending = none

theorem endOfWork_holderEmpty {m : Fin 8} {s t : State} (h : HolderEmpty m s t) : HolderEmpty m s (endOfWork m t) := by
  refine ⟨?_, (endOfWork_reach m t).self.pending⟩
  rw [endOfWork_of_pending_none m t h.2]
  exact h.1

theorem gvmRemoval_holderEmpty {m : Fin 8} {s t : State} {q : AnalysisRequest} (htag : q.tag = m.val)
    (h : HolderEmpty m s t) : HolderEmpty m s (gvmRemoval t q) := by
  have hm : Fin.ofNat 8 q.tag = m := Fin.ext (by simp [htag])
  have hrelease : HolderEmpty m s (releaseBuffer q.buffer t) := by
    rcases releaseBuffer_cases q.buffer t with e | ⟨-, e⟩ <;> rw [e] <;> exact h
  simp only [gvmRemoval, hm]
  split
  · exact endOfWork_holderEmpty hrelease
  · exact hrelease

theorem cancelCapture_holderEmpty {m : Fin 8} {s t : State} (h : HolderEmpty m s t) :
    HolderEmpty m s (cancelCapture m t) := by
  unfold cancelCapture
  split
  · next c _ _ => rcases cancelBuffer_cases c.buffer t with ⟨-, e⟩ | e <;> rw [e] <;> exact h
  · exact h

/-- A cancellation that finds no held write leaves the configuration. -/
theorem gvmCancel_holderEmpty {m : Fin 8} {s : State} (h : s.gvm.work[m].pending = none) :
    HolderEmpty m s (gvmCancel s m) := by
  by_cases hbusy : s.gvm.work[m].work = .idle
  · rw [gvmCancel, if_pos hbusy]
    exact ⟨rfl, h⟩
  · have hremovals : HolderEmpty m s
        ((withdraw .gvm (some m.val) s).1.foldl gvmRemoval (withdraw .gvm (some m.val) s).2) :=
      List.foldlRecOn _ _ ⟨rfl, h⟩ fun t ht q hq =>
        gvmRemoval_holderEmpty ((withdrawn_iff m q).mp (List.mem_filter.mp hq).2).2 ht
    rw [gvmCancel_busy hbusy, finishWork]
    split
    · exact cancelCapture_holderEmpty hremovals
    · exact endOfWork_holderEmpty (cancelCapture_holderEmpty hremovals)

/-- What the cancellation of a busy measurement leaves in the engine (R51, R52). -/
theorem gvmCancel_spe {m : Fin 8} {s : State} (hbusy : s.gvm.work[m].work ≠ .idle) :
    (gvmCancel s m).spe.queue = s.spe.queue.filter (fun q => !(q.source = .gvm && q.tag = m.val)) ∧
      (gvmCancel s m).spe.inProgress =
        s.spe.inProgress.map fun r => if r.source = .gvm ∧ r.tag = m.val then { r with discard := true } else r := by
  rw [(gvmCancel_afterWithdraw hbusy).1.spe]
  refine ⟨rfl, ?_⟩
  simp only [← withdrawn_iff]
  rfl

/-! ## The writes of R66, R67 and R83 -/

section
variable {m : Fin 8} {v : MeasurementRecord} {s : State}

theorem gvmWriteMeasurement_range (h : measurementOk v = false ∨ listConflict s.cfg m v.bands = true) :
    gvmWriteMeasurement m.val v s = (s, plain .range) := by
  refine (dif_pos m.isLt).trans (if_pos ?_)
  rcases h with h | h <;> simp [h]

variable (hok : measurementOk v = true) (hfree : listConflict s.cfg m v.bands = false) (hbusy : s.gvm.work[m].work ≠ .idle)
include hok hfree hbusy

/-- The write of a busy measurement that leaves it enabled, or finds it disabled, is held. -/
theorem gvmWriteMeasurement_held (henabled : s.cfg.measurements[m].enabled = true → v.enabled = true) :
    gvmWriteMeasurement m.val v s = holdWrite m (.measurement v) s := by
  have hcheck : (!measurementOk v || listConflict s.cfg m v.bands) = false := by rw [hok, hfree]; rfl
  have hkeeps : (s.cfg.measurements[m].enabled && !v.enabled) = false := by
    rw [← Bool.not_eq_true, Bool.and_eq_true, Bool.not_eq_true']
    exact fun h => absurd (henabled h.1) (ne_true_of_eq_false h.2)
  exact (dif_pos m.isLt).trans ((if_neg (ne_true_of_eq_false hcheck)).trans
    ((if_neg hbusy).trans (if_neg (ne_true_of_eq_false hkeeps))))

/-- The write that disables a busy measurement cancels its work and takes effect. -/
theorem gvmWriteMeasurement_disables (hon : s.cfg.measurements[m].enabled = true) (hoff : v.enabled = false) :
    gvmWriteMeasurement m.val v s = (takeEffect (ConfigSection.withMeasurement m v) (gvmCancel s m), plain .ok) := by
  have hcheck : (!measurementOk v || listConflict s.cfg m v.bands) = false := by rw [hok, hfree]; rfl
  have hdisables : (s.cfg.measurements[m].enabled && !v.enabled) = true := by rw [hon, hoff]; rfl
  exact (dif_pos m.isLt).trans ((if_neg (ne_true_of_eq_false hcheck)).trans
    ((if_neg hbusy).trans (if_pos hdisables)))

end

/-- What the write of a measurement that cancels its work leaves, where no write was held (R69). -/
structure WorkDisabled (m : Fin 8) (v : MeasurementRecord) (s t : State) : Prop where
  cfg : t.cfg = s.cfg.withMeasurement m v
  emptied : WorkEmptied t.gvm.work[m]
  freed : ∀ b r, CapturesInto m b s → bufferOf s b = .filling r → bufferOf t b = .free
  queue : t.spe.queue = s.spe.queue.filter (fun q => !(q.source = .gvm && q.tag = m.val))
  progress : t.spe.inProgress =
    s.spe.inProgress.map fun r => if r.source = .gvm ∧ r.tag = m.val then { r with discard := true } else r

theorem takeEffect_gvmCancel_disabled {m : Fin 8} (v : MeasurementRecord) {s : State} (hbusy : s.gvm.work[m].work ≠ .idle)
    (hpending : s.gvm.work[m].pending = none) :
    WorkDisabled m v s (takeEffect (ConfigSection.withMeasurement m v) (gvmCancel s m)) := by
  have hcfg := (gvmCancel_holderEmpty hpending).1
  have hdone := (gvmCancel_spec m s).2.2 hbusy
  obtain ⟨hqueue, hprogress⟩ := gvmCancel_spe hbusy
  have heffect := takeEffect_spec (ConfigSection.withMeasurement m v) (gvmCancel s m) rfl
  generalize gvmCancel s m = u at *
  generalize takeEffect _ u = t at heffect ⊢
  exact
    { cfg := by rw [heffect.cfg, hcfg]
      emptied := by
        rw [heffect.gvm]
        exact hdone.emptied
      freed := fun b r hinto hb => by
        rw [bufferOf_congr heffect.afe]
        exact hdone.freed b r hinto (.inl hb)
      queue := by rw [heffect.spe, hqueue]
      progress := by rw [heffect.spe, hprogress] }

theorem gvmWriteBand_range {b : Fin 24} {v : BandConfig} {s : State} (h : bandOk v = false) :
    gvmWriteBand b.val v s = (s, plain .range) := by
  refine (dif_pos b.isLt).trans (if_pos ?_)
  rw [h]
  rfl

/-- The write of a band of a busy measurement is held. -/
theorem gvmWriteBand_held {b : Fin 24} {m : Fin 8} {v : BandConfig} {s : State} (hok : bandOk v = true)
    (howner : owningMeasurement s.cfg b = some m) (hbusy : s.gvm.work[m].work ≠ .idle) :
    gvmWriteBand b.val v s = holdWrite m (.band b v) s := by
  refine (dif_pos b.isLt).trans ?_
  simp only [hok, Bool.not_true, Bool.false_eq_true, if_false, Fin.eta, howner]
  exact if_neg hbusy

/-- The answered state of a write that went into the holder of a measurement (R83). -/
def writeHeld (p : Port) (m : Fin 8) (w : PendingWrite) (s : State) : State :=
  match s.gvm.work[m].pending with
  | none => answered p 0x31 (plain .okDeferred) (withWork m (fun x => { x with pending := some w }) s)
  | some _ =>
    answered p 0x31 { status := .okDeferred, replaced := true }
      (countGvm (fun c => { c with pendingReplaced := inc16 c.pendingReplaced })
        (withWork m (fun x => { x with pending := some w, outcome := .replaced }) s))

/-- An answer over a state that differs in the GVM leaves the check words. -/
theorem rechecked_answered_gvm (p : Port) (k : Octet) (a : Answer) (gvm : GvmState) (s : State) :
    rechecked s (answered p k a { s with gvm := gvm }) = answered p k a { s with gvm := gvm } :=
  rechecked_kept s (answered p k a { s with gvm := gvm }) rfl rfl rfl rfl rfl

section
variable {p : Port} {s : State} (hop : s.ret.operating = true) (hp : FarmOrPresence p s)
include hop hp

/-- A write whose owner changes the GVM only. -/
theorem writeConfig_gvm {c : ConfigWrite} {a : Answer} {gvm : GvmState}
    (hw : handleWrite c (requestCounted p s) = (requestCounted p { s with gvm := gvm }, a))
    (ha : hasContent a.status = true ∨ a.content = []) :
    inOperation (takeRequest p (.writeConfig c)) s = .next (answered p 0x31 a { s with gvm := gvm }) := by
  rw [writeConfig_answered hop hp hw ha, rechecked_answered_gvm]

/-- A held write changes its holder and nothing else. -/
theorem writeConfig_held {c : ConfigWrite} {m : Fin 8} {w : PendingWrite}
    (hw : handleWrite c (requestCounted p s) = holdWrite m w (requestCounted p s)) :
    inOperation (takeRequest p (.writeConfig c)) s = .next (writeHeld p m w s) := by
  cases hpending : s.gvm.work[m].pending with
  | none =>
    have hempty : (requestCounted p s).gvm.work[m].pending = none := hpending
    simp only [holdWrite, hempty] at hw
    simp only [writeHeld, hpending]
    exact writeConfig_gvm hop hp hw (.inl rfl)
  | some old =>
    have hfull : (requestCounted p s).gvm.work[m].pending = some old := hpending
    simp only [holdWrite, hfull] at hw
    simp only [writeHeld, hpending]
    exact writeConfig_gvm hop hp hw (.inl rfl)

end

/-! ## The obligation -/

/-- Settles O24: the end of work by the lemmas of a held write, each write by the lemma of its case. -/
theorem measurementAndBandWrites : Obligations.MeasurementAndBandWrites := by
  refine ⟨measurementOk_iff, bandOk_iff, ?_, ?_⟩
  · intro r n d speed list m s hop hr hdiscard hmode htag hout
    obtain ⟨u, hend, hu⟩ := speEnd_endsWork hr hdiscard hmode htag hout
    have hreach := endOfWork_reach m u
    refine ⟨rechecked s (endOfWork m u), by rw [exec_requestEnd hop, hend], hreach.self.idle, hreach.self.pending, ?_⟩
    intro c
    refine ⟨fun hnone => ?_, fun v hheld => ⟨fun hconflict => ?_, fun hfree => ?_⟩, fun b v hheld => ?_⟩
    · have hempty := hu.pending.trans hnone
      refine ⟨?_, (hreach.self.kept hempty).trans hu.outcome⟩
      rw [rechecked_cfg, endOfWork_of_pending_none m u hempty]
      exact hu.cfg
    · have hconflict' : listConflict u.cfg m v.bands = true := by
        rw [hu.cfg]
        exact (listConflict_iff ..).mpr hconflict
      obtain ⟨hcfg, houtcome, hcounters⟩ := endOfWork_dropped_spec (hu.pending.trans hheld) hconflict'
      rw [rechecked_cfg, rechecked_gvm, hcfg, houtcome, hcounters, hu.cfg, hu.dropped]
      exact ⟨rfl, rfl, rfl, hu.applied⟩
    · have hfree' : listConflict u.cfg m v.bands = false := by
        rw [hu.cfg]
        exact (listConflict_false_iff ..).mpr hfree
      obtain ⟨hcfg, houtcome, hcounters⟩ := endOfWork_applied_spec (hu.pending.trans hheld)
        fun v' hv' => by cases hv'; exact hfree'
      rw [rechecked_cfg, rechecked_gvm, hcfg, houtcome, hcounters, hu.cfg, hu.applied]
      exact ⟨rfl, rfl, rfl, hu.dropped⟩
    · obtain ⟨hcfg, houtcome, hcounters⟩ := endOfWork_applied_spec (hu.pending.trans hheld) fun v' hv' => nomatch hv'
      rw [rechecked_cfg, rechecked_gvm, hcfg, houtcome, hcounters, hu.cfg, hu.applied]
      exact ⟨rfl, rfl, rfl⟩
  · intro p s hop hp held
    have hheld (m : Fin 8) (w : PendingWrite) : writeHeld p m w s = held m w := rfl
    refine ⟨fun i v => ⟨fun hi => ?_, ?_⟩, fun i v => ⟨fun hi => ?_, ?_⟩⟩
    · exact writeConfig_unchanged hop hp (w := .measurement i v) (dif_neg (not_lt.mpr hi))
    · rintro m rfl
      refine ⟨fun h => ?_, fun hok hfree => ⟨fun hbusy henabled => ?_, fun hbusy hpending hon hoff => ?_, fun hidle => ?_⟩⟩
      · exact writeConfig_unchanged hop hp (w := .measurement m.val v)
          (gvmWriteMeasurement_range (h.imp_right (listConflict_iff ..).mpr))
      · rw [← hheld]
        exact writeConfig_held hop hp (c := .measurement m.val v)
          (gvmWriteMeasurement_held hok ((listConflict_false_iff ..).mpr hfree) hbusy henabled)
      · have hw := gvmWriteMeasurement_disables (s := requestCounted p s) hok ((listConflict_false_iff ..).mpr hfree) hbusy
          hon hoff
        have hdisabled := takeEffect_gvmCancel_disabled (s := requestCounted p s) v hbusy hpending
        generalize takeEffect _ _ = t at hw hdisabled
        exact ⟨_, writeConfig_replied hop hp (w := .measurement m.val v) hw, hdisabled.cfg, hdisabled.emptied.idle,
          hdisabled.emptied.outstanding, hdisabled.emptied.context,
          fun c r hcapturing hcontext => hdisabled.freed c.buffer r ⟨hcapturing, c, hcontext, rfl⟩,
          hdisabled.queue, hdisabled.progress, formReply_status p 0x31 (t, plain .ok)⟩
      · have hw := gvmWriteMeasurement_idle (s := requestCounted p s) hok ((listConflict_false_iff ..).mpr hfree) hidle
        have heffect := takeEffect_spec (ConfigSection.withMeasurement m v) (requestCounted p s) rfl
        generalize takeEffect _ _ = u at hw heffect
        exact ⟨_, writeConfig_replied hop hp (w := .measurement m.val v) hw, heffect.cfg,
          formReply_status p 0x31 (u, plain .ok), (congrArg GvmState.work heffect.gvm :)⟩
    · exact writeConfig_unchanged hop hp (w := .band i v) (dif_neg (not_lt.mpr hi))
    · rintro b rfl
      refine ⟨fun h => ?_, fun m hok howner hbusy => ?_, fun hok hidle => ?_⟩
      · exact writeConfig_unchanged hop hp (w := .band b.val v) (gvmWriteBand_range h)
      · rw [← hheld]
        exact writeConfig_held hop hp (c := .band b.val v) (gvmWriteBand_held hok howner hbusy)
      · have hw := gvmWriteBand_idle (s := requestCounted p s) hok hidle
        have heffect := takeEffect_spec (ConfigSection.withBandConfig b v) (requestCounted p s) rfl
        generalize takeEffect _ _ = u at hw heffect
        exact ⟨_, writeConfig_replied hop hp (w := .band b.val v) hw, heffect.cfg,
          formReply_status p 0x31 (u, plain .ok), (congrArg GvmState.work heffect.gvm :)⟩

end Sys2Proof.Machine
end

section
/-! Windows at a VALID P2 result (R90 to R94): how one is opened, and what is left when the OPEN one has ended. -/

namespace Sys2Proof.Machine

/-! ## The opening of a window (R11, R90) -/

/-- The buffer a new window takes, or the refusal it keeps (R11, R90). -/
def windowChoice (fault : Bool) (bs : PerBuffer Buffer) : Option BufferId × Option WindowRefusal :=
  if fault then (none, some .converter)
  else if bs.ghmA = .free then (some .ghmA, none)
  else if bs.ghmB = .free then (some .ghmB, none)
  else (none, some .noBuffer)

/-- The buffers after it: the one taken is FILLING under the given trims. -/
def windowFilled (trims : List Int) (fault : Bool) (bs : PerBuffer Buffer) : PerBuffer Buffer :=
  match (windowChoice fault bs).1 with
  | none => bs
  | some b => bs.set b (.filling { kind := .window, trims := [trims] })

/-- The GHM after a window was opened by a choice (R90). -/
def GhmState.opened (choice : Option BufferId × Option WindowRefusal) (g : GhmState) : GhmState :=
  { g with
    window := .running
    entries := g.entries ++ [{ number := g.nextWindow, buffer := choice.1, refusal := choice.2 }]
    nextWindow := next16 g.nextWindow
    counters := { g.counters with opened := inc16 g.counters.opened } }

theorem openWindow_eq (s : State) :
    openWindow s =
      { s with
        afe :=
          { s.afe with
            buffers := windowFilled (trimsFor s.cfg.trims .window) s.afe.converterFault s.afe.buffers }
        ghm := s.ghm.opened (windowChoice s.afe.converterFault s.afe.buffers) } := by
  rcases openWindow_cases s with ⟨hfault, e⟩ | ⟨hfault, hfree⟩
  · have hchoice : windowChoice s.afe.converterFault s.afe.buffers = (none, some .converter) := if_pos hfault
    simp only [e, windowFilled, hchoice]
    rfl
  have hsound : windowChoice s.afe.converterFault s.afe.buffers = windowChoice false s.afe.buffers := by rw [hfault]
  simp only [bufferOf, PerBuffer.get] at hfree
  rcases hfree with ⟨hA, e⟩ | ⟨hA, hB, e⟩ | ⟨hA, hB, e⟩
  · have hchoice : windowChoice false s.afe.buffers = (some .ghmA, none) := if_pos hA
    simp only [e, windowFilled, hsound, hchoice]
    rfl
  · have hchoice : windowChoice false s.afe.buffers = (some .ghmB, none) := (if_neg hA).trans (if_pos hB)
    simp only [e, windowFilled, hsound, hchoice]
    rfl
  · have hchoice : windowChoice false s.afe.buffers = (none, some .noBuffer) := (if_neg hA).trans (if_neg hB)
    simp only [e, windowFilled, hsound, hchoice]
    rfl

/-- `t` has a window opened over the buffers `bs` and the entries `l`; the rest of the AFE and the values and the disturbance
state of the GHM are those of `s`. -/
def WindowOpened (bs : PerBuffer Buffer) (l : List WindowEntry) (s t : State) : Prop :=
  let choice := windowChoice s.afe.converterFault bs
  t.afe = { s.afe with buffers := windowFilled (trimsFor s.cfg.trims .window) s.afe.converterFault bs } ∧
    t.ghm.window = .running ∧
    t.ghm.entries = l ++ [{ number := s.ghm.nextWindow, buffer := choice.1, refusal := choice.2 }] ∧
    t.ghm.nextWindow = next16 s.ghm.nextWindow ∧ t.ghm.lastWindow = s.ghm.lastWindow ∧
    t.ghm.disturbed = s.ghm.disturbed ∧ t.ghm.disturbances = s.ghm.disturbances

/-- The day record of a state that reports reach at a calendar reading (R161). -/
def dayAt (now : Option Timestamp) (t : State) : DayRecord := if now = none then t.plan.undated else t.plan.openDay.record

/-- From `s` to `t` one analysis skip was reported (R97). -/
def SkipReported (s t : State) : Prop := dayAt s.cal t = DayRecord.addSkip (dayAt s.cal s)

/-- The end of the window before the opened one was no settlement: only the opening is counted. -/
def NoSettlement (s t : State) : Prop :=
  t.ghm.counters = { s.ghm.counters with opened := inc16 s.ghm.counters.opened } ∧ t.ghm.block = s.ghm.block ∧
    t.ghm.interval = s.ghm.interval ∧ t.ghm.lastSummary = s.ghm.lastSummary ∧ t.plan = s.plan

/-- The end of the window before the opened one was its settlement by an outcome: one slot of the block (R97, R98). -/
def SlotTaken (o : WindowOutcome) (s t : State) : Prop :=
  t.ghm.counters =
      { countOutcome o s.ghm.counters with
        opened := inc16 s.ghm.counters.opened, emptyBlock := t.ghm.counters.emptyBlock } ∧
    (s.ghm.block.slots = 14 → t.ghm.block = GridBlock.empty) ∧
    (s.ghm.block.slots ≠ 14 →
      t.ghm.block = { s.ghm.block with slots := s.ghm.block.slots + 1 } ∧ t.ghm.interval = s.ghm.interval ∧
        t.ghm.lastSummary = s.ghm.lastSummary ∧ t.ghm.counters.emptyBlock = s.ghm.counters.emptyBlock)

/-! ## What the end of a window leaves -/

/-- From `s` to `v` the buffers are `bs`, and in the GHM and the rest nothing changed that the opening of a window reads. -/
structure WindowEnded (bs : PerBuffer Buffer) (s v : State) : Prop where
  afe : v.afe = { s.afe with buffers := bs }
  cfg : v.cfg = s.cfg

/-- An end without a settlement leaves the entries `l`. -/
structure EndedUnsettled (bs : PerBuffer Buffer) (l : List WindowEntry) (s v : State) : Prop extends WindowEnded bs s v where
  ghm : v.ghm = { s.ghm with entries := l }
  plan : v.plan = s.plan

/-- An end with a settlement leaves the entries `l` and takes a slot of the block. -/
structure EndedSettled (o : WindowOutcome) (bs : PerBuffer Buffer) (l : List WindowEntry) (s v : State) : Prop
    extends WindowEnded bs s v where
  ghm : v.ghm = GhmState.slotAdded { s.ghm with entries := l, counters := countOutcome o s.ghm.counters }
  day : o.isMissed = true → SkipReported s v
  plan : o.isMissed = false → v.plan = s.plan

theorem countOutcome_opened (o : WindowOutcome) (c : GhmCounters) : (countOutcome o c).opened = c.opened := by
  cases o with
  | missed reason => cases reason <;> rfl
  | _ => rfl

section
variable {bs : PerBuffer Buffer} {l : List WindowEntry} {s v : State}

theorem EndedUnsettled.windowOpened (h : EndedUnsettled bs l s v) :
    WindowOpened bs l s (openWindow v) ∧ NoSettlement s (openWindow v) := by
  rw [openWindow_eq, h.afe, h.cfg, h.ghm]
  exact ⟨⟨rfl, rfl, rfl, rfl, rfl, rfl, rfl⟩, rfl, rfl, rfl, rfl, h.plan⟩

theorem EndedSettled.windowOpened {o : WindowOutcome} (h : EndedSettled o bs l s v) :
    WindowOpened bs l s (openWindow v) ∧ SlotTaken o s (openWindow v) := by
  rw [openWindow_eq, h.afe, h.cfg, h.ghm]
  refine ⟨⟨rfl, rfl, rfl, rfl, rfl, rfl, rfl⟩, ?_, fun hlast => ?_, fun hmore => ?_⟩
  · simp [GhmState.opened, GhmState.slotAdded, countOutcome_opened]
  · simp [GhmState.opened, GhmState.slotAdded, hlast]
  · have hopen : s.ghm.block.slots + 1 ≠ 15 := by omega
    have hempty : (countOutcome o s.ghm.counters).emptyBlock = s.ghm.counters.emptyBlock := by
      cases o with
      | missed reason => cases reason <;> rfl
      | _ => rfl
    simp [GhmState.opened, GhmState.slotAdded, hopen, hempty]

end

/-- An opening leaves the engine and the planner's section. -/
theorem openWindow_kept (s : State) : (openWindow s).spe = s.spe ∧ (openWindow s).plan = s.plan := by
  rw [openWindow_eq]
  exact ⟨rfl, rfl⟩

theorem EndedSettled.skipReported {o : WindowOutcome} {bs : PerBuffer Buffer} {l : List WindowEntry} {s v : State}
    (h : EndedSettled o bs l s v) (ho : o.isMissed = true) : SkipReported s (openWindow v) := by
  unfold SkipReported dayAt
  rw [(openWindow_kept v).2]
  exact h.day ho

/-! ## The OPEN entry (R89, R90) -/

/-- `e` is the OPEN entry of a list, last in it after ENDED unsettled ones. -/
structure OpenLast (prior : List WindowEntry) (e : WindowEntry) (l : List WindowEntry) : Prop where
  entries : l = prior ++ [e]
  notEnded : e.ended = false
  prior : ∀ x ∈ prior, x.ended = true ∧ x.outcome = none ∧ x.number ≠ e.number

/-- An entry ended by a result, at a calendar reading (R90). -/
def WindowEntry.closed (closing : PulseResult) (now : Option Timestamp) (e : WindowEntry) : WindowEntry :=
  { e with ended := true, closing := some closing, endTime := now }

/-- The state in which the OPEN entry has ended and what follows its end begins. -/
def closedState (prior : List WindowEntry) (e : WindowEntry) (closing : PulseResult) (s : State) : State :=
  withGhm (fun g => { g with entries := prior ++ [e.closed closing s.cal] }) s

section
variable {prior : List WindowEntry} {e : WindowEntry} {s : State}

/-- Entries that an update does not concern are left alone. -/
theorem map_ite_of_forall_not {p : WindowEntry → Prop} [DecidablePred p] {f : WindowEntry → WindowEntry}
    (h : ∀ x ∈ prior, ¬ p x) : (prior.map fun x => if p x then f x else x) = prior :=
  (List.map_congr_left fun x hx => if_neg (h x hx)).trans (List.map_id' prior)

theorem OpenLast.number_ne {l : List WindowEntry} (h : OpenLast prior e l) : ∀ x ∈ prior, x.number ≠ e.number :=
  fun x hx => (h.prior x hx).2.2

variable (h : OpenLast prior e s.ghm.entries)
include h

theorem OpenLast.endWindow (closing : PulseResult) (segments : List (List GridInstant)) :
    endWindow closing segments s = afterEnd e segments (closedState prior e closing s) := by
  have hfound : openEntry s = some e := by
    have hnone : prior.find? (fun x => !x.ended) = none :=
      List.find?_eq_none.mpr fun x hx => by simp [(h.prior x hx).1]
    simp [openEntry, h.entries, List.find?_append, hnone, h.notEnded]
  have hmap : withEntry e.number (WindowEntry.closed closing s.cal) s = closedState prior e closing s := by
    simp [withEntry, closedState, withGhm, h.entries, map_ite_of_forall_not h.number_ne]
  simp only [Machine.endWindow, hfound]
  exact congrArg (afterEnd e segments) hmap

/-- The settlement of the ended entry takes it off the list (R89). -/
theorem OpenLast.settledEntries (o : WindowOutcome) (closing : PulseResult) (now : Option Timestamp) :
    settledEntries e.number o (prior ++ [e.closed closing now]) = prior := by
  have hkept : prior.filter (fun x => x.number ≠ e.number && !(x.ended && x.outcome.isSome)) = prior :=
    List.filter_eq_self.mpr fun x hx => by
      obtain ⟨-, houtcome, hnumber⟩ := h.prior x hx
      simp [houtcome, hnumber]
  rw [settledEntries_eq_filter o fun x hx hn => ?_, List.filter_append, hkept]
  · simp [WindowEntry.closed]
  · rcases List.mem_append.mp hx with hx | hx
    · exact absurd hn (h.number_ne x hx)
    · rw [List.mem_singleton.mp hx]
      rfl

end

/-- The settlement of a MISSED window is reported to the day record (R97). -/
theorem settleWindow_skipReported {o : WindowOutcome} (ho : o.isMissed = true) (n : Nat) (s : State) :
    SkipReported s (settleWindow n o s) := by
  have hplan : (settleWindow n o s).plan = (reportDay DayRecord.addSkip s).plan := by
    unfold settleWindow
    rw [(addSlot_eq _).1, reportOutcome, if_pos ho]
    unfold reportDay
    cases hcal : s.cal <;> simp [countGhm, pruneEntries, withEntry, withGhm, hcal]
  have hday := reportedDay_reportDay DayRecord.addSkip s
  rw [reportedDay, reportedDay, reportDay_cal] at hday
  unfold SkipReported dayAt
  rw [hplan]
  exact hday

/-- The settlement of the ended entry, over buffers and an engine that may have changed since its end. -/
theorem OpenLast.settled {prior : List WindowEntry} {e : WindowEntry} {s w : State} {bs : PerBuffer Buffer}
    (h : OpenLast prior e s.ghm.entries) (o : WindowOutcome) {closing : PulseResult}
    (hw : w = { closedState prior e closing s with afe := { s.afe with buffers := bs }, spe := w.spe }) :
    EndedSettled o bs prior s (settleWindow e.number o w) ∧ (settleWindow e.number o w).spe = w.spe := by
  have hframe := settleWindow_eq e.number o w
  have hghm : w.ghm = (closedState prior e closing s).ghm := (congrArg State.ghm hw :)
  have hcal : w.cal = s.cal := (congrArg State.cal hw :)
  have hcfg : w.cfg = s.cfg := (congrArg State.cfg hw :)
  have hafe : w.afe = { s.afe with buffers := bs } := (congrArg State.afe hw :)
  have hplan : w.plan = s.plan := (congrArg State.plan hw :)
  refine ⟨⟨⟨?_, ?_⟩, ?_, fun ho => ?_, fun hmissed => (settleWindow_plan hmissed e.number w).trans hplan⟩,
    (congrArg State.spe hframe :)⟩
  · exact (congrArg State.afe hframe :).trans hafe
  · exact (congrArg State.cfg hframe :).trans hcfg
  · rw [settleWindow_settled, hghm]
    show GhmState.slotAdded _ = _
    rw [closedState, withGhm, h.settledEntries o closing s.cal]
  · have hskip := settleWindow_skipReported ho e.number w
    unfold SkipReported dayAt at hskip ⊢
    rwa [hcal, hplan] at hskip

end Sys2Proof.Machine
end

section
/-! The end of the OPEN window by a VALID P2 result (R90, R91, R94): its outcome, or its HARMONICS request. -/

namespace Sys2Proof.Machine

section
variable {prior : List WindowEntry} {e : WindowEntry} {s : State} (h : OpenLast prior e s.ghm.entries)
  {closing : PulseResult} {segments : List (List GridInstant)}
include h

/-! ## Ends without a capture (R90) -/

/-- An entry settled before is removed (R89, R90). -/
theorem OpenLast.endWindow_settled (ho : e.outcome ≠ none) :
    EndedUnsettled s.afe.buffers prior s (Machine.endWindow closing segments s) ∧
      (Machine.endWindow closing segments s).spe = s.spe := by
  obtain ⟨o, ho⟩ := Option.ne_none_iff_exists'.mp ho
  have hstay : (prior ++ [e.closed closing s.cal]).filter WindowEntry.stays = prior := by
    have hprior : prior.filter WindowEntry.stays = prior :=
      List.filter_eq_self.mpr fun x hx => by simp [WindowEntry.stays, (h.prior x hx).2.1]
    rw [List.filter_append, hprior]
    simp [WindowEntry.closed, WindowEntry.stays, ho]
  have hend : Machine.endWindow closing segments s = withGhm (fun g => { g with entries := prior }) s := by
    rw [h.endWindow, afterEnd, ho]
    simp only [pruneEntries, closedState, withGhm, hstay]
  rw [hend]
  exact ⟨⟨⟨rfl, rfl⟩, rfl, rfl⟩, rfl⟩

/-- A window without a capture is MISSED by the refusal it keeps (R90). -/
theorem OpenLast.endWindow_missed (ho : e.outcome = none) (hb : e.buffer = none) {why : WindowRefusal}
    (hr : e.refusal = some why) :
    EndedSettled (.missed (missReason why)) s.afe.buffers prior s (Machine.endWindow closing segments s) ∧
      (Machine.endWindow closing segments s).spe = s.spe := by
  have hend : Machine.endWindow closing segments s =
      settleWindow e.number (.missed (missReason why)) (closedState prior e closing s) := by
    rw [h.endWindow, afterEnd, ho, hb, hr]
  rw [hend]
  exact h.settled _ rfl

/-! ## The judgement of the capture (R91) -/

/-- The capture completes, and its window is judged by its closing frequency (R14, R91). -/
theorem OpenLast.endWindow_capture (ho : e.outcome = none) {b : BufferId} (hb : e.buffer = some b) {r : CaptureRecord}
    (hfilling : bufferOf s b = .filling r) (hshort : (fillWindow r segments).stored < 1600) :
    Machine.endWindow closing segments s =
      let w := setBuffer b (.full (fillWindow r segments)) (closedState prior e closing s)
      if closing.freq < 45000 ∨ 65000 < closing.freq then
        settleWindow e.number .invalidFrequency (setBuffer b .free (closedState prior e closing s))
      else submitWindow e.number b closing (fillWindow r segments).stored w := by
  have hlimit : (fillWindow r segments).limitReached = false := decide_eq_false (Nat.not_le.mpr hshort)
  have hfound (w : State) (hw : w.ghm.entries = prior ++ [e.closed closing s.cal]) :
      (findEntry e.number w).bind (·.closing) = some closing := by
    have hnone : prior.find? (fun x => x.number = e.number) = none :=
      List.find?_eq_none.mpr fun x hx => by simpa using h.number_ne x hx
    rw [findEntry, hw, List.find?_append, hnone]
    simp [WindowEntry.closed]
  have hclosed : bufferOf (closedState prior e closing s) b = .filling r := hfilling
  rw [h.endWindow, afterEnd, ho, hb]
  simp only [endCapture, hclosed]
  rw [judgeWindow, hlimit, hfound _ rfl]
  simp only [releaseBuffer_setBuffer_full]

/-- A closing frequency out of range settles the window and frees its buffer (R91). -/
theorem OpenLast.endWindow_invalid (ho : e.outcome = none) {b : BufferId} (hb : e.buffer = some b) {r : CaptureRecord}
    (hfilling : bufferOf s b = .filling r) (hshort : (fillWindow r segments).stored < 1600)
    (hfreq : closing.freq < 45000 ∨ 65000 < closing.freq) :
    EndedSettled .invalidFrequency (s.afe.buffers.set b .free) prior s (Machine.endWindow closing segments s) ∧
      (Machine.endWindow closing segments s).spe = s.spe := by
  rw [h.endWindow_capture ho hb hfilling hshort]
  dsimp only
  rw [if_pos hfreq]
  exact h.settled _ rfl

end

/-! ## The HARMONICS request (R46 to R49, R94) -/

/-- The counters of the engine with those of the GHM moved. -/
def withGhmCounters (f : SpeCounters → SpeCounters) (x : SpeState) : PerMonitor SpeCounters :=
  x.counters.set .ghm (f (x.counters.get .ghm))

/-- The HARMONICS request of an ended window (R94). -/
def harmonicsRequest (e : WindowEntry) (b : BufferId) (closing : PulseResult) (full : CaptureRecord) (s : State) :
    AnalysisRequest :=
  newRequest .ghm e.number b (.harmonics closing.n closing.t full.stored) full s

/-- The entry of an ended window whose request is accepted (R94). -/
def requestedEntry (e : WindowEntry) (closing : PulseResult) (now : Option Timestamp) (x : WindowRequest) : WindowEntry :=
  { e.closed closing now with request := x }

section
variable {prior : List WindowEntry} {e : WindowEntry} {s : State} (h : OpenLast prior e s.ghm.entries)
  {closing : PulseResult} {b : BufferId} {full : CaptureRecord}
include h

/-- A request for a buffer that another request names is refused: the window is MISSED and its buffer freed (R46, R94). -/
theorem OpenLast.submitWindow_named (hnamed : bufferNamed b s = true) :
    let t := submitWindow e.number b closing full.stored (setBuffer b (.full full) (closedState prior e closing s))
    EndedSettled (.missed .queue) (s.afe.buffers.set b .free) prior s t ∧
      t.spe = { s.spe with counters := withGhmCounters (countRefusal .buffer) s.spe } := by
  dsimp only
  have hnamed' : bufferNamed b (setBuffer b (.full full) (closedState prior e closing s)) = true := hnamed
  have hjudge : judgeSubmission .ghm b (.harmonics closing.n closing.t full.stored)
      (setBuffer b (.full full) (closedState prior e closing s)) = .error .buffer := by
    simp [judgeSubmission, hnamed']
  have hsubmit : submitWindow e.number b closing full.stored (setBuffer b (.full full) (closedState prior e closing s)) =
      settleWindow e.number (.missed .queue)
        (setBuffer b .free (countSpe .ghm (countRefusal .buffer) (closedState prior e closing s))) := by
    simp only [submitWindow, submit, hjudge]
    rw [show countSpe .ghm (countRefusal .buffer) (setBuffer b (.full full) (closedState prior e closing s)) =
      setBuffer b (.full full) (countSpe .ghm (countRefusal .buffer) (closedState prior e closing s)) from rfl,
      releaseBuffer_setBuffer_full]
  rw [hsubmit]
  exact h.settled _ rfl

end

/-- A GHM request that begins takes its buffer and the engine, and the entry that waits for it is ANALYSING (R49, R94). -/
theorem begin_accepted_ghm {tag : Nat} {b : BufferId} {mode : AnalysisMode} {full : CaptureRecord} {w : State}
    (hfull : bufferOf w b = .full full) (hqueue : w.spe.queue = []) :
    let q := newRequest .ghm tag b mode full w
    beginRequest q (accepted .ghm tag b mode full w) =
      { w with
        afe := { w.afe with buffers := w.afe.buffers.set b (.inAnalysis full) }
        spe :=
          { w.spe with
            inProgress := some q, arrival := q.arrival
            counters := withGhmCounters (fun c => { c with accepted := inc16 c.accepted }) w.spe }
        ghm :=
          { w.ghm with entries := w.ghm.entries.map fun x =>
              if x.request = .queued q.arrival then { x with request := .analysing q.arrival } else x } } := by
  intro q
  have hbuffer : bufferOf (accepted .ghm tag b mode full w) b = .full full := hfull
  have herase : (w.spe.queue ++ [q]).eraseP (·.arrival = q.arrival) = w.spe.queue := by simp [hqueue]
  have hbegin : beginRequest q (accepted .ghm tag b mode full w) =
      noteBegun q (setBuffer b (bufferOf (accepted .ghm tag b mode full w) b).toAnalysis
        { w with spe :=
          { w.spe with
            queue := (w.spe.queue ++ [q]).eraseP (·.arrival = q.arrival), inProgress := some q, arrival := q.arrival
            counters := withGhmCounters (fun c => { c with accepted := inc16 c.accepted }) w.spe } }) := rfl
  rw [hbegin, hbuffer, herase]
  rfl

section
variable {prior : List WindowEntry} {e : WindowEntry} {s : State} (h : OpenLast prior e s.ghm.entries)
  {closing : PulseResult} {b : BufferId} {full : CaptureRecord}

include h in
/-- The request field of the ended entry is written once its request is accepted (R94). -/
theorem OpenLast.requested {bs : PerBuffer Buffer} {u : State} {c : WindowEntry} {x : WindowRequest} {a : Nat}
    (hended : WindowEnded bs s u) (hplan : u.plan = s.plan) (hghm : u.ghm = { s.ghm with entries := prior ++ [c] })
    (hnumber : c.number = e.number) (hc : { c with request := x } = requestedEntry e closing s.cal x)
    (hx : requestAfterSubmit b a u = x) :
    EndedUnsettled bs (prior ++ [requestedEntry e closing s.cal x]) s
      (withEntry e.number (fun y => { y with request := requestAfterSubmit b a u }) u) := by
  refine ⟨⟨hended.afe, hended.cfg⟩, ?_, hplan⟩
  rw [withEntry, withGhm, hghm, hx]
  dsimp only
  rw [List.map_append, map_ite_of_forall_not h.number_ne, List.map_singleton, if_pos hnumber, hc]

variable (howner : bufferOwner b = .ghm) (hnamed : bufferNamed b s = false)
  (hmode : modeOk .ghm (.harmonics closing.n closing.t full.stored) full = true)

include howner hnamed hmode in
/-- An accepted request leaves the entry with its arrival number (R94). -/
theorem submitWindow_ok :
    let w := setBuffer b (.full full) (closedState prior e closing s)
    let u := select (accepted .ghm e.number b (.harmonics closing.n closing.t full.stored) full w)
    submitWindow e.number b closing full.stored w =
      withEntry e.number
        (fun x => { x with request := requestAfterSubmit b (nextArrival s.spe.arrival) u }) u := by
  intro w u
  have hjudge : judgeSubmission .ghm b (.harmonics closing.n closing.t full.stored) w = .ok full :=
    judgeSubmission_ok (bufferOf_setBuffer_self ..) howner hnamed hmode
  rw [submitWindow, submit_ok e.number hjudge]
  rfl

include h howner hnamed hmode

/-- On an idle engine the request begins (R48, R49, R94). -/
theorem OpenLast.submitWindow_idle (hidle : s.spe.inProgress = none) (hqueue : s.spe.queue = [])
    (hfresh : ∀ x ∈ prior, x.request ≠ .queued (nextArrival s.spe.arrival)) :
    let request := harmonicsRequest e b closing full s
    let t := submitWindow e.number b closing full.stored (setBuffer b (.full full) (closedState prior e closing s))
    EndedUnsettled (s.afe.buffers.set b (.inAnalysis full))
        (prior ++ [requestedEntry e closing s.cal (.analysing request.arrival)]) s t ∧
      t.spe =
        { s.spe with
          inProgress := some request, arrival := request.arrival
          counters := withGhmCounters (fun c => { c with accepted := inc16 c.accepted }) s.spe } := by
  intro request t
  have hbegin := begin_accepted_ghm (tag := e.number) (mode := .harmonics closing.n closing.t full.stored)
    (bufferOf_setBuffer_self b (.full full) (closedState prior e closing s)) hqueue
  have ht := submitWindow_ok (prior := prior) (e := e) howner hnamed hmode
  dsimp only at ht
  rw [select_accepted_idle (s := setBuffer b (.full full) (closedState prior e closing s)) hidle hqueue] at ht
  dsimp only at hbegin
  generalize beginRequest _ _ = u at ht hbegin
  have hentries : (prior ++ [e.closed closing s.cal]).map (fun x =>
      if x.request = .queued request.arrival then { x with request := .analysing request.arrival } else x) =
        prior ++ [if e.request = .queued request.arrival then
          requestedEntry e closing s.cal (.analysing request.arrival) else e.closed closing s.cal] := by
    rw [List.map_append, map_ite_of_forall_not (p := fun x => x.request = .queued request.arrival) hfresh]
    rfl
  have hghm : u.ghm = { s.ghm with entries := prior ++ [if e.request = .queued request.arrival then
      requestedEntry e closing s.cal (.analysing request.arrival) else e.closed closing s.cal] } := by
    rw [hbegin, ← hentries]
    rfl
  have hprogress : u.spe.inProgress = some request := by
    rw [hbegin]
    rfl
  have hrequest : requestAfterSubmit b (nextArrival s.spe.arrival) u = .analysing request.arrival := by
    rw [requestAfterSubmit, hprogress]
    exact if_pos (decide_eq_true rfl)
  have hended : WindowEnded (s.afe.buffers.set b (.inAnalysis full)) s u := by
    rw [hbegin]
    exact ⟨by simp [setBuffer, closedState, withGhm], rfl⟩
  rw [show t = _ from ht]
  refine ⟨h.requested hended (by rw [hbegin]; rfl) hghm (by split <;> rfl) (by split <;> rfl) hrequest, ?_⟩
  show u.spe = _
  rw [hbegin]
  rfl

/-- Behind another request it waits last in the queue (R47, R94). -/
theorem OpenLast.submitWindow_busy (hbusy : s.spe.inProgress ≠ none) :
    let request := harmonicsRequest e b closing full s
    let t := submitWindow e.number b closing full.stored (setBuffer b (.full full) (closedState prior e closing s))
    EndedUnsettled (s.afe.buffers.set b (.full full))
        (prior ++ [requestedEntry e closing s.cal (.queued request.arrival)]) s t ∧
      t.spe =
        { s.spe with
          queue := s.spe.queue ++ [request], arrival := request.arrival
          counters := withGhmCounters (fun c => { c with accepted := inc16 c.accepted }) s.spe } := by
  intro request t
  have ht := submitWindow_ok (prior := prior) (e := e) howner hnamed hmode
  dsimp only at ht
  rw [select_accepted_busy (s := setBuffer b (.full full) (closedState prior e closing s)) hbusy] at ht
  have hrequest : requestAfterSubmit b (nextArrival s.spe.arrival) (accepted .ghm e.number b
      (.harmonics closing.n closing.t full.stored) full (setBuffer b (.full full) (closedState prior e closing s))) =
        .queued request.arrival := by
    refine if_neg fun hany => ?_
    rw [bufferNamed, Bool.or_eq_false_iff] at hnamed
    exact absurd hany (Bool.eq_false_iff.mp hnamed.2)
  rw [show t = _ from ht]
  exact ⟨h.requested ⟨rfl, rfl⟩ rfl rfl rfl rfl hrequest, rfl⟩

end

end Sys2Proof.Machine
end

section
/-! A VALID P2 result at the grid monitor (R90 to R94). -/

namespace Sys2Proof.Machine

/-- The clear of TACHO_STALL before the GHM handles a result reaches the pulse inputs, the alarms and the notices (R25). -/
theorem clearStall_eq (p : Pulse) (s : State) :
    clearStall p s =
      { s with ptu := (clearStall p s).ptu, ccu := (clearStall p s).ccu, lnk := (clearStall p s).lnk } := by
  unfold clearStall
  split
  · rcases clearAlarm_cases .tachoStall (.pulse p) (setPulse p { s.ptu.chan.get p with stallMark := false } s) with
      e | ⟨_, -, -, e⟩ | ⟨_, -, -, e⟩ <;> rw [e] <;> rfl
  · rfl

/-- The parameters of a HARMONICS request for a window that ended in time are inside their limits (R59). -/
theorem modeOk_harmonics {n t : Nat} {r : CaptureRecord} (hn : n = 10 ∨ n = 12) (hlow : 1 ≤ t) (hhigh : t ≤ max32)
    (htwo : 2 ≤ r.stored) (hshort : r.stored < 1600) : modeOk .ghm (.harmonics n t r.stored) r = true := by
  simp [modeOk, hn, hlow, hhigh, htwo, hshort.le]

/-- The ticks of a result are at least one and fit in 32 bits (R22). -/
theorem endResult_ticks {p : Pulse} {tick n since : Nat} {s : State} (h : since < tick) :
    1 ≤ (endResult p tick n since s).t ∧ (endResult p tick n since s).t ≤ max32 :=
  ⟨le_min (by omega) (by decide), min_le_right ..⟩

/-- An end pulse of P2 in operation: the GHM handles its result in a state that differs from the one before in the pulse inputs,
the alarms and the notices (R22, R25, R30). -/
theorem exec_gridEdge {tick n k since limit : Nat} {s : State} (segments : List (List GridInstant))
    (hop : s.ret.operating = true)
    (haccept : ∀ t, s.ptu.chan.p2.prevAccepted = some t → t < tick ∧ s.cfg.ptu.chan.p2.spacing ≤ tick - t)
    (hmeas : s.ptu.chan.p2.meas = .measuring n k since limit) (hk : n ≤ k + 1) {result : PulseResult}
    (hresult : result = endResult .p2 tick n since s) :
    ∃ ptu ccu lnk,
      let u := { s with ptu := ptu, ccu := ccu, lnk := lnk }
      exec (.pulseEdge .p2 tick segments) s = .next (rechecked s (ghmValid result segments u)) ∧
        (ghmValid result segments u).ptu.chan.p2.latest = some result := by
  have hexec := exec_endPulse (p := .p2) segments hop haccept hmeas hk
  have hlatest : (clearStall .p2 (setPulse .p2 (issuedPulse .p2 tick n since s) s)).ptu.chan.p2.latest = some result := by
    rw [clearStall_ptu, hresult]
    rfl
  rw [afterValid, clearStall_eq, ← hresult] at hexec
  exact ⟨_, _, _, hexec, by rw [(ghmValid_windowsOnly ..).ptu]; exact hlatest⟩

/-- Settles O29: the end of the OPEN window by its case (`OpenLast`), then the opening of the next (`openWindow_eq`). -/
theorem gridWindowEdge : Obligations.GridWindowEdge := by
  intro tick n k since limit segments s hop haccept hmeas hk hsince up g buffers trims day choice filled opened left
    unsettled settled skipped
  obtain ⟨result, hresult⟩ : ∃ r, r = endResult .p2 tick n since s := ⟨_, rfl⟩
  obtain ⟨ptu, ccu, lnk, hexec, hlatest⟩ := exec_gridEdge segments hop haccept hmeas hk hresult
  let u := { s with ptu := ptu, ccu := ccu, lnk := lnk }
  refine ⟨_, result, hexec, hlatest, by rw [hresult]; rfl, fun hoff => ?_, fun hsearching => ?_,
    fun prior e hrunning hentries hopen hprior => ?_⟩ <;> clear hexec hlatest
  · have hstay : ghmValid result segments u = u := by simp [ghmValid, u, show s.ghm.window = .off from hoff]
    rw [hstay]
    exact ⟨rfl, rfl, rfl⟩
  · have hopens : ghmValid result segments u = openWindow u := by
      simp [ghmValid, u, show s.ghm.window = .searching from hsearching]
    have hended : EndedUnsettled buffers g.entries u u := ⟨⟨rfl, rfl⟩, rfl, rfl⟩
    obtain ⟨hleft, hunsettled⟩ := hended.windowOpened
    rw [hopens]
    exact ⟨hleft, hunsettled, (openWindow_kept u).1⟩
  have hlast : OpenLast prior e u.ghm.entries := ⟨hentries, hopen, hprior⟩
  have hends : ghmValid result segments u = openWindow (endWindow result segments u) := by
    simp [ghmValid, u, show s.ghm.window = .running from hrunning]
  have hspe {x : SpeState} (h : (endWindow result segments u).spe = x) :
      (openWindow (endWindow result segments u)).spe = x := (openWindow_kept _).1.trans h
  rw [hends]
  refine ⟨fun ho => ?_, fun why ho hb hr => ?_, fun b r ho hb hgrid hfilling hkind hn => ?_⟩
  · obtain ⟨hended, hkept⟩ := hlast.endWindow_settled (closing := result) (segments := segments) ho
    obtain ⟨hleft, hunsettled⟩ := hended.windowOpened
    exact ⟨hleft, hunsettled, hspe hkept⟩
  · obtain ⟨hended, hkept⟩ := hlast.endWindow_missed (closing := result) (segments := segments) ho hb hr
    obtain ⟨hleft, hslot⟩ := hended.windowOpened
    exact ⟨hleft, hended.skipReported rfl, hspe hkept, by cases why <;> exact hslot⟩
  intro full arrival request closed counters accepted named freed htwo hshort
  refine ⟨fun hout => ?_, fun hlow hhigh => ?_⟩
  · obtain ⟨hended, hkept⟩ := hlast.endWindow_invalid ho hb hfilling hshort hout
    obtain ⟨hleft, hslot⟩ := hended.windowOpened
    exact ⟨hleft, hspe hkept, (openWindow_kept _).2.trans (hended.plan rfl), hslot⟩
  have hsubmit : endWindow result segments u =
      submitWindow e.number b result full.stored (setBuffer b (.full full) (closedState prior e result u)) := by
    rw [hlast.endWindow_capture ho hb hfilling hshort]
    exact if_neg (by omega)
  have howner : bufferOwner b = .ghm := by rcases hgrid with rfl | rfl <;> rfl
  have hnamed : named ↔ bufferNamed b u = true := by rw [bufferNamed_iff, or_comm]
  have hmode : modeOk .ghm (.harmonics result.n result.t full.stored) full = true := by
    obtain ⟨hone, hmax⟩ := endResult_ticks (p := .p2) (n := n) (s := s) hsince
    rw [hresult]
    exact modeOk_harmonics hn hone hmax htwo hshort
  rw [hsubmit] at hspe ⊢
  refine ⟨fun h => ?_, fun hidle hqueue hfresh => ?_, fun hbusy h => ?_⟩
  · obtain ⟨hended, hrefused⟩ := hlast.submitWindow_named (closing := result) (full := full) (hnamed.mp h)
    obtain ⟨hleft, hslot⟩ := hended.windowOpened
    exact ⟨hleft, hended.skipReported rfl, hslot, hspe hrefused⟩
  · have hfree : bufferNamed b u = false := by simp [bufferNamed, u, hidle, hqueue]
    obtain ⟨hended, hbegun⟩ := hlast.submitWindow_idle howner hfree hmode hidle hqueue hfresh
    obtain ⟨hleft, hunsettled⟩ := hended.windowOpened
    exact ⟨hleft, hunsettled, hspe hbegun⟩
  · have hfree : bufferNamed b u = false := Bool.eq_false_iff.mpr (mt hnamed.mpr h)
    obtain ⟨hended, hwaits⟩ := hlast.submitWindow_busy howner hfree hmode hbusy
    obtain ⟨hleft, hunsettled⟩ := hended.windowOpened
    exact ⟨hleft, hunsettled, hspe hwaits⟩

end Sys2Proof.Machine
end

section
/-! The GHM enable item (R108): the disable ends the window work, and the enable starts the search for a window. -/

namespace Sys2Proof.Machine

/-! ## The completion of a block (R98) -/

/-- A completed block leaves of the interval when it ends, and the disturbance state with the window state and the entries. -/
theorem completeBlock_spec (s : State) :
    completeBlock s = { s with ghm := (completeBlock s).ghm } ∧ (completeBlock s).ghm.block = GridBlock.empty ∧
      (completeBlock s).ghm.entries = s.ghm.entries ∧ (completeBlock s).ghm.disturbances = s.ghm.disturbances ∧
      (completeBlock s).ghm.interval =
        { s.ghm.interval with
          sums := (completeBlock s).ghm.interval.sums, values := (completeBlock s).ghm.interval.values } := by
  unfold completeBlock
  dsimp only
  split <;> exact ⟨rfl, rfl, rfl, rfl, rfl⟩

/-! ## Withdrawal and removal reports (R51, R94) -/

/-- The part of the interval that tells when it ends (R99). -/
def GridInterval.ending (i : GridInterval) : PlannedEnd × Bool × Bool := (i.planned, i.unaligned, i.begunOff)

/-- From `s` to `t` windows may have been settled and buffers freed; the disturbance counter and the end of the interval stay. -/
structure RemovalFrame (s t : State) : Prop where
  frame : t = { s with afe := t.afe, ghm := t.ghm, plan := t.plan }
  filling : ∀ b r, bufferOf t b = .filling r → bufferOf s b = .filling r
  disturbances : t.ghm.disturbances = s.ghm.disturbances
  interval : t.ghm.interval.ending = s.ghm.interval.ending

theorem RemovalFrame.refl (s : State) : RemovalFrame s s := ⟨rfl, fun _ _ h => h, rfl, rfl⟩

theorem RemovalFrame.trans {s t u : State} (h : RemovalFrame s t) (k : RemovalFrame t u) : RemovalFrame s u where
  frame := by rw [k.frame, h.frame]
  filling b r hb := h.filling b r (k.filling b r hb)
  disturbances := k.disturbances.trans h.disturbances
  interval := k.interval.trans h.interval

theorem releaseBuffer_removalFrame (b : BufferId) (s : State) : RemovalFrame s (releaseBuffer b s) := by
  rcases releaseBuffer_cases b s with e | ⟨-, e⟩ <;> rw [e]
  · exact .refl s
  · refine ⟨rfl, fun d r h => ?_, rfl, rfl⟩
    rw [bufferOf_setBuffer] at h
    split at h
    · cases h
    · exact h

theorem addValue_ending (v : Quantities (Option Nat)) (i : GridInterval) : (i.addValue v).ending = i.ending := by
  simp only [GridInterval.ending, GridInterval.addValue]

theorem slotAdded_ending (g : GhmState) : g.slotAdded.interval.ending = g.interval.ending := by
  unfold GhmState.slotAdded
  dsimp only
  split
  · exact addValue_ending ..
  · rfl

theorem settleWindow_removalFrame (n : Nat) (o : WindowOutcome) (s : State) : RemovalFrame s (settleWindow n o s) where
  frame := by rw [settleWindow_eq]
  filling b r h := by rwa [bufferOf_congr (congrArg State.afe (settleWindow_eq n o s) :)] at h
  disturbances := by rw [settleWindow_settled, GhmState.settled, GhmState.slotAdded]
  interval := by rw [settleWindow_settled, GhmState.settled, slotAdded_ending]

theorem ghmRemoval_removalFrame (s : State) (r : AnalysisRequest) : RemovalFrame s (ghmRemoval s r) := by
  have hrelease := releaseBuffer_removalFrame r.buffer s
  unfold ghmRemoval
  dsimp only
  split
  · exact hrelease
  · exact hrelease.trans (settleWindow_removalFrame ..)

/-- A FILLING capture is cancelled, any other buffer left as it is (R16). -/
theorem cancelFilling_removalFrame (b : BufferId) (s : State) :
    RemovalFrame s (cancelFilling b s) ∧ ∀ r, bufferOf (cancelFilling b s) b ≠ .filling r := by
  unfold cancelFilling cancelBuffer
  cases hb : bufferOf s b with
  | filling q =>
    refine ⟨⟨rfl, fun d r h => ?_, rfl, rfl⟩, fun r h => ?_⟩
    · simp only [Buffer.isFilling, if_true, bufferOf_setBuffer] at h
      split at h
      · cases h
      · exact h
    · simp [Buffer.isFilling] at h
  | _ => exact ⟨.refl s, by simp [Buffer.isFilling, hb]⟩

theorem withdrawn_ghm_iff (r : AnalysisRequest) : withdrawn .ghm none r = true ↔ r.source = .ghm := by
  simp [withdrawn]

/-- The withdrawal of all requests of the GHM changes the engine alone (R51). -/
theorem withdraw_ghm (s : State) :
    let w := (withdraw .ghm none s).2
    w = { s with spe := w.spe } ∧ w.spe.queue = s.spe.queue.filter (fun q => q.source ≠ .ghm) ∧
      w.spe.inProgress = s.spe.inProgress.map fun r => if r.source = .ghm then { r with discard := true } else r := by
  refine ⟨rfl, ?_, ?_⟩
  · show s.spe.queue.filter (fun r => !withdrawn .ghm none r) = _
    simp [withdrawn]
  · show s.spe.inProgress.map (fun r => if withdrawn .ghm none r then { r with discard := true } else r) = _
    simp only [withdrawn_ghm_iff]

section
variable {s t : State} (h : RemovalFrame s t)
include h

theorem RemovalFrame.cfg : t.cfg = s.cfg := (congrArg State.cfg h.frame :)
theorem RemovalFrame.mon : t.mon = s.mon := (congrArg State.mon h.frame :)
theorem RemovalFrame.records : t.records = s.records := (congrArg State.records h.frame :)
theorem RemovalFrame.spe : t.spe = s.spe := (congrArg State.spe h.frame :)

end

/-! ## The disable (R108) -/

/-- What the disable leaves (R108). -/
structure GhmDisabled (s t : State) : Prop where
  cfg : t.cfg = { s.cfg with ghm := { s.cfg.ghm with enable := false } }
  window : t.ghm.window = .off
  entries : t.ghm.entries = []
  block : t.ghm.block = GridBlock.empty
  disturbed : t.ghm.disturbed = false
  filling : ∀ r, bufferOf t .ghmA ≠ .filling r ∧ bufferOf t .ghmB ≠ .filling r
  queue : t.spe.queue = s.spe.queue.filter fun q => q.source ≠ .ghm
  inProgress : t.spe.inProgress = s.spe.inProgress.map fun r => if r.source = .ghm then { r with discard := true } else r
  disturbances : t.ghm.disturbances = s.ghm.disturbances
  interval : t.ghm.interval.ending = s.ghm.interval.ending
  mon : t.mon = s.mon
  records : t.records = s.records

/-- The end of the disable, once the removal reports are handled: the block completes, and the GHM is OFF. -/
def disableEnd (v : State) : State :=
  withGhmConfig (fun c => { c with enable := false })
    (withGhm (fun g => { g with disturbed := false, window := .off })
      (completeBlock (withGhm (fun g => { g with entries := [] }) v)))

/-- The disable ends in `disableEnd`, after the cancelled captures and the withdrawal with its removal reports. -/
theorem disableGhm_withdrawn (s : State) :
    ∃ u v, RemovalFrame s u ∧ (∀ r, bufferOf u .ghmA ≠ .filling r ∧ bufferOf u .ghmB ≠ .filling r) ∧
      RemovalFrame (withdraw .ghm none u).2 v ∧ disableGhm s = disableEnd v := by
  obtain ⟨hA, hnotA⟩ := cancelFilling_removalFrame .ghmA s
  obtain ⟨hB, hnotB⟩ := cancelFilling_removalFrame .ghmB (cancelFilling .ghmA s)
  refine ⟨_, _, hA.trans hB, fun r => ⟨fun h => hnotA r (hB.filling _ r h), hnotB r⟩, ?_, rfl⟩
  exact foldl_related RemovalFrame.refl RemovalFrame.trans _ (fun t r _ => ghmRemoval_removalFrame t r) _

theorem disableGhm_disabled (s : State) : GhmDisabled s (disableGhm s) := by
  obtain ⟨u, v, hu, hfilling, hv, e⟩ := disableGhm_withdrawn s
  obtain ⟨hwithdrawn, hqueue, hprogress⟩ := withdraw_ghm u
  generalize (withdraw .ghm none u).2 = w at hv hwithdrawn hqueue hprogress
  obtain ⟨hblock, hempty, hentries, hdisturbances, hinterval⟩ :=
    completeBlock_spec (withGhm (fun g => { g with entries := [] }) v)
  have hdone : disableEnd v =
      { v with
        cfg := { v.cfg with ghm := { v.cfg.ghm with enable := false } }
        ghm := { (completeBlock (withGhm (fun g => { g with entries := [] }) v)).ghm with disturbed := false, window := .off } } := by
    rw [disableEnd, hblock]
    rfl
  have hafe : w.afe = u.afe := by rw [hwithdrawn]
  have hghm : w.ghm = u.ghm := by rw [hwithdrawn]
  have hcfg : v.cfg = s.cfg := by rw [hv.cfg, hwithdrawn, ← hu.cfg]
  have hspe : v.spe = w.spe := hv.spe
  have hkept (b : BufferId) (r : CaptureRecord) (h : bufferOf v b = .filling r) : bufferOf u b = .filling r :=
    (bufferOf_congr hafe b).symm.trans (hv.filling b r h)
  rw [e, hdone]
  exact
    { cfg := by rw [hcfg]
      window := rfl
      entries := hentries
      block := hempty
      disturbed := rfl
      filling := fun r => ⟨fun h => (hfilling r).1 (hkept _ r h), fun h => (hfilling r).2 (hkept _ r h)⟩
      queue := by rw [← hu.spe, ← hqueue, ← hspe]
      inProgress := by rw [← hu.spe, ← hprogress, ← hspe]
      disturbances := hdisturbances.trans (by rw [← hu.disturbances, ← hghm, ← hv.disturbances]; rfl)
      interval := (congrArg GridInterval.ending hinterval).trans (by rw [← hu.interval, ← hghm, ← hv.interval]; rfl)
      mon := by rw [← hu.mon, hv.mon, hwithdrawn]
      records := by rw [← hu.records, hv.records, hwithdrawn] }

/-! ## The write of the enable item -/

/-- The enable starts the search, over the interval in progress or a new one (R99, R108). -/
theorem enableGhm_eq (s : State) :
    enableGhm s =
      { s with
        cfg := { s.cfg with ghm := { s.cfg.ghm with enable := true } }
        ghm :=
          { s.ghm with
            window := .searching
            interval :=
              if s.ghm.interval.begunOff then
                { sums := Quantities.all {}, unaligned := s.cal.isNone, planned := plannedEndFrom s.cal }
              else s.ghm.interval } } := by
  unfold enableGhm resumeInterval
  cases h : s.ghm.interval.begunOff
  · rw [if_neg (by exact Bool.eq_false_iff.mp h), if_neg (by decide)]
    rfl
  · rw [if_pos (by exact h), if_pos rfl]
    rfl

/-- The planned end of a new interval is the next ten-minute boundary, or in 600 s (R99). -/
theorem plannedEndFrom_eq (now : Option Timestamp) : plannedEndFrom now = freshEnd now := by
  cases now <;> rfl

/-- Settles O31: the enable by `enableGhm_eq`, the disable by `disableGhm_disabled`. -/
theorem ghmEnableWrite : Obligations.GhmEnableWrite := by
  intro p s hop hp
  refine ⟨fun v hv => ?_, fun hoff => ?_, fun hon => ?_⟩
  · have hw : handleWrite (.ghmEnable v) (requestCounted p s) = (requestCounted p s, plain .ok) := if_pos hv
    exact writeConfig_unchanged hop hp hw
  · have hw : handleWrite (.ghmEnable true) (requestCounted p s) = (requestCounted p (enableGhm s), plain .ok) := by
      have hchange : handleWrite (.ghmEnable true) (requestCounted p s) = (enableGhm (requestCounted p s), plain .ok) :=
        if_neg (by simp [requestCounted, hoff])
      rw [hchange, enableGhm_eq, enableGhm_eq]
      rfl
    refine (writeConfig_answered hop hp hw (.inr rfl)).trans ?_
    rw [enableGhm_eq, plannedEndFrom_eq]
    rfl
  · have hw : handleWrite (.ghmEnable false) (requestCounted p s) = (disableGhm (requestCounted p s), plain .ok) :=
      if_neg (by simp [requestCounted, hon])
    have hdone := disableGhm_disabled (requestCounted p s)
    generalize disableGhm (requestCounted p s) = u at hw hdone
    have hending := hdone.interval
    simp only [GridInterval.ending, Prod.mk.injEq] at hending
    obtain ⟨hplanned, hunaligned, hbegunOff⟩ := hending
    exact ⟨_, writeConfig_replied hop hp hw, hdone.cfg, hdone.window, hdone.entries, hdone.block, hdone.disturbed,
      hdone.filling, hdone.queue, hdone.inProgress, hdone.disturbances, hdone.mon, hplanned, hunaligned, hbegunOff,
      hdone.records, formReply_status p 0x31 (u, plain .ok)⟩

end Sys2Proof.Machine
end

section
/-! What raises, clears and posts leave of the compliance ring, the notices, the exceedances of the day and the contributions
(R102, R138, R143, R144, R157). -/

namespace Sys2Proof.Machine

/-! ## Notices held -/

/-- The categories of `m` are in the notice set of every port. -/
def NoticesHeld (m : NoticeSet) (s : State) : Prop := ∀ p, (s.lnk.get p).notices &&& m = m

theorem or_and_eq_right {x y m : NoticeSet} (h : x &&& m = m ∨ y &&& m = m) : (x ||| y) &&& m = m := by
  ext i hi
  have hbit : m[i] = true → x[i] = true ∨ y[i] = true := fun hm => by
    refine h.imp (fun e => ?_) (fun e => ?_) <;> rw [← e, BitVec.getElem_and, Bool.and_eq_true] at hm <;> exact hm.1
  rw [BitVec.getElem_and, BitVec.getElem_or]
  cases hm : m[i] with
  | false => exact Bool.and_false _
  | true => rw [Bool.and_true, Bool.or_eq_true_iff]; exact hbit hm

theorem setNotice_held (n : Notice) (s : State) : NoticesHeld n.bit (setNotice n s) := fun p => by
  rw [setNotice_get, refreshLine_notices, addNotice_notices]
  exact or_and_eq_right (.inr (BitVec.and_self ..))

/-! ## The judgement of a record -/

/-- What the judgement of a record leaves: the frame of a transition, the compliance ring, the exceedances of the day, and every
notice held. -/
structure JudgementFrame (s t : State) : Prop extends TransitionFrame s t where
  compliance : t.records.ring = s.records.ring
  exceedances : (reportedDay t).exceedances = (reportedDay s).exceedances
  notices : ∀ m, NoticesHeld m s → NoticesHeld m t

theorem JudgementFrame.refl (s : State) : JudgementFrame s s := ⟨.refl s, rfl, rfl, fun _ h => h⟩

theorem JudgementFrame.trans {s t u : State} (h : JudgementFrame s t) (k : JudgementFrame t u) : JudgementFrame s u :=
  ⟨h.toTransitionFrame.trans k.toTransitionFrame, k.compliance.trans h.compliance, k.exceedances.trans h.exceedances,
    fun m hm => k.notices m (h.notices m hm)⟩

/-- What an alarm action and a post of grades leave besides: the monitors' section and the contributions. -/
structure AlarmFrame (s t : State) : Prop where
  mon : t.mon = s.mon
  contributions : t.ccu.contributions = s.ccu.contributions
  exceedances : (reportedDay t).exceedances = (reportedDay s).exceedances
  notices : ∀ m, NoticesHeld m s → NoticesHeld m t

theorem AlarmFrame.refl (s : State) : AlarmFrame s s := ⟨rfl, rfl, rfl, fun _ h => h⟩

theorem AlarmFrame.trans {s t u : State} (h : AlarmFrame s t) (k : AlarmFrame t u) : AlarmFrame s u :=
  ⟨k.mon.trans h.mon, k.contributions.trans h.contributions, k.exceedances.trans h.exceedances,
    fun m hm => k.notices m (h.notices m hm)⟩

theorem setNotice_alarmFrame (n : Notice) (s : State) : AlarmFrame s (setNotice n s) :=
  ⟨rfl, rfl, rfl, fun m hm p => by
    rw [setNotice_get, refreshLine_notices, addNotice_notices]
    exact or_and_eq_right (.inl (hm p))⟩

/-! ### Alarms -/

theorem takeSnapshot_alarmFrame (c : AlarmCode) (x : Source) (s : State) : AlarmFrame s (takeSnapshot c x s) := by
  unfold takeSnapshot
  split
  · exact .refl s
  · refine AlarmFrame.trans ?_ (setNotice_alarmFrame ..)
    exact ⟨rfl, rfl, rfl, fun _ hm => hm⟩

theorem enteredActive_alarmFrame (b : Bool) (c : AlarmCode) (x : Source) (s : State) :
    AlarmFrame s (enteredActive b c x s) := by
  have hreport (t : State) : AlarmFrame t (reportDay DayRecord.addAlarm t) :=
    ⟨reportDay_mon .., by rw [reportDay_ccu], by rw [reportedDay_reportDay]; rfl,
      fun m hm => by unfold NoticesHeld; rwa [reportDay_lnk]⟩
  have hentered := (setNotice_alarmFrame .alarmRaised s).trans (hreport _)
  unfold enteredActive
  dsimp only
  split
  · exact hentered.trans (takeSnapshot_alarmFrame ..)
  · exact hentered

theorem createAlarm_alarmFrame (b : Bool) (c : AlarmCode) (x : Source) (s : State) :
    AlarmFrame s (createAlarm b c x s) := by
  refine AlarmFrame.trans ?_ (enteredActive_alarmFrame b c x _)
  exact ⟨rfl, rfl, rfl, fun _ hm => hm⟩

theorem raiseIntoFull_alarmFrame (b : Bool) (c : AlarmCode) (x : Source) (s : State) :
    AlarmFrame s (raiseIntoFull b c x s) := by
  have hevict (l : List AlarmEntry) : AlarmFrame s { s with ccu := countEviction { s.ccu with alarms := l } } :=
    ⟨rfl, rfl, rfl, fun _ hm => hm⟩
  unfold raiseIntoFull
  split
  · exact (hevict _).trans (createAlarm_alarmFrame ..)
  · split
    · exact (hevict _).trans (createAlarm_alarmFrame ..)
    · refine AlarmFrame.trans ?_ (setNotice_alarmFrame ..)
      exact ⟨rfl, rfl, rfl, fun _ hm => hm⟩

theorem updateAlarm_alarmFrame (c : AlarmCode) (x : Source) (f : AlarmEntry → AlarmEntry) (s : State) :
    AlarmFrame s (updateAlarm c x f s) := ⟨rfl, rfl, rfl, fun _ hm => hm⟩

theorem raise_alarmFrame (c : AlarmCode) (x : Source) (s : State) : AlarmFrame s (raise c x s) := by
  unfold raise raiseWith
  split
  · split
    · exact updateAlarm_alarmFrame ..
    · exact updateAlarm_alarmFrame ..
    · exact (updateAlarm_alarmFrame ..).trans (enteredActive_alarmFrame ..)
  · split
    · exact createAlarm_alarmFrame ..
    · exact raiseIntoFull_alarmFrame ..

theorem clearAlarm_alarmFrame (c : AlarmCode) (x : Source) (s : State) : AlarmFrame s (clearAlarm c x s) := by
  rcases clearAlarm_cases c x s with e | ⟨_, -, -, e⟩ | ⟨_, -, -, e⟩ <;> rw [e]
  · exact .refl s
  · exact (updateAlarm_alarmFrame ..).trans (setNotice_alarmFrame ..)
  · refine AlarmFrame.trans ?_ (setNotice_alarmFrame ..)
    exact ⟨rfl, rfl, rfl, fun _ hm => hm⟩

theorem raise_judgementFrame (c : AlarmCode) (x : Source) (s : State) : JudgementFrame s (raise c x s) :=
  have h := raise_alarmFrame c x s
  ⟨raise_frame c x s, raise_ring c x s, h.exceedances, h.notices⟩

theorem clearAlarm_judgementFrame (c : AlarmCode) (x : Source) (s : State) : JudgementFrame s (clearAlarm c x s) :=
  have h := clearAlarm_alarmFrame c x s
  ⟨clearAlarm_frame c x s, by rw [clearAlarm_records], h.exceedances, h.notices⟩

/-- A move from one alarm to another at one source. -/
theorem moveAlarm_reach (x : Source) (old new : Option AlarmCode) (s : State) :
    JudgementFrame s (moveAlarm x old new s) ∧ AlarmFrame s (moveAlarm x old new s) ∧
      (moveAlarm x old new s).mpl = s.mpl := by
  have hclear : JudgementFrame s (old.elim s (clearAlarm · x s)) ∧ AlarmFrame s (old.elim s (clearAlarm · x s)) ∧
      (old.elim s (clearAlarm · x s)).mpl = s.mpl := by
    cases old with
    | none => exact ⟨.refl s, .refl s, rfl⟩
    | some c => exact ⟨clearAlarm_judgementFrame c x s, clearAlarm_alarmFrame c x s, clearAlarm_mpl c x s⟩
  obtain ⟨hjudged, hframe, hmpl⟩ := hclear
  cases new with
  | none => exact ⟨hjudged, hframe, hmpl⟩
  | some d =>
    exact ⟨hjudged.trans (raise_judgementFrame d x _), hframe.trans (raise_alarmFrame d x _), (raise_mpl d x _).trans hmpl⟩

/-- A move of an alarm leaves the entries of a code that it does not name, where the table has a free entry. -/
theorem alarmsOf_moveAlarm_of_ne {c : AlarmCode} {old new : Option AlarmCode} (hold : old ≠ some c) (hnew : new ≠ some c)
    (x y : Source) {s : State} (hroom : s.ccu.alarms.length < 32) :
    alarmsOf c x (moveAlarm y old new s) = alarmsOf c x s := by
  have hclear : alarmsOf c x (old.elim s (clearAlarm · y s)) = alarmsOf c x s ∧
      (old.elim s (clearAlarm · y s)).ccu.alarms.length < 32 := by
    cases old with
    | none => exact ⟨rfl, hroom⟩
    | some d =>
      exact ⟨alarmsOf_clearAlarm_of_ne (fun h => hold (congrArg some h.symm)) x y s,
        (length_alarms_clearAlarm_le d y s).trans_lt hroom⟩
  cases new with
  | none => exact hclear.1
  | some d => exact (alarmsOf_raise_of_ne (fun h => hnew (congrArg some h.symm)) x y hclear.2).trans hclear.1

/-! ### Posts -/

theorem dropWaiting_alarmFrame (c : Fin 16) (s : State) : AlarmFrame s (dropWaiting c s) := by
  have hmark : AlarmFrame s (withWaiting (·.set c false) s) := ⟨rfl, rfl, rfl, fun _ hm => hm⟩
  unfold dropWaiting
  dsimp only
  split
  · split
    · exact hmark
    · exact hmark.trans (clearAlarm_alarmFrame ..)
  · exact .refl s

theorem gradeChanged_alarmFrame (c : Fin 16) (old new : Nat) (s : State) : AlarmFrame s (gradeChanged c old new s) := by
  have hwear : AlarmFrame s (withWear c (gradedWear s.cal old new)
      (withCompInterval c (fun i => { i with worst := max i.worst new }) s)) := ⟨rfl, rfl, rfl, fun _ hm => hm⟩
  unfold gradeChanged
  dsimp only
  split
  · exact hwear.trans (dropWaiting_alarmFrame ..)
  · exact hwear

theorem postGrades_alarmFrame (f : HeldGrades → HeldGrades) (s : State) : AlarmFrame s (postGrades f s) := by
  have hheld : AlarmFrame s (withGrades f s) := ⟨rfl, rfl, rfl, fun _ hm => hm⟩
  refine hheld.trans (foldl_related AlarmFrame.refl AlarmFrame.trans _ (fun t c _ => ?_) _)
  dsimp only
  split
  · exact .refl t
  · exact gradeChanged_alarmFrame ..

theorem postGrades_judgementFrame (f : HeldGrades → HeldGrades) (s : State) : JudgementFrame s (postGrades f s) :=
  have h := postGrades_alarmFrame f s
  ⟨postGrades_frame f s, by rw [(postGrades_bandsOnly f s).records], h.exceedances, h.notices⟩

/-- The post of the grid contribution leaves the current grade and its confirm counter (R105). -/
theorem postGrid_reach (s : State) :
    JudgementFrame s (postGrid s) ∧ (postGrid s).mpl = s.mpl ∧ (postGrid s).mon.currentGrade = s.mon.currentGrade ∧
      (postGrid s).mon.currentConfirm = s.mon.currentConfirm := by
  have hrecord : JudgementFrame s (recordContribution .grid (gridContribution s) s) :=
    ⟨transitionFrame_of_updates rfl rfl rfl rfl, rfl, rfl, fun _ hm => hm⟩
  unfold postGrid
  split
  · exact ⟨.refl s, rfl, rfl, rfl⟩
  rcases postContribution_cases .grid (gridContribution s) s with ⟨-, e⟩ | ⟨-, e⟩ <;> rw [e]
  · exact ⟨hrecord, rfl, rfl, rfl⟩
  · refine ⟨⟨transitionFrame_of_updates rfl rfl rfl rfl, rfl, rfl, fun m hm => ?_⟩, rfl, rfl, rfl⟩
    exact (setNotice_alarmFrame .ceilingChanged _).notices m hm

end Sys2Proof.Machine
end

section
/-! The compliance record of an interval (R101) and its place in the ring (R102). -/

namespace Sys2Proof.Machine

/-! ## The first greatest value of a function on a list -/

/-- The fold that keeps the first order of greatest value ends at one of the orders it has seen, with none greater and none
before it as great. -/
theorem foldl_first_greatest (f : Nat → Nat) (l : List Nat) (b : Nat) (hl : l.Pairwise (· ≤ ·)) (hb : ∀ x ∈ l, b ≤ x) :
    ∃ w, l.foldl (fun best h => if best.2 < f h then (h, f h) else best) (b, f b) = (w, f w) ∧ w ∈ b :: l ∧
      ∀ x ∈ b :: l, f x ≤ f w ∧ (x < w → f x < f w) := by
  induction l generalizing b with
  | nil => exact ⟨b, rfl, List.mem_cons_self, fun x hx => by rw [List.mem_singleton.mp hx]; simp⟩
  | cons a l ih =>
    obtain ⟨ha, hl⟩ := List.pairwise_cons.mp hl
    have hba := hb a List.mem_cons_self
    rw [List.foldl_cons]
    dsimp only
    by_cases hlt : f b < f a
    · obtain ⟨w, hfold, hw, hgreatest⟩ := ih a hl ha
      rw [if_pos hlt]
      refine ⟨w, hfold, List.mem_cons_of_mem b hw, fun x hx => ?_⟩
      rcases List.mem_cons.mp hx with rfl | hx
      · have hfa := (hgreatest a List.mem_cons_self).1
        exact ⟨by omega, fun _ => by omega⟩
      · exact hgreatest x hx
    · obtain ⟨w, hfold, hw, hgreatest⟩ := ih b hl fun x hx => hb x (List.mem_cons_of_mem a hx)
      obtain ⟨hfb, hfirst⟩ := hgreatest b List.mem_cons_self
      rw [if_neg hlt]
      refine ⟨w, hfold, ?_, fun x hx => ?_⟩
      · rcases List.mem_cons.mp hw with h | h
        · exact List.mem_cons.mpr (.inl h)
        · exact List.mem_cons_of_mem b (List.mem_cons_of_mem a h)
      · rcases List.mem_cons.mp hx with rfl | hx
        · exact ⟨hfb, hfirst⟩
        rcases List.mem_cons.mp hx with rfl | hx
        · exact ⟨by omega, fun hxw => by have := hfirst (by omega); omega⟩
        · exact hgreatest x (List.mem_cons_of_mem b hx)

/-! ## The values of an interval (R98, R101) -/

theorem mem_orders_iff (h : Nat) : h ∈ orders ↔ 2 ≤ h ∧ h ≤ 40 := by
  simp only [orders, List.mem_map, List.mem_range]
  exact ⟨fun ⟨i, hi, e⟩ => by omega, fun ⟨hlo, hhi⟩ => ⟨h - 2, by omega, by omega⟩⟩

theorem orders_pairwise : orders.Pairwise (· < ·) := by decide

theorem toList_vmap {α β : Type} {n : Nat} (f : α → β) (v : Vector α n) : (vmap f v).toList = v.toList.map f := by
  refine List.ext_getElem (by simp) fun i hi hj => ?_
  simp

theorem greatestRatio_eq (i : GridInterval) (h : Nat) :
    greatestRatio (i.sums.map SquareSum.root) h = tenMinuteRatio i h := by
  have hphase (v : Vector SquareSum 39) :
      ((vmap SquareSum.root v).toList.getD (h - 2) none).getD 0 = ((v.toList[h - 2]?).bind SquareSum.root).getD 0 := by
    rw [toList_vmap, List.getD_eq_getElem?_getD, List.getElem?_map]
    cases v.toList[h - 2]? <;> rfl
  show max (max (max 0 _) _) _ = _
  simp only [Quantities.map, PerPhase.map, hphase, Nat.zero_max]
  rfl

/-- The interval that a completed block leaves is the one its record is taken from (R98, R101). -/
theorem completeBlock_interval (s : State) : (completeBlock s).ghm.interval = completedInterval s := by
  have hplus : SquareSum.add = fun (q : SquareSum) (v : Option Nat) => match v with
      | none => q
      | some x => { sum := q.sum + x ^ 2, count := q.count + 1 } := by
    funext q v
    cases v with
    | none => rfl
    | some x => simp only [SquareSum.add, pow_two]
  unfold completeBlock completedInterval
  dsimp only
  split
  · rfl
  · exact congrArg
      (fun add => { s.ghm.interval with
        sums := s.ghm.interval.sums.zip add (s.ghm.block.sums.map SquareSum.root), values := s.ghm.interval.values + 1 }) hplus

/-- The record that closes an interval is that of R101. -/
theorem complianceRecord_recordOf {timeSet : Bool} {s u : State} (hcal : u.cal = s.cal) (hcfg : u.cfg = s.cfg)
    (hinterval : u.ghm.interval = completedInterval s) : RecordOf timeSet s (complianceRecord timeSet u) := by
  have hratio (h : Nat) :
      greatestRatio (u.ghm.interval.sums.map SquareSum.root) h = tenMinuteRatio (completedInterval s) h := by
    rw [greatestRatio_eq, hinterval]
  obtain ⟨w, hfold, hw, hgreatest⟩ := foldl_first_greatest (tenMinuteRatio (completedInterval s)) orders 2
    (orders_pairwise.imp Nat.le_of_lt) fun x hx => ((mem_orders_iff x).mp hx).1
  have hworst : worstHarmonic (u.ghm.interval.sums.map SquareSum.root) = (w, tenMinuteRatio (completedInterval s) w) := by
    simpa only [worstHarmonic, hratio] using hfold
  have horder : 2 ≤ w ∧ w ≤ 40 := by
    rcases List.mem_cons.mp hw with h | h
    · omega
    · exact (mem_orders_iff w).mp h
  have hall (h : Nat) (hlo : 2 ≤ h) (hhi : h ≤ 40) := hgreatest h (List.mem_cons_of_mem 2 ((mem_orders_iff h).mpr ⟨hlo, hhi⟩))
  unfold RecordOf
  dsimp only [complianceRecord]
  rw [hworst, hcal, hcfg]
  rw [← hinterval] at *
  refine ⟨rfl, rfl, rfl, rfl, rfl, decide_eq_true_iff, rfl, rfl, rfl, horder.1, horder.2, rfl,
    fun h hlo hhi => (hall h hlo hhi).1, fun h hlo hlt => (hall h hlo (by omega)).2 hlt, ?_, fun h => ?_⟩
  · exact orders_pairwise.filter _
  · simp only [exceededOrders, List.mem_filter, mem_orders_iff, decide_eq_true_iff, greatestRatio_eq, and_assoc]

/-! ## The greatest current THD (R104) -/

theorem greatestCurrentThd_iff (r : ComplianceRecord) (x : Nat) :
    greatestCurrentThd r = some x ↔ GreatestCurrentThd r x := by
  have hmem (y : Nat) : some y ∈ r.iThd.toList ↔ y ∈ r.iThd.toList.filterMap id := by simp
  unfold greatestCurrentThd GreatestCurrentThd
  simp only [hmem]
  cases hl : r.iThd.toList.filterMap id with
  | nil => simp
  | cons a l =>
    obtain ⟨-, hle⟩ := le_foldl_max (a :: l) 0
    have hgreatest : (a :: l).foldl max 0 ∈ a :: l := by
      rcases foldl_max_mem (a :: l) 0 with h | h
      · have ha := hle a List.mem_cons_self
        rw [h] at ha ⊢
        exact List.mem_cons.mpr (.inl (Nat.le_zero.mp ha).symm)
      · exact h
    constructor
    · rintro ⟨rfl⟩
      exact ⟨hgreatest, hle⟩
    · rintro ⟨hx, hbound⟩
      exact congrArg some (le_antisymm (hbound _ hgreatest) (hle x hx))

/-! ## The ring (R102) -/

/-- A record is stored where its interval end is later than that of the newest one (R102). -/
theorem ringTakes_iff (r : ComplianceRecord) (ring : List ComplianceRecord) :
    ringTakes r ring = true ↔
      ∃ e, r.intervalEnd = some e ∧ ∀ x n, ring.getLast? = some x → x.intervalEnd = some n → n.before e = true := by
  unfold ringTakes laterThanNewest
  cases r.intervalEnd with
  | none => simp
  | some e =>
    cases ring.getLast? with
    | none => simp
    | some x =>
      have hlast : (∀ y n, some x = some y → y.intervalEnd = some n → n.before e = true) ↔
          ∀ n, x.intervalEnd = some n → n.before e = true :=
        ⟨fun h n => h x n rfl, fun h y n hy => Option.some.inj hy ▸ h n⟩
      refine Iff.trans ?_ ⟨fun h => ⟨e, rfl, hlast.mpr h⟩, fun ⟨_, rfl, h⟩ => hlast.mp h⟩
      cases hx : x.intervalEnd <;> simp [hx]

theorem ringAppend_eq (r : ComplianceRecord) (ring : List ComplianceRecord) :
    ringAppend r ring = (if ring.length = 144 then ring.drop 1 else ring) ++ [r] := by
  unfold ringAppend
  by_cases h : ring.length = 144
  · rw [if_pos (by simp [h]), if_pos h, List.drop_append_of_le_length (by omega)]
  · rw [if_neg (by simpa using h), if_neg h]

/-- What the offer of a closed record to the ring leaves (R102). -/
structure RecordOffered (r : ComplianceRecord) (s t : State) : Prop where
  frame : t = { s with records := t.records, ghm := t.ghm, lnk := t.lnk }
  ghm : t.ghm = { s.ghm with counters := { s.ghm.counters with orderDropped := t.ghm.counters.orderDropped } }
  taken : ringTakes r s.records.ring = true →
    t.records.ring = ringAppend r s.records.ring ∧ t.ghm.counters.orderDropped = s.ghm.counters.orderDropped ∧
      NoticesHeld 0x040#16 t
  dropped : ringTakes r s.records.ring = false →
    t.records.ring = s.records.ring ∧ t.ghm.counters.orderDropped = inc16 s.ghm.counters.orderDropped

theorem offerRecord_offered (r : ComplianceRecord) (s : State) : RecordOffered r s (offerRecord r s) := by
  unfold offerRecord
  cases h : ringTakes r s.records.ring
  · exact ⟨rfl, rfl, fun ht => absurd (h.symm.trans ht) (by decide), fun _ => ⟨rfl, rfl⟩⟩
  · exact ⟨rfl, rfl, fun _ => ⟨rfl, rfl, setNotice_held .gridRecord _⟩, fun ht => absurd (h.symm.trans ht) (by decide)⟩

end Sys2Proof.Machine
end

section
/-! The judgement of a closed record (R103 to R105): the voltage alarm, the current grade, and what follows a change of it. -/

namespace Sys2Proof.Machine

/-! ## The voltage alarm (R103) -/

theorem voltageAlarm_sparse {r : ComplianceRecord} (h : r.sparse = true) (s : State) : voltageAlarm r s = s := if_pos h

theorem voltageAlarm_within {r : ComplianceRecord} (h : r.sparse = false) (hr : r.exceeded = []) (s : State) :
    voltageAlarm r s = clearAlarm .gridVoltageExceed .ghm s := by
  rw [voltageAlarm, if_neg (by simp [h]), hr]

theorem voltageAlarm_exceeded {r : ComplianceRecord} (h : r.sparse = false) (hr : r.exceeded ≠ []) (s : State) :
    voltageAlarm r s = raise .gridVoltageExceed .ghm s := by
  obtain ⟨a, l, e⟩ := List.exists_cons_of_ne_nil hr
  rw [voltageAlarm, if_neg (by simp [h]), e]

/-- What the voltage alarm leaves; of the alarms it makes at most one entry. -/
structure VoltageJudged (s t : State) : Prop extends AlarmFrame s t where
  judged : JudgementFrame s t
  mpl : t.mpl = s.mpl
  count : t.ccu.alarms.length ≤ s.ccu.alarms.length + 1
  keyed : AlarmsKeyed s → AlarmsKeyed t

theorem voltageAlarm_judged (r : ComplianceRecord) (s : State) : VoltageJudged s (voltageAlarm r s) := by
  cases h : r.sparse with
  | true =>
    rw [voltageAlarm_sparse h]
    exact ⟨.refl s, .refl s, rfl, Nat.le_succ _, id⟩
  | false =>
    by_cases hr : r.exceeded = []
    · rw [voltageAlarm_within h hr]
      have hstep := clearAlarm_alarmStep .gridVoltageExceed .ghm s
      exact ⟨clearAlarm_alarmFrame .., clearAlarm_judgementFrame .., clearAlarm_mpl .., hstep.count, hstep.keyed⟩
    · rw [voltageAlarm_exceeded h hr]
      have hstep := raise_alarmStep .gridVoltageExceed .ghm s
      exact ⟨raise_alarmFrame .., raise_judgementFrame .., raise_mpl .., hstep.count, hstep.keyed⟩

/-! ## The current grade (R104) -/

theorem gradedBy_congr {s t : State} (hcfg : t.cfg = s.cfg) (hmon : t.mon = s.mon) (x : Nat) :
    gradedBy x t = gradedBy x s ∧ confirmedBy x t = confirmedBy x s := by
  unfold gradedBy confirmedBy
  rw [hcfg, hmon]
  exact ⟨rfl, rfl⟩

theorem currentGradeAfter_eq (x : Nat) (s : State) :
    currentGradeAfter s.cfg.ghm x (currentConfirmAfter s.cfg.ghm x s.mon.currentConfirm) s.mon.currentGrade =
      gradedBy x s := by
  have hconfirm : currentConfirmAfter s.cfg.ghm x s.mon.currentConfirm = confirmedBy x s := rfl
  unfold currentGradeAfter gradedBy
  rw [hconfirm]
  match s.mon.currentGrade with
  | 0 => rfl
  | 1 => rfl
  | g + 2 => simp

/-- The state in which a graded record has set the confirm counter and the grade (R104). -/
def gradedState (x : Nat) (s : State) : State :=
  { s with mon := { s.mon with currentConfirm := confirmedBy x s, currentGrade := gradedBy x s } }

theorem gradeCurrent_graded {r : ComplianceRecord} {x : Nat} (h : r.sparse = false) (hx : GreatestCurrentThd r x) (s : State) :
    gradeCurrent r s = currentGradeChange s.mon.currentGrade (gradedBy x s) (gradedState x s) := by
  rw [gradeCurrent, h, (greatestCurrentThd_iff r x).mpr hx]
  dsimp only
  rw [currentGradeAfter_eq]
  rfl

theorem gradeCurrent_ungraded {r : ComplianceRecord} (h : r.sparse = true ∨ ∀ x, ¬ GreatestCurrentThd r x) (s : State) :
    gradeCurrent r s = s := by
  unfold gradeCurrent
  split
  · next x hsparse hx =>
    rcases h with h | h
    · exact absurd (hsparse.symm.trans h) (by decide)
    · exact absurd ((greatestCurrentThd_iff r x).mp hx) (h x)
  · rfl

/-! ## A change of the current grade (R104, R105) -/

/-- The alarm of a current grade (R104). -/
def currentAlarm (grade : Nat) : Option AlarmCode :=
  if grade = 1 then some .gridCurrentAlert else if grade = 2 then some .gridCurrentAlarm else none

theorem currentAlarm_eq_alert {grade : Nat} : currentAlarm grade = some .gridCurrentAlert ↔ grade = 1 := by
  unfold currentAlarm
  split
  · simpa
  · split <;> simpa

theorem currentAlarm_eq_alarm {grade : Nat} : currentAlarm grade = some .gridCurrentAlarm ↔ grade = 2 := by
  unfold currentAlarm
  split
  · simp; omega
  · split <;> simpa

theorem currentAlarm_ne_voltage (grade : Nat) : currentAlarm grade ≠ some .gridVoltageExceed := by
  unfold currentAlarm
  split
  · decide
  · split <;> decide

theorem currentAlarms_eq {old new : Nat} (h : old ≠ new) (s : State) :
    currentAlarms old new s = moveAlarm .ghm (currentAlarm old) (currentAlarm new) s := by
  have hold : (if old = 1 then clearAlarm .gridCurrentAlert .ghm s
      else if old = 2 then clearAlarm .gridCurrentAlarm .ghm s else s) =
        (currentAlarm old).elim s (clearAlarm · .ghm s) := by
    unfold currentAlarm
    split
    · rfl
    · split <;> rfl
  have hnew (u : State) : (if new = 1 then raise .gridCurrentAlert .ghm u
      else if new = 2 then raise .gridCurrentAlarm .ghm u else u) = (currentAlarm new).elim u (raise · .ghm u) := by
    unfold currentAlarm
    split
    · rfl
    · split <;> rfl
  simp only [currentAlarms, if_neg h, hold, hnew, moveAlarm]

/-- What a change of the current grade to `new` does: it moves the alarms, then posts the grade and the contribution. -/
structure GradeMoved (old new : Nat) (s t : State) : Prop where
  frame : JudgementFrame s t
  grade : t.mon.currentGrade = s.mon.currentGrade
  confirm : t.mon.currentConfirm = s.mon.currentConfirm
  grades : t.mpl.grades = { s.mpl.grades with current := new }
  contribution : t.ccu.contributions.grid = some (gridContribution s)
  alarms : ∀ c x, c ≠ .taskTableFull →
    alarmsOf c x t = alarmsOf c x (moveAlarm .ghm (currentAlarm old) (currentAlarm new) s)

theorem gridContribution_congr {s t : State} (hcfg : t.cfg = s.cfg) (hmon : t.mon.currentGrade = s.mon.currentGrade) :
    gridContribution t = gridContribution s := by
  unfold gridContribution
  rw [hcfg, hmon]

theorem currentGradeChange_moved {old new : Nat} (h : old ≠ new) (s : State) :
    GradeMoved old new s (currentGradeChange old new s) := by
  obtain ⟨u, hu⟩ : ∃ u, u = moveAlarm .ghm (currentAlarm old) (currentAlarm new) s := ⟨_, rfl⟩
  obtain ⟨v, hv⟩ : ∃ v, v = postGrades (fun g => { g with current := new }) u := ⟨_, rfl⟩
  have hchange : currentGradeChange old new s = postGrid v := by
    rw [currentGradeChange, if_neg h, currentAlarms_eq h, hv, hu]
  obtain ⟨hmoved, hkept, hmpl⟩ := moveAlarm_reach .ghm (currentAlarm old) (currentAlarm new) s
  rw [← hu] at hmoved hkept hmpl
  have hposted := postGrades_judgementFrame (fun g => { g with current := new }) u
  have hmon := (postGrades_alarmFrame (fun g => { g with current := new }) u).mon
  obtain ⟨hpost, hgrades⟩ := postGrades_postFrame (fun g => { g with current := new }) u
  rw [← hv] at hposted hmon hpost hgrades
  obtain ⟨hframe, hheld, hgrade, hconfirm⟩ := postGrid_reach v
  have hgrid := postGrid_posted v
  have hmon' : v.mon = s.mon := hmon.trans hkept.mon
  rw [hchange]
  refine ⟨(hmoved.trans hposted).trans hframe, hgrade.trans (by rw [hmon']), hconfirm.trans (by rw [hmon']), ?_, ?_,
    fun c x hc => ?_⟩
  · rw [hheld, hgrades, hmpl]
  · rw [hgrid.contributions, ← gridContribution_congr (hposted.cfg.trans hmoved.cfg) (by rw [hmon'])]
    rfl
  · rw [alarmsOf, hgrid.alarms, ← hu]
    exact hpost.alarms c x hc

/-- The alarms of a grade moved from one to another (R104). -/
theorem GradeMoved.currentAlarms {old new : Nat} {s t : State} (h : GradeMoved old new s t) (hne : old ≠ new)
    (hk : AlarmsKeyed s) (hroom : s.ccu.alarms.length < 32) :
    (new = 1 → AlarmActive .gridCurrentAlert .ghm t) ∧ (new = 2 → AlarmActive .gridCurrentAlarm .ghm t) ∧
      (old = 1 → AlarmQuiet .gridCurrentAlert .ghm t) ∧ (old = 2 → AlarmQuiet .gridCurrentAlarm .ghm t) := by
  simp only [alarmActive_iff, alarmQuiet_iff, h.alarms _ _ (by decide : AlarmCode.gridCurrentAlert ≠ .taskTableFull),
    h.alarms _ _ (by decide : AlarmCode.gridCurrentAlarm ≠ .taskTableFull)]
  simp only [← alarmActive_iff, ← alarmQuiet_iff]
  refine ⟨?_, ?_, ?_, ?_⟩
  · rintro rfl
    exact moveAlarm_active hroom
  · rintro rfl
    exact moveAlarm_active hroom
  · rintro rfl
    exact moveAlarm_quiet hk hroom fun e => hne (currentAlarm_eq_alert.mp e).symm
  · rintro rfl
    exact moveAlarm_quiet hk hroom fun e => hne (currentAlarm_eq_alarm.mp e).symm

/-- A move of the current alarms leaves the voltage alarm. -/
theorem GradeMoved.voltageAlarm {old new : Nat} {s t : State} (h : GradeMoved old new s t)
    (hroom : s.ccu.alarms.length < 32) : alarmsOf .gridVoltageExceed .ghm t = alarmsOf .gridVoltageExceed .ghm s :=
  (h.alarms _ _ (by decide)).trans
    (alarmsOf_moveAlarm_of_ne (currentAlarm_ne_voltage old) (currentAlarm_ne_voltage new) .ghm .ghm hroom)

/-! ## The grading of a record (R104, R105) -/

/-- The grade held by the Planner and the grid contribution stay. -/
def GridPostsKept (s t : State) : Prop :=
  t.mpl.grades = s.mpl.grades ∧ t.ccu.contributions.grid = s.ccu.contributions.grid

/-- What the grading of a record with the greatest current THD `x` does (R104, R105). -/
structure RecordGraded (x : Nat) (s t : State) : Prop where
  frame : JudgementFrame s t
  confirm : t.mon.currentConfirm = confirmedBy x s
  grade : t.mon.currentGrade = gradedBy x s
  same : gradedBy x s = s.mon.currentGrade → GridPostsKept s t ∧ t.ccu = s.ccu
  changed : gradedBy x s ≠ s.mon.currentGrade → GradeMoved s.mon.currentGrade (gradedBy x s) (gradedState x s) t

theorem gradeCurrent_recordGraded {r : ComplianceRecord} {x : Nat} (h : r.sparse = false) (hx : GreatestCurrentThd r x)
    (s : State) : RecordGraded x s (gradeCurrent r s) := by
  have hgraded : JudgementFrame s (gradedState x s) :=
    ⟨transitionFrame_of_updates rfl rfl rfl rfl, rfl, rfl, fun _ hm => hm⟩
  rw [gradeCurrent_graded h hx]
  by_cases hne : s.mon.currentGrade = gradedBy x s
  · rw [currentGradeChange, if_pos hne]
    exact ⟨hgraded, rfl, rfl, fun _ => ⟨⟨rfl, rfl⟩, rfl⟩, fun hdiff => absurd hne.symm hdiff⟩
  · have hmoved := currentGradeChange_moved hne (gradedState x s)
    exact ⟨hgraded.trans hmoved.frame, hmoved.confirm, hmoved.grade, fun hsame => absurd hsame.symm hne, fun _ => hmoved⟩

end Sys2Proof.Machine
end

section
/-! The end of a grid interval (R99 to R105). -/

namespace Sys2Proof.Machine

/-! ## The report to the day record (R102) -/

theorem reportRecord_eq (r : ComplianceRecord) (s : State) :
    reportRecord r s = { s with plan := (reportRecord r s).plan } ∧
      (reportedDay (reportRecord r s)).exceedances =
        if r.exceeded = [] then (reportedDay s).exceedances else inc16 (reportedDay s).exceedances := by
  unfold reportRecord
  split
  · exact ⟨rfl, rfl⟩
  · refine ⟨?_, by rw [reportedDay_reportDay]; rfl⟩
    unfold reportDay
    split <;> rfl

/-! ## A closed record (R102 to R105) -/

/-- The states a closed record goes through: `u` once it is offered to the ring, `v` after the voltage alarm, `w` once it is
graded, and `t` once it is reported. -/
structure RecordClosing (r : ComplianceRecord) (s u v w t : State) : Prop where
  offered : RecordOffered r (countGhm (fun c => { c with closed := inc16 c.closed }) s) u
  voltage : v = voltageAlarm r u
  graded : w = gradeCurrent r v
  reported : t = { w with plan := t.plan }
  exceedances : (reportedDay t).exceedances =
    if r.exceeded = [] then (reportedDay w).exceedances else inc16 (reportedDay w).exceedances

theorem closeRecord_closing (r : ComplianceRecord) (s : State) : ∃ u v w, RecordClosing r s u v w (closeRecord r s) :=
  ⟨_, _, _, offerRecord_offered r _, rfl, rfl, (reportRecord_eq r _).1, (reportRecord_eq r _).2⟩

section
variable {r : ComplianceRecord} {s u v w t : State} (h : RecordClosing r s u v w t)
include h

theorem RecordClosing.voltageJudged : VoltageJudged u v := h.voltage ▸ voltageAlarm_judged r u

theorem RecordClosing.recordGraded {x : Nat} (hsparse : r.sparse = false) (hx : GreatestCurrentThd r x) :
    RecordGraded x v w := h.graded ▸ gradeCurrent_recordGraded hsparse hx v

theorem RecordClosing.ungraded (hx : r.sparse = true ∨ ∀ x, ¬ GreatestCurrentThd r x) : w = v :=
  h.graded.trans (gradeCurrent_ungraded hx v)

/-- A record is graded by its greatest current THD, or not at all (R104). -/
theorem RecordClosing.graded_cases :
    ((r.sparse = true ∨ ∀ x, ¬ GreatestCurrentThd r x) ∧ w = v) ∨
      ∃ x, r.sparse = false ∧ GreatestCurrentThd r x ∧ RecordGraded x v w := by
  by_cases hx : r.sparse = true ∨ ∀ x, ¬ GreatestCurrentThd r x
  · exact .inl ⟨hx, h.ungraded hx⟩
  · obtain ⟨hsparse, hsome⟩ := not_or.mp hx
    obtain ⟨x, hx⟩ := not_forall_not.mp hsome
    have hsparse := Bool.eq_false_iff.mpr hsparse
    exact .inr ⟨x, hsparse, hx, h.recordGraded hsparse hx⟩

/-- What the judgements leave of the state in which the record was offered. -/
theorem RecordClosing.judged : JudgementFrame u w := by
  rcases h.graded_cases with ⟨-, e⟩ | ⟨x, -, -, hgraded⟩
  · exact e ▸ h.voltageJudged.judged
  · exact h.voltageJudged.judged.trans hgraded.frame

theorem RecordClosing.mon : v.mon = s.mon := h.voltageJudged.mon.trans (congrArg State.mon h.offered.frame :)
theorem RecordClosing.cfg : v.cfg = s.cfg := h.voltageJudged.judged.cfg.trans (congrArg State.cfg h.offered.frame :)
theorem RecordClosing.offeredCcu : u.ccu = s.ccu := (congrArg State.ccu h.offered.frame :)

theorem RecordClosing.postsKept : GridPostsKept s v :=
  ⟨by rw [h.voltageJudged.mpl, h.offered.frame]; rfl, by rw [h.voltageJudged.contributions, h.offeredCcu]⟩

/-- The ring, the current grade and the posts of a closed record (R102, R104, R105). -/
theorem RecordClosing.recordJudged : RecordJudged r s t := by
  have hring : t.records.ring = u.records.ring := by rw [h.reported]; exact h.judged.compliance
  have hghm : t.ghm = u.ghm := by rw [h.reported]; exact h.judged.ghm
  have hclosed : t.ghm.counters.closed = inc16 s.ghm.counters.closed := by rw [hghm, h.offered.ghm]; rfl
  have hmon : t.mon = w.mon := (congrArg State.mon h.reported :)
  have hmpl : t.mpl = w.mpl := (congrArg State.mpl h.reported :)
  have hccu : t.ccu = w.ccu := (congrArg State.ccu h.reported :)
  have hlnk : t.lnk = w.lnk := (congrArg State.lnk h.reported :)
  have hposts := h.postsKept
  refine ⟨hclosed, fun hlater => ?_, fun hlater => ?_, fun hnone => ?_, fun x hsparse hx => ?_⟩
  · obtain ⟨htaken, hdropped, hnotices⟩ := h.offered.taken ((ringTakes_iff ..).mpr hlater)
    refine ⟨?_, by rw [hghm, hdropped]; rfl, fun p => ?_⟩
    · rw [hring, htaken]
      exact ringAppend_eq ..
    · rw [hlnk]
      exact h.judged.notices _ hnotices p
  · obtain ⟨hkept, hdropped⟩ := h.offered.dropped (Bool.eq_false_iff.mpr (mt (ringTakes_iff ..).mp hlater))
    exact ⟨by rw [hring, hkept]; rfl, by rw [hghm, hdropped]; rfl⟩
  · have hsame := h.ungraded hnone
    rw [hmon, hmpl, hccu, hsame, h.mon]
    exact ⟨rfl, rfl, hposts⟩
  · have hgraded := h.recordGraded hsparse hx
    obtain ⟨hgrade, hconfirm⟩ := gradedBy_congr h.cfg h.mon x
    have hmonv := h.mon
    rw [hmon, hmpl, hccu, ← hgrade, ← hconfirm, ← hmonv]
    refine ⟨hgraded.confirm, hgraded.grade, fun hsame => ?_, fun hdiff => ?_⟩
    · obtain ⟨⟨hgrades, hgrid⟩, -⟩ := hgraded.same hsame
      exact ⟨hgrades.trans hposts.1, hgrid.trans hposts.2⟩
    · have hmoved := hgraded.changed hdiff
      refine ⟨by rw [hmoved.grades, ← hposts.1]; rfl, ?_⟩
      rw [hmoved.contribution, ← h.cfg]
      rfl

/-- The alarms of a closed record (R103, R104). -/
theorem RecordClosing.recordAlarms (hk : AlarmsKeyed s) (hroom : s.ccu.alarms.length ≤ 30) : RecordAlarms r s t := by
  have hccu : t.ccu = w.ccu := (congrArg State.ccu h.reported :)
  have hkeyed : AlarmsKeyed u := by unfold AlarmsKeyed; rwa [h.offeredCcu]
  have hcount : v.ccu.alarms.length < 32 := by
    have := h.voltageJudged.count
    rw [h.offeredCcu] at this
    omega
  have hlength : u.ccu.alarms.length < 32 := by rw [h.offeredCcu]; omega
  have hvoltage : alarmsOf .gridVoltageExceed .ghm t = alarmsOf .gridVoltageExceed .ghm v := by
    rw [alarmsOf, hccu]
    rcases h.graded_cases with ⟨-, e⟩ | ⟨x, -, -, hgraded⟩
    · rw [e]
      rfl
    by_cases hsame : gradedBy x v = v.mon.currentGrade
    · rw [(hgraded.same hsame).2]
      rfl
    · exact (hgraded.changed hsame).voltageAlarm hcount
  refine ⟨fun hsparse hr => ?_, fun hsparse hr => ?_, fun x hsparse hx hdiff => ?_⟩
  · rw [alarmActive_iff, hvoltage, ← alarmActive_iff, h.voltage, voltageAlarm_exceeded hsparse hr]
    exact raise_active _ _ u (.inl hlength)
  · rw [alarmQuiet_iff, hvoltage, ← alarmQuiet_iff, h.voltage, voltageAlarm_within hsparse hr]
    exact clearAlarm_quiet _ _ u hkeyed
  · have hgrade := (gradedBy_congr h.cfg h.mon x).1
    rw [← hgrade, ← h.mon] at hdiff ⊢
    have hmoved := (h.recordGraded hsparse hx).changed hdiff
    have halarms := hmoved.currentAlarms (Ne.symm hdiff) (h.voltageJudged.keyed hkeyed) hcount
    unfold AlarmActive AlarmQuiet at halarms ⊢
    rwa [hccu]

/-- The day record of a closed record (R102). -/
theorem RecordClosing.day :
    (reportedDay t).exceedances =
      if r.exceeded = [] then (reportedDay s).exceedances else inc16 (reportedDay s).exceedances := by
  have hoffered : reportedDay u = reportedDay s := by rw [h.offered.frame]; rfl
  rw [h.exceedances, h.judged.exceedances, hoffered]

/-- What a closed record leaves: of the GHM it moves two counters, and the rest of what a judgement leaves is that of `s`. -/
theorem RecordClosing.frame :
    t.ghm = { s.ghm with
        counters :=
          { s.ghm.counters with
            closed := inc16 s.ghm.counters.closed, orderDropped := t.ghm.counters.orderDropped } } ∧
      t.afe = s.afe ∧ t.spe = s.spe ∧ t.ptu = s.ptu ∧ t.rch = s.rch ∧ t.cal = s.cal ∧ t.cfg = s.cfg := by
  have hghm : t.ghm = u.ghm := by rw [h.reported]; exact h.judged.ghm
  have hjudged := h.judged
  have hoffered := h.offered.frame
  refine ⟨?_, ?_, ?_, ?_, ?_, ?_, ?_⟩
  · rw [hghm]
    exact h.offered.ghm
  · rw [h.reported]
    exact hjudged.afe.trans (congrArg State.afe hoffered :)
  · rw [h.reported]
    exact hjudged.spe.trans (congrArg State.spe hoffered :)
  · rw [h.reported]
    exact hjudged.ptu.trans (congrArg State.ptu hoffered :)
  · rw [h.reported]
    exact hjudged.rch.trans (congrArg State.rch hoffered :)
  · rw [h.reported]
    exact hjudged.cal.trans (congrArg State.cal hoffered :)
  · rw [h.reported]
    exact hjudged.cfg.trans (congrArg State.cfg hoffered :)

end

end Sys2Proof.Machine
end

section
/-! The end of an unaligned grid interval (R98 to R105). -/

namespace Sys2Proof.Machine

/-! ## The completed block (R98) -/

/-- The counters and the last summary that a completed block leaves (R98). -/
theorem completeBlock_counts (s : State) :
    (completeBlock s).ghm.counters =
        { s.ghm.counters with
          emptyBlock := if s.ghm.block.analysed = 0 then inc16 s.ghm.counters.emptyBlock else s.ghm.counters.emptyBlock } ∧
      (completeBlock s).ghm.lastSummary =
        if s.ghm.block.analysed = 0 then s.ghm.lastSummary
        else some (summaryOf (s.ghm.block.sums.map SquareSum.root) s.ghm.block) := by
  unfold completeBlock
  dsimp only
  split
  · exact ⟨rfl, rfl⟩
  · exact ⟨rfl, rfl⟩

theorem completeBlock_of_none {s : State} (h : s.ghm.block.analysed = 0) :
    completeBlock s =
      countGhm (fun c => { c with emptyBlock := inc16 c.emptyBlock })
        (withGhm (fun g => { g with block := GridBlock.empty }) s) := if_pos h

theorem completedInterval_values (s : State) :
    (completedInterval s).values = if s.ghm.block.analysed = 0 then s.ghm.interval.values else s.ghm.interval.values + 1 := by
  unfold completedInterval
  dsimp only
  split <;> rfl

/-- A record is judged in the state before its block completed, too: only the GHM changed, and not the counters of records. -/
theorem RecordJudged.before {r : ComplianceRecord} {s b t : State} (hframe : b = { s with ghm := b.ghm })
    (hclosed : b.ghm.counters.closed = s.ghm.counters.closed)
    (hdropped : b.ghm.counters.orderDropped = s.ghm.counters.orderDropped) (h : RecordJudged r b t) :
    RecordJudged r s t := by
  rw [hframe] at h
  unfold RecordJudged at h ⊢
  dsimp only at h
  rw [hclosed, hdropped] at h
  exact h

theorem RecordAlarms.before {r : ComplianceRecord} {s b t : State} (hframe : b = { s with ghm := b.ghm })
    (h : RecordAlarms r b t) : RecordAlarms r s t := by
  rw [hframe] at h
  exact h

/-! ## The end of the interval (R99, R100) -/

/-- The interval that begins at the calendar reading of `s` (R99). -/
def nextInterval (s : State) : GridInterval :=
  { sums := Quantities.all {}, unaligned := s.cal.isNone, planned := freshEnd s.cal, begunOff := !s.cfg.ghm.enable }

theorem startInterval_eq (s : State) : startInterval s = { s with ghm := { s.ghm with interval := nextInterval s } } := by
  rw [nextInterval, ← plannedEndFrom_eq]
  rfl

theorem nextInterval_congr {s t : State} (hcal : t.cal = s.cal) (hcfg : t.cfg = s.cfg) : nextInterval t = nextInterval s := by
  rw [nextInterval, nextInterval, hcal, hcfg]

theorem ghmUnalignedEnd_waits {s : State} (h : s.ghm.interval.planned ≠ .seconds 0) : ghmUnalignedEnd s = s :=
  if_neg (mt (secondsDone_iff _).mp h)

theorem ghmUnalignedEnd_ends {s : State} (h : s.ghm.interval.planned = .seconds 0) :
    ghmUnalignedEnd s = ghmIntervalEnd s := if_pos ((secondsDone_iff _).mpr h)

/-- An interval without a 3-second value is discarded (R100). -/
theorem ghmIntervalEnd_empty {s : State} (h : (completedInterval s).values = 0) :
    ghmIntervalEnd s =
      startInterval (countGhm (fun c => { c with emptyInterval := inc16 c.emptyInterval }) (completeBlock s)) := by
  rw [ghmIntervalEnd, closeInterval, completeBlock_interval, if_pos h]

/-- Any other closes into its record (R100, R101). -/
theorem ghmIntervalEnd_closes {s : State} (h : (completedInterval s).values ≠ 0) :
    ghmIntervalEnd s = startInterval (closeRecord (complianceRecord false (completeBlock s)) (completeBlock s)) := by
  rw [ghmIntervalEnd, closeInterval, completeBlock_interval, if_neg h]

/-- Settles O32: without effect, discarded by `ghmIntervalEnd_empty`, or closed into a record by `closeRecord_closing`. -/
theorem unalignedGridIntervalEnds : Obligations.UnalignedGridIntervalEnds := by
  intro s hop c fresh day
  have hexec : exec .ghmUnalignedIntervalEnd s = .next (rechecked s (ghmUnalignedEnd s)) := inOperation_operating _ hop
  obtain ⟨hblock, hempty, -, -, -⟩ := completeBlock_spec s
  obtain ⟨hcounters, hsummary⟩ := completeBlock_counts s
  have hvalues := completedInterval_values s
  refine ⟨fun hwaits => ?_, fun hends => ⟨fun hnone hanalysed => ?_, fun hsome => ?_⟩⟩
  · rw [hexec, ghmUnalignedEnd_waits hwaits, rechecked_self]
  · rw [hanalysed, if_pos rfl, hnone] at hvalues
    have hend : ghmUnalignedEnd s = { s with ghm :=
        { s.ghm with
          block := GridBlock.empty, interval := fresh
          counters := { c with emptyBlock := inc16 c.emptyBlock, emptyInterval := inc16 c.emptyInterval } } } := by
      rw [ghmUnalignedEnd_ends hends, ghmIntervalEnd_empty hvalues, completeBlock_of_none hanalysed, startInterval_eq]
      rfl
    rw [hexec, hend, rechecked_kept] <;> rfl
  · have hcloses : (completedInterval s).values ≠ 0 := by
      rw [hvalues]
      split
      · next h => exact hsome.resolve_right (not_not.mpr h)
      · exact Nat.succ_ne_zero _
    obtain ⟨u, v, w, hclosing⟩ := closeRecord_closing (complianceRecord false (completeBlock s)) (completeBlock s)
    have hrecord := complianceRecord_recordOf (timeSet := false) (s := s) (congrArg State.cal hblock :)
      (congrArg State.cfg hblock :) (completeBlock_interval s)
    rw [ghmUnalignedEnd_ends hends, ghmIntervalEnd_closes hcloses] at hexec
    generalize complianceRecord false (completeBlock s) = r at hclosing hrecord hexec
    rw [startInterval_eq] at hexec
    generalize closeRecord r (completeBlock s) = t at hclosing hexec
    generalize completeBlock s = b at *
    obtain ⟨hghm, hafe, hspe, hptu, hrch, hcal, hcfg⟩ := hclosing.frame
    have hday := hclosing.day
    have hjudged := hclosing.recordJudged.before hblock (by rw [hcounters]) (by rw [hcounters])
    have hccu : b.ccu = s.ccu := (congrArg State.ccu hblock :)
    have halarms (hk : AlarmsKeyed s) (hroom : s.ccu.alarms.length ≤ 30) : RecordAlarms r s t :=
      (hclosing.recordAlarms (by unfold AlarmsKeyed; rwa [hccu]) (by rwa [hccu])).before hblock
    have hcal' : t.cal = s.cal := hcal.trans (congrArg State.cal hblock :)
    have hcfg' : t.cfg = s.cfg := hcfg.trans (congrArg State.cfg hblock :)
    have hreported : reportedDay b = reportedDay s := by rw [hblock]; rfl
    refine ⟨_, r, hexec, ?_, nextInterval_congr hcal' hcfg', hrecord, hjudged, halarms, ?_, ?_, ?_,
      hafe.trans (congrArg State.afe hblock :), hspe.trans (congrArg State.spe hblock :),
      hptu.trans (congrArg State.ptu hblock :), hrch.trans (congrArg State.rch hblock :), hcal', hcfg'⟩
    · show t.ghm.block = _
      rw [hghm]
      exact hempty
    · rw [hreported, reportedDay, hcal'] at hday
      exact hday
    · show t.ghm.lastSummary = _
      rw [hghm]
      exact hsummary
    · show t.ghm.counters.emptyBlock = _
      rw [hghm, hcounters]
      rfl

end Sys2Proof.Machine
end

section
/-! Requests on the farm port, the icing contribution and the override (R128 to R130, R189). -/

namespace Sys2Proof.Machine

/-! ## Requests of the farm port (R189, R195) -/

section
variable {s : State} (hop : s.ret.operating = true)
include hop

/-- A request that R195 admits on the farm port is answered by its owner, who turns the state into `u`. -/
theorem farmRequest_replied {r : Request} {u : State} {a : Answer} (hk : permissionOf r.kind = some .farm)
    (h : handle .fp r (requestCounted .fp s) = (u, a)) :
    inOperation (takeRequest .fp r) s = .next (rechecked s (formReply .fp r.kind (u, a))) := by
  have htake : takeRequest .fp r s = formReply .fp r.kind (handle .fp r (requestCounted .fp s)) :=
    takeRequest_admitted .fp r .farm s hk rfl
  rw [inOperation_operating _ hop, htake, h]

/-- Such a request whose owner changes nothing. -/
theorem farmRequest_unchanged {r : Request} {st : Status} (hk : permissionOf r.kind = some .farm)
    (h : handle .fp r (requestCounted .fp s) = (requestCounted .fp s, plain st)) :
    inOperation (takeRequest .fp r) s = .next (answered .fp r.kind (plain st) s) := by
  rw [farmRequest_replied hop hk h, requestCounted, formReply_answered .fp r.kind (plain st) s (.inr rfl),
    rechecked_answered_self]

end

/-- The reply to a request row carries the status and the content of an answer that was granted. -/
theorem formReply_reply (p : Port) (k : Octet) {r : State × Answer} (h : hasContent r.2.status = true) :
    ∃ y, ((formReply p k r).lnk.get p).reply = some y ∧ y.status = r.2.status ∧ y.content = r.2.content :=
  ⟨replyFor p k 0 r.2 r.1, by cases p <;> rfl, rfl, if_pos h⟩

/-! ## The icing contribution (R128) -/

theorem icingContribution_congr {s t : State} (hicing : t.mon.icing = s.mon.icing)
    (hoverride : t.bim.override = s.bim.override) : icingContribution t = icingContribution s := by
  unfold icingContribution
  rw [hicing, hoverride]

theorem icingContribution_override {s : State} (h : s.bim.override ≠ none) : icingContribution s = 100 :=
  if_pos (Option.isSome_iff_ne_none.mpr h)

/-- What the post of the icing contribution, or its omission where it is held already, leaves (R128). -/
structure IcingPosted (s t : State) : Prop where
  frame : t = { s with ccu := t.ccu, mon := t.mon, lnk := t.lnk }
  icing : t.mon.icing = s.mon.icing
  contribution : t.ccu.contributions.icing = some (icingContribution s)
  alarms : t.ccu.alarms = s.ccu.alarms

theorem postIcing_posted (s : State) : IcingPosted s (postIcing s) := by
  unfold postIcing
  split
  · next hheld => exact ⟨rfl, rfl, hheld, rfl⟩
  · rcases postContribution_cases .icing (icingContribution s) s with ⟨-, e⟩ | ⟨-, e⟩ <;> rw [e] <;> exact ⟨rfl, rfl, rfl, rfl⟩

section
variable {s t : State} (h : IcingPosted s t)
include h

theorem IcingPosted.bim : t.bim = s.bim := (congrArg State.bim h.frame :)
theorem IcingPosted.cfg : t.cfg = s.cfg := (congrArg State.cfg h.frame :)
theorem IcingPosted.mpl : t.mpl = s.mpl := (congrArg State.mpl h.frame :)
theorem IcingPosted.plan : t.plan = s.plan := (congrArg State.plan h.frame :)

/-- The contribution held after a post is the one that the state after it gives. -/
theorem IcingPosted.current : t.ccu.contributions.icing = some (icingContribution t) := by
  rw [h.contribution, icingContribution_congr h.icing (by rw [h.bim])]

end

/-! ## The override (R129, R130) -/

/-- The state with an override, or with none, before the contribution is posted. -/
def withOverride (o : Option Nat) (s : State) : State := { s with bim := { s.bim with override := o } }

theorem setOverride_posted (o : Option Nat) (s : State) : IcingPosted (withOverride o s) (setOverride o s) :=
  postIcing_posted (withOverride o s)

theorem endOverride_posted {s : State} (h : s.bim.override ≠ none) : IcingPosted (withOverride none s) (endOverride s) := by
  obtain ⟨n, hn⟩ := Option.ne_none_iff_exists'.mp h
  rw [endOverride, hn]
  exact setOverride_posted none s

theorem bimOverrideBegin_zero (s : State) : bimOverrideBegin 0 s = (s, plain .range) := if_pos rfl

section
variable {d : Nat} {s : State} (hd : 1 ≤ d)
include hd

theorem bimOverrideBegin_notIced (h : s.mon.icing.state = .clear ∨ s.mon.icing.state = .suspect) :
    bimOverrideBegin d s = (s, plain .state) := by
  rw [bimOverrideBegin, if_neg (by omega), if_pos h]
  rfl

variable (h : s.mon.icing.state = .iced ∨ s.mon.icing.state = .shedding)
include h

theorem bimOverrideBegin_onSite (hsite : s.mpl.presence ≠ none) : bimOverrideBegin d s = (s, plain .onSite) := by
  rw [bimOverrideBegin, if_neg (by omega), if_neg (by rcases h with h | h <;> simp [h]),
    if_pos (Option.isSome_iff_ne_none.mpr hsite)]
  rfl

theorem bimOverrideBegin_granted (hsite : s.mpl.presence = none) :
    bimOverrideBegin d s =
      (setOverride (some (min d 120 * 60)) s, { status := .ok, content := encNat 2 (min d 120) }) := by
  rw [bimOverrideBegin, if_neg (by omega), if_neg (by rcases h with h | h <;> simp [h]), if_neg (by simp [hsite])]

end

/-- The minutes granted, at most 120, take two octets with a high one of 0 (R199). -/
theorem encNat_granted (d : Nat) : encNat 2 (min d 120) = [0x00#8, BitVec.ofNat 8 (min d 120)] := by
  have hhigh : min d 120 / 256 = 0 := Nat.div_eq_of_lt (by omega)
  simp [encNat, hhigh]

/-- Settles O35: the refusals by the cases of `bimOverrideBegin`; a grant and both ends post by `IcingPosted`. -/
theorem icingOverride : Obligations.IcingOverride := by
  intro s hop byState
  refine ⟨farmRequest_unchanged hop (r := .overrideBegin 0) rfl (bimOverrideBegin_zero _), fun d hd => ⟨fun hstate => ?_,
    fun hstate => ⟨fun hsite => ?_, fun hsite => ?_⟩⟩, fun hnone => ?_, fun hrunning => ?_, fun hsome c hc => ?_⟩
  · exact farmRequest_unchanged hop (r := .overrideBegin d) rfl (bimOverrideBegin_notIced hd hstate)
  · exact farmRequest_unchanged hop (r := .overrideBegin d) rfl (bimOverrideBegin_onSite hd hstate hsite)
  · have hgranted : handle .fp (.overrideBegin d) (requestCounted .fp s) = _ := bimOverrideBegin_granted hd hstate hsite
    have hposted := setOverride_posted (some (min d 120 * 60)) (requestCounted .fp s)
    generalize setOverride _ (requestCounted .fp s) = u at hgranted hposted
    obtain ⟨y, hreply, hstatus, hcontent⟩ := formReply_reply .fp 0x38
      (r := (u, { status := .ok, content := encNat 2 (min d 120) })) rfl
    refine ⟨_, y, farmRequest_replied hop (r := .overrideBegin d) rfl hgranted, hposted.bim, ?_, hreply, hstatus,
      hcontent.trans (encNat_granted d), hposted.icing, hposted.mpl, hposted.plan, hposted.cfg⟩
    exact hposted.contribution.trans (congrArg some (icingContribution_override (Option.some_ne_none _)))
  · have hrefused : bimOverrideEnd (requestCounted .fp s) = (requestCounted .fp s, plain .state) :=
      if_neg (by simp [requestCounted, hnone])
    exact farmRequest_unchanged hop (r := .overrideEnd) rfl hrefused
  · have hexec : exec .overrideExpiry s = .next (rechecked s (overrideExpiry s)) := inOperation_operating _ hop
    rcases overrideExpiry_cases s with ⟨hdue, -⟩ | ⟨-, hkept⟩
    · exact absurd hdue hrunning
    · rw [hexec, hkept, rechecked_self]
  · rcases hc with rfl | ⟨rfl, hdue⟩
    · have hended : bimOverrideEnd (requestCounted .fp s) = (endOverride (requestCounted .fp s), plain .ok) :=
        if_pos (Option.isSome_iff_ne_none.mpr hsome)
      have hposted := endOverride_posted (s := requestCounted .fp s) hsome
      generalize endOverride (requestCounted .fp s) = u at hended hposted
      exact ⟨_, farmRequest_replied hop (r := .overrideEnd) rfl hended, hposted.bim, hposted.contribution,
        fun _ => formReply_status .fp 0x39 (u, plain .ok), hposted.icing, hposted.mpl, hposted.plan, hposted.cfg⟩
    · have hposted := endOverride_posted hsome
      have hexec : exec .overrideExpiry s = .next (rechecked s (overrideExpiry s)) := inOperation_operating _ hop
      rcases overrideExpiry_cases s with ⟨-, hended⟩ | ⟨hrunning, -⟩
      · rw [hended] at hexec
        exact ⟨_, hexec, hposted.bim, hposted.contribution, nofun, hposted.icing, hposted.mpl, hposted.plan, hposted.cfg⟩
      · exact absurd hdue hrunning

end Sys2Proof.Machine
end

section
/-! The threshold sets (R119 to R121). -/

namespace Sys2Proof.Machine

/-- The check of a threshold set, as the ranges of R119. -/
theorem thresholdsOk_iff (x : ThresholdSet) :
    thresholdsOk x = true ↔
      1 ≤ x.suspectOn ∧ x.suspectOn ≤ 2000 ∧ x.suspectOff < x.suspectOn ∧ x.suspectOn ≤ x.icedOn ∧ x.icedOn ≤ 2000 ∧
        x.icedOff < x.icedOn ∧ -300 ≤ x.tIce ∧ x.tIce ≤ 300 ∧ 0 ≤ x.tHyst ∧ x.tHyst ≤ 200 ∧ 1 ≤ x.persistence ∧
        x.persistence ≤ 60 ∧ 1 ≤ x.shedHold ∧ x.shedHold ≤ 720 ∧ 10 ≤ x.parkedAccretion ∧ x.parkedAccretion ≤ 2880 ∧
        x.suspectCeiling ≤ 100 ∧ x.icedCeiling ≤ 100 ∧ x.sheddingCeiling ≤ 100 := by
  simp only [thresholdsOk, Bool.and_eq_true, decide_eq_true_eq, and_assoc]

/-- A change of the active set and of what tells where it comes from, with the post of the contribution (R120, R121, R128). -/
theorem reloadProfile_posted (h : Heater) (s : State) :
    IcingPosted (withIcing (fun r => { r with active := profileOf s h, loaded := h }) s) (reloadProfile h s) :=
  postIcing_posted _

theorem clearPin_posted (s : State) :
    IcingPosted
      (withIcing (fun r =>
        { r with
          active := profileOf s (s.ccu.op.heater.getD s.mon.icing.loaded), pinned := false
          loaded := s.ccu.op.heater.getD s.mon.icing.loaded }) s) (clearPin s) :=
  reloadProfile_posted (s.ccu.op.heater.getD s.mon.icing.loaded) (withIcing (fun r => { r with pinned := false }) s)

/-- What a request that sets the active set leaves on the port it is answered on. -/
theorem IcingPosted.replied {f : IcingRetained → IcingRetained} {p : Port} {k : Octet} {s u : State}
    (h : IcingPosted (withIcing f s) u) :
    let t := rechecked s (formReply p k (u, plain .ok))
    t.mon.icing = f s.mon.icing ∧ t.cfg = s.cfg ∧ t.ccu.contributions.icing = some (icingContribution t) ∧
      t.bim = s.bim ∧ (t.lnk.get p).reply.map (·.status) = some .ok :=
  ⟨h.icing, h.cfg, h.current, h.bim, formReply_status p k (u, plain .ok)⟩

/-- The state after a profile is stored, before the active set follows it (R120). -/
def profileStored (h : Heater) (x : ThresholdSet) (s : State) : State := withBimConfig (BimConfig.withProfile h x) s

theorem profileOf_profileStored (h : Heater) (x : ThresholdSet) (s : State) : profileOf (profileStored h x s) h = x := by
  cases h <;> rfl

section
variable {h : Heater} {x : ThresholdSet} {s : State}

theorem bimWriteProfile_range (hx : thresholdsOk x = false) : bimWriteProfile h x s = (s, plain .range) :=
  if_neg (by simp [hx])

theorem bimWriteProfile_stored (hx : thresholdsOk x = true) (hkeep : s.mon.icing.loaded ≠ h ∨ s.mon.icing.pinned = true) :
    bimWriteProfile h x s = (profileStored h x s, plain .ok) := by
  have hother : ¬(s.mon.icing.loaded = h ∧ s.mon.icing.pinned = false) := by
    rintro ⟨hloaded, hpinned⟩
    simp [hloaded, hpinned] at hkeep
  rw [bimWriteProfile, if_pos hx]
  dsimp only
  rw [if_neg hother]
  rfl

theorem bimWriteProfile_reloaded (hx : thresholdsOk x = true) (hloaded : s.mon.icing.loaded = h)
    (hpinned : s.mon.icing.pinned = false) :
    bimWriteProfile h x s = (reloadProfile h (profileStored h x s), plain .ok) := by
  rw [bimWriteProfile, if_pos hx]
  dsimp only
  rw [if_pos ⟨hloaded, hpinned⟩]
  rfl

/-- The reload of the loaded profile after its write changes the active set only. -/
theorem reloadProfile_profileStored (hloaded : s.mon.icing.loaded = h) :
    IcingPosted (withIcing (fun r => { r with active := x }) (profileStored h x s))
      (reloadProfile h (profileStored h x s)) := by
  have hposted := reloadProfile_posted h (profileStored h x s)
  rw [profileOf_profileStored] at hposted
  have hsame : withIcing (fun r => { r with active := x, loaded := h }) (profileStored h x s) =
      withIcing (fun r => { r with active := x }) (profileStored h x s) := by
    rw [← hloaded]
    rfl
  rwa [hsame] at hposted

end

/-- Settles O36: the check by its ranges; every accepted request leaves what `IcingPosted` says of its active set. -/
theorem thresholdSets : Obligations.ThresholdSets := by
  refine ⟨thresholdsOk_iff, fun s hop => ?_⟩
  intro i profile stored posted
  refine ⟨fun x hx => ?_, fun x hx => ?_, fun hfree => ?_, fun hpinned => ?_,
    fun p h x hp => ⟨fun hx => ?_, fun hx hkeep => ?_, fun hx hloaded hfree => ?_⟩⟩
  · have hrefused : bimPin x (requestCounted .fp s) = (requestCounted .fp s, plain .range) := if_neg (by simp [hx])
    exact farmRequest_unchanged hop (r := .pinThresholds x) rfl hrefused
  · have hpin : bimPin x (requestCounted .fp s) = _ := if_pos hx
    have hposted := postIcing_posted (withIcing (fun r => { r with active := x, pinned := true }) (requestCounted .fp s))
    exact ⟨_, farmRequest_replied hop (r := .pinThresholds x) rfl hpin, hposted.replied⟩
  · have hrefused : bimUnpin (requestCounted .fp s) = (requestCounted .fp s, plain .state) :=
      if_neg (Bool.eq_false_iff.mp hfree)
    exact farmRequest_unchanged hop (r := .unpinThresholds) rfl hrefused
  · have hunpin : bimUnpin (requestCounted .fp s) = (clearPin (requestCounted .fp s), plain .ok) := if_pos hpinned
    have hposted := clearPin_posted (requestCounted .fp s)
    have hprofile : profileOf (requestCounted .fp s) = profile := by
      funext h
      cases h <;> rfl
    rw [hprofile] at hposted
    exact ⟨_, farmRequest_replied hop (r := .unpinThresholds) rfl hunpin, hposted.replied⟩
  · exact writeConfig_unchanged hop hp (bimWriteProfile_range hx)
  · have hwrite : handleWrite (.profile h x) (requestCounted p s) = _ :=
      bimWriteProfile_stored (s := requestCounted p s) hx hkeep
    refine writeConfig_answered hop hp (hwrite.trans ?_) (.inr rfl)
    cases h <;> rfl
  · have hwrite : handleWrite (.profile h x) (requestCounted p s) = _ :=
      bimWriteProfile_reloaded (s := requestCounted p s) hx hloaded hfree
    obtain ⟨hicing, hcfg, hheld⟩ := (reloadProfile_profileStored (s := requestCounted p s) hloaded).replied
    refine ⟨_, writeConfig_replied hop hp hwrite, hicing, hcfg.trans ?_, hheld⟩
    cases h <;> rfl

end Sys2Proof.Machine
end

section
/-! The BIM enable item (R131): the disable ends the peak work, and the enable restarts the step timer. -/

namespace Sys2Proof.Machine

/-! ## Withdrawal, removal reports and cancellation (R16, R51, R117) -/

/-- The withdrawal of all requests of a monitor changes the engine alone, and removes waiting requests of that monitor (R51). -/
theorem withdraw_all (m : Monitor) (s : State) :
    let w := (withdraw m none s).2
    (∀ r ∈ (withdraw m none s).1, r ∈ s.spe.queue ∧ r.source = m) ∧ w = { s with spe := w.spe } ∧
      w.spe.queue = s.spe.queue.filter (fun q => q.source ≠ m) ∧
      w.spe.inProgress = s.spe.inProgress.map fun r => if r.source = m then { r with discard := true } else r := by
  have hall (r : AnalysisRequest) : withdrawn m none r = decide (r.source = m) := by simp [withdrawn]
  refine ⟨fun r hr => ?_, rfl, ?_, ?_⟩
  · obtain ⟨hqueue, hsource⟩ := List.mem_filter.mp hr
    exact ⟨hqueue, of_decide_eq_true ((hall r).symm.trans hsource)⟩
  · show s.spe.queue.filter (fun r => !withdrawn m none r) = _
    simp only [hall, decide_not]
  · show s.spe.inProgress.map (fun r => if withdrawn m none r then { r with discard := true } else r) = _
    simp only [hall, decide_eq_true_eq]

/-- From `s` to `t` of the buffers only BIM-A may have changed, and in the BIM only the outstanding step and the counters. -/
structure PeakWorkFrame (s t : State) : Prop where
  frame : t = { s with afe := t.afe, bim := t.bim }
  buffers : ∀ b, b ≠ .bimA → bufferOf t b = bufferOf s b
  bim : t.bim = { s.bim with outstanding := t.bim.outstanding, counters := t.bim.counters }

theorem PeakWorkFrame.refl (s : State) : PeakWorkFrame s s := ⟨rfl, fun _ _ => rfl, rfl⟩

theorem PeakWorkFrame.trans {s t u : State} (h : PeakWorkFrame s t) (k : PeakWorkFrame t u) : PeakWorkFrame s u where
  frame := by rw [k.frame, h.frame]
  buffers b hb := (k.buffers b hb).trans (h.buffers b hb)
  bim := by rw [k.bim, h.bim]

theorem setBuffer_peakWorkFrame (x : Buffer) (s : State) : PeakWorkFrame s (setBuffer .bimA x s) where
  frame := rfl
  buffers b hb := by rw [bufferOf_setBuffer, if_neg hb]
  bim := rfl

theorem bimRemoval_peakWorkFrame {r : AnalysisRequest} (hr : r.buffer = .bimA) (s : State) :
    PeakWorkFrame s (bimRemoval s r) := by
  have hrelease : PeakWorkFrame s (releaseBuffer r.buffer s) := by
    rw [hr]
    rcases releaseBuffer_cases .bimA s with e | ⟨-, e⟩ <;> rw [e]
    · exact .refl s
    · exact setBuffer_peakWorkFrame .free s
  unfold bimRemoval
  dsimp only
  split
  · exact hrelease.trans ⟨rfl, fun _ _ => rfl, rfl⟩
  · exact hrelease

theorem cancelBimA_peakWorkFrame (s : State) : PeakWorkFrame s (cancelBuffer .bimA s) := by
  rcases cancelBuffer_cases .bimA s with ⟨-, e⟩ | e <;> rw [e]
  · exact .refl s
  · exact setBuffer_peakWorkFrame .free s

/-- A cancelled buffer is neither FILLING nor FULL (R16). -/
theorem cancelBuffer_ended (b : BufferId) (s : State) (r : CaptureRecord) :
    bufferOf (cancelBuffer b s) b ≠ .filling r ∧ bufferOf (cancelBuffer b s) b ≠ .full r := by
  unfold cancelBuffer
  cases hb : bufferOf s b <;> simp [hb]

/-! ## The disable and the enable (R131) -/

/-- The end of the disable, once the peak work has ended. -/
def bimDisabled (s : State) : State :=
  { s with
    cfg := { s.cfg with bim := { s.cfg.bim with enable := false } }
    bim := { s.bim with outstanding := none, heldPeak := none, stepTimer := none } }

/-- The disable is `bimDisabled` after the withdrawal with its removal reports and the cancellation of BIM-A. -/
theorem disableBim_withdrawn (s : State) (h : ∀ q ∈ s.spe.queue, q.source = .bim → q.buffer = .bimA) :
    ∃ u, PeakWorkFrame (withdraw .bim none s).2 u ∧ (∀ r, bufferOf u .bimA ≠ .filling r ∧ bufferOf u .bimA ≠ .full r) ∧
      disableBim s = bimDisabled u := by
  obtain ⟨hremoved, -⟩ := withdraw_all .bim s
  have hreports : PeakWorkFrame (withdraw .bim none s).2 ((withdraw .bim none s).1.foldl bimRemoval (withdraw .bim none s).2) :=
    foldl_related PeakWorkFrame.refl PeakWorkFrame.trans _ (fun t r hr =>
      have ⟨hqueue, hsource⟩ := hremoved r hr
      bimRemoval_peakWorkFrame (h r hqueue hsource) t) _
  exact ⟨_, hreports.trans (cancelBimA_peakWorkFrame _), cancelBuffer_ended .bimA _, rfl⟩

/-- Settles O37: the enable writes the timer and the recorded counter; the disable ends in `disableBim_withdrawn`. -/
theorem bimEnableWrite : Obligations.BimEnableWrite := by
  intro p s hop hp
  refine ⟨fun v hv => ?_, fun hoff => ?_, fun hon hqueue => ?_⟩
  · have hsame : handleWrite (.bimEnable v) (requestCounted p s) = (requestCounted p s, plain .ok) := if_pos hv
    exact writeConfig_unchanged hop hp hsame
  · have hchange : handleWrite (.bimEnable true) (requestCounted p s) = (enableBim (requestCounted p s), plain .ok) :=
      if_neg (by simp [requestCounted, hoff])
    exact writeConfig_answered hop hp (hchange.trans rfl) (.inr rfl)
  · have hchange : handleWrite (.bimEnable false) (requestCounted p s) = (disableBim (requestCounted p s), plain .ok) :=
      if_neg (by simp [requestCounted, hon])
    obtain ⟨-, hengine, hwaiting, hprogress⟩ := withdraw_all .bim (requestCounted p s)
    obtain ⟨u, hwork, hended, hdisabled⟩ := disableBim_withdrawn (requestCounted p s) hqueue
    generalize (withdraw .bim none (requestCounted p s)).2 = w at hengine hwaiting hprogress hwork
    have hspe : u.spe = w.spe := (congrArg State.spe hwork.frame :)
    have hframe : u = { requestCounted p s with afe := u.afe, bim := u.bim, spe := u.spe } := by
      rw [hwork.frame, hengine]
    have hbim : u.bim = { s.bim with outstanding := u.bim.outstanding, counters := u.bim.counters } := by
      rw [hwork.bim, hengine]
      rfl
    rw [hdisabled] at hchange
    refine ⟨_, writeConfig_replied hop hp hchange, ?_, rfl, rfl, rfl, (congrArg BimState.override hbim :),
      (congrArg BimState.stepNumber hbim :), (congrArg SpeState.queue hspe).trans hwaiting,
      (congrArg SpeState.inProgress hspe).trans hprogress, hended, fun b hb => ?_, (congrArg State.mon hframe :),
      (congrArg State.ccu hframe :), (congrArg State.mpl hframe :), (congrArg State.plan hframe :),
      formReply_status p 0x31 (bimDisabled u, plain .ok)⟩
    · have hcfg : u.cfg = s.cfg := (congrArg State.cfg hframe :)
      show { u.cfg with bim := { u.cfg.bim with enable := false } } = _
      rw [hcfg]
    · have hafe : w.afe = s.afe := (congrArg State.afe hengine :)
      exact (hwork.buffers b hb).trans (bufferOf_congr hafe b)

end Sys2Proof.Machine
end

section
/-! The transition rules of the icing states (R123 to R126), case by case. -/

namespace Sys2Proof.Machine

/-! ## What a rule reads at a step -/

/-- S0 is usable at a step (R122). -/
def AmbientUsable (r : TempRecord) : Prop := r.status = .good ∨ (r.status = .stale ∧ r.age.getD 0 ≤ 600)

theorem ambientOf_cold_iff (set : ThresholdSet) (r : TempRecord) :
    (ambientOf set r).cold = true ↔ AmbientUsable r ∧ ∃ v, r.value = some v ∧ v ≤ set.tIce := by
  unfold ambientOf AmbientUsable
  cases r.value <;> cases r.status <;> simp

theorem ambientOf_warm_iff (set : ThresholdSet) (r : TempRecord) :
    (ambientOf set r).warm = true ↔ AmbientUsable r ∧ ∃ v, r.value = some v ∧ set.tIce + set.tHyst < v := by
  unfold ambientOf AmbientUsable
  cases r.value <;> cases r.status <;> simp

/-- What a view says: whether S0 is cold or warm, and the mean where the step is evaluable. -/
structure StepReads (v : StepView) (cold warm evaluable : Prop) (mean : Nat) : Prop where
  cold : v.ambient.cold = true ↔ cold
  warm : v.ambient.warm = true ↔ warm
  mean : evaluable → v.mean = some mean
  stopped : ¬evaluable → v.mean = none

section
variable {v : StepView} {cold warm evaluable : Prop} {mean : Nat} (h : StepReads v cold warm evaluable mean)
include h

theorem StepReads.notWarm_iff : v.ambient.warm = false ↔ ¬warm := by rw [← h.warm, Bool.not_eq_true]

theorem StepReads.meanAtLeast_iff (threshold : Nat) :
    meanAtLeast threshold v.mean = true ↔ evaluable ∧ threshold ≤ mean := by
  by_cases he : evaluable
  · simp [h.mean he, meanAtLeast, he]
  · simp [h.stopped he, meanAtLeast, he]

end

/-! ## The state after a rule -/

/-- The retained state after a rule, with the counter of the state entered at 0 (R127). -/
def IcingRetained.stepped (x : IcingRetained × Option IcingState) : IcingRetained :=
  match x.2 with
  | none => x.1
  | some new => x.1.enter new

theorem enter_state (new : IcingState) (r : IcingRetained) : (r.enter new).state = new := by cases new <;> rfl

theorem enter_active (new : IcingState) (r : IcingRetained) : (r.enter new).active = r.active := by cases new <;> rfl

/-- A rule keeps everything but its counts. -/
theorem icingRule_keeps (v : StepView) (r : IcingRetained) :
    (icingRule v r).1.state = r.state ∧ (icingRule v r).1.active = r.active := by
  cases hs : r.state with
  | clear => simp only [icingRule, hs, clearRule, apply_ite Prod.fst, ite_self, and_self]
  | suspect =>
    simp only [icingRule, hs, suspectRule]
    cases v.mean <;> simp only [apply_ite Prod.fst, apply_ite IcingRetained.state, apply_ite IcingRetained.active, hs,
      ite_self, and_self]
  | iced =>
    simp only [icingRule, hs, icedRule]
    cases v.mean <;> simp only [apply_ite Prod.fst, apply_ite IcingRetained.state, apply_ite IcingRetained.active, hs,
      ite_self, and_self]
  | shedding =>
    simp only [icingRule, hs, sheddingRule, apply_ite Prod.fst, apply_ite IcingRetained.state,
      apply_ite IcingRetained.active, ite_self, and_self]

/-- The states that the rule of a state can enter (R123 to R126). -/
def IcingState.exits : IcingState → List IcingState
  | .clear => [.suspect]
  | .suspect => [.clear, .iced]
  | .iced => [.shedding]
  | .shedding => [.iced, .clear]

theorem IcingState.not_mem_exits (x : IcingState) : x ∉ x.exits := by cases x <;> decide

theorem icingRule_exits {v : StepView} {r : IcingRetained} {new : IcingState} (h : (icingRule v r).2 = some new) :
    new ∈ r.state.exits := by
  cases hs : r.state with
  | clear =>
    simp only [icingRule, hs, clearRule] at h
    split_ifs at h <;> simp_all [IcingState.exits]
  | suspect =>
    simp only [icingRule, hs, suspectRule] at h
    cases hm : v.mean <;> simp only [hm] at h <;> split_ifs at h <;> simp_all [IcingState.exits]
  | iced =>
    simp only [icingRule, hs, icedRule] at h
    cases hm : v.mean <;> simp only [hm] at h <;> split_ifs at h <;> simp_all [IcingState.exits]
  | shedding =>
    simp only [icingRule, hs, sheddingRule] at h
    split_ifs at h <;> simp_all [IcingState.exits]

/-! ## The rules (R123 to R126) -/

/-- The parked accretion count after a step in CLEAR (R123). -/
def accretionAfter (v : StepView) (r : IcingRetained) : Nat :=
  if v.regime = .parked && v.ambient.cold then inc16 r.parkedCount else 0

/-- Whether a step in CLEAR suspects ice, by accretion or by its mean (R123). -/
def suspectsIce (v : StepView) (r : IcingRetained) : Bool :=
  (v.regime = .parked && v.ambient.cold && r.active.parkedAccretion ≤ accretionAfter v r) ||
    (v.ambient.cold && meanAtLeast r.active.suspectOn v.mean)

theorem clearRule_eq (v : StepView) (r : IcingRetained) :
    clearRule v r = ({ r with parkedCount := accretionAfter v r }, if suspectsIce v r then some .suspect else none) := by
  rw [suspectsIce, apply_ite (Prod.mk _)]
  simp only [Bool.or_eq_true, ite_or]
  rfl

section
variable {v : StepView} {r : IcingRetained} {cold warm evaluable : Prop} {mean : Nat}
  (h : StepReads v cold warm evaluable mean)
include h

/-- A step in CLEAR counts parked accretion and may suspect ice (R123). -/
theorem stepped_clear (hs : r.state = .clear) :
    let n := IcingRetained.stepped (icingRule v r)
    let parked := if v.regime = .parked then inc16 r.parkedCount else 0
    (n.state = .suspect ↔
      (cold ∧ v.regime = .parked ∧ r.active.parkedAccretion ≤ parked) ∨ (evaluable ∧ cold ∧ r.active.suspectOn ≤ mean)) ∧
    (n.state = .clear ∨ n.state = .suspect) ∧
    (cold ∧ v.regime = .parked → n.parkedCount = parked) ∧ (¬(cold ∧ v.regime = .parked) → n.parkedCount = 0) := by
  intro n parked
  have hparked (ha : cold ∧ v.regime = .parked) : accretionAfter v r = parked := by
    simp only [accretionAfter, parked, ha.2, h.cold.mpr ha.1, decide_true, Bool.and_self, if_true]
  have hcount (ha : ¬(cold ∧ v.regime = .parked)) : accretionAfter v r = 0 :=
    if_neg (by simpa [h.cold, and_comm] using ha)
  have hsuspects : suspectsIce v r = true ↔
      (cold ∧ v.regime = .parked ∧ r.active.parkedAccretion ≤ parked) ∨
        (evaluable ∧ cold ∧ r.active.suspectOn ≤ mean) := by
    simp only [suspectsIce, Bool.or_eq_true, Bool.and_eq_true, decide_eq_true_eq, h.cold, h.meanAtLeast_iff]
    refine or_congr ⟨fun ⟨⟨hp, hc⟩, hlimit⟩ => ⟨hc, hp, hparked ⟨hc, hp⟩ ▸ hlimit⟩,
      fun ⟨hc, hp, hlimit⟩ => ⟨⟨hp, hc⟩, (hparked ⟨hc, hp⟩).symm ▸ hlimit⟩⟩ and_left_comm
  have hrule : icingRule v r =
      ({ r with parkedCount := accretionAfter v r }, if suspectsIce v r then some .suspect else none) := by
    rw [← clearRule_eq, icingRule, hs]
  rw [← hsuspects]
  by_cases hi : suspectsIce v r = true
  · have hn : n = { r with state := .suspect, icedCount := 0, parkedCount := accretionAfter v r } := by
      simp only [n, hrule, if_pos hi]
      rfl
    rw [hn]
    exact ⟨iff_of_true rfl hi, .inr rfl, hparked, hcount⟩
  · have hn : n = { r with parkedCount := accretionAfter v r } := by
      simp only [n, hrule, if_neg hi]
      rfl
    rw [hn]
    exact ⟨iff_of_false (by simp [hs]) hi, .inl hs, hparked, hcount⟩

/-- A step in SUSPECT clears, confirms ice, or counts (R124). -/
theorem stepped_suspect (hs : r.state = .suspect) :
    let n := IcingRetained.stepped (icingRule v r)
    let iced := if r.active.icedOn ≤ mean then inc8 r.icedCount else 0
    (warm → n.state = .clear) ∧
    (¬warm → ¬evaluable → n.state = .suspect ∧ n.icedCount = r.icedCount) ∧
    (¬warm → evaluable →
      (r.active.persistence ≤ iced → n.state = .iced) ∧
      (iced < r.active.persistence → mean < r.active.suspectOff → n.state = .clear) ∧
      (iced < r.active.persistence → r.active.suspectOff ≤ mean → n.state = .suspect ∧ n.icedCount = iced)) := by
  intro n iced
  have hrule : icingRule v r = suspectRule v r := by simp only [icingRule, hs]
  refine ⟨fun hw => ?_, fun hw he => ?_, fun hw he => ?_⟩
  · have hclear : icingRule v r = (r, some .clear) := by rw [hrule, suspectRule, if_pos (h.warm.mpr hw)]
    simp only [n, hclear]
    rfl
  · have hkept : icingRule v r = (r, none) := by
      rw [hrule, suspectRule, h.notWarm_iff.mpr hw, h.stopped he]
      rfl
    simp only [n, hkept]
    exact ⟨hs, rfl⟩
  · have hcounts : icingRule v r =
        if r.active.persistence ≤ iced then ({ r with icedCount := iced }, some .iced)
        else if mean < r.active.suspectOff then ({ r with icedCount := iced }, some .clear)
        else ({ r with icedCount := iced }, none) := by
      rw [hrule, suspectRule, h.notWarm_iff.mpr hw, h.mean he]
      rfl
    refine ⟨fun hlimit => ?_, fun hlimit hoff => ?_, fun hlimit hoff => ?_⟩
    · simp only [n, hcounts, if_pos hlimit]
      rfl
    · simp only [n, hcounts, if_neg (Nat.not_le.mpr hlimit), if_pos hoff]
      rfl
    · simp only [n, hcounts, if_neg (Nat.not_le.mpr hlimit), if_neg (Nat.not_lt.mpr hoff)]
      exact ⟨hs, rfl⟩

/-- A step in ICED sheds or counts (R125). -/
theorem stepped_iced (hs : r.state = .iced) :
    let n := IcingRetained.stepped (icingRule v r)
    let clear := if mean < r.active.icedOff then inc8 r.clearCount else 0
    (warm → n.state = .shedding) ∧
    (¬warm → ¬evaluable → n.state = .iced ∧ n.clearCount = r.clearCount) ∧
    (¬warm → evaluable →
      (r.active.persistence ≤ clear → n.state = .shedding) ∧
      (clear < r.active.persistence → n.state = .iced ∧ n.clearCount = clear)) := by
  intro n clear
  have hrule : icingRule v r = icedRule v r := by simp only [icingRule, hs]
  refine ⟨fun hw => ?_, fun hw he => ?_, fun hw he => ?_⟩
  · have hshed : icingRule v r = (r, some .shedding) := by rw [hrule, icedRule, if_pos (h.warm.mpr hw)]
    simp only [n, hshed]
    rfl
  · have hkept : icingRule v r = (r, none) := by
      rw [hrule, icedRule, h.notWarm_iff.mpr hw, h.stopped he]
      rfl
    simp only [n, hkept]
    exact ⟨hs, rfl⟩
  · have hcounts : icingRule v r =
        if r.active.persistence ≤ clear then ({ r with clearCount := clear }, some .shedding)
        else ({ r with clearCount := clear }, none) := by
      rw [hrule, icedRule, h.notWarm_iff.mpr hw, h.mean he]
      rfl
    refine ⟨fun hlimit => ?_, fun hlimit => ?_⟩
    · simp only [n, hcounts, if_pos hlimit]
      rfl
    · simp only [n, hcounts, if_neg (Nat.not_le.mpr hlimit)]
      exact ⟨hs, rfl⟩

/-- A step in SHEDDING finds ice again, or counts producing steps towards CLEAR (R126). -/
theorem stepped_shedding (hs : r.state = .shedding) :
    let n := IcingRetained.stepped (icingRule v r)
    let shed := inc16 r.shedCount
    let producing : Prop := v.regime = .producing
    (¬warm → evaluable → r.active.icedOn ≤ mean → n.state = .iced) ∧
    (¬(¬warm ∧ evaluable ∧ r.active.icedOn ≤ mean) →
      (¬producing → n.state = .shedding ∧ n.shedCount = r.shedCount) ∧
      (producing → evaluable → r.active.suspectOn ≤ mean → n.state = .shedding ∧ n.shedCount = 0) ∧
      (producing → ¬(evaluable ∧ r.active.suspectOn ≤ mean) →
        (r.active.shedHold ≤ shed → n.state = .clear) ∧
        (shed < r.active.shedHold → n.state = .shedding ∧ n.shedCount = shed))) := by
  classical
  intro n shed producing
  have hrule : icingRule v r =
      if (evaluable ∧ r.active.icedOn ≤ mean) ∧ ¬warm then (r, some .iced)
      else if v.regime = .producing then
        if evaluable ∧ r.active.suspectOn ≤ mean then ({ r with shedCount := 0 }, none)
        else if r.active.shedHold ≤ inc16 r.shedCount then ({ r with shedCount := inc16 r.shedCount }, some .clear)
        else ({ r with shedCount := inc16 r.shedCount }, none)
      else (r, none) := by
    simp only [icingRule, hs, sheddingRule, Bool.and_eq_true, Bool.not_eq_true', h.meanAtLeast_iff, h.notWarm_iff]
  refine ⟨fun hw he hon => ?_, fun hnot => ?_⟩
  · simp only [n, hrule, if_pos (And.intro (And.intro he hon) hw)]
    rfl
  have hstays : ¬((evaluable ∧ r.active.icedOn ≤ mean) ∧ ¬warm) := fun ⟨⟨he, hon⟩, hw⟩ => hnot ⟨hw, he, hon⟩
  rw [if_neg hstays] at hrule
  refine ⟨fun (hidle : v.regime ≠ .producing) => ?_, fun (hproducing : v.regime = .producing) he hon => ?_,
    fun (hproducing : v.regime = .producing) hoff => ⟨fun (hlimit : r.active.shedHold ≤ inc16 r.shedCount) => ?_,
      fun (hlimit : inc16 r.shedCount < r.active.shedHold) => ?_⟩⟩
  · simp only [n, hrule, if_neg hidle]
    exact ⟨hs, rfl⟩
  · simp only [n, hrule, if_pos hproducing, if_pos (And.intro he hon)]
    exact ⟨hs, rfl⟩
  · simp only [n, hrule, if_pos hproducing, if_neg hoff, if_pos hlimit]
    rfl
  · simp only [n, hrule, if_pos hproducing, if_neg hoff, if_neg (Nat.not_le.mpr hlimit)]
    exact ⟨hs, rfl⟩

end

end Sys2Proof.Machine
end

section
/-! A transition of the icing state (R127): the counter, the alarms, the grade, the override, the contribution and the notice. -/

namespace Sys2Proof.Machine

/-! ## The alarms of a transition -/

/-- The alarm of an icing state (R127). -/
def IcingState.alarm : IcingState → Option AlarmCode
  | .clear => none
  | .suspect => some .iceSuspect
  | .iced | .shedding => some .iceDetected

/-- A transition that a rule makes moves the alarm of the state left to that of the state entered (R127). -/
theorem icingAlarms_eq {old new : IcingState} (h : new ∈ old.exits) (s : State) :
    icingAlarms old new s = if old.alarm = new.alarm then s else moveAlarm .bim old.alarm new.alarm s := by
  cases old with
  | clear =>
    obtain rfl : new = .suspect := List.mem_singleton.mp h
    rfl
  | suspect =>
    rcases List.mem_pair.mp h with rfl | rfl <;> rfl
  | iced =>
    obtain rfl : new = .shedding := List.mem_singleton.mp h
    rfl
  | shedding =>
    rcases List.mem_pair.mp h with rfl | rfl <;> rfl

/-- The alarms of a transition leave the monitors' section, the Planner's state and the BIM. -/
theorem icingAlarms_keeps {old new : IcingState} (h : new ∈ old.exits) (s : State) :
    (icingAlarms old new s).mon = s.mon ∧ (icingAlarms old new s).mpl = s.mpl ∧ (icingAlarms old new s).bim = s.bim := by
  obtain ⟨-, hframe, hmpl⟩ := moveAlarm_reach .bim old.alarm new.alarm s
  have hbim : (moveAlarm .bim old.alarm new.alarm s).bim = s.bim := by
    cases old.alarm <;> cases new.alarm <;> simp [moveAlarm]
  rw [icingAlarms_eq h]
  split
  · exact ⟨rfl, rfl, rfl⟩
  · exact ⟨hframe.mon, hmpl, hbim⟩

/-- The entries of every source but `x` stay. -/
def AlarmsBeside (x : Source) (s t : State) : Prop := ∀ c y, y ≠ x → alarmsOf c y t = alarmsOf c y s

theorem AlarmsBeside.refl (x : Source) (s : State) : AlarmsBeside x s s := fun _ _ _ => rfl

theorem AlarmsBeside.trans {x : Source} {s t u : State} (h : AlarmsBeside x s t) (k : AlarmsBeside x t u) :
    AlarmsBeside x s u := fun c y hy => (k c y hy).trans (h c y hy)

/-- A component that loses its waiting mark clears at most an alarm of the Planner (R170). -/
theorem dropWaiting_alarmsBeside (c : Fin 16) (s : State) : AlarmsBeside .mpl s (dropWaiting c s) := by
  have hmark : AlarmsBeside .mpl s (withWaiting (·.set c false) s) := fun _ _ _ => rfl
  unfold dropWaiting
  dsimp only
  split
  · split
    · exact hmark
    · exact hmark.trans fun d y hy => alarmsOf_clearAlarm_of_source_ne hy d .taskTableFull _
  · exact .refl _ s

theorem gradeChanged_alarmsBeside (c : Fin 16) (old new : Nat) (s : State) :
    AlarmsBeside .mpl s (gradeChanged c old new s) := by
  have hwear : AlarmsBeside .mpl s (withWear c (gradedWear s.cal old new)
      (withCompInterval c (fun i => { i with worst := max i.worst new }) s)) := fun _ _ _ => rfl
  unfold gradeChanged
  dsimp only
  split
  · exact hwear.trans (dropWaiting_alarmsBeside c _)
  · exact hwear

theorem postGrades_alarmsBeside (f : HeldGrades → HeldGrades) (s : State) : AlarmsBeside .mpl s (postGrades f s) := by
  have hheld : AlarmsBeside .mpl s (withGrades f s) := fun _ _ _ => rfl
  refine hheld.trans (foldl_related (AlarmsBeside.refl .mpl) AlarmsBeside.trans _ (fun t c _ => ?_) _)
  dsimp only
  split
  · exact .refl _ t
  · exact gradeChanged_alarmsBeside c _ _ t

/-! ## The grade posted -/

/-- What the post of the icing grade, or its omission where it is that of the old state, leaves (R127). -/
structure GradePosted (old new : IcingState) (s t : State) : Prop where
  mon : t.mon = s.mon
  bim : t.bim = s.bim
  grades : t.mpl.grades =
    { s.mpl.grades with icing := if icingGrade old = icingGrade new then s.mpl.grades.icing else icingGrade new }
  alarms : AlarmsBeside .mpl s t

theorem postIcingGrade_posted (old new : IcingState) (s : State) : GradePosted old new s (postIcingGrade old new s) := by
  unfold postIcingGrade
  split
  · next h => exact ⟨rfl, rfl, by rw [if_pos h], .refl _ s⟩
  · next h =>
    obtain ⟨-, hgrades⟩ := postGrades_postFrame (fun g => { g with icing := icingGrade new }) s
    exact ⟨(postGrades_alarmFrame _ s).mon, (postGrades_bandsOnly _ s).bim, by rw [hgrades, if_neg h],
      postGrades_alarmsBeside _ s⟩

/-! ## The transition -/

/-- What a transition that a rule makes leaves (R127, R128, R130). -/
structure IcingMoved (old new : IcingState) (s t : State) : Prop where
  grades : t.mpl.grades =
    { s.mpl.grades with icing := if icingGrade old = icingGrade new then s.mpl.grades.icing else icingGrade new }
  override : t.bim.override = if endsOverride old new then none else s.bim.override
  contribution : t.ccu.contributions.icing = some (icingContribution t)
  kept : old.alarm = new.alarm → AlarmsBeside .mpl s t
  raised : old.alarm ≠ new.alarm → s.ccu.alarms.length < 32 → ∀ c, new.alarm = some c → AlarmActive c .bim t
  cleared : old.alarm ≠ new.alarm → AlarmsKeyed s → s.ccu.alarms.length < 32 → ∀ c, old.alarm = some c → AlarmQuiet c .bim t
  notices : NoticesHeld Notice.icingState.bit t

/-- The alarms of the transition and the grade posted after them. -/
def gradedTransition (old new : IcingState) (s : State) : State :=
  postIcingGrade old new (icingAlarms old new (withIcing (IcingRetained.enter new) s))

/-- A transition ends the override it ends, posts the contribution and sets the notice (R127, R128, R130). -/
theorem icingTransition_eq (old new : IcingState) (s : State) :
    icingTransition old new s =
      setNotice .icingState (postIcing
        (withOverride (if endsOverride old new then none else (gradedTransition old new s).bim.override)
          (gradedTransition old new s))) := by
  unfold icingTransition
  dsimp only
  split <;> rfl

theorem icingTransition_moved {old new : IcingState} (h : new ∈ old.exits) (s : State) :
    (icingTransition old new s).mon.icing = s.mon.icing.enter new ∧ IcingMoved old new s (icingTransition old new s) := by
  obtain ⟨e, he⟩ : ∃ e, e = withIcing (IcingRetained.enter new) s := ⟨_, rfl⟩
  have hentered : e.mon.icing = s.mon.icing.enter new ∧ e.ccu = s.ccu ∧ e.mpl = s.mpl ∧ e.bim = s.bim := by
    rw [he]
    exact ⟨rfl, rfl, rfl, rfl⟩
  obtain ⟨hicing, hccu, hmpl, hbim⟩ := hentered
  have halarms := icingAlarms_eq h e
  obtain ⟨hmonA, hmplA, hbimA⟩ := icingAlarms_keeps h e
  have hgraded := postIcingGrade_posted old new (icingAlarms old new e)
  have heq := icingTransition_eq old new s
  rw [gradedTransition, ← he] at heq
  generalize postIcingGrade old new (icingAlarms old new e) = g at hgraded heq
  have hposted := postIcing_posted (withOverride (if endsOverride old new then none else g.bim.override) g)
  generalize postIcing (withOverride _ g) = u at hposted heq
  have hbimG : g.bim = s.bim := by rw [hgraded.bim, hbimA, hbim]
  have hroom (hr : s.ccu.alarms.length < 32) : e.ccu.alarms.length < 32 := by rwa [hccu]
  have hentries (c : AlarmCode) (x : Source) (hx : x ≠ .mpl) :
      alarmsOf c x (setNotice .icingState u) = alarmsOf c x (icingAlarms old new e) := by
    rw [← hgraded.alarms c x hx]
    show List.filter _ u.ccu.alarms = _
    rw [hposted.alarms]
    rfl
  rw [heq]
  refine ⟨?_, ?_, ?_, ?_, fun hsame c x hx => ?_, fun hmove hr c hc => ?_, fun hmove hk hr c hc => ?_,
    setNotice_held .icingState u⟩
  · rw [← hicing, ← hmonA, ← hgraded.mon]
    exact hposted.icing
  · rw [← hmpl, ← hmplA, ← hgraded.grades]
    exact congrArg MplState.grades hposted.mpl
  · rw [← hbimG]
    exact congrArg BimState.override hposted.bim
  · exact hposted.current
  · rw [hentries c x hx, halarms, if_pos hsame, he]
    rfl
  · rw [alarmActive_iff, hentries c .bim (by decide), ← alarmActive_iff, halarms, if_neg hmove, hc]
    exact moveAlarm_active (hroom hr)
  · have hk' : AlarmsKeyed e := by unfold AlarmsKeyed; rwa [hccu]
    rw [alarmQuiet_iff, hentries c .bim (by decide), ← alarmQuiet_iff, halarms, if_neg hmove, hc]
    exact moveAlarm_quiet hk' (hroom hr) fun hnew => hmove (hc.trans hnew.symm)

/-- A transition from a state is one from every state with the same alarms, grades and override. -/
theorem IcingMoved.before {old new : IcingState} {s u t : State} (h : IcingMoved old new u t) (hccu : u.ccu = s.ccu)
    (hmpl : u.mpl = s.mpl) (hoverride : u.bim.override = s.bim.override) : IcingMoved old new s t where
  grades := by rw [h.grades, hmpl]
  override := by rw [h.override, hoverride]
  contribution := h.contribution
  kept hsame c y hy := (h.kept hsame c y hy).trans (by rw [alarmsOf, hccu]; rfl)
  raised hmove hroom := h.raised hmove (by rwa [hccu])
  cleared hmove hk hroom := h.cleared hmove (by unfold AlarmsKeyed; rwa [hccu]) (by rwa [hccu])
  notices := h.notices

end Sys2Proof.Machine
end

section
/-! The step of the icing monitor and its transition (R112, R122 to R130). -/

namespace Sys2Proof.Machine

/-! ## The rule at a step -/

/-- The state in which a step applies its rule: the step opened, and its score entered where it is evaluable (R112). -/
def enteredStep (s : State) : State :=
  match stepStop s with
  | some x => openStep (some x) s
  | none => scoredStep s

/-- What the rule of a step reads (R122). -/
def stepView (s : State) : StepView where
  regime := s.ccu.op.regime
  ambient := ambientOf s.mon.icing.active s.rch.sensor.s0.record
  mean := if stepStop s = none then ringMean (enteredStep s).mon.icing.ring else none

/-- Where a step is opened, with or without a score, only the ring and the BIM have changed. -/
theorem enteredStep_frame (s : State) :
    enteredStep s =
        { s with
          bim := (enteredStep s).bim
          mon := { s.mon with icing := { s.mon.icing with ring := (enteredStep s).mon.icing.ring } } } ∧
      (enteredStep s).bim.override = s.bim.override := by
  unfold enteredStep
  split <;> exact ⟨rfl, rfl⟩

theorem ringMean_ringWith (score : Nat) (ring : List Nat) :
    ringMean (ringWith score ring) = some ((ringWith score ring).sum / (ringWith score ring).length) := by
  unfold ringMean
  split
  · next h => exact absurd h (by simp [ringWith])
  · rfl

theorem stepView_reads (s : State) :
    let a := s.mon.icing.active
    let r := s.rch.sensor.s0.record
    let ring := (enteredStep s).mon.icing.ring
    StepReads (stepView s) (AmbientUsable r ∧ ∃ v, r.value = some v ∧ v ≤ a.tIce)
      (AmbientUsable r ∧ ∃ v, r.value = some v ∧ a.tIce + a.tHyst < v) (stepStop s = none) (ring.sum / ring.length) where
  cold := ambientOf_cold_iff ..
  warm := ambientOf_warm_iff ..
  mean he := by
    have hring : (enteredStep s).mon.icing.ring = ringWith (scoreTerms (openStep none s)).score s.mon.icing.ring := by
      unfold enteredStep
      rw [he]
      rfl
    rw [stepView, if_pos he, hring]
    exact ringMean_ringWith ..
  stopped he := if_neg he

/-- What a step leaves of the state after its rule: all that a transition posts (R112). -/
structure StepClosed (v t : State) : Prop where
  mon : t.mon = v.mon
  ccu : t.ccu = v.ccu
  mpl : t.mpl = v.mpl
  lnk : t.lnk = v.lnk
  wear : t.plan.wear = v.plan.wear
  override : t.bim.override = v.bim.override

theorem closeStep_closed (last : StepRecord) (v : State) : StepClosed v (closeStep last v) where
  mon := closeStep_mon last v
  ccu := reportDay_ccu ..
  mpl := reportDay_mpl ..
  lnk := reportDay_lnk ..
  wear := by
    show (reportDay _ v).plan.wear = _
    unfold reportDay
    split <;> rfl
  override := by rw [closeStep_bim]

theorem requestPeak_closed (v : State) : StepClosed v (requestPeak v) := by
  cases h : peakRefusal v.afe with
  | some r =>
    rw [requestPeak_refused h]
    exact ⟨rfl, rfl, rfl, rfl, rfl, rfl⟩
  | none =>
    rw [requestPeak_accepted h]
    exact ⟨rfl, rfl, rfl, rfl, rfl, rfl⟩

theorem StepClosed.trans {s t u : State} (h : StepClosed s t) (k : StepClosed t u) : StepClosed s u :=
  ⟨k.mon.trans h.mon, k.ccu.trans h.ccu, k.mpl.trans h.mpl, k.lnk.trans h.lnk, k.wear.trans h.wear,
    k.override.trans h.override⟩

/-- A step applies the rule to what it reads, and what follows leaves all that a transition posts (R112). -/
theorem takeStep_closed (s : State) : StepClosed (applyRule (stepView s) (enteredStep s)).2 (takeStep s) := by
  cases hstop : stepStop s with
  | some x =>
    have hview : applyRule (stepView s) (enteredStep s) = applyRule
        { regime := s.ccu.op.regime, ambient := ambientOf s.mon.icing.active s.rch.sensor.s0.record, mean := none }
        (openStep (some x) s) := by
      simp only [stepView, enteredStep, hstop, reduceCtorEq, if_false]
    simp only [takeStep, hstop, hview]
    exact closeStep_closed _ _
  | none =>
    have hview : applyRule (stepView s) (enteredStep s) = applyRule
        { regime := s.ccu.op.regime, ambient := ambientOf s.mon.icing.active s.rch.sensor.s0.record
          mean := ringMean (scoredStep s).mon.icing.ring }
        (scoredStep s) := by
      simp only [stepView, enteredStep, hstop, if_true]
    simp only [takeStep, hstop, hview]
    exact (requestPeak_closed _).trans (closeStep_closed _ _)

theorem applyRule_none {v : StepView} {s : State} (h : (icingRule v s.mon.icing).2 = none) :
    (applyRule v s).2 = withIcing (fun _ => (icingRule v s.mon.icing).1) s := by
  simp only [applyRule, h]

theorem applyRule_some {v : StepView} {s : State} {new : IcingState} (h : (icingRule v s.mon.icing).2 = some new) :
    (applyRule v s).2 =
      icingTransition s.mon.icing.state new (withIcing (fun _ => (icingRule v s.mon.icing).1) s) := by
  simp only [applyRule, h]

/-- What the rule of a step leaves: the state `n`, and nothing else or the posts of the transition made (R112, R127). -/
structure RuleApplied (s t : State) (n : IcingRetained) : Prop where
  icing : t.mon.icing = n
  same : n.state = s.mon.icing.state →
    t.ccu = s.ccu ∧ t.mpl = s.mpl ∧ t.plan.wear = s.plan.wear ∧ t.bim.override = s.bim.override
  moved : n.state ≠ s.mon.icing.state →
    n.state ∈ s.mon.icing.state.exits ∧ IcingMoved s.mon.icing.state n.state s t

theorem applyRule_applied (v : StepView) (s : State) :
    RuleApplied s (applyRule v s).2 (IcingRetained.stepped (icingRule v s.mon.icing)) := by
  obtain ⟨hstate, -⟩ := icingRule_keeps v s.mon.icing
  cases h : (icingRule v s.mon.icing).2 with
  | none =>
    have hn : IcingRetained.stepped (icingRule v s.mon.icing) = (icingRule v s.mon.icing).1 := by
      rw [IcingRetained.stepped, h]
    rw [applyRule_none h, hn]
    exact ⟨rfl, fun _ => ⟨rfl, rfl, rfl, rfl⟩, fun hne => absurd hstate hne⟩
  | some new =>
    have hn : IcingRetained.stepped (icingRule v s.mon.icing) = (icingRule v s.mon.icing).1.enter new := by
      rw [IcingRetained.stepped, h]
    have hexit := icingRule_exits h
    obtain ⟨hicing, hmoved⟩ := icingTransition_moved hexit (withIcing (fun _ => (icingRule v s.mon.icing).1) s)
    rw [applyRule_some h, hn]
    refine ⟨hicing, fun hsame => ?_, fun _ => ?_⟩
    · rw [enter_state] at hsame
      exact absurd (hsame ▸ hexit) (IcingState.not_mem_exits _)
    · rw [enter_state]
      exact ⟨hexit, hmoved.before rfl rfl rfl⟩

/-- What follows the rule in a step leaves what the rule left. -/
theorem RuleApplied.closed {s v t : State} {n : IcingRetained} (h : RuleApplied s v n) (k : StepClosed v t) :
    RuleApplied s t n where
  icing := by rw [k.mon, h.icing]
  same hsame := by
    rw [k.ccu, k.mpl, k.wear, k.override]
    exact h.same hsame
  moved hne := by
    obtain ⟨hexit, hmoved⟩ := h.moved hne
    refine ⟨hexit, ?_⟩
    exact {
      grades := by rw [k.mpl, hmoved.grades]
      override := by rw [k.override, hmoved.override]
      contribution := by rw [k.ccu, hmoved.contribution, icingContribution_congr (by rw [k.mon]) k.override]
      kept := fun hsame c y hy => (by rw [alarmsOf, k.ccu]; rfl : _ = alarmsOf c y v).trans (hmoved.kept hsame c y hy)
      raised := fun hmove hroom c hc => by
        unfold AlarmActive
        rw [k.ccu]
        exact hmoved.raised hmove hroom c hc
      cleared := fun hmove hk hroom c hc => by
        unfold AlarmQuiet
        rw [k.ccu]
        exact hmoved.cleared hmove hk hroom c hc
      notices := by
        unfold NoticesHeld
        rw [k.lnk]
        exact hmoved.notices }

/-- The retained state with the ring that a step leaves. -/
def ringEntered (s : State) : IcingRetained := { s.mon.icing with ring := (enteredStep s).mon.icing.ring }

/-- A step applies the rule of the state held to what it reads (R112). -/
theorem takeStep_applied (s : State) :
    RuleApplied s (takeStep s) (IcingRetained.stepped (icingRule (stepView s) (ringEntered s))) := by
  obtain ⟨hframe, hoverride⟩ := enteredStep_frame s
  have hicing : (enteredStep s).mon.icing = ringEntered s := (congrArg (fun x : State => x.mon.icing) hframe :)
  have hccu : (enteredStep s).ccu = s.ccu := (congrArg State.ccu hframe :)
  have hmpl : (enteredStep s).mpl = s.mpl := (congrArg State.mpl hframe :)
  have hplan : (enteredStep s).plan = s.plan := (congrArg State.plan hframe :)
  have hstate : (enteredStep s).mon.icing.state = s.mon.icing.state := by rw [hicing]; rfl
  obtain ⟨hleft, hsame, hmoved⟩ := (applyRule_applied (stepView s) (enteredStep s)).closed (takeStep_closed s)
  rw [hstate, hccu, hmpl, hplan, hoverride, hicing] at hsame
  rw [hstate, hicing] at hmoved
  rw [hicing] at hleft
  exact ⟨hleft, hsame, fun hne => (hmoved hne).imp_right fun h => h.before hccu hmpl hoverride⟩

/-- The state left by a rule has the ring and the active set it had. -/
theorem stepped_keeps (v : StepView) (r : IcingRetained) :
    (IcingRetained.stepped (icingRule v r)).ring = r.ring ∧ (IcingRetained.stepped (icingRule v r)).active = r.active := by
  have hring := icingRule_ring v r
  obtain ⟨-, hactive⟩ := icingRule_keeps v r
  unfold IcingRetained.stepped
  split
  · exact ⟨hring, hactive⟩
  · rw [enter_ring, enter_active]
    exact ⟨hring, hactive⟩

/-- The counter of a state entered is 0 (R127). -/
theorem stepped_entered {v : StepView} {r n : IcingRetained} (hn : n = IcingRetained.stepped (icingRule v r))
    (hne : n.state ≠ r.state) :
    (n.state = .suspect → n.icedCount = 0) ∧ (n.state = .clear → n.parkedCount = 0) ∧
      (n.state = .iced → n.clearCount = 0) ∧ (n.state = .shedding → n.shedCount = 0) := by
  obtain ⟨hstate, -⟩ := icingRule_keeps v r
  unfold IcingRetained.stepped at hn
  cases h : (icingRule v r).2 with
  | none => exact absurd (by simp only [hn, h, hstate]) hne
  | some new =>
    simp only [h] at hn
    rw [hn]
    cases new <;> simp [IcingRetained.enter]

/-! ## The obligation -/

section
variable {old new : IcingState} {s t : State} (h : IcingMoved old new s t)
include h

theorem IcingMoved.override_eq :
    t.bim.override = if new = .clear ∨ (old = .shedding ∧ new = .iced) then none else s.bim.override := by
  simpa only [endsOverride, Bool.or_eq_true, Bool.and_eq_true, decide_eq_true_eq] using h.override

/-- The alarms of the states are those that R127 names. -/
theorem IcingMoved.alarms (hexit : new ∈ old.exits) (hk : AlarmsKeyed s) (hroom : s.ccu.alarms.length < 32) :
    (old = .clear → AlarmActive .iceSuspect .bim t) ∧
      (old = .suspect → AlarmQuiet .iceSuspect .bim t ∧ (new = .iced → AlarmActive .iceDetected .bim t)) ∧
      (old = .shedding → new = .clear → AlarmQuiet .iceDetected .bim t) := by
  refine ⟨?_, ?_, ?_⟩
  · rintro rfl
    obtain rfl : new = .suspect := List.mem_singleton.mp hexit
    exact h.raised (by decide) hroom _ rfl
  · rintro rfl
    have hmove : IcingState.suspect.alarm ≠ new.alarm := by
      revert hexit
      cases new <;> decide
    exact ⟨h.cleared hmove hk hroom _ rfl, fun hnew => h.raised hmove hroom _ (hnew ▸ rfl)⟩
  · rintro rfl rfl
    exact h.cleared (by decide) hk hroom _ rfl

/-- Between ICED and SHEDDING the entries of the BIM stay (R127). -/
theorem IcingMoved.entries (hexit : new ∈ old.exits) (hbetween : old = .iced ∨ new = .iced ∧ old = .shedding)
    (e : AlarmEntry) (he : e.source = .bim) : e ∈ t.ccu.alarms ↔ e ∈ s.ccu.alarms := by
  have hsame : old.alarm = new.alarm := by
    rcases hbetween with rfl | ⟨rfl, rfl⟩
    · obtain rfl : new = .shedding := List.mem_singleton.mp hexit
      rfl
    · rfl
  have hown : e.has e.code .bim = true := (AlarmEntry.has_iff ..).mpr ⟨rfl, he⟩
  have hentries := h.kept hsame e.code .bim (by decide)
  have hmem (x : State) : e ∈ x.ccu.alarms ↔ e ∈ alarmsOf e.code .bim x := by simp [alarmsOf, hown]
  rw [hmem, hmem, hentries]

end

/-- Settles O34: the state left by `takeStep_applied` is that of the four rules; what else changes is `IcingMoved`. -/
theorem icingStepTransitions : Obligations.IcingStepTransitions := by
  intro s hop hdue i a r usable cold warm evaluable producing
  have hexec : exec .bimStep s = .next (rechecked s (takeStep s)) := by
    have hstep : bimStepExpiry s = takeStep s := by rw [bimStepExpiry_eq, if_pos hdue]
    exact (inOperation_operating bimStepExpiry hop).trans (by rw [hstep])
  have happlied := (takeStep_applied s).closed
    (⟨rfl, rfl, rfl, rfl, rfl, rfl⟩ : StepClosed (takeStep s) (rechecked s (takeStep s)))
  have hreads : StepReads (stepView s) cold warm evaluable _ := stepView_reads s
  obtain ⟨hring, hactive⟩ := stepped_keeps (stepView s) (ringEntered s)
  have hclear := stepped_clear (r := ringEntered s) hreads
  have hsuspect := stepped_suspect (r := ringEntered s) hreads
  have hiced := stepped_iced (r := ringEntered s) hreads
  have hshedding := stepped_shedding (r := ringEntered s) hreads
  have hentered := stepped_entered (v := stepView s) (r := ringEntered s) rfl
  have hmean : (ringEntered s).ring = (enteredStep s).mon.icing.ring := rfl
  rw [← hmean, ← hring] at hclear hsuspect hiced hshedding
  generalize IcingRetained.stepped (icingRule (stepView s) (ringEntered s)) = n at *
  generalize rechecked s (takeStep s) = t at *
  obtain ⟨rfl, hsame, hmoved⟩ := happlied
  refine ⟨t, hexec, ?_⟩
  intro mean parked iced clear shed
  refine ⟨hactive, fun hs => (hclear hs).1, fun hs => (hclear hs).2.1, hsuspect, hiced, hshedding,
    fun hs => (hclear hs).2.2, ?_⟩
  intro new grade
  refine ⟨hsame, fun hne => ?_⟩
  obtain ⟨hexit, hm⟩ := hmoved hne
  have hgrade : icingGrade = grade := by
    funext x
    cases x <;> rfl
  obtain ⟨hicedCount, hparkedCount, hclearCount, hshedCount⟩ := hentered hne
  refine ⟨hicedCount, hparkedCount, hclearCount, hshedCount, hgrade ▸ hm.grades, hm.override_eq, ?_,
    hm.alarms hexit, hm.entries hexit, hm.notices⟩
  rw [hm.contribution, icingContribution, hactive]
  simp only [Option.isSome_iff_ne_none]
  rfl

end Sys2Proof.Machine
end

section
/-! What every step keeps of the published state: the supply, the attention lines and the ceiling (R138, R178, R183, R193), with
the queue and the supply pins as they stand. The operations every block shares. -/

namespace Sys2Proof.Machine

/-- Whether the part operates, has main power, and is held under reset (R178, R183). -/
def supplyOf (s : State) : Bool × Bool × Bool := (s.ret.operating, s.ret.powered, s.ret.resetAsserted)

/-- The lines follow the sets and the ceiling the contributions, with a queue and a supply of the given values. -/
structure Published (q : List Instr) (u : Bool × Bool × Bool) (s : State) : Prop where
  queue : s.pending = q
  supply : supplyOf s = u
  lines : LinesFollow s
  ceiling : CeilingIsLeast s

/-- The parts of a state that `Published` speaks of. -/
def publishedParts (s : State) :=
  (s.pending, supplyOf s, s.cfg.masks, s.ccu.ceiling, s.ccu.contributions,
    fun p => ((s.lnk.get p).notices, (s.lnk.get p).attention))

variable {q : List Instr} {u : Bool × Bool × Bool} {s t : State}

/-- An update that leaves those parts as they are. -/
theorem Published.same (h : Published q u s) (e : publishedParts t = publishedParts s) : Published q u t := by
  simp only [publishedParts, supplyOf, Prod.mk.injEq] at e
  obtain ⟨hqueue, ⟨hop, hpower, hreset⟩, hmasks, hceiling, hposts, hports⟩ := e
  obtain ⟨rfl, rfl, hlines, hleast⟩ := h
  refine ⟨hqueue, by simp only [supplyOf, hop, hpower, hreset], fun p => ?_, ?_⟩
  · have hp := Prod.mk.inj (congrFun hports p)
    rw [hp.1, hp.2, hop, hmasks]
    exact hlines p
  · unfold CeilingIsLeast
    rw [hop, hceiling, hposts]
    exact hleast

/-- What each step of a fold keeps, the fold keeps. -/
theorem Published.foldl {α : Type} {f : State → α → State} (l : List α)
    (hf : ∀ {t a}, Published q u t → Published q u (f t a)) (h : Published q u s) : Published q u (l.foldl f s) :=
  List.foldlRecOn (motive := Published q u) l f h fun _ ht _ _ => hf ht

/-! ## The attention lines (R193) -/

theorem refreshLines_lines (s : State) : LinesFollow (refreshLines s) := by
  intro p; cases p <;> rfl

/-- Lines brought to their sets leave the rest, so new sets and masks need no more than a refresh. -/
theorem refreshLines_published (hq : s.pending = q) (hu : supplyOf s = u) (hleast : CeilingIsLeast s) :
    Published q u (refreshLines s) := ⟨hq, hu, refreshLines_lines s, hleast⟩

@[simp] theorem setNotice_published (n : Notice) (h : Published q u s) : Published q u (setNotice n s) :=
  refreshLines_published h.queue h.supply h.ceiling

@[simp] theorem setPortNotice_published (p : Port) (n : Notice) (h : Published q u s) :
    Published q u (setPortNotice p n s) := refreshLines_published h.queue h.supply h.ceiling

/-- An update of a port that keeps its set and its line. -/
theorem withPort_published (p : Port) {f : PortState → PortState}
    (hf : ∀ x, (f x).notices = x.notices ∧ (f x).attention = x.attention) (h : Published q u s) :
    Published q u (withPort p f s) := by
  refine h.same ?_
  have hports : (fun r => (((withPort p f s).lnk.get r).notices, ((withPort p f s).lnk.get r).attention)) =
      fun r => ((s.lnk.get r).notices, (s.lnk.get r).attention) := by
    funext r
    cases p <;> cases r <;> simp [withPort, PerPort.get, PerPort.set, hf]
  unfold publishedParts
  rw [hports]
  rfl

/-- New check words leave the published state. -/
@[simp] theorem rechecked_published (s : State) (h : Published q u t) : Published q u (rechecked s t) := h.same rfl

/-! ## Alarms and the ceiling -/

@[simp] theorem reportDay_published (f : DayRecord → DayRecord) (h : Published q u s) : Published q u (reportDay f s) := by
  unfold reportDay
  split <;> exact h.same rfl

@[simp] theorem takeSnapshot_published (c : AlarmCode) (x : Source) (h : Published q u s) :
    Published q u (takeSnapshot c x s) := by
  unfold takeSnapshot
  split
  · exact h
  · exact setNotice_published _ (h.same rfl)

@[simp] theorem enteredActive_published (b : Bool) (c : AlarmCode) (x : Source) (h : Published q u s) :
    Published q u (enteredActive b c x s) := by
  have hreport := reportDay_published DayRecord.addAlarm (setNotice_published .alarmRaised h)
  unfold enteredActive
  dsimp only
  split <;> simp [hreport]

@[simp] theorem createAlarm_published (b : Bool) (c : AlarmCode) (x : Source) (h : Published q u s) :
    Published q u (createAlarm b c x s) := enteredActive_published b c x (h.same rfl)

@[simp] theorem raiseWith_published (b : Bool) (c : AlarmCode) (x : Source) (h : Published q u s) :
    Published q u (raiseWith b c x s) := by
  have hentries (f : AlarmEntry → AlarmEntry) : Published q u (updateAlarm c x f s) := h.same rfl
  unfold raiseWith
  split
  · split
    · exact hentries _
    · exact hentries _
    · exact enteredActive_published b c x (hentries _)
  · split
    · exact createAlarm_published b c x h
    · unfold raiseIntoFull
      split
      · exact createAlarm_published b c x (h.same rfl)
      split
      · exact createAlarm_published b c x (h.same rfl)
      · exact setNotice_published _ (h.same rfl)

@[simp] theorem raise_published (c : AlarmCode) (x : Source) (h : Published q u s) : Published q u (raise c x s) :=
  raiseWith_published true c x h

@[simp] theorem clearAlarm_published (c : AlarmCode) (x : Source) (h : Published q u s) :
    Published q u (clearAlarm c x s) := by
  rcases clearAlarm_cases c x s with e | ⟨_, -, -, e⟩ | ⟨_, -, -, e⟩ <;> rw [e]
  · exact h
  · exact setNotice_published _ (h.same rfl)
  · exact setNotice_published _ (h.same rfl)

@[simp] theorem acknowledge_published (p : Port) (e : AlarmEntry) (h : Published q u s) :
    Published q u (acknowledge p e s).2.2 := by
  have hentries (f : AlarmEntry → AlarmEntry) : Published q u (updateAlarm e.code e.source f s) := h.same rfl
  unfold acknowledge
  split
  · dsimp only
    split <;> simp [hentries]
  · exact h
  · exact h.same rfl

/-- A post leaves the ceiling at the least contribution, whatever it was (R138). -/
@[simp] theorem postContribution_published (w : Contributor) (v : Nat) (h : Published q u s) :
    Published q u (postContribution w v s) := by
  have hleast : CeilingIsLeast (postContribution w v s) := fun _ => postContribution_least w v s
  rcases postContribution_cases w v s with ⟨-, e⟩ | ⟨-, e⟩ <;> rw [e] at hleast ⊢
  · exact ⟨h.queue, h.supply, h.lines, hleast⟩
  · exact ⟨h.queue, h.supply, refreshLines_lines _, hleast⟩

/-! ## Buffers and the engine -/

@[simp] theorem setBuffer_published (b : BufferId) (x : Buffer) (h : Published q u s) : Published q u (setBuffer b x s) :=
  h.same rfl

@[simp] theorem releaseBuffer_published (b : BufferId) (h : Published q u s) : Published q u (releaseBuffer b s) := by
  rcases releaseBuffer_cases b s with e | ⟨-, e⟩ <;> simp [e, h]

@[simp] theorem cancelBuffer_published (b : BufferId) (h : Published q u s) : Published q u (cancelBuffer b s) := by
  rcases cancelBuffer_cases b s with ⟨-, e⟩ | e <;> simp [e, h]

@[simp] theorem select_published (h : Published q u s) : Published q u (select s) := by
  unfold select
  split
  · exact h
  split
  · exact h
  · next r _ =>
    unfold beginRequest noteBegun
    split <;> exact h.same rfl

@[simp] theorem submit_published (source : Monitor) (tag : Nat) (b : BufferId) (mode : AnalysisMode)
    (h : Published q u s) : Published q u (submit source tag b mode s).2 := by
  unfold submit
  split
  · exact h.same rfl
  · exact select_published (h.same rfl)

@[simp] theorem withdraw_published (source : Monitor) (tag : Option Nat) (h : Published q u s) :
    Published q u (withdraw source tag s).2 := h.same rfl

@[simp] theorem finishRequest_published (r : AnalysisRequest) (h : Published q u s) : Published q u (finishRequest r s) :=
  select_published (h.same rfl)

end Sys2Proof.Machine
end

section
/-! The planner and the icing monitor keep the published state. -/

namespace Sys2Proof.Machine

variable {q : List Instr} {u : Bool × Bool × Bool} {s : State}

/-! ## The recompute (R168, R169) -/

theorem withTasks_published (f : List Task → List Task) (h : Published q u s) : Published q u (withTasks f s) := h.same rfl

@[simp] theorem taskAlarms_published (id : Nat) (old new : TaskState) (h : Published q u s) :
    Published q u (taskAlarms id old new s) := by
  unfold taskAlarms
  split <;> simp [h]

@[simp] theorem postPlanner_published (h : Published q u s) : Published q u (postPlanner s) := by
  unfold postPlanner
  split <;> simp [h]

@[simp] theorem recompute_published (h : Published q u s) : Published q u (recompute s) := by
  unfold recompute
  split
  · exact h
  · next day _ =>
    have hfold : Published q u (s.plan.tasks.foldl (recomputeOne day) (s, false)).1 :=
      List.foldlRecOn (motive := fun acc : State × Bool => Published q u acc.1) s.plan.tasks (recomputeOne day) h
        fun acc hacc t _ => taskAlarms_published _ _ _ (hacc.same rfl)
    dsimp only
    split <;> simp [hfold]

/-! ## Condition tasks (R170) -/

@[simp] theorem dropWaiting_published (c : Fin 16) (h : Published q u s) : Published q u (dropWaiting c s) := by
  have hdropped : Published q u (withWaiting (·.set c false) s) := h.same rfl
  unfold dropWaiting
  dsimp only
  split
  · split <;> simp [hdropped]
  · exact h

@[simp] theorem treatCondition_published (loud : Bool) (c : Fin 16) (h : Published q u s) :
    Published q u (treatCondition loud c s) := by
  unfold treatCondition
  split
  · exact h
  split
  · exact h
  split
  · split
    · exact h
    · next day _ _ _ _ id _ =>
      have hcreated : Published q u
          (dropWaiting c (withTasks (insertTask (conditionTask c id day s.plan.config[c].conditionDays)) s)) :=
        dropWaiting_published c (h.same rfl)
      dsimp only
      split
      · exact recompute_published (setNotice_published _ hcreated)
      · exact hcreated
  · have hwaiting : Published q u (withWaiting (·.set c true) s) := h.same rfl
    dsimp only
    split <;> simp [hwaiting]

@[simp] theorem removeTaskEntry_published (id : Nat) (h : Published q u s) : Published q u (removeTaskEntry id s) := by
  have hremoved : Published q u (withTasks (List.filter fun t => t.id ≠ id) s) := h.same rfl
  unfold removeTaskEntry serveWaiting
  dsimp only
  split
  · refine hremoved.foldl _ fun {t c} ht => ?_
    split <;> simp [ht]
  · exact hremoved

@[simp] theorem treatFullDuration_published (loud : Bool) (c : Fin 16) (h : Published q u s) :
    Published q u (treatFullDuration loud s c) := by
  unfold treatFullDuration
  split <;> simp [h]

/-! ## Grades (R157) -/

theorem gradeChanged_published (c : Fin 16) (old new : Nat) (h : Published q u s) :
    Published q u (gradeChanged c old new s) := by
  unfold gradeChanged
  dsimp only
  split
  · exact dropWaiting_published c (h.same rfl)
  · exact h.same rfl

theorem regrade_published {f : State → State} (h : Published q u (f s)) : Published q u (regrade f s) := by
  refine h.foldl _ fun {t c} ht => ?_
  dsimp only
  split
  · exact ht
  · exact gradeChanged_published c _ _ ht

@[simp] theorem postGrades_published (f : HeldGrades → HeldGrades) (h : Published q u s) :
    Published q u (postGrades f s) := regrade_published (h.same rfl)

/-! ## Intervals and days (R154, R158, R160, R162, R163) -/

/-- A credit writes the planner's section only. -/
theorem creditInterval_published (dated : Bool) (h : Published q u s) : Published q u (creditInterval dated s) := by
  cases dated <;> exact h.same (by simp [publishedParts, supplyOf, creditInterval, creditDay])

theorem newInterval_published (h : Published q u s) : Published q u (newInterval s) := h.same rfl

theorem endInterval_published (h : Published q u s) : Published q u (endInterval s) :=
  recompute_published (newInterval_published (creditInterval_published _ h))

theorem temperatureEvent_published (t : Temp) (h : Published q u s) : Published q u (temperatureEvent t s) := by
  unfold temperatureEvent
  split
  · exact h
  · exact h
  · exact h.same (by simp only [publishedParts, supplyOf])

theorem growDuration_published (c : Fin 16) (h : Published q u s) : Published q u (growDuration s c) := by
  unfold growDuration
  dsimp only
  split
  · split
    · exact treatCondition_published true c (h.same rfl)
    · exact h.same rfl
  · exact h

theorem closeDay_published (day : Nat) (h : Published q u s) : Published q u (closeDay day s) := by
  rcases closeDay_cases day s with ⟨-, e⟩ | ⟨-, e⟩ <;> rw [e] <;> exact h.same rfl

theorem dayRollover_published (day : Nat) (h : Published q u s) : Published q u (dayRollover day s) :=
  recompute_published ((setNotice_published .dayClosed (closeDay_published day h)).same rfl)

theorem bringDays_published (new : Nat) (h : Published q u s) : Published q u (bringDays new s) := by
  unfold bringDays
  split
  · exact h.same rfl
  split
  · exact (setNotice_published .dayClosed (closeDay_published _ h)).same rfl
  split
  · exact h.same rfl
  · exact h

theorem setCalendar_published (t : Timestamp) (h : Published q u s) : Published q u (setCalendar t s) := by
  have hdated : Published q u { s with cal := some t } := h.same rfl
  have hbrought := bringDays_published t.day (creditInterval_published s.cal.isSome hdated)
  unfold setCalendar treatFullDurations
  dsimp only
  refine Published.foldl _ (treatFullDuration_published true _) (recompute_published ?_)
  refine withTasks_published _ (newInterval_published ?_)
  split
  · exact hbrought
  · exact hbrought.same (by simp only [publishedParts, supplyOf, foldTally])

/-! ## The planner's requests (R165, R166, R171, R172) -/

theorem mplPresenceEnd_published (h : Published q u s) : Published q u (mplPresenceEnd s).1 := by
  unfold mplPresenceEnd
  split
  · exact h
  · exact h.same rfl

theorem mplPlanTask_published (f : TaskFields) (h : Published q u s) : Published q u (mplPlanTask f s).1 := by
  unfold mplPlanTask
  split
  · exact h
  split
  · exact h
  split
  · exact h
  split
  · split
    · exact h
    · exact recompute_published (setNotice_published _ (h.same rfl))
  · split
    · exact recompute_published (setNotice_published _ (h.same rfl))
    · exact h

theorem restartDuration_published (t : Task) (h : Published q u s) : Published q u (restartDuration t s) := by
  unfold restartDuration
  split
  · exact h.same rfl
  · exact h

theorem clearTaskAlarms_published (id : Nat) (h : Published q u s) : Published q u (clearTaskAlarms id s) :=
  clearAlarm_published _ _ (clearAlarm_published _ _ h)

theorem mplRemoveTask_published (id : Nat) (h : Published q u s) : Published q u (mplRemoveTask id s).1 := by
  unfold mplRemoveTask
  split
  · exact h
  split
  · exact h
  · next t _ =>
    have hcleared := clearTaskAlarms_published id (restartDuration_published t h)
    exact postPlanner_published (removeTaskEntry_published id (setNotice_published _ hcleared))

theorem mplDeferTask_published (id days : Nat) (h : Published q u s) : Published q u (mplDeferTask id days s).1 := by
  have hput (t : Task) : Published q u (putTask t s) := h.same rfl
  unfold mplDeferTask
  split
  · exact h
  split
  · exact h
  · split
    · exact h
    split
    · exact h
    split <;> simp [h, hput]

theorem closeEntry_published (id : Nat) (outcome : CloseOutcome) (day : Nat) (h : Published q u s) :
    Published q u (closeEntry id outcome day s) := by
  unfold closeEntry
  split
  · exact h
  split
  · exact removeTaskEntry_published id (restartDuration_published _ h)
  · exact h.same rfl

theorem mplCloseTask_published (id : Nat) (outcome : CloseOutcome) (h : Published q u s) :
    Published q u (mplCloseTask id outcome s).1 := by
  unfold mplCloseTask
  split
  · exact h
  split
  · exact h
  split
  · exact h
  · dsimp only
    refine recompute_published (setNotice_published _ (clearTaskAlarms_published id (closeEntry_published id outcome _ ?_)))
    split
    · exact h.same rfl
    · exact h.same rfl

theorem mplWriteComponent_published (index : Nat) (new : ComponentConfig) (h : Published q u s) :
    Published q u (mplWriteComponent index new s).1 := by
  unfold mplWriteComponent
  split
  · next hi =>
    split
    · have hgraded : Published q u
          (regrade (fun s => { s with plan := { s.plan with config := s.plan.config.set index new } }) s) :=
        regrade_published (h.same rfl)
      exact recompute_published (hgraded.same rfl)
    · exact h
  · exact h

/-! ## The icing contribution and the threshold sets (R119 to R121, R128 to R130) -/

@[simp] theorem postIcing_published (h : Published q u s) : Published q u (postIcing s) := by
  unfold postIcing
  split <;> simp [h]

theorem setOverride_published (o : Option Nat) (h : Published q u s) : Published q u (setOverride o s) :=
  postIcing_published (h.same rfl)

theorem endOverride_published (h : Published q u s) : Published q u (endOverride s) := by
  unfold endOverride
  split
  · exact h
  · exact setOverride_published none h

theorem reloadProfile_published (x : Heater) (h : Published q u s) : Published q u (reloadProfile x s) :=
  postIcing_published (h.same rfl)

theorem bimHeater_published (x : Heater) (h : Published q u s) : Published q u (bimHeater x s) := by
  unfold bimHeater
  split
  · exact reloadProfile_published x h
  · exact h

theorem clearPin_published (h : Published q u s) : Published q u (clearPin s) := reloadProfile_published _ (h.same rfl)

theorem bimParked_published (h : Published q u s) : Published q u (bimParked s) := by
  unfold bimParked
  split
  · exact clearPin_published h
  · exact h

theorem bimPin_published (t : ThresholdSet) (h : Published q u s) : Published q u (bimPin t s).1 := by
  unfold bimPin
  split
  · exact postIcing_published (h.same rfl)
  · exact h

theorem bimUnpin_published (h : Published q u s) : Published q u (bimUnpin s).1 := by
  unfold bimUnpin
  split
  · exact clearPin_published h
  · exact h

theorem bimWriteProfile_published (x : Heater) (t : ThresholdSet) (h : Published q u s) :
    Published q u (bimWriteProfile x t s).1 := by
  unfold bimWriteProfile
  split
  · dsimp only
    split
    · exact reloadProfile_published x (h.same rfl)
    · exact h.same rfl
  · exact h

/-! ## The icing step (R112, R116, R117, R127) -/

theorem icingTransition_published (old new : IcingState) (h : Published q u s) :
    Published q u (icingTransition old new s) := by
  have hentered : Published q u (withIcing (IcingRetained.enter new) s) := h.same rfl
  have halarms : Published q u (icingAlarms old new (withIcing (IcingRetained.enter new) s)) := by
    unfold icingAlarms
    split <;> simp [hentered]
  have hposted : Published q u (postIcingGrade old new (icingAlarms old new (withIcing (IcingRetained.enter new) s))) := by
    unfold postIcingGrade
    split <;> simp [halarms]
  unfold icingTransition
  dsimp only
  split
  · exact setNotice_published _ (postIcing_published (hposted.same rfl))
  · exact setNotice_published _ (postIcing_published hposted)

theorem applyRule_published (v : StepView) (h : Published q u s) : Published q u (applyRule v s).2 := by
  unfold applyRule
  dsimp only
  split
  · exact h.same rfl
  · exact icingTransition_published _ _ (h.same rfl)

theorem requestPeak_published (h : Published q u s) : Published q u (requestPeak s) := by
  unfold requestPeak
  split <;> exact h.same rfl

theorem enterScore_published (terms : Option ScoreTerms) (h : Published q u s) : Published q u (enterScore terms s) := by
  unfold enterScore
  split
  · exact h
  · exact h.same rfl

theorem takeStep_published (h : Published q u s) : Published q u (takeStep s) := by
  have hopened : Published q u (openStep (stepStop s) s) := h.same rfl
  unfold takeStep
  dsimp only
  refine Published.same (reportDay_published _ ?_) rfl
  split
  · exact requestPeak_published (applyRule_published _ (enterScore_published _ hopened))
  · exact applyRule_published _ (enterScore_published _ hopened)

theorem bimCompletion_published (h : Published q u s) : Published q u (bimCompletion s) := by
  unfold bimCompletion
  split
  · exact releaseBuffer_published _ h
  · next step _ =>
    unfold submitPeak
    dsimp only
    have hsubmitted := submit_published .bim step .bimA
      (.peak 65536 16 s.cfg.bim.searchLo s.cfg.bim.searchHi s.cfg.bim.powerFloor) h
    generalize submit .bim step .bimA _ s = r at hsubmitted ⊢
    obtain ⟨_ | _, s1⟩ := r
    · have hreleased := releaseBuffer_published .bimA hsubmitted
      exact reportDay_published _ (hreleased.same (by simp only [publishedParts, supplyOf, countBim, setOutstanding]))
    · exact hsubmitted

theorem bimResult_published (r : AnalysisRequest) (p : PeakResult) (h : Published q u s) :
    Published q u (bimResult r p s) := by
  unfold bimResult
  split <;> exact h.same rfl

theorem bimRemoval_published (r : AnalysisRequest) (h : Published q u s) : Published q u (bimRemoval s r) := by
  have hreleased := releaseBuffer_published r.buffer h
  unfold bimRemoval
  dsimp only
  split
  · exact hreleased.same rfl
  · exact hreleased

/-! ## Requests of the icing monitor (R114, R118, R129 to R131) -/

theorem bimOverrideBegin_published (minutes : Nat) (h : Published q u s) :
    Published q u (bimOverrideBegin minutes s).1 := by
  unfold bimOverrideBegin
  split
  · exact h
  split
  · exact h
  split
  · exact h
  · exact setOverride_published _ h

theorem bimOverrideEnd_published (h : Published q u s) : Published q u (bimOverrideEnd s).1 := by
  unfold bimOverrideEnd
  split
  · exact endOverride_published h
  · exact h

theorem bimWriteEnable_published (v : Bool) (h : Published q u s) : Published q u (bimWriteEnable v s).1 := by
  unfold bimWriteEnable
  split
  · exact h
  split
  · exact h.same rfl
  · have hremoved := (withdraw_published .bim none h).foldl (f := bimRemoval) (withdraw .bim none s).1 (bimRemoval_published _)
    exact (cancelBuffer_published .bimA hremoved).same rfl

theorem bimWritePeakItem_published (item : BimPeakItem) (h : Published q u s) :
    Published q u (bimWritePeakItem item s).1 := by
  unfold bimWritePeakItem
  split
  · exact h.same rfl
  · exact h

theorem bimWriteCurve_published (rows : Vector Nat 40) (h : Published q u s) : Published q u (bimWriteCurve rows s).1 := by
  unfold bimWriteCurve
  split
  · exact h.same rfl
  · exact h

end Sys2Proof.Machine
end

section
/-! The grid monitor, the gearbox monitor and the pulse timing unit keep the published state. -/

namespace Sys2Proof.Machine

variable {q : List Instr} {u : Bool × Bool × Bool} {s : State}

/-! ## The grid monitor: windows and blocks (R90 to R98) -/

theorem withGhm_published (f : GhmState → GhmState) (h : Published q u s) : Published q u (withGhm f s) := h.same rfl

theorem countGhm_published (f : GhmCounters → GhmCounters) (h : Published q u s) : Published q u (countGhm f s) :=
  h.same rfl

theorem completeBlock_published (h : Published q u s) : Published q u (completeBlock s) := by
  unfold completeBlock
  dsimp only
  split
  · exact countGhm_published _ (withGhm_published _ h)
  · exact withGhm_published _ h

theorem addDisturbedWindow_published (h : Published q u s) : Published q u (addDisturbedWindow s) :=
  reportDay_published _ (withGhm_published _ h)

theorem settleWindow_published (n : Nat) (o : WindowOutcome) (h : Published q u s) :
    Published q u (settleWindow n o s) := by
  have hcounted : Published q u (countGhm (countOutcome o)
      (pruneEntries (withEntry n (fun e => { e with outcome := some o, buffer := none, request := .none }) s))) :=
    countGhm_published _ (withGhm_published _ (withGhm_published _ h))
  have hreported : Published q u (reportOutcome o (countGhm (countOutcome o)
      (pruneEntries (withEntry n (fun e => { e with outcome := some o, buffer := none, request := .none }) s)))) := by
    unfold reportOutcome
    split <;> simp [hcounted]
  unfold settleWindow addSlot
  dsimp only
  split
  · exact completeBlock_published (withGhm_published _ hreported)
  · exact withGhm_published _ hreported

theorem submitWindow_published (n : Nat) (b : BufferId) (closing : PulseResult) (stored : Nat) (h : Published q u s) :
    Published q u (submitWindow n b closing stored s) := by
  have hsubmitted := submit_published .ghm n b (.harmonics closing.n closing.t stored) h
  unfold submitWindow
  generalize submit .ghm n b (.harmonics closing.n closing.t stored) s = r at hsubmitted ⊢
  obtain ⟨_ | _, s1⟩ := r
  · exact settleWindow_published n _ (releaseBuffer_published b hsubmitted)
  · exact withGhm_published _ hsubmitted

theorem judgeWindow_published (n : Nat) (b : BufferId) (r : CaptureRecord) (h : Published q u s) :
    Published q u (judgeWindow n b r s) := by
  unfold judgeWindow
  split
  · split
    · exact settleWindow_published n _ (releaseBuffer_published b h)
    · exact submitWindow_published n b _ _ h
  · exact settleWindow_published n _ (releaseBuffer_published b h)

theorem ghmCompletion_published (b : BufferId) (r : CaptureRecord) (h : Published q u s) :
    Published q u (ghmCompletion b r s) := by
  unfold ghmCompletion
  split
  · exact releaseBuffer_published b h
  · exact judgeWindow_published _ b r h

theorem ghmAbort_published (b : BufferId) (h : Published q u s) : Published q u (ghmAbort b s) := by
  unfold ghmAbort
  split
  · exact h
  · exact settleWindow_published _ _ h

theorem openWindow_published (h : Published q u s) : Published q u (openWindow s) := by
  have hadded (e : WindowEntry) : Published q u (addEntry e s) := countGhm_published _ (withGhm_published _ h)
  unfold openWindow
  split
  · exact setBuffer_published _ _ (hadded _)
  · exact hadded _

theorem endWindow_published (closing : PulseResult) (segments : List (List GridInstant)) (h : Published q u s) :
    Published q u (endWindow closing segments s) := by
  unfold endWindow
  split
  · exact h
  · next e _ =>
    have hended := withGhm_published (fun g => { g with entries := g.entries.map fun x =>
      if x.number = e.number then { x with ended := true, closing := some closing, endTime := s.cal } else x }) h
    unfold afterEnd
    split
    · exact withGhm_published _ hended
    · unfold endCapture
      split
      · exact judgeWindow_published _ _ _ (setBuffer_published _ _ hended)
      · exact hended
      · exact hended
      · exact hended
    · exact settleWindow_published _ _ hended
    · exact hended

theorem ghmValid_published (closing : PulseResult) (segments : List (List GridInstant)) (h : Published q u s) :
    Published q u (ghmValid closing segments s) := by
  unfold ghmValid
  split
  · exact h
  · exact openWindow_published h
  · exact openWindow_published (endWindow_published closing segments h)

theorem abandonWindow_published (h : Published q u s) : Published q u (abandonWindow s) := by
  unfold abandonWindow
  split
  · exact h
  · next e _ =>
    have hcancelled : Published q u (match e.buffer with
        | none => s
        | some b => cancelBuffer b s) := by
      split <;> simp [h]
    dsimp only
    split
    · exact withGhm_published _ (withGhm_published _ hcancelled)
    · exact settleWindow_published _ _ (withGhm_published _ hcancelled)

theorem ghmStalled_published (h : Published q u s) : Published q u (ghmStalled s) := by
  have hdisturbed := addDisturbedWindow_published (abandonWindow_published h)
  have hstalled := withGhm_published (fun g => { g with window := .searching })
    (countGhm_published (fun c => { c with stalls := inc16 c.stalls }) (withGhm_published GhmState.disturb hdisturbed))
  unfold ghmStalled
  split
  · exact h
  · exact hstalled
  · exact hstalled

theorem ghmResult_published (r : AnalysisRequest) (mags : List (List Nat)) (h : Published q u s) :
    Published q u (ghmResult r mags s) := by
  have hclassed (v : PerPhase Nat) :
      Published q u (countNoFundamental v (withGhm (GhmState.classed (classOf v)) s)) := by
    unfold countNoFundamental
    split
    · exact countGhm_published _ (withGhm_published _ h)
    · exact withGhm_published _ h
  unfold ghmResult
  split
  · exact countGhm_published _ h
  · unfold evaluateWindow
    dsimp only
    split
    · exact settleWindow_published _ _ (addDisturbedWindow_published (withGhm_published _ (hclassed _)))
    · exact settleWindow_published _ _ (withGhm_published _ (hclassed _))

theorem ghmRemoval_published (r : AnalysisRequest) (h : Published q u s) : Published q u (ghmRemoval s r) := by
  have hreleased := releaseBuffer_published r.buffer h
  unfold ghmRemoval
  dsimp only
  split
  · exact hreleased
  · exact settleWindow_published _ _ hreleased

/-! ## Compliance records (R99 to R106) -/

@[simp] theorem postGrid_published (h : Published q u s) : Published q u (postGrid s) := by
  unfold postGrid
  split <;> simp [h]

theorem currentAlarms_published (old new : Nat) (h : Published q u s) : Published q u (currentAlarms old new s) := by
  have hcleared : Published q u (if old = 1 then clearAlarm .gridCurrentAlert .ghm s
      else if old = 2 then clearAlarm .gridCurrentAlarm .ghm s else s) := by
    split
    · exact clearAlarm_published _ _ h
    split <;> simp [h]
  unfold currentAlarms
  dsimp only
  split
  · exact h
  split
  · exact raise_published _ _ hcleared
  split
  · exact raise_published _ _ hcleared
  · exact hcleared

theorem gradeCurrent_published (r : ComplianceRecord) (h : Published q u s) : Published q u (gradeCurrent r s) := by
  unfold gradeCurrent currentGradeChange
  split
  · dsimp only
    split
    · exact h.same rfl
    · exact postGrid_published (postGrades_published _ (currentAlarms_published _ _ (h.same rfl)))
  · exact h

theorem closeRecord_published (r : ComplianceRecord) (h : Published q u s) : Published q u (closeRecord r s) := by
  have hoffered {t : State} (ht : Published q u t) : Published q u (offerRecord r t) := by
    unfold offerRecord
    split
    · exact setNotice_published _ (ht.same rfl)
    · exact countGhm_published _ ht
  have hjudged {t : State} (ht : Published q u t) : Published q u (voltageAlarm r t) := by
    unfold voltageAlarm
    split
    · exact ht
    split <;> simp [ht]
  have hgraded := gradeCurrent_published r (hjudged (hoffered
    (countGhm_published (fun c => { c with closed := inc16 c.closed }) h)))
  unfold closeRecord reportRecord
  split
  · exact hgraded
  · exact reportDay_published _ hgraded

theorem closeInterval_published (timeSet : Bool) (h : Published q u s) : Published q u (closeInterval timeSet s) := by
  unfold closeInterval
  refine withGhm_published _ ?_
  split
  · exact countGhm_published _ h
  · exact closeRecord_published _ h

theorem ghmIntervalEnd_published (h : Published q u s) : Published q u (ghmIntervalEnd s) :=
  closeInterval_published false (completeBlock_published h)

theorem ghmTimeSet_published (t : Timestamp) (h : Published q u s) : Published q u (ghmTimeSet t s) := by
  have hpruned : Published q u (pruneRing t s) := h.same rfl
  exact closeInterval_published true (completeBlock_published hpruned)

/-! ## Items of the grid monitor (R105, R107, R108) -/

theorem withGhmConfig_published (f : GhmConfig → GhmConfig) (h : Published q u s) :
    Published q u (withGhmConfig f s) := h.same rfl

theorem disableGhm_published (h : Published q u s) : Published q u (disableGhm s) := by
  have hcancel {t : State} (b : BufferId) (ht : Published q u t) : Published q u (cancelFilling b t) := by
    unfold cancelFilling
    split <;> simp [ht]
  have hwithdrawn := withdraw_published .ghm none (hcancel .ghmB (hcancel .ghmA h))
  have hremoved := hwithdrawn.foldl (f := ghmRemoval)
    (withdraw .ghm none (cancelFilling .ghmB (cancelFilling .ghmA s))).1 (ghmRemoval_published _)
  unfold disableGhm
  dsimp only
  exact withGhmConfig_published _ (withGhm_published _ (completeBlock_published (withGhm_published _ hremoved)))

theorem ghmWriteEnable_published (v : Bool) (h : Published q u s) : Published q u (ghmWriteEnable v s).1 := by
  have henabled : Published q u (withGhmConfig (fun c => { c with enable := true })
      (withGhm (fun g => { g with window := .searching }) s)) := withGhmConfig_published _ (withGhm_published _ h)
  unfold ghmWriteEnable
  split
  · exact h
  split
  · unfold enableGhm resumeInterval
    dsimp only
    split
    · exact withGhm_published _ henabled
    · exact henabled
  · exact disableGhm_published h

theorem ghmWriteItem_published (item : GhmItem) (h : Published q u s) : Published q u (ghmWriteItem item s).1 := by
  have hwritten := withGhmConfig_published (GhmConfig.withItem item) h
  unfold ghmWriteItem
  split
  · dsimp only
    split <;> simp [hwritten]
  · exact h

theorem ghmWriteLimit_published (order value : Nat) (h : Published q u s) :
    Published q u (ghmWriteLimit order value s).1 := by
  unfold ghmWriteLimit
  split
  · split
    · dsimp only
      exact withGhmConfig_published _ h
    · exact h
  · exact h

/-! ## The gearbox monitor: bands and writes that take effect (R68, R80 to R84) -/

theorem countGvm_published (f : GvmCounters → GvmCounters) (h : Published q u s) : Published q u (countGvm f s) :=
  h.same rfl

theorem withWork_published (m : Fin 8) (f : WorkRecord → WorkRecord) (h : Published q u s) :
    Published q u (withWork m f s) := h.same rfl

theorem withBand_published (b : Fin 24) (f : BandState → BandState) (h : Published q u s) :
    Published q u (withBand b f s) := h.same rfl

theorem postBands_published (h : Published q u s) : Published q u (postBands s) := by
  have hgrades := postGrades_published (fun g => { g with bands := bandGrades s }) h
  unfold postBands
  dsimp only
  split
  · exact hgrades
  · exact postContribution_published _ _ hgrades

theorem bandAlarms_published (b : Fin 24) (old new : Nat) (h : Published q u s) :
    Published q u (bandAlarms b old new s) := by
  have hcleared : Published q u (if old = 1 then clearAlarm .bandAlert (.band b.val) s
      else if old = 2 then clearAlarm .bandAlarm (.band b.val) s else s) := by
    split
    · exact clearAlarm_published _ _ h
    split <;> simp [h]
  unfold bandAlarms
  dsimp only
  split
  · exact h
  split
  · exact raise_published _ _ hcleared
  split
  · exact raise_published _ _ hcleared
  · exact hcleared

theorem enterBand_published (mode : BandMode) (b : Fin 24) (h : Published q u s) :
    Published q u (enterBand mode b s) := by
  have hentered := withBand_published b (BandState.entered mode) (bandAlarms_published b s.mon.bands[b].grade 0 h)
  unfold enterBand
  dsimp only
  split
  · exact hentered.same rfl
  · exact hentered

theorem settleBand_published (old : ConfigSection) (b : Fin 24) (h : Published q u s) :
    Published q u (settleBand old s b) := by
  unfold settleBand
  split
  · exact h
  · exact enterBand_published _ b h

/-- A write that takes effect writes no notice mask. -/
theorem takeEffect_published {f : ConfigSection → ConfigSection} (hf : (f s.cfg).masks = s.cfg.masks)
    (h : Published q u s) : Published q u (takeEffect f s) := by
  have hwritten : Published q u { s with cfg := f s.cfg } :=
    h.same (by simp only [publishedParts, supplyOf, hf])
  exact postBands_published (hwritten.foldl (f := settleBand s.cfg) _ (settleBand_published s.cfg _))

theorem applyPending_published (m : Fin 8) (h : Published q u s) : Published q u (applyPending m s) := by
  have hemptied (o : PendingOutcome) : Published q u (emptyHolder m o s) := withWork_published m _ h
  unfold applyPending
  split
  · exact h
  · split
    · exact countGvm_published _ (hemptied _)
    · exact countGvm_published _ (takeEffect_published rfl (hemptied _))
  · exact countGvm_published _ (takeEffect_published rfl (hemptied _))

theorem endOfWork_published (m : Fin 8) (h : Published q u s) : Published q u (endOfWork m s) := by
  have hidle : Published q u (idleWork m s) := withWork_published m _ h
  have hmarks : Published q u (clearSkipMarks m (idleWork m s)) :=
    hidle.same (by simp only [publishedParts, clearSkipMarks, supplyOf])
  exact applyPending_published m hmarks

theorem gvmRemoval_published (r : AnalysisRequest) (h : Published q u s) : Published q u (gvmRemoval s r) := by
  have hreleased := releaseBuffer_published r.buffer h
  unfold gvmRemoval
  dsimp only
  split
  · exact endOfWork_published _ (countGvm_published _ hreleased)
  · exact hreleased

theorem gvmAbort_published (b : BufferId) (converter : Bool) (h : Published q u s) :
    Published q u (gvmAbort b converter s) := by
  unfold gvmAbort
  split
  · exact h
  · exact endOfWork_published _ (countGvm_published _ h)

theorem gvmCancel_published (m : Fin 8) (h : Published q u s) : Published q u (gvmCancel s m) := by
  unfold gvmCancel
  split
  · exact h
  have hremoved := (withdraw_published .gvm (some m.val) h).foldl (f := gvmRemoval) (withdraw .gvm (some m.val) s).1
    (gvmRemoval_published _)
  have hcancelled : Published q u
      (cancelCapture m ((withdraw .gvm (some m.val) s).1.foldl gvmRemoval (withdraw .gvm (some m.val) s).2)) := by
    unfold cancelCapture
    split <;> simp [hremoved]
  dsimp only
  split
  · exact hcancelled
  · exact endOfWork_published m hcancelled

/-! ## Captures and results (R70 to R79) -/

theorem gvmPeriodExpiry_published (h : Published q u s) : Published q u (gvmPeriodExpiry s) := by
  have hattempt (m : Fin 8) {t : State} (ht : Published q u t) : Published q u (startAttempt m t) := by
    unfold startAttempt
    dsimp only
    split
    · exact countGvm_published _ ht
    split
    · exact countGvm_published _ ht
    split
    · exact countGvm_published _ ht
    split
    · exact countGvm_published _ ht
    · exact withWork_published m _ (setBuffer_published _ _ ht)
  rcases gvmPeriodExpiry_cases s with ⟨-, e⟩ | ⟨-, e⟩ <;> rw [e]
  · have hrestarted : Published q u (restartPeriod s) := h.same rfl
    unfold takeSlot
    split
    · exact hrestarted
    · next m _ =>
      have hplaced : Published q u { restartPeriod s with gvm := { (restartPeriod s).gvm with position := some m } } :=
        hrestarted.same rfl
      dsimp only
      split
      · exact countGvm_published _ hplaced
      · exact hattempt m hplaced
  · exact h

theorem submitRecord_published (m : Fin 8) (b : BufferId) (mode : AnalysisMode) (h : Published q u s) :
    Published q u (submitRecord m b mode s) := by
  have hsubmitted := submit_published .gvm m.val b mode h
  unfold submitRecord
  generalize submit .gvm m.val b mode s = r at hsubmitted ⊢
  obtain ⟨_ | _, s1⟩ := r
  · exact endOfWork_published m
      (reportDay_published _ (countGvm_published _ (releaseBuffer_published b hsubmitted)))
  · exact withWork_published m _ hsubmitted

theorem gvmCompletion_published (b : BufferId) (n d : Nat) (h : Published q u s) :
    Published q u (gvmCompletion b n d s) := by
  have hdropped (m : Fin 8) (f : GvmCounters → GvmCounters) (b : BufferId) :
      Published q u (endOfWork m (countGvm f (releaseBuffer b s))) :=
    endOfWork_published m (countGvm_published _ (releaseBuffer_published _ h))
  unfold gvmCompletion
  split
  · exact releaseBuffer_published b h
  split
  · exact h
  · unfold judgeCompletion
    split
    · exact hdropped _ _ _
    split
    · exact hdropped _ _ _
    · exact submitRecord_published _ _ _ h

theorem evaluateEntry_published (clipped : Bool) (e : BandResult) (h : Published q u s) :
    Published q u (evaluateEntry clipped s e) := by
  have hnoted : Published q u (noteLevel (Fin.ofNat 24 e.band) clipped e s) := h.same rfl
  unfold evaluateEntry
  dsimp only
  split
  · exact hnoted
  · unfold learnBand
    split
    · exact hnoted
    split
    · exact withBand_published _ _ hnoted
    · exact countGvm_published _ hnoted
  · unfold gradeBand
    split
    · exact bandAlarms_published _ _ _ (withBand_published _ _ hnoted)
    · exact hnoted

theorem gvmResult_published (r : AnalysisRequest) (entries : List BandResult) (h : Published q u s) :
    Published q u (gvmResult r entries s) := by
  have hevaluated := h.foldl (f := evaluateEntry r.clipped) entries (evaluateEntry_published r.clipped _)
  unfold gvmResult
  dsimp only
  split
  · exact endOfWork_published _ (postBands_published (countGvm_published _ hevaluated))
  · exact countGvm_published _ h

/-! ## Requests of the gearbox monitor (R66 to R70, R76, R83) -/

theorem gvmLearn_published (target : LearnTarget) (h : Published q u s) : Published q u (gvmLearn target s).1 := by
  unfold gvmLearn
  split
  · split
    · split
      · exact h
      · exact postBands_published (enterBand_published .learning _ h)
    · exact h
  · split
    · split
      · exact h
      · exact postBands_published (h.foldl _ (enterBand_published .learning _))
    · exact h

theorem holdWrite_published (m : Fin 8) (w : PendingWrite) (h : Published q u s) :
    Published q u (holdWrite m w s).1 := by
  unfold holdWrite
  split <;> dsimp only
  · exact withWork_published m _ h
  · exact countGvm_published _ (withWork_published m _ h)

theorem gvmWriteMeasurement_published (index : Nat) (v : MeasurementRecord) (h : Published q u s) :
    Published q u (gvmWriteMeasurement index v s).1 := by
  unfold gvmWriteMeasurement
  dsimp only
  split
  · split
    · exact h
    split
    · dsimp only
      exact takeEffect_published rfl h
    split
    · dsimp only
      exact takeEffect_published rfl (gvmCancel_published _ h)
    · exact holdWrite_published _ _ h
  · exact h

theorem gvmWriteBand_published (index : Nat) (v : BandConfig) (h : Published q u s) :
    Published q u (gvmWriteBand index v s).1 := by
  unfold gvmWriteBand
  dsimp only
  split
  · split
    · exact h
    split
    · dsimp only
      exact takeEffect_published rfl h
    split
    · dsimp only
      exact takeEffect_published rfl h
    · exact holdWrite_published _ _ h
  · exact h

theorem gvmWriteEnable_published (v : Bool) (h : Published q u s) : Published q u (gvmWriteEnable v s).1 := by
  unfold gvmWriteEnable
  split
  · exact h
  split
  · exact h.same rfl
  · have hcancelled := h.foldl (f := gvmCancel) (List.finRange 8) (gvmCancel_published _)
    exact hcancelled.same (by simp only [publishedParts, disableGvm, supplyOf])

theorem gvmWritePeriod_published (v : Nat) (h : Published q u s) : Published q u (gvmWritePeriod v s).1 := by
  unfold gvmWritePeriod
  split
  · exact h.same rfl
  · exact h

/-! ## Pulse inputs (R20 to R30) -/

theorem setPulse_published (p : Pulse) (x : PulseState) (h : Published q u s) : Published q u (setPulse p x s) :=
  h.same rfl

theorem clearStall_published (p : Pulse) (h : Published q u s) : Published q u (clearStall p s) := by
  unfold clearStall
  split
  · exact clearAlarm_published _ _ (setPulse_published p _ h)
  · exact h

theorem compareSpeeds_published (r : PulseResult) (h : Published q u s) : Published q u (compareSpeeds r s) := by
  unfold compareSpeeds
  split
  · exact h
  · unfold mismatchAlarm
    dsimp only
    split
    · exact raise_published _ _ (h.same rfl)
    · exact clearAlarm_published _ _ (h.same rfl)
    · exact h.same rfl

theorem ptuEdge_published (p : Pulse) (tick : Nat) (segments : List (List GridInstant)) (h : Published q u s) :
    Published q u (ptuEdge p tick segments s) := by
  have hset (x : PulseState) : Published q u (setPulse p x s) := setPulse_published p x h
  unfold ptuEdge
  dsimp only
  split
  · unfold acceptPulse
    dsimp only
    split
    · exact hset _
    split
    · exact hset _
    · unfold afterValid
      split
      · exact clearStall_published _ (hset _)
      · exact clearStall_published _ (compareSpeeds_published _ (hset _))
      · exact ghmValid_published _ segments (clearStall_published _ (hset _))
  · exact hset _

theorem ptuStall_published (p : Pulse) (h : Published q u s) : Published q u (ptuStall p s) := by
  have hraised {t : State} (p : Pulse) (ht : Published q u t) : Published q u (raiseStall p t) := by
    unfold raiseStall
    split
    · exact raise_published _ _ (setPulse_published p _ ht)
    · exact ht
  rcases ptuStall_cases p s with ⟨-, e⟩ | ⟨-, e⟩ <;> rw [e]
  · unfold stallChannel
    dsimp only
    split
    · exact hraised _ (setPulse_published _ _ h)
    · exact hraised _ (setPulse_published _ _ h)
    · exact ghmStalled_published (hraised _ (setPulse_published _ _ h))
  · exact h

theorem ptuStore_published (lo hi v : Nat) (f : PtuConfig → PtuConfig) (h : Published q u s) :
    Published q u (ptuStore lo hi v f s).1 := by
  unfold ptuStore
  split
  · exact h.same rfl
  · exact h

theorem ptuWrite_published (index v : Nat) (h : Published q u s) : Published q u (ptuWrite index v s).1 := by
  unfold ptuWrite
  split
  case h_12 => exact h
  all_goals exact ptuStore_published _ _ _ _ h

end Sys2Proof.Machine
end

section
/-! The acquisition front end, the ceiling unit, the resistance channels, the clock and the ports keep the published state. -/

namespace Sys2Proof.Machine

variable {q : List Instr} {u : Bool × Bool × Bool} {s : State}

/-! ## The acquisition front end (R2 to R17) -/

theorem abortBuffer_published (converter : Bool) (b : BufferId) (h : Published q u s) :
    Published q u (abortBuffer converter s b) := by
  have hfreed := setBuffer_published b .free h
  unfold abortBuffer
  split
  · unfold reportAbort
    split
    · exact gvmAbort_published b converter hfreed
    · exact hfreed.same rfl
    · exact ghmAbort_published b hfreed
  · exact h

theorem afeBiasFault_published (ch : Accel) (bias : Int) (h : Published q u s) :
    Published q u (afeBiasFault ch bias s) := by
  have habort {t : State} (ht : Published q u t) : Published q u (abortChannel ch t) := by
    refine ht.foldl _ fun {t b} ht => ?_
    split
    · exact abortBuffer_published false b ht
    · exact ht
  unfold afeBiasFault
  split
  · exact h
  · exact habort (raise_published _ _ (h.same rfl))

theorem afeBiasInRange_published (ch : Accel) (bias : Int) (h : Published q u s) :
    Published q u (afeBiasInRange ch bias s) := by
  unfold afeBiasInRange
  dsimp only
  split
  · exact h
  · exact h.same rfl

theorem afeRecovery_published (ch : Accel) (h : Published q u s) : Published q u (afeRecovery ch s) := by
  rcases afeRecovery_cases ch s with ⟨-, e⟩ | ⟨-, e⟩ <;> rw [e]
  · exact clearAlarm_published _ _ (h.same rfl)
  · exact h

theorem afeCheck_published (ch cq : Int) (h : Published q u s) : Published q u (afeCheck ch cq s) := by
  rcases afeCheck_cases ch cq s with ⟨-, e⟩ | ⟨-, e⟩ <;> rw [e]
  · have hrecorded : Published q u (recordCheck ch cq s) := h.same rfl
    have hfailed : Published q u (failCheck (recordCheck ch cq s)) := hrecorded.same rfl
    unfold checkConverter
    dsimp only
    split
    · exact hrecorded
    · exact raise_published _ _ (hfailed.foldl _ (abortBuffer_published true _))
    · exact hfailed
    · exact clearAlarm_published _ _ (hrecorded.same rfl)
  · exact h

theorem afeFixedComplete_published (b : BufferId) (segments : List (List Int)) (h : Published q u s) :
    Published q u (afeFixedComplete b segments s) := by
  unfold afeFixedComplete
  split
  · split
    · exact h
    · unfold reportFixed
      split
      · exact gvmCompletion_published b _ _ (setBuffer_published b _ h)
      · exact bimCompletion_published (setBuffer_published b _ h)
      · exact setBuffer_published b _ h
  · exact h
  · exact h
  · exact h

theorem afeWindowLimit_published (b : BufferId) (segments : List (List GridInstant)) (h : Published q u s) :
    Published q u (afeWindowLimit b segments s) := by
  unfold afeWindowLimit
  split
  · split
    · exact ghmCompletion_published b _ (setBuffer_published b _ h)
    · exact h
  · exact h
  · exact h
  · exact h

theorem afeConvert_published (c : Conversion) (h : Published q u s) : Published q u (afeConvert c s) := by
  have hstored : Published q u (storeConversion c s) := h.same rfl
  unfold afeConvert
  split
  · exact rechecked_published s (hstored.foldl (f := fun t b => afeWindowLimit b [] (afeFixedComplete b [] t)) _
      fun ht => afeWindowLimit_published _ [] (afeFixedComplete_published _ [] ht))
  · exact h

theorem afeWriteTrim_published (index : Nat) (v : Int) (h : Published q u s) :
    Published q u (afeWriteTrim index v s).1 := by
  unfold afeWriteTrim
  split
  · split
    · exact h
    split
    · exact h
    · exact h.same rfl
  · exact h

/-! ## The ceiling unit (R135 to R149) -/

theorem ccuReport_published (regime : Nat) (wind power : Int) (heater : Nat) (h : Published q u s) :
    Published q u (ccuReport regime wind power heater s).1 := by
  unfold ccuReport
  split
  · next x hx _ _ =>
    have hrecorded : Published q u (updateRecord x wind power hx s) := h.same rfl
    have hheater := bimHeater_published hx (clearAlarm_published .controllerSilent .ccu hrecorded)
    unfold acceptReport handReport
    dsimp only
    split
    · exact bimParked_published hheater
    · exact hheater
  · exact h.same rfl

/-- An expired timer raises its alarm and is counted (R137, R140). -/
theorem countCcu_raise_published (f : CcuCounters → CcuCounters) (c : AlarmCode) (x : Source) (h : Published q u s) :
    Published q u (countCcu f (raise c x s)) := (raise_published c x h).same rfl

theorem ccuFreshness_published (h : Published q u s) : Published q u (ccuFreshness s) := by
  rcases ccuFreshness_cases s with ⟨-, e⟩ | ⟨-, e⟩ <;> rw [e]
  · exact countCcu_raise_published _ _ _ (h.same rfl)
  · exact h

theorem ccuAckExpiry_published (h : Published q u s) : Published q u (ccuAckExpiry s) := by
  rcases ccuAckExpiry_cases s with ⟨-, e⟩ | ⟨-, e⟩ <;> rw [e]
  · exact countCcu_raise_published _ _ _ (h.same rfl)
  · exact h

theorem ccuCeilingAck_published (number : Nat) (h : Published q u s) : Published q u (ccuCeilingAck number s).1 := by
  unfold ccuCeilingAck
  split
  · exact h
  split
  · exact h
  · exact clearAlarm_published _ _ (h.same rfl)

theorem ccuAckAlarm_published (p : Port) (target : AckTarget) (h : Published q u s) :
    Published q u (ccuAckAlarm p target s).1 := by
  unfold ccuAckAlarm
  split
  · exact List.foldlRecOn (motive := fun acc : Nat × Nat × State => Published q u acc.2.2) _ (acknowledgeNext p) h
      fun acc hacc e _ => acknowledge_published p e hacc
  · split
    · exact h
    · exact acknowledge_published p _ h

theorem ccuLock_published (slot : Nat) (h : Published q u s) : Published q u (ccuLock slot s).1 := by
  unfold ccuLock
  split
  · split
    · exact h
    split
    · exact h
    split
    · exact h
    · exact h.same rfl
  · exact h

theorem ccuUnlock_published (slot : Nat) (h : Published q u s) : Published q u (ccuUnlock slot s).1 := by
  unfold ccuUnlock
  split
  · split
    · exact h
    split
    · exact h.same rfl
    · exact h
  · exact h

theorem ccuWrite_published (item : CcuItem) (h : Published q u s) : Published q u (ccuWrite item s).1 := by
  unfold ccuWrite
  split
  · split
    · exact h.same rfl
    · exact h
  · split
    · exact h.same rfl
    · exact h

/-! ## The resistance channels (R33 to R42) -/

theorem holdRecords_published (h : Published q u s) : Published q u (holdRecords s) := h.same rfl

theorem refResult_published (c : Nat) (h : Published q u s) : Published q u (refResult c s) := by
  unfold refResult
  dsimp only
  split
  · exact h.same rfl
  · exact holdRecords_published (raise_published _ _ (h.same rfl))
  · exact h.same rfl
  · exact clearAlarm_published _ _ (h.same rfl)

theorem sensorAlarms_published (t : Temp) (old new : ChannelFault) (h : Published q u s) :
    Published q u (sensorAlarms t old new s) := by
  unfold sensorAlarms
  split <;> simp [h]

theorem sensorResult_published (t : Temp) (c : Nat) (h : Published q u s) : Published q u (sensorResult t c s) := by
  have hset {r : State} (x : SensorState) (hr : Published q u r) : Published q u (setSensor t x r) := hr.same rfl
  unfold sensorResult
  dsimp only
  refine temperatureEvent_published t ?_
  split
  · exact hset _ h
  · exact sensorAlarms_published t _ _ (hset _ (hset _ h))

theorem rchGateEnd_published (count : Nat) (h : Published q u s) : Published q u (rchGateEnd count s) := by
  unfold rchGateEnd
  dsimp only
  split
  · exact refResult_published _ (h.same rfl)
  · exact sensorResult_published _ _ (h.same rfl)

theorem rchWrite_published (item : RchItem) (h : Published q u s) : Published q u (rchWrite item s).1 := by
  unfold rchWrite
  split
  · split
    · exact h.same rfl
    · exact h
  · split
    · exact h.same rfl
    · exact h
  · split
    · exact h.same rfl
    · exact h
  · exact h

/-! ## Time (R152 to R158) -/

theorem operationSecond_published (h : Published q u s) : Published q u (operationSecond s) := by
  have hproducing : Published q u (producingSecond s) := by
    unfold producingSecond
    split
    · exact h.same rfl
    · exact h
  have hcounted : Published q u (countTimers (ageRecords (producingSecond s))) := hproducing.same rfl
  exact hcounted.foldl (f := growDuration) _ (growDuration_published _)

theorem batterySecond_published (h : Published q u s) : Published q u (batterySecond s) := by
  unfold batterySecond
  split
  · exact h.same rfl
  · exact h

theorem tenMinuteBoundary_published (h : Published q u s) : Published q u (tenMinuteBoundary s) := by
  rcases tenMinuteBoundary_cases s with ⟨-, e⟩ | ⟨now, -, -, e⟩ <;> rw [e]
  · exact h
  have hplanner : Published q u (mplBoundary now s) := by
    unfold mplBoundary
    split
    · exact endInterval_published h
    · exact h
  have hgrid : Published q u (ghmBoundary now (mplBoundary now s)) := by
    unfold ghmBoundary
    split
    · exact ghmIntervalEnd_published hplanner
    · exact hplanner
  split
  · rcases rolloverAt_cases now (ghmBoundary now (mplBoundary now s)) with ⟨d, -, e⟩ | ⟨-, e⟩ <;> rw [e]
    · exact dayRollover_published d hgrid
    · exact hgrid
  · exact hgrid

theorem ghmUnalignedEnd_published (h : Published q u s) : Published q u (ghmUnalignedEnd s) := by
  unfold ghmUnalignedEnd
  split
  · exact ghmIntervalEnd_published h
  · exact h

theorem mplUndatedEnd_published (h : Published q u s) : Published q u (mplUndatedEnd s) := by
  unfold mplUndatedEnd
  split
  · exact endInterval_published h
  · exact h

theorem setTime_published (p : Port) (day sec : Nat) (h : Published q u s) : Published q u (setTime p day sec s).1 := by
  unfold setTime
  split
  · exact ghmTimeSet_published _ (setCalendar_published _ h)
  · exact h

theorem presenceBegin_published (technician hours : Nat) (h : Published q u s) :
    Published q u (presenceBegin technician hours s).1 := by
  unfold presenceBegin
  split
  · exact endOverride_published (h.same rfl)
  · exact h

theorem bimStepExpiry_published (h : Published q u s) : Published q u (bimStepExpiry s) := by
  rcases bimStepExpiry_cases s with ⟨-, e⟩ | ⟨-, e⟩ <;> rw [e]
  · exact takeStep_published h
  · exact h

theorem overrideExpiry_published (h : Published q u s) : Published q u (overrideExpiry s) := by
  rcases overrideExpiry_cases s with ⟨-, e⟩ | ⟨-, e⟩ <;> rw [e]
  · exact endOverride_published h
  · exact h

/-! ## Requests (R189, R190, R192, R193) -/

/-- An emptied notice set is followed by its line (R192). -/
theorem readNotices_published (p : Port) (h : Published q u s) : Published q u (readNotices p s).1 :=
  refreshLines_published h.queue h.supply h.ceiling

/-- A new mask is followed by its line (R193). -/
theorem lnkWriteMask_published (target : Port) (m : NoticeSet) (h : Published q u s) :
    Published q u (lnkWriteMask target m s).1 := by
  unfold lnkWriteMask
  split
  · exact refreshLines_published h.queue h.supply h.ceiling
  · exact h

theorem handleWrite_published (w : ConfigWrite) (h : Published q u s) : Published q u (handleWrite w s).1 := by
  cases w with
  | trim i v => exact afeWriteTrim_published i v h
  | ptu i v => exact ptuWrite_published i v h
  | rch item => exact rchWrite_published item h
  | measurement i v => exact gvmWriteMeasurement_published i v h
  | band i v => exact gvmWriteBand_published i v h
  | gvmEnable v => exact gvmWriteEnable_published v h
  | gvmPeriod v => exact gvmWritePeriod_published v h
  | ghmEnable v => exact ghmWriteEnable_published v h
  | ghm item => exact ghmWriteItem_published item h
  | voltageLimit order v => exact ghmWriteLimit_published order v h
  | bimEnable v => exact bimWriteEnable_published v h
  | bimPeak item => exact bimWritePeakItem_published item h
  | curve rows => exact bimWriteCurve_published rows h
  | profile x t => exact bimWriteProfile_published x t h
  | ccu item => exact ccuWrite_published item h
  | component i v => exact mplWriteComponent_published i v h
  | mask t m => exact lnkWriteMask_published t m h

theorem handle_published (p : Port) (r : Request) (h : Published q u s) : Published q u (handle p r s).1 := by
  cases r with
  | readNotices => exact readNotices_published p h
  | ackAlarm t => exact ccuAckAlarm_published p t h
  | operatingReport r w pw x => exact ccuReport_published r w pw x h
  | ceilingAck n => exact ccuCeilingAck_published n h
  | setTime d t => exact setTime_published p d t h
  | writeConfig w => exact handleWrite_published w h
  | learnBaseline t => exact gvmLearn_published t h
  | pinThresholds t => exact bimPin_published t h
  | unpinThresholds => exact bimUnpin_published h
  | planTask f => exact mplPlanTask_published f h
  | removeTask i => exact mplRemoveTask_published i h
  | deferTask i d => exact mplDeferTask_published i d h
  | overrideBegin m => exact bimOverrideBegin_published m h
  | overrideEnd => exact bimOverrideEnd_published h
  | presenceBegin t x => exact presenceBegin_published t x h
  | presenceEnd => exact mplPresenceEnd_published h
  | closeTask i o => exact mplCloseTask_published i o h
  | lockSnapshot i => exact ccuLock_published i h
  | unlockSnapshot i => exact ccuUnlock_published i h
  | restart => exact h.same rfl
  | _ => exact h

theorem countPort_published (p : Port) (f : PortCounters → PortCounters) (h : Published q u s) :
    Published q u (countPort p f s) := withPort_published p (fun _ => ⟨rfl, rfl⟩) h

theorem formReply_published (p : Port) (kind : Octet) {r : State × Answer} (h : Published q u r.1) :
    Published q u (formReply p kind r) := by
  unfold formReply
  exact withPort_published p (fun _ => ⟨rfl, rfl⟩) h

theorem oweReply_published (p : Port) (kind tag : Octet) {r : State × Answer} (h : Published q u r.1) :
    Published q u (oweReply p kind tag r) := by
  unfold oweReply
  exact withPort_published p (fun _ => ⟨rfl, rfl⟩) h

theorem takeBody_published (p : Port) (kind : Octet) (parsed : Except Status Request) (h : Published q u s) :
    Published q u (takeBody p kind parsed s).1 := by
  have hcounted := countPort_published p (fun c => { c with taken := inc16 c.taken }) h
  unfold takeBody judgeRequest
  split
  · exact hcounted
  split
  · split
    · exact hcounted
    · exact handle_published p _ hcounted
  · dsimp only
    exact countPort_published p _ hcounted

theorem takeRequest_published (p : Port) (r : Request) (h : Published q u s) : Published q u (takeRequest p r s) :=
  formReply_published p r.kind (takeBody_published p r.kind (.ok r) h)

/-! ## Frames and octets (R186 to R188) -/

theorem beginWork_published (p : Port) (f : Frame) (h : Published q u s) : Published q u (beginWork p f s) := by
  unfold beginWork takeFrame
  exact oweReply_published p f.kind f.tag
    (takeBody_published p f.kind (parseRequest f.kind f.body) (withPort_published p (fun _ => ⟨rfl, rfl⟩) h))

theorem placeFrame_published (p : Port) (f : Frame) (sending : Bool) (h : Published q u s) :
    Published q u (placeFrame p f sending s) := by
  unfold placeFrame
  dsimp only
  split
  · exact beginWork_published p f h
  split
  · exact withPort_published p (fun _ => ⟨rfl, rfl⟩) h
  · exact setPortNotice_published p _ (withPort_published p (fun _ => ⟨rfl, rfl⟩) h)

theorem lnkReplySent_published (p : Port) (h : Published q u s) : Published q u (lnkReplySent p s) := by
  have hsent : Published q u (withPort p PortState.sent s) := withPort_published p (fun _ => ⟨rfl, rfl⟩) h
  unfold lnkReplySent
  split
  · exact h
  · unfold takeWaiting
    split
    · exact hsent
    split
    · exact beginWork_published p _ (withPort_published p (fun _ => ⟨rfl, rfl⟩) hsent)
    · exact hsent

theorem lnkOctet_published (p : Port) (x : Octet) (sending : Bool) (h : Published q u s) :
    Published q u (lnkOctet p x sending s) := by
  have hport {f : PortState → PortState} (hf : ∀ x, (f x).notices = x.notices ∧ (f x).attention = x.attention) :
      Published q u (withPort p f s) := withPort_published p hf h
  have hfailed : Published q u (withPort p PortState.checkFailure s) := hport fun _ => ⟨rfl, rfl⟩
  unfold lnkOctet
  split
  · split
    · exact hport fun _ => ⟨rfl, rfl⟩
    · exact h
  · unfold receiveOctet
    dsimp only
    split
    · exact hfailed
    split
    · exact hport fun _ => ⟨rfl, rfl⟩
    · unfold judgeFrame
      split
      · exact placeFrame_published p _ sending (hport fun _ => ⟨rfl, rfl⟩)
      · exact hfailed

theorem lnkFrameChecked_published (p : Port) (f : Frame) (sending : Bool) (h : Published q u s) :
    Published q u (lnkFrameChecked p f sending s) := by
  unfold lnkFrameChecked
  exact placeFrame_published p f sending (withPort_published p (fun _ => ⟨rfl, rfl⟩) h)

theorem lnkCheckFailure_published (p : Port) (h : Published q u s) : Published q u (lnkCheckFailure p s) := by
  unfold lnkCheckFailure
  exact withPort_published p (fun _ => ⟨rfl, rfl⟩) h

theorem lnkGap_published (p : Port) (h : Published q u s) : Published q u (lnkGap p s) := by
  refine withPort_published p (fun x => ?_) h
  unfold PortState.gap
  split <;> exact ⟨rfl, rfl⟩

/-! ## The end of a request of the engine (R50) -/

theorem speEnd_published (h : Published q u s) : Published q u (speEnd s) := by
  unfold speEnd
  split
  · exact h
  · next r _ =>
    split
    · exact finishRequest_published r h
    · unfold deliverResult
      split
      · exact gvmResult_published r _ (finishRequest_published r h)
      · exact ghmResult_published r _ (finishRequest_published r h)
      · exact bimResult_published r _ (finishRequest_published r h)

end Sys2Proof.Machine
end

section
/-! Starts, cuts and every command keep the published state (R138, R178, R180, R183, R193). -/

namespace Sys2Proof.Machine

variable {q : List Instr} {u : Bool × Bool × Bool} {s t : State}

/-! ## A part without operation -/

/-- Without operation, with every line deasserted, the lines follow and nothing is asked of the ceiling (R183). -/
theorem published_of_idle (hq : s.pending = q) (hu : supplyOf s = u) (hop : s.ret.operating = false)
    (hlines : ∀ p, (s.lnk.get p).attention = false) : Published q u s :=
  ⟨hq, hu, fun p => by rw [hlines p, hop]; rfl, fun h => by rw [hop] at h; cases h⟩

/-- Lines that follow are deasserted without operation. -/
theorem Published.deasserted {p r : Bool} (h : Published q (false, p, r) s) (x : Port) : (s.lnk.get x).attention = false := by
  have hop : s.ret.operating = false := congrArg Prod.fst h.supply
  rw [h.lines x, hop]
  rfl

/-- Without operation an update may leave other masks, contributions and ceilings. -/
theorem Published.idle {p r : Bool} (h : Published q (false, p, r) s) (hq : t.pending = s.pending)
    (hu : supplyOf t = supplyOf s) (hlnk : t.lnk = s.lnk) : Published q (false, p, r) t := by
  have hop : t.ret.operating = false := congrArg Prod.fst (hu.trans h.supply)
  exact published_of_idle (hq.trans h.queue) (hu.trans h.supply) hop fun x => hlnk ▸ h.deasserted x

/-- The volatile start values leave the part without operation, and its queue and supply as they are (R180). -/
theorem volatileStart_published (s : State) :
    Published s.pending (false, s.ret.powered, s.ret.resetAsserted) (volatileStart s) :=
  published_of_idle rfl rfl rfl fun p => by cases p <;> rfl

/-! ## The actions of a start (R150, R180) -/

theorem restoration_published {failed : List RetSection} {f : State → State} (hf : f ∈ restoration failed)
    (h : Published q u s) : Published q u (f s) := by
  simp only [restoration, List.mem_append, List.mem_cons, List.mem_map, List.not_mem_nil, or_false] at hf
  rcases hf with (((rfl | ⟨b, -, rfl⟩) | rfl | rfl) | ⟨i, -, rfl⟩) | rfl | rfl
  · unfold restoreLost
    split <;> simp [h]
  · dsimp only [restoreBand]
    split
    · simp [h]
    split <;> simp [h]
  · unfold restoreCurrent
    split
    · simp [h]
    split <;> simp [h]
  · unfold restoreIcing
    split <;> simp [h]
  · unfold restorePlace
    split
    · exact h
    · unfold restoreTask
      split <;> simp [h]
  · unfold restoreWaiting
    split <;> simp [h]
  · exact refreshLines_published h.queue h.supply fun _ => rfl

theorem mplStart_published {p r : Bool} {f : State → State} (hf : f ∈ mplStart) (h : Published q (false, p, r) s) :
    Published q (false, p, r) (f s) := by
  simp only [mplStart, List.mem_append, List.mem_cons, List.mem_map, List.not_mem_nil, or_false] at hf
  rcases hf with ((rfl | rfl) | ⟨c, -, rfl⟩) | rfl | rfl
  · refine h.foldl _ fun {t c} ht => ?_
    split
    · exact ht.same rfl
    · exact ht
  · unfold startDay
    split
    · exact h
    split
    · exact h.same rfl
    split
    · exact (closeDay_published _ h).same rfl
    · exact h
  · exact treatFullDuration_published false c h
  · unfold recomputeQuietly
    split
    · exact h
    · exact h.same rfl
  · exact h.idle rfl rfl rfl

/-- The actions between the volatile values and the ceiling of a start (R180). -/
def quietActions (st : Start) : List (State → State) :=
  [freshPlannedEnd, gvmAdjust, gvmStartPosts, ghmStartPosts, bimStartPosts] ++ mplStart ++ restoration st.failed ++
    [formRecord st]

theorem quietActions_published {st : Start} {p r : Bool} {f : State → State} (hf : f ∈ quietActions st)
    (h : Published q (false, p, r) s) : Published q (false, p, r) (f s) := by
  simp only [quietActions, List.mem_append, List.mem_cons, List.not_mem_nil, or_false] at hf
  rcases hf with (((rfl | rfl | rfl | rfl | rfl) | hf) | hf) | rfl
  · exact h.same rfl
  · exact h.idle (by simp only [gvmAdjust]) (by simp only [gvmAdjust, supplyOf]) (by simp only [gvmAdjust])
  · exact h.idle (by simp [gvmStartPosts]) (by simp [gvmStartPosts, supplyOf]) (by simp [gvmStartPosts])
  · exact h.idle rfl rfl rfl
  · exact h.idle rfl rfl rfl
  · exact mplStart_published hf h
  · exact restoration_published hf h
  · exact setNotice_published _ (h.idle rfl rfl rfl)

/-- The ceiling is published last but for the start record, so the quiet actions leave it at the least contribution (R150). -/
theorem quietActions_ceiling (st : Start) (s : State) :
    (takeActions (quietActions st) s).ccu.ceiling =
      some (leastContribution (takeActions (quietActions st) s).ccu.contributions) := by
  have hpublished (t : State) : (formRecord st (restoreCeiling t)).ccu.ceiling =
      some (leastContribution (formRecord st (restoreCeiling t)).ccu.contributions) := rfl
  simp only [quietActions, restoration, takeActions_append, takeActions_cons, takeActions_nil]
  exact hpublished _

/-- A start is a validation, the volatile values, the quiet actions and the start of operation (R180). -/
theorem startStages_flatten (st : Start) :
    (startStages st).flatten =
      [validate st.cause st.failed, volatileStart] ++ quietActions st ++ startOperation st := by
  simp [startStages, quietActions]

/-- Operation begins with the least contribution as the ceiling, power, and the reset input released (R178, R183). -/
theorem startOperation_published (st : Start) (n : Nat) (h : Published q (false, true, false) s)
    (hleast : s.ccu.ceiling = some (leastContribution s.ccu.contributions)) :
    ∃ o, Published q (o, true, false) (takeActions ((startOperation st).take n) s) := by
  have hpins : (s.ret.powered, s.ret.resetAsserted) = (true, false) := congrArg Prod.snd h.supply
  have hbegun : Published q (true, true, false) (beginOperation s) :=
    refreshLines_published h.queue (by rw [supplyOf, ← hpins]) fun _ => hleast
  have hbiases (l : List (State → State)) (hl : ∀ f ∈ l, f ∈ (startOperation st).tail) :
      Published q (true, true, false) (takeActions l (beginOperation s)) := by
    refine takeActions_keeps (fun f hf t ht => ?_) hbegun
    obtain ⟨ch, -, rfl⟩ := List.mem_map.mp (hl f hf)
    exact afeBiasFault_published ch _ ht
  cases n with
  | zero => exact ⟨false, h⟩
  | succ n => exact ⟨true, hbiases _ fun f hf => List.mem_of_mem_take hf⟩

theorem validate_frame (cause : StartCause) (failed : List RetSection) (s : State) :
    (validate cause failed s).pending = s.pending ∧ (validate cause failed s).ret = s.ret ∧
      (validate cause failed s).lnk = s.lnk := by
  cases cause <;> simp [validate, validatePart, withMismatch]

/-- Wherever a start is looked at, its state is published: a validation writes sections in a part without operation, or
nothing (R179, R184). -/
theorem startPrefix_published (st : Start) (n : Nat) {o : Bool} (h : Published q (o, true, false) s)
    (hv : o = true → ∀ s, validate st.cause st.failed s = s) :
    ∃ o, Published q (o, true, false) (takeActions ((startStages st).flatten.take n) s) := by
  obtain ⟨hqueue, hret, hlnk⟩ := validate_frame st.cause st.failed s
  have hvalid : Published q (o, true, false) (validate st.cause st.failed s) := by
    cases o with
    | true => rw [hv rfl]; exact h
    | false => exact h.idle hqueue (by rw [supplyOf, supplyOf, hret]) hlnk
  have hidle : Published q (false, true, false) (volatileStart (validate st.cause st.failed s)) := by
    have hpins : (s.ret.powered, s.ret.resetAsserted) = (true, false) := congrArg Prod.snd h.supply
    have hstart := volatileStart_published (validate st.cause st.failed s)
    rwa [hqueue, h.queue, hret, hpins] at hstart
  have hquiet (m : Nat) : Published q (false, true, false)
      (takeActions ((quietActions st).take m) (volatileStart (validate st.cause st.failed s))) :=
    takeActions_keeps (fun f hf t ht => quietActions_published (List.mem_of_mem_take hf) ht) hidle
  rw [startStages_flatten]
  match n with
  | 0 => exact ⟨o, h⟩
  | 1 => exact ⟨o, hvalid⟩
  | n + 2 =>
    simp only [List.cons_append, List.nil_append, List.take_succ_cons, takeActions_cons, List.take_append,
      takeActions_append]
    by_cases hn : n ≤ (quietActions st).length
    · rw [Nat.sub_eq_zero_of_le hn]
      exact ⟨false, hquiet n⟩
    · have hwhole := hquiet (quietActions st).length
      rw [List.take_length] at hwhole
      rw [List.take_of_length_le (l := quietActions st) (by omega)]
      exact startOperation_published st _ hwhole (quietActions_ceiling st _)

/-! ## Supply and reset (R177 to R179, R183, R184) -/

/-- What a start cut short left of the queue: that of the actions done (R177). -/
theorem partialStart_pending (st : Start) (k : Nat) (x : StartInput) (s : State) :
    ∃ n, (partialStart st k x s).pending = (takeActions ((startStages st).flatten.take n) s).pending := by
  unfold partialStart
  split
  · refine ⟨0, ?_⟩
    unfold partialStage1
    split <;> simp [validatePart, withMismatch, takeActions]
  · have hprefix : ((startStages st).take k).flatten ++ ((startStages st).getD k []).take x.moments <+:
        (startStages st).flatten := by
      conv_rhs => rw [← List.take_append_drop k (startStages st), List.flatten_append]
      refine List.prefix_append_right_inj _ |>.mpr ?_
      rw [List.getD_eq_getElem?_getD]
      cases hk : (startStages st)[k]? with
      | none => simp
      | some l =>
        obtain ⟨hlt, rfl⟩ := List.getElem?_eq_some_iff.mp hk
        rw [List.drop_eq_getElem_cons hlt, List.flatten_cons]
        exact (List.take_prefix _ _).trans (List.prefix_append _ _)
    refine ⟨_, Eq.trans ?_ (congrArg (fun l => (takeActions l s).pending) (List.prefix_iff_eq_take.mp hprefix))⟩
    rw [takeActions_append]
    unfold partialStage
    dsimp only
    split <;> rfl

/-- The supply of a part that operates only with main power and with the reset input released (R178, R183). -/
theorem Published.supplyHolds (h : Published q u s) (hu : u.1 = true → u.2 = (true, false)) : SupplyHolds s := by
  obtain ⟨-, rfl, -, -⟩ := h
  exact fun hop => Prod.mk.inj (hu hop)

/-- The invariants with the queue: what a step is to keep. -/
def Sound (q : List Instr) (s : State) : Prop := SupplyHolds s ∧ Published q (supplyOf s) s

theorem Published.sound (h : Published q u s) (hu : u.1 = true → u.2 = (true, false)) : Sound q s :=
  ⟨h.supplyHolds hu, h.supply ▸ h⟩

theorem Sound.published (h : Sound q s) : Published q (supplyOf s) s := h.2

/-- A part without operation needs its lines deasserted. -/
theorem sound_of_idle (hq : s.pending = q) (hop : s.ret.operating = false)
    (hlines : ∀ p, (s.lnk.get p).attention = false) : Sound q s :=
  (published_of_idle hq rfl hop hlines).sound fun h => by rw [supplyOf, hop] at h; cases h

theorem Sound.deasserted (h : Sound q s) (hop : s.ret.operating = false) (p : Port) : (s.lnk.get p).attention = false := by
  rw [h.published.lines p, hop]
  rfl

/-- A part held without power or under reset has no operation and no asserted line (R178, R183). -/
theorem losePower_sound (s : State) : Sound s.pending (losePower s) :=
  sound_of_idle rfl rfl fun p => by cases p <;> rfl

theorem assertReset_sound (s : State) : Sound s.pending (assertReset s) :=
  sound_of_idle rfl rfl fun p => by cases p <;> rfl

/-- A start with power and the reset input released, whole or cut short (R180, R183). -/
theorem runStart_sound (st : Start) (x : StartInput) {o : Bool} (h : Published q (o, true, false) s)
    (hv : o = true → ∀ s, validate st.cause st.failed s = s) : Sound q (runStart st x s) := by
  cases hcut : x.abandonedAfter with
  | none =>
    obtain ⟨o', hwhole⟩ := startPrefix_published st (startStages st).flatten.length h hv
    rw [runStart_whole st x s hcut, ← List.take_length (l := (startStages st).flatten)]
    exact hwhole.sound fun _ => rfl
  | some k =>
    obtain ⟨n, hpending⟩ := partialStart_pending st k x s
    obtain ⟨o', hpart⟩ := startPrefix_published st n h hv
    have hqueue : (partialStart st k x s).pending = q := hpending.trans hpart.queue
    rw [runStart_cut st x s k hcut]
    split
    · exact hqueue ▸ losePower_sound _
    · exact hqueue ▸ assertReset_sound _

/-- Without main power, and under reset, the part does not operate. -/
theorem SupplyHolds.idle (h : SupplyHolds s) (hpins : s.ret.powered = false ∨ s.ret.resetAsserted = true) :
    s.ret.operating = false := by
  by_contra hop
  have ⟨hpower, hreset⟩ := h (by simpa using hop)
  rcases hpins with hp | hp
  · rw [hp] at hpower; cases hpower
  · rw [hp] at hreset; cases hreset

theorem retPowerOn_sound (corrupt : List RetSection) (straps : PerPort (BitVec 2)) (start : StartInput)
    (h : Sound q s) : Sound q (retPowerOn corrupt straps start s) := by
  unfold retPowerOn
  dsimp only
  split
  · exact h
  · next hpower =>
    have hop := h.1.idle (.inl (by simpa using hpower))
    have hlines (p : Port) : ((readStraps straps s).lnk.get p).attention = false := by
      have hp := h.deasserted hop p
      cases p <;> exact hp
    split
    · exact sound_of_idle (s := withMismatch _ _) h.2.queue hop hlines
    · next hreset =>
      refine runStart_sound (o := false) _ start (published_of_idle h.2.queue ?_ hop hlines) nofun
      simp [supplyOf, applyPower, readStraps, hop, hreset]

theorem retResetRelease_sound (start : StartInput) (h : Sound q s) : Sound q (retResetRelease start s) := by
  unfold retResetRelease
  split
  · next hreset =>
    have hop := h.1.idle (.inr hreset)
    split
    · next hpower =>
      refine runStart_sound (o := false) _ start (published_of_idle h.2.queue ?_ hop (h.deasserted hop)) nofun
      simp [supplyOf, hop, hpower]
    · exact sound_of_idle h.2.queue hop (h.deasserted hop)
  · exact h

theorem retServiceRestart_sound (start : StartInput) (h : Sound q s) : Sound q (retServiceRestart start s) := by
  unfold retServiceRestart
  split
  · next hrestart =>
    have hpins := h.1 hrestart.1
    refine runStart_sound (o := true) _ start ?_ fun _ _ => rfl
    have hs := h.published
    rwa [supplyOf, hrestart.1, hpins.1, hpins.2] at hs
  · exact h

/-! ## Every command -/

/-- What keeps the published state in any part keeps the invariants. -/
theorem Sound.of_published (h : Sound q s) (ht : Published q (supplyOf s) t) : Sound q t :=
  ht.sound fun hop => Prod.mk.injEq .. ▸ h.1 hop

theorem rechecked_sound (s : State) (h : Sound q t) : Sound q (rechecked s t) :=
  h.of_published (rechecked_published s h.published)

/-- An event that keeps the published state keeps the invariants as a command, in operation and without. -/
theorem inOperation_sound {f : State → State} (hf : ∀ {u t}, Published q u t → Published q u (f t)) (h : Sound q s)
    (e : inOperation f s = .next t) : Sound q t := by
  obtain rfl := Host.Outcome.next.inj e
  split
  · exact h.of_published (rechecked_published s (hf h.published))
  · exact h

/-- An event cut short leaves the queue behind it. -/
theorem cutShort_pending (s : State) : (cutShort s).pending = s.pending := by
  rcases cutShort_eq s with e | ⟨c, rest, t, -, -, e⟩
  · rw [e]
  · rw [e]; rfl

theorem exec_sound (c : Instr) (h : Sound q s) (e : exec c s = .next t) : Sound q t := by
  cases c with
  | powerOn corrupt straps start =>
    obtain rfl := Host.Outcome.next.inj e
    exact retPowerOn_sound corrupt straps start h
  | mainPowerLoss =>
    obtain rfl := Host.Outcome.next.inj e
    have hqueue : (cutShort s).pending = q := (cutShort_pending s).trans h.2.queue
    split
    · exact rechecked_sound s (hqueue ▸ losePower_sound _)
    · exact h
  | batteryRetentionLoss =>
    obtain rfl := Host.Outcome.next.inj e
    refine h.of_published (h.published.same ?_)
    unfold retRetentionLoss
    split <;> rfl
  | resetAssert =>
    obtain rfl := Host.Outcome.next.inj e
    have hqueue : (cutShort s).pending = q := (cutShort_pending s).trans h.2.queue
    split
    · exact h
    · exact rechecked_sound s (hqueue ▸ assertReset_sound _)
  | resetRelease start =>
    obtain rfl := Host.Outcome.next.inj e
    exact rechecked_sound s (retResetRelease_sound start h)
  | serviceRestartStart start =>
    obtain rfl := Host.Outcome.next.inj e
    exact rechecked_sound s (retServiceRestart_sound start h)
  | batteryClockSecond =>
    obtain rfl := Host.Outcome.next.inj e
    exact h.of_published (batterySecond_published h.published)
  | biasFault ch bias => exact inOperation_sound (afeBiasFault_published ch bias) h e
  | biasInRange ch bias => exact inOperation_sound (afeBiasInRange_published ch bias) h e
  | recoveryQualificationExpiry ch => exact inOperation_sound (afeRecovery_published ch) h e
  | converterCheck ch cq => exact inOperation_sound (afeCheck_published ch cq) h e
  | fixedCaptureComplete b segments => exact inOperation_sound (afeFixedComplete_published b segments) h e
  | windowLimitReached b segments => exact inOperation_sound (afeWindowLimit_published b segments) h e
  | pulseEdge p tick segments => exact inOperation_sound (ptuEdge_published p tick segments) h e
  | stall p => exact inOperation_sound (ptuStall_published p) h e
  | gateEnd count => exact inOperation_sound (rchGateEnd_published count) h e
  | operationSecond => exact inOperation_sound operationSecond_published h e
  | requestEnd => exact inOperation_sound speEnd_published h e
  | gvmPeriodExpiry => exact inOperation_sound gvmPeriodExpiry_published h e
  | tenMinuteBoundary => exact inOperation_sound tenMinuteBoundary_published h e
  | ghmUnalignedIntervalEnd => exact inOperation_sound ghmUnalignedEnd_published h e
  | mplUndatedIntervalEnd => exact inOperation_sound mplUndatedEnd_published h e
  | bimStep => exact inOperation_sound bimStepExpiry_published h e
  | overrideExpiry => exact inOperation_sound overrideExpiry_published h e
  | freshnessTimeout => exact inOperation_sound ccuFreshness_published h e
  | acknowledgeTimerExpiry => exact inOperation_sound ccuAckExpiry_published h e
  | presenceExpiry => exact inOperation_sound (f := presenceExpiry) (fun k => k.same rfl) h e
  | frameChecked p f sending => exact inOperation_sound (lnkFrameChecked_published p f sending) h e
  | frameCheckFailure p => exact inOperation_sound (lnkCheckFailure_published p) h e
  | octetGapTimeout p => exact inOperation_sound (lnkGap_published p) h e
  | replySent p => exact inOperation_sound (lnkReplySent_published p) h e
  | octetReceived p x sending => exact inOperation_sound (lnkOctet_published p x sending) h e
  | _ => exact inOperation_sound (takeRequest_published _ _) h e

/-- Settles O59: an empty queue takes a conversion or idles, any other executes its front on the rest. -/
theorem stepKeepsPublishedState : Obligations.StepKeepsPublishedState := by
  intro s t hsupply hlines hleast hstep
  suffices h : Sound s.pending.tail t from ⟨h.1, h.2.lines, h.2.ceiling, h.2.queue⟩
  unfold step at hstep
  split at hstep
  · next hempty =>
    have h : Sound s.pending.tail s := ⟨hsupply, by rw [hempty, List.tail_nil], rfl, hlines, hleast⟩
    split at hstep
    · exact Host.Outcome.next.inj hstep ▸ h
    · next conversion rest _ =>
      obtain rfl := Host.Outcome.next.inj hstep
      exact h.of_published (afeConvert_published conversion (h.published.same rfl))
  · next c rest hqueue =>
    have h : Sound rest { s with pending := rest } := ⟨hsupply, rfl, rfl, hlines, hleast⟩
    rw [hqueue]
    exact exec_sound c h hstep

end Sys2Proof.Machine
end

section
/-! The state after reset meets the invariants. -/

namespace Sys2Proof.Machine

/-- Settles O58: the reset state evaluated. -/
theorem resetMeetsInvariants : Obligations.ResetMeetsInvariants := by
  refine ⟨fun p => ?_, ⟨by decide, by decide⟩, fun _ => rfl, fun _ => rfl, fun _ => ⟨rfl, rfl⟩, ⟨by decide, by decide⟩,
    ⟨by decide, by decide, by decide, by decide, by decide, by decide⟩⟩
  cases p <;> rfl

end Sys2Proof.Machine
end

section
/-! The slot a snapshot takes (R147), and what raises and clears leave alone in the CCU (R143, R144). -/

namespace Sys2Proof.Machine

/-! ## The slot of a snapshot (R147) -/

/-- A slot that holds an unlocked snapshot, with the place of that snapshot in the order they were taken. -/
def UnlockedAt (slots : Vector (Option SnapshotSlot) 8) (i : Fin 8) (order : Nat) : Prop :=
  ∃ y, slots[i] = some y ∧ y.locked = false ∧ y.order = order

/-- `best` is the earliest unlocked snapshot of the slots `l`, none where they hold no unlocked snapshot. -/
def EarliestOf (slots : Vector (Option SnapshotSlot) 8) (l : List (Fin 8)) : Option (Nat × Fin 8) → Prop
  | none => ∀ i ∈ l, ∀ o, ¬ UnlockedAt slots i o
  | some (o, j) => UnlockedAt slots j o ∧ ∀ i ∈ l, ∀ k, UnlockedAt slots i k → o ≤ k

/-- One more slot compared with the earliest so far. -/
theorem earlierSlot_earliest {slots : Vector (Option SnapshotSlot) 8} {l : List (Fin 8)} {best : Option (Nat × Fin 8)}
    (h : EarliestOf slots l best) (i : Fin 8) : EarliestOf slots (l ++ [i]) (earlierSlot slots best i) := by
  have same (hi : ∀ o, ¬ UnlockedAt slots i o) : EarliestOf slots (l ++ [i]) best := by
    rcases best with _ | ⟨o, j⟩
    · intro k hk
      rcases List.mem_append.mp hk with hk | hk
      · exact h k hk
      · exact List.mem_singleton.mp hk ▸ hi
    · refine ⟨h.1, fun k hk m hm => ?_⟩
      rcases List.mem_append.mp hk with hk | hk
      · exact h.2 k hk m hm
      · exact absurd (List.mem_singleton.mp hk ▸ hm) (hi m)
  unfold earlierSlot
  split
  · next hnone => exact same fun o ⟨y, hy, _⟩ => by simp [hnone] at hy
  · next c hc =>
    have only {k : Nat} (hk : UnlockedAt slots i k) : k = c.order := by
      obtain ⟨y, hy, -, rfl⟩ := hk
      rw [hc] at hy
      cases hy
      rfl
    split
    · next hlocked =>
      exact same fun o ⟨y, hy, hu, _⟩ => by
        rw [hc] at hy
        cases hy
        exact absurd hlocked (by simp [hu])
    · next hfree =>
      have here : UnlockedAt slots i c.order := ⟨c, hc, by simpa using hfree, rfl⟩
      rcases best with _ | ⟨o, j⟩
      · refine ⟨here, fun k hk m hm => ?_⟩
        rcases List.mem_append.mp hk with hk | hk
        · exact absurd hm (h k hk m)
        · exact (only (List.mem_singleton.mp hk ▸ hm)).ge
      · obtain ⟨hj, hleast⟩ := h
        by_cases hlt : c.order < o
        · simp only [hlt, if_true]
          refine ⟨here, fun k hk m hm => ?_⟩
          rcases List.mem_append.mp hk with hk | hk
          · exact hlt.le.trans (hleast k hk m hm)
          · exact (only (List.mem_singleton.mp hk ▸ hm)).ge
        · simp only [hlt, if_false]
          refine ⟨hj, fun k hk m hm => ?_⟩
          rcases List.mem_append.mp hk with hk | hk
          · exact hleast k hk m hm
          · exact (not_lt.mp hlt).trans (only (List.mem_singleton.mp hk ▸ hm)).ge

/-- All slots compared give the earliest unlocked snapshot. -/
theorem foldl_earlierSlot_earliest (slots : Vector (Option SnapshotSlot) 8) (l m : List (Fin 8))
    (best : Option (Nat × Fin 8)) (h : EarliestOf slots l best) :
    EarliestOf slots (l ++ m) (m.foldl (earlierSlot slots) best) := by
  induction m generalizing l best with
  | nil => simpa using h
  | cons i m ih =>
    have hnext := ih (l ++ [i]) _ (earlierSlot_earliest h i)
    rwa [List.append_assoc] at hnext

/-- Where some slot is empty or unlocked, the slot of a snapshot is the lowest-numbered empty one, or without one that of the
earliest unlocked snapshot (R147). -/
theorem snapshotSlotFor_spec {slots : Vector (Option SnapshotSlot) 8}
    (h : ∃ i : Fin 8, ∀ x, slots[i] = some x → x.locked = false) :
    ∃ i : Fin 8, snapshotSlotFor slots = some i ∧
      if ∃ j : Fin 8, slots[j] = none then slots[i] = none ∧ ∀ j : Fin 8, j < i → slots[j] ≠ none
      else ∃ y, slots[i] = some y ∧ y.locked = false ∧
        ∀ (j : Fin 8) (z : SnapshotSlot), slots[j] = some z → z.locked = false → y.order ≤ z.order := by
  unfold snapshotSlotFor
  cases hfind : (List.finRange 8).find? fun i => slots[i].isNone with
  | some i =>
    have hi : slots[i] = none := by simpa using List.find?_some hfind
    refine ⟨i, rfl, ?_⟩
    rw [if_pos ⟨i, hi⟩]
    refine ⟨hi, fun j hj hnone => ?_⟩
    obtain ⟨-, pre, suf, hsplit, hpre⟩ := List.find?_eq_some_iff_append.mp hfind
    have hlt : (List.finRange 8).Pairwise (· < ·) := List.pairwise_lt_finRange 8
    have hmem : j ∈ pre ++ i :: suf := hsplit ▸ List.mem_finRange j
    rw [hsplit] at hlt
    rcases List.mem_append.mp hmem with hj' | hj'
    · simpa [hnone] using hpre j hj'
    · rcases List.mem_cons.mp hj' with rfl | hj'
      · exact lt_irrefl _ hj
      · exact absurd hj (List.rel_of_pairwise_cons (List.pairwise_append.mp hlt).2.1 hj').asymm
  | none =>
    have hfull (i : Fin 8) : slots[i] ≠ none := by simpa using List.find?_eq_none.mp hfind i (List.mem_finRange i)
    have hearliest := foldl_earlierSlot_earliest slots [] (List.finRange 8) none (by simp [EarliestOf])
    rw [List.nil_append] at hearliest
    have hnone : ¬ ∃ j : Fin 8, slots[j] = none := fun ⟨j, hj⟩ => hfull j hj
    simp only [if_neg hnone]
    obtain ⟨i, hi⟩ := h
    obtain ⟨x, hx⟩ := Option.ne_none_iff_exists'.mp (hfull i)
    have hunlocked : UnlockedAt slots i x.order := ⟨x, hx, hi x hx, rfl⟩
    cases hbest : (List.finRange 8).foldl (earlierSlot slots) none with
    | none =>
      rw [hbest] at hearliest
      exact absurd hunlocked (hearliest i (List.mem_finRange i) _)
    | some b =>
      obtain ⟨o, j⟩ := b
      rw [hbest] at hearliest
      obtain ⟨⟨y, hy, hfree, rfl⟩, hleast⟩ := hearliest
      exact ⟨j, rfl, y, hy, hfree, fun k z hz hzfree => hleast k (List.mem_finRange k) _ ⟨z, hz, hzfree, rfl⟩⟩

/-! ## The CCU outside its alarm table (R143, R144) -/

/-- The CCU without its alarm table and the counters that raises write. -/
def CcuState.outsideAlarms (c : CcuState) : CcuState :=
  { c with
    alarms := [], tableOverflow := false
    counters := { c.counters with evictions := 0, overflows := 0, snapshots := 0 } }

@[simp] theorem takeSnapshot_outsideAlarms (c : AlarmCode) (x : Source) (s : State) :
    (takeSnapshot c x s).ccu.outsideAlarms = s.ccu.outsideAlarms := by
  unfold takeSnapshot; split <;> rfl

@[simp] theorem takeSnapshot_evictions (c : AlarmCode) (x : Source) (s : State) :
    (takeSnapshot c x s).ccu.counters.evictions = s.ccu.counters.evictions := by
  unfold takeSnapshot; split <;> rfl

@[simp] theorem enteredActive_outsideAlarms (b : Bool) (c : AlarmCode) (x : Source) (s : State) :
    (enteredActive b c x s).ccu.outsideAlarms = s.ccu.outsideAlarms := by
  simp only [enteredActive]; split <;> simp

@[simp] theorem enteredActive_evictions (b : Bool) (c : AlarmCode) (x : Source) (s : State) :
    (enteredActive b c x s).ccu.counters.evictions = s.ccu.counters.evictions := by
  simp only [enteredActive]; split <;> simp

theorem createAlarm_outsideAlarms (b : Bool) (c : AlarmCode) (x : Source) (s : State) :
    (createAlarm b c x s).ccu.outsideAlarms = s.ccu.outsideAlarms := enteredActive_outsideAlarms ..

/-- A raise keeps the CCU outside its alarm table (R143). -/
theorem raiseWith_outsideAlarms (b : Bool) (c : AlarmCode) (x : Source) (s : State) :
    (raiseWith b c x s).ccu.outsideAlarms = s.ccu.outsideAlarms := by
  unfold raiseWith raiseIntoFull
  split
  · split
    · rfl
    · rfl
    · exact enteredActive_outsideAlarms ..
  · split
    · exact createAlarm_outsideAlarms ..
    · split
      · exact createAlarm_outsideAlarms ..
      · split
        · exact createAlarm_outsideAlarms ..
        · rfl

theorem raise_outsideAlarms (c : AlarmCode) (x : Source) (s : State) :
    (raise c x s).ccu.outsideAlarms = s.ccu.outsideAlarms := raiseWith_outsideAlarms ..

/-- A clear changes only the entries and TABLE_OVERFLOW (R144). -/
theorem clearAlarm_ccu (c : AlarmCode) (x : Source) (s : State) :
    (clearAlarm c x s).ccu =
      { s.ccu with
        alarms := (clearAlarm c x s).ccu.alarms, tableOverflow := (clearAlarm c x s).ccu.tableOverflow } := by
  rcases clearAlarm_cases c x s with e | ⟨_, -, -, e⟩ | ⟨_, -, -, e⟩ <;> rw [e] <;> rfl

end Sys2Proof.Machine
end

section
/-! The alarm table under a raise (R142, R143, R146). -/

namespace Sys2Proof.Machine

/-! ## The entry of a key -/

theorem AlarmEntry.has_eq_decide (c : AlarmCode) (x : Source) (e : AlarmEntry) :
    e.has c x = decide (e.code = c ∧ e.source = x) := by simp [AlarmEntry.has, Bool.decide_and]

/-- Without an entry of its key nothing is found. -/
theorem findAlarm_none {c : AlarmCode} {x : Source} {s : State} (h : ∀ e ∈ s.ccu.alarms, e.has c x = false) :
    findAlarm c x s = none := List.find?_eq_none.mpr fun e he => by simp [h e he]

/-- In a keyed table a key has one entry (R143). -/
theorem AlarmsKeyed.eq_of_has {s : State} (hk : AlarmsKeyed s) {c : AlarmCode} {x : Source} {a e : AlarmEntry}
    (ha : a ∈ s.ccu.alarms) (he : e ∈ s.ccu.alarms) (hac : a.has c x = true) (hec : e.has c x = true) : a = e := by
  obtain ⟨a1, a2⟩ := (AlarmEntry.has_iff ..).mp hac
  obtain ⟨e1, e2⟩ := (AlarmEntry.has_iff ..).mp hec
  exact List.inj_on_of_nodup_map hk.2 ha he (by simp [a1, a2, e1, e2])

/-- In a keyed table the entry of a key is the one found. -/
theorem findAlarm_of_mem {s : State} (hk : AlarmsKeyed s) {c : AlarmCode} {x : Source} {e : AlarmEntry}
    (he : e ∈ s.ccu.alarms) (hec : e.has c x = true) : findAlarm c x s = some e := by
  cases hf : findAlarm c x s with
  | none => exact absurd hec (List.find?_eq_none.mp hf e he)
  | some a => rw [hk.eq_of_has (List.mem_of_find?_eq_some hf) he (List.find?_some hf) hec]

/-- An update of a key, with the key spelled out. -/
theorem updateAlarm_eq (c : AlarmCode) (x : Source) (f : AlarmEntry → AlarmEntry) (s : State) :
    updateAlarm c x f s =
      { s with ccu :=
        { s.ccu with alarms := s.ccu.alarms.map fun e => if e.code = c ∧ e.source = x then f e else e } } := by
  simp [updateAlarm, AlarmEntry.has_eq_decide]

/-! ## The entry into ACTIVE_UNACK (R143, R147, R161) -/

/-- From `s` to `t` an alarm entered ACTIVE_UNACK: the notice, the report to the day record, and a snapshot where its severity
asks for one and a slot is not locked (R143, R147, R161). -/
structure Entered (code : AlarmCode) (s t : State) : Prop where
  raised : NoticesHeld Notice.alarmRaised.bit t
  plan : t.plan = (reportDay DayRecord.addAlarm s).plan
  below : severity code < s.cfg.snapshotThreshold → t.records = s.records
  reached : s.cfg.snapshotThreshold ≤ severity code →
    (∃ i : Fin 8, ∀ x, s.records.slots[i] = some x → x.locked = false) →
    t.records.snapshotNumber = next16 s.records.snapshotNumber

/-- Where a slot is not locked a snapshot takes the next number (R147). -/
theorem takeSnapshot_number (c : AlarmCode) (x : Source) {s : State}
    (h : ∃ i : Fin 8, ∀ y, s.records.slots[i] = some y → y.locked = false) :
    (takeSnapshot c x s).records.snapshotNumber = next16 s.records.snapshotNumber := by
  obtain ⟨i, hi, -⟩ := snapshotSlotFor_spec h
  simp [takeSnapshot, hi]

theorem enteredActive_entered (c : AlarmCode) (x : Source) (s : State) : Entered c s (enteredActive true c x s) := by
  have hset : NoticesHeld Notice.alarmRaised.bit (reportDay DayRecord.addAlarm (setNotice .alarmRaised s)) := by
    simpa [NoticesHeld] using setNotice_held .alarmRaised s
  have hday : (reportDay DayRecord.addAlarm (setNotice .alarmRaised s)).plan = (reportDay DayRecord.addAlarm s).plan := by
    unfold reportDay
    rw [setNotice_cal]
    cases s.cal <;> rfl
  unfold enteredActive
  by_cases hsev : s.cfg.snapshotThreshold ≤ severity c
  · have hif : (true && decide ((reportDay DayRecord.addAlarm (setNotice .alarmRaised s)).cfg.snapshotThreshold ≤
        severity c)) = true := by simpa using hsev
    simp only [if_pos hif]
    exact
      { raised := (takeSnapshot_alarmFrame ..).notices _ hset
        plan := by rw [takeSnapshot_plan, hday]
        below := fun h => absurd h (not_lt.mpr hsev)
        reached := fun _ hfree => by rw [takeSnapshot_number c x (by simpa using hfree)]; simp }
  · have hif : ¬ (true && decide ((reportDay DayRecord.addAlarm (setNotice .alarmRaised s)).cfg.snapshotThreshold ≤
        severity c)) = true := by simpa using hsev
    simp only [if_neg hif]
    exact { raised := hset, plan := hday, below := fun _ => by simp, reached := fun h => absurd h hsev }

/-- `Entered` speaks of `s` only through its configuration, its records, its plan and its calendar. -/
theorem Entered.of_ccu {code : AlarmCode} {s t : State} {c : CcuState} (h : Entered code { s with ccu := c } t) :
    Entered code s t :=
  ⟨h.raised, h.plan.trans (by unfold reportDay; cases s.cal <;> rfl), h.below, h.reached⟩

theorem createAlarm_entered (c : AlarmCode) (x : Source) (s : State) : Entered c s (createAlarm true c x s) :=
  (enteredActive_entered ..).of_ccu

/-! ## The cases of a raise (R143, R146) -/

section
variable {c : AlarmCode} {x : Source} {s : State}

theorem raise_of_active {e : AlarmEntry} (hf : findAlarm c x s = some e) (hs : e.state ≠ .clearedUnack) :
    raise c x s = updateAlarm c x (AlarmEntry.again s.cal) s := by
  unfold raise raiseWith
  cases he : e.state with
  | activeUnack | activeAck => simp only [hf, he]
  | clearedUnack => exact absurd he hs

theorem raise_of_cleared {e : AlarmEntry} (hf : findAlarm c x s = some e) (hs : e.state = .clearedUnack) :
    raise c x s = enteredActive true c x (updateAlarm c x (AlarmEntry.return s.cal) s) := by
  unfold raise raiseWith
  simp only [hf, hs]

theorem raise_of_room (hf : findAlarm c x s = none) (hlen : s.ccu.alarms.length < 32) :
    raise c x s = createAlarm true c x s := by
  unfold raise raiseWith
  simp only [hf, hlen, if_true]

theorem raise_of_full (hf : findAlarm c x s = none) (hlen : s.ccu.alarms.length = 32) :
    raise c x s = raiseIntoFull true c x s := by
  unfold raise raiseWith
  simp [hf, hlen]

end

/-- A creation in the place of the oldest entry that `p` picks, with one eviction counted (R146). -/
theorem createAlarm_evicted (c : AlarmCode) (x : Source) (p : AlarmEntry → Bool) (s : State) :
    let t := createAlarm true c x { s with ccu := countEviction { s.ccu with alarms := removeOldest p s.ccu.alarms } }
    t.ccu.alarms = s.ccu.alarms.eraseP p ++ [{ code := c, source := x, raisedAt := s.cal, lastChange := s.cal }] ∧
      t.ccu.counters.evictions = inc16 s.ccu.counters.evictions ∧ Entered c s t := by
  refine ⟨createAlarm_alarms .., ?_, (createAlarm_entered ..).of_ccu⟩
  unfold createAlarm
  rw [enteredActive_evictions]
  rfl

/-- The terms of an entry into ACTIVE_UNACK as the statement lists them. -/
theorem Entered.listed {code : AlarmCode} {s t : State} (h : Entered code s t) :
    (∀ p, (t.lnk.get p).notices &&& 0x001#16 = 0x001#16) ∧
      t.plan =
        (match s.cal with
          | some _ =>
            { s.plan with openDay := { s.plan.openDay with record :=
              { s.plan.openDay.record with alarms := min (s.plan.openDay.record.alarms + 1) 65535 } } }
          | none => { s.plan with undated := { s.plan.undated with alarms := min (s.plan.undated.alarms + 1) 65535 } }) ∧
      (severity code < s.cfg.snapshotThreshold → t.records = s.records) ∧
      (s.cfg.snapshotThreshold ≤ severity code →
        (∃ i : Fin 8, ∀ x, s.records.slots[i] = some x → x.locked = false) →
        t.records.snapshotNumber = (s.records.snapshotNumber + 1) % 65536) := by
  refine ⟨h.raised, ?_, h.below, h.reached⟩
  rw [h.plan]
  unfold reportDay
  cases s.cal <;> rfl

/-- Settles O42: each clause is one case of the raise, with `Entered` for what follows an entry into ACTIVE_UNACK. -/
theorem raiseTable : Obligations.RaiseTable := by
  refine ⟨fun code => by cases code <;> simp [severity], fun code source s hk => ?_⟩
  have hout := raise_outsideAlarms code source s
  refine ⟨⟨by simp, by simp, by simp, by simp, by simp, congrArg (·.op) hout, congrArg (·.ceiling) hout,
    congrArg (·.contributions) hout⟩, fun e he hkey => ?_, fun hfresh => ?_⟩
  · have hf := findAlarm_of_mem hk he ((AlarmEntry.has_eq_decide ..).trans hkey)
    constructor
    · intro hs
      rw [raise_of_active hf hs, updateAlarm_eq]
      simp only [decide_eq_true_eq]
      rfl
    · intro hs
      rw [raise_of_cleared hf hs]
      refine ⟨?_, ((enteredActive_entered ..).of_ccu (s := s)).listed⟩
      rw [enteredActive_alarms, updateAlarm_eq]
      simp only [decide_eq_true_eq]
      rfl
  · have hf : findAlarm code source s = none :=
      findAlarm_none fun e he => (AlarmEntry.has_eq_decide ..).trans (hfresh e he)
    constructor
    · intro hlen
      rw [raise_of_room hf hlen]
      exact ⟨createAlarm_alarms .., (createAlarm_entered ..).listed⟩
    · intro hlen
      have hlower : evictable (severity code) =
          fun e => decide (e.state = .activeAck ∧ severity e.code < severity code) :=
        funext fun e => (Bool.decide_and ..).symm
      rw [raise_of_full hf hlen, raiseIntoFull, hlower]
      split_ifs with hcleared hlow
      · obtain ⟨ha, hv, hent⟩ := createAlarm_evicted code source (fun e => decide (e.state = .clearedUnack)) s
        exact ⟨ha, hv, hent.listed⟩
      · obtain ⟨ha, hv, hent⟩ := createAlarm_evicted code source
          (fun e => decide (e.state = .activeAck ∧ severity e.code < severity code)) s
        exact ⟨ha, hv, hent.listed⟩
      · exact ⟨rfl, rfl, rfl, setNotice_held .alarmRaised _, rfl, rfl⟩

end Sys2Proof.Machine
end

section
/-! A request taken in operation (R189, R190), and the alarm table under clears and acknowledgements (R144, R145). -/

namespace Sys2Proof.Machine

/-! ## A request taken in operation (R189, R190, R195) -/

section
variable {p : Port} {r : Request} {m : Permission} {s : State}

/-- A request that its port admits is counted, handed to its owner and answered. -/
theorem request_taken (hop : s.ret.operating = true) (hk : permissionOf r.kind = some m)
    (ha : m.admits p s.mpl.presence.isSome = true) :
    inOperation (takeRequest p r) s = .next (rechecked s (formReply p r.kind (handle p r (requestCounted p s)))) := by
  rw [inOperation_operating _ hop, takeRequest_admitted p r m s hk ha]
  rfl

/-- The owner's answer `a`, with the state it turns into `u`, is the answer of the request. -/
theorem request_answered (hop : s.ret.operating = true) (hk : permissionOf r.kind = some m)
    (ha : m.admits p s.mpl.presence.isSome = true) {u : State} {a : Answer}
    (hr : handle p r (requestCounted p s) = (requestCounted p u, a)) (hc : hasContent a.status = true ∨ a.content = []) :
    inOperation (takeRequest p r) s = .next (rechecked s (answered p r.kind a u)) := by
  rw [request_taken hop hk ha, hr]
  exact congrArg (fun t => Host.Outcome.next (rechecked s t)) (formReply_answered p r.kind a u hc)

/-- An answer that leaves the state alone leaves the check words as they are. -/
theorem request_unchanged (hop : s.ret.operating = true) (hk : permissionOf r.kind = some m)
    (ha : m.admits p s.mpl.presence.isSome = true) {a : Answer}
    (hr : handle p r (requestCounted p s) = (requestCounted p s, a)) (hc : hasContent a.status = true ∨ a.content = []) :
    inOperation (takeRequest p r) s = .next (answered p r.kind a s) := by
  rw [request_answered hop hk ha hr hc, rechecked_answered_self]

end

/-- A count on a port and a notice do not meet. -/
theorem setNotice_requestCounted (n : Notice) (p : Port) (s : State) :
    setNotice n (requestCounted p s) = requestCounted p (setNotice n s) := by
  cases p <;> rfl

theorem clearAlarm_requestCounted (c : AlarmCode) (x : Source) (p : Port) (s : State) :
    clearAlarm c x (requestCounted p s) = requestCounted p (clearAlarm c x s) := by
  unfold clearAlarm
  have hfind : findAlarm c x (requestCounted p s) = findAlarm c x s := rfl
  rw [hfind]
  cases findAlarm c x s with
  | none => rfl
  | some e =>
    cases he : e.state with
    | activeUnack => simp only [he]; exact setNotice_requestCounted _ p (updateAlarm c x _ s)
    | activeAck => simp only [he]; exact setNotice_requestCounted _ p (removeAlarm c x s)
    | clearedUnack => simp only [he]

/-! ## What clears and acknowledgements leave alone (R144, R145) -/

/-- From `s` to `t` only the entries of the alarm table, TABLE_OVERFLOW and the ports may have changed. -/
def TableFrame (s t : State) : Prop :=
  t =
    { s with
      ccu := { s.ccu with alarms := t.ccu.alarms, tableOverflow := t.ccu.tableOverflow }
      lnk := t.lnk }

theorem TableFrame.refl (s : State) : TableFrame s s := rfl

theorem TableFrame.trans {s t u : State} (h : TableFrame s t) (k : TableFrame t u) : TableFrame s u := by
  unfold TableFrame at k
  rw [h] at k
  exact k

theorem TableFrame.cal {s t : State} (h : TableFrame s t) : t.cal = s.cal := by
  rw [TableFrame] at h
  rw [h]

theorem clearAlarm_tableFrame (c : AlarmCode) (x : Source) (s : State) : TableFrame s (clearAlarm c x s) := by
  rcases clearAlarm_cases c x s with e | ⟨_, -, -, e⟩ | ⟨_, -, -, e⟩ <;> rw [e] <;> rfl

theorem acknowledge_tableFrame (p : Port) (e : AlarmEntry) (s : State) : TableFrame s (acknowledge p e s).2.2 := by
  unfold acknowledge
  cases e.state with
  | activeUnack =>
    dsimp only
    split
    · exact TableFrame.trans (t := updateAlarm ..) rfl (clearAlarm_tableFrame ..)
    · rfl
  | activeAck => rfl
  | clearedUnack => rfl

/-! ## The table under a clear (R144) -/

section
variable {c : AlarmCode} {x : Source} {s : State} {e : AlarmEntry}

theorem clearAlarm_of_unack (hf : findAlarm c x s = some e) (hs : e.state = .activeUnack) :
    clearAlarm c x s = setNotice .alarmCleared
      (updateAlarm c x (fun e => { e with state := .clearedUnack, lastChange := s.cal }) s) := by
  simp only [clearAlarm, hf, hs]

theorem clearAlarm_of_ack (hf : findAlarm c x s = some e) (hs : e.state = .activeAck) :
    clearAlarm c x s = setNotice .alarmCleared (removeAlarm c x s) := by
  simp only [clearAlarm, hf, hs]

/-- Without an active entry a clear changes nothing. -/
theorem clearAlarm_of_quiet (h : ∀ a ∈ s.ccu.alarms, a.has c x = true → a.state = .clearedUnack) : clearAlarm c x s = s := by
  cases hf : findAlarm c x s with
  | none => simp only [clearAlarm, hf]
  | some a => simp only [clearAlarm, hf, h a (List.mem_of_find?_eq_some hf) (List.find?_some hf)]

end

/-! ## The table under an acknowledgement (R145, R182) -/

/-- What the acknowledgement from port `p` makes of an entry, none where the entry leaves the table (R145, R182). -/
def ackedEntry (p : Port) (now : Option Timestamp) (e : AlarmEntry) : Option AlarmEntry :=
  match e.state with
  | .activeUnack =>
    if e.code = .retainedLost then none else some { e with state := .activeAck, ackBy := some p, lastChange := now }
  | .activeAck => some e
  | .clearedUnack => none

/-- An entry split off its table: no other entry has its key. -/
structure SplitAt (s : State) (A : List AlarmEntry) (e : AlarmEntry) (B : List AlarmEntry) : Prop where
  table : s.ccu.alarms = A ++ e :: B
  before : ∀ a ∈ A, a.has e.code e.source = false
  after : ∀ a ∈ B, a.has e.code e.source = false

/-- A keyed table splits at each of its entries. -/
theorem AlarmsKeyed.splitAt {s : State} (hk : AlarmsKeyed s) {A B : List AlarmEntry} {e : AlarmEntry}
    (h : s.ccu.alarms = A ++ e :: B) : SplitAt s A e B := by
  have hnodup := hk.2
  rw [h, List.map_append, List.map_cons, List.nodup_append, List.nodup_cons] at hnodup
  obtain ⟨-, ⟨hB, -⟩, hA⟩ := hnodup
  have key {a : AlarmEntry} (ha : a.has e.code e.source = true) : (a.code, a.source) = (e.code, e.source) :=
    Prod.ext_iff.mpr ((AlarmEntry.has_iff ..).mp ha)
  refine ⟨h, fun a ha => ?_, fun a ha => ?_⟩ <;> refine Bool.eq_false_iff.mpr fun hkey => ?_
  · exact hA _ (List.mem_map_of_mem ha) _ List.mem_cons_self (key hkey)
  · exact hB (key hkey ▸ List.mem_map_of_mem ha)

section
variable {s : State} {A B : List AlarmEntry} {e : AlarmEntry}

/-- An update of the key of a split touches the entry alone. -/
theorem SplitAt.updateAlarm (h : SplitAt s A e B) {f : AlarmEntry → AlarmEntry}
    (hf : (f e).code = e.code ∧ (f e).source = e.source) :
    SplitAt (updateAlarm e.code e.source f s) A (f e) B := by
  have same {l : List AlarmEntry} (hl : ∀ a ∈ l, a.has e.code e.source = false) :
      (l.map fun a => if a.has e.code e.source then f a else a) = l :=
    (List.map_congr_left fun a ha => by simp [hl a ha]).trans (List.map_id' l)
  have hself : e.has e.code e.source = true := (AlarmEntry.has_iff ..).mpr ⟨rfl, rfl⟩
  refine ⟨?_, ?_, ?_⟩
  · rw [updateAlarm_alarms, h.table, List.map_append, List.map_cons, same h.before, same h.after, if_pos hself]
  · rw [hf.1, hf.2]; exact h.before
  · rw [hf.1, hf.2]; exact h.after

/-- A removal of the key of a split takes out the entry alone. -/
theorem SplitAt.removeAlarm_alarms (h : SplitAt s A e B) :
    (removeAlarm e.code e.source s).ccu.alarms = A ++ B := by
  have hself : e.has e.code e.source = true := (AlarmEntry.has_iff ..).mpr ⟨rfl, rfl⟩
  rw [Machine.removeAlarm_alarms, h.table, List.eraseP_append_right _ (fun a ha => by simp [h.before a ha]),
    List.eraseP_cons_of_pos hself]

theorem SplitAt.findAlarm (h : SplitAt s A e B) : findAlarm e.code e.source s = some e := by
  have hself : e.has e.code e.source = true := (AlarmEntry.has_iff ..).mpr ⟨rfl, rfl⟩
  have hA : A.find? (AlarmEntry.has e.code e.source) = none := List.find?_eq_none.mpr fun a ha => by simp [h.before a ha]
  simp [Machine.findAlarm, h.table, List.find?_append, hA, hself]

/-- The acknowledgement of one entry: its counts, the table and TABLE_OVERFLOW (R145, R182). -/
theorem SplitAt.acknowledge (h : SplitAt s A e B) (p : Port) :
    (acknowledge p e s).1 = decide (e.state = .activeUnack) ∧
      (acknowledge p e s).2.1 = (ackedEntry p s.cal e).isNone ∧
      (acknowledge p e s).2.2.ccu.alarms = A ++ (ackedEntry p s.cal e).toList ++ B ∧
      (acknowledge p e s).2.2.ccu.tableOverflow = (s.ccu.tableOverflow && (ackedEntry p s.cal e).isSome) := by
  unfold Machine.acknowledge ackedEntry
  cases he : e.state with
  | activeUnack =>
    have hsplit := h.updateAlarm (f := fun x => { x with state := .activeAck, ackBy := some p, lastChange := s.cal }) ⟨rfl, rfl⟩
    dsimp only
    by_cases hlost : e.code = .retainedLost
    · rw [if_pos hlost, if_pos hlost, clearAlarm_of_ack hsplit.findAlarm rfl]
      refine ⟨by simp, rfl, ?_, by simp⟩
      simpa using hsplit.removeAlarm_alarms
    · rw [if_neg hlost, if_neg hlost]
      exact ⟨by simp, rfl, by simpa using hsplit.table, by simp [Machine.updateAlarm]⟩
  | activeAck => exact ⟨by simp, rfl, by simpa using h.table, by simp⟩
  | clearedUnack => exact ⟨by simp, rfl, by simpa using h.removeAlarm_alarms, by simp⟩

end

/-- The acknowledgement of all entries `B` behind the entries `A` already passed (R145). -/
theorem foldl_acknowledgeNext (p : Port) (B : List AlarmEntry) {A : List AlarmEntry} (n m : Nat) {s : State}
    (hk : AlarmsKeyed s) (h : s.ccu.alarms = A ++ B) :
    ∃ t, B.foldl (acknowledgeNext p) (n, m, s) =
        (n + (B.filter fun e => e.state = .activeUnack).length,
          m + (B.filter fun e => (ackedEntry p s.cal e).isNone).length, t) ∧
      TableFrame s t ∧ t.ccu.alarms = A ++ B.filterMap (ackedEntry p s.cal) ∧
      t.ccu.tableOverflow = (s.ccu.tableOverflow && B.all fun e => (ackedEntry p s.cal e).isSome) := by
  induction B generalizing A n m s with
  | nil => exact ⟨s, rfl, rfl, h, by simp⟩
  | cons e B ih =>
    obtain ⟨hcount, hgone, halarms, hover⟩ := (hk.splitAt h).acknowledge p
    have hframe := acknowledge_tableFrame p e s
    have hcal := hframe.cal
    have hkeyed : AlarmsKeyed (acknowledge p e s).2.2 := by
      have hsub : ((acknowledge p e s).2.2.ccu.alarms.map fun e => (e.code, e.source)).Sublist
          (s.ccu.alarms.map fun e => (e.code, e.source)) := by
        rw [halarms, h, ackedEntry]
        cases e.state with
        | activeUnack => by_cases hlost : e.code = .retainedLost <;> simp [hlost]
        | activeAck | clearedUnack => simp
      refine ⟨?_, hk.2.sublist hsub⟩
      have hlen := hsub.length_le
      simp only [List.length_map] at hlen
      exact hlen.trans hk.1
    obtain ⟨t, hfold, ht, htable, htover⟩ := ih (A := A ++ (ackedEntry p s.cal e).toList)
      (n + (acknowledge p e s).1.toNat) (m + (acknowledge p e s).2.1.toNat) hkeyed halarms
    rw [hcal] at hfold htable htover
    refine ⟨t, ?_, hframe.trans ht, ?_, ?_⟩
    · rw [List.foldl_cons, acknowledgeNext, hfold, hcount, hgone]
      cases hs : e.state <;> cases ha : ackedEntry p s.cal e <;> simp [hs, ha] <;> omega
    · rw [htable]
      cases hacked : ackedEntry p s.cal e <;> simp [hacked]
    · rw [htover, hover, List.all_cons, Bool.and_assoc]

/-! ## The statement on clears and acknowledgements -/

/-- What `TableFrame` leaves alone, as the statement lists it. -/
theorem TableFrame.listed {s t : State} (h : TableFrame s t) :
    t.cfg = s.cfg ∧ t.mon = s.mon ∧ t.cal = s.cal ∧ t.plan = s.plan ∧ t.records = s.records ∧ t.mpl = s.mpl ∧
      t.ccu.op = s.ccu.op ∧ t.ccu.ceiling = s.ccu.ceiling ∧ t.ccu.counters = s.ccu.counters := by
  rw [TableFrame] at h
  rw [h]
  exact ⟨rfl, rfl, rfl, rfl, rfl, rfl, rfl, rfl, rfl⟩

/-- The answer of an acknowledgement touches the ports alone. -/
theorem ackAlarm_taken (p : Port) (target : AckTarget) {s : State} (hop : s.ret.operating = true) :
    exec (.ackAlarm p target) s =
      .next (rechecked s (formReply p 0x05 (ccuAckAlarm p target (requestCounted p s)))) :=
  request_taken (r := .ackAlarm target) (m := .anyPort) hop rfl rfl

/-- Every port holds ALARM_CLEARED after the notice. -/
theorem alarmCleared_held (s : State) : ∀ p, ((setNotice .alarmCleared s).lnk.get p).notices &&& 0x002#16 = 0x002#16 :=
  setNotice_held .alarmCleared s

/-- Where an entry of a split has a key, that key picks it alone. -/
theorem SplitAt.flatMap_key {s : State} {A B : List AlarmEntry} {e : AlarmEntry} (h : SplitAt s A e B)
    (f : AlarmEntry → List AlarmEntry) :
    s.ccu.alarms.flatMap (fun a => if a.has e.code e.source then f a else [a]) = A ++ f e ++ B := by
  have same {l : List AlarmEntry} (hl : ∀ a ∈ l, a.has e.code e.source = false) :
      (l.flatMap fun a => if a.has e.code e.source then f a else [a]) = l :=
    (List.flatMap_congr fun a ha => by simp [hl a ha]).trans (List.flatMap_singleton' l)
  have hself : e.has e.code e.source = true := (AlarmEntry.has_iff ..).mpr ⟨rfl, rfl⟩
  rw [h.table, List.flatMap_append, List.flatMap_cons, same h.before, same h.after, if_pos hself, List.append_assoc]

/-- Settles O43: the clear by its cases, the acknowledgement of one key by `SplitAt.acknowledge`, of all by a fold of it. -/
theorem clearAndAcknowledge : Obligations.ClearAndAcknowledge := by
  intro s hk
  refine ⟨fun code source => ⟨(clearAlarm_tableFrame code source s).listed, fun hquiet => ?_, fun e he hkey hs => ?_,
    fun e he hkey hs => ?_⟩, fun p hop => ⟨fun code source => ⟨fun hnone => ?_, fun e he hkey => ?_⟩, ?_⟩⟩
  · exact clearAlarm_of_quiet fun a ha hac => hquiet a ha ((AlarmEntry.has_eq_decide ..).symm.trans hac)
  · rw [clearAlarm_of_unack (findAlarm_of_mem hk he ((AlarmEntry.has_eq_decide ..).trans hkey)) hs]
    refine ⟨?_, rfl, alarmCleared_held _⟩
    simp only [← AlarmEntry.has_eq_decide]
    rfl
  · have hhas := (AlarmEntry.has_eq_decide ..).trans hkey
    rw [clearAlarm_of_ack (findAlarm_of_mem hk he hhas) hs]
    refine ⟨?_, rfl, alarmCleared_held _⟩
    obtain ⟨A, B, hAB⟩ := List.append_of_mem he
    obtain ⟨rfl, rfl⟩ := (AlarmEntry.has_iff ..).mp hhas
    have hsplit := hk.splitAt hAB
    simp only [← AlarmEntry.has_eq_decide]
    rw [setNotice_ccu, hsplit.removeAlarm_alarms, hAB, List.filter_append, List.filter_cons,
      List.filter_eq_self.mpr fun a ha => by simp [hsplit.before a ha],
      List.filter_eq_self.mpr fun a ha => by simp [hsplit.after a ha]]
    simp [hhas]
  · have hf : findAlarm code source (requestCounted p s) = none :=
      findAlarm_none fun e he => (AlarmEntry.has_eq_decide ..).trans (hnone e he)
    exact request_unchanged (r := .ackAlarm (.one code source)) (m := .anyPort) hop rfl rfl
      (by simp only [handle, ccuAckAlarm, hf]; rfl) (.inr rfl)
  · have hhas := (AlarmEntry.has_eq_decide ..).trans hkey
    have hf : findAlarm code source (requestCounted p s) = some e := findAlarm_of_mem (s := requestCounted p s) hk he hhas
    obtain ⟨A, B, hAB⟩ := List.append_of_mem he
    obtain ⟨rfl, rfl⟩ := (AlarmEntry.has_iff ..).mp hhas
    have hsplit : SplitAt s A e B := hk.splitAt hAB
    have hcounted : SplitAt (requestCounted p s) A e B := ⟨hsplit.table, hsplit.before, hsplit.after⟩
    obtain ⟨-, -, halarms, hover⟩ := hcounted.acknowledge p
    have hanswer : ccuAckAlarm p (.one e.code e.source) (requestCounted p s) =
        ((acknowledge p e (requestCounted p s)).2.2, plain .ok) := by simp only [ccuAckAlarm, hf]; rfl
    refine ⟨_, ackAlarm_taken p _ hop, ?_, ?_, ?_, ?_⟩
    · rw [hanswer]
      exact (acknowledge_tableFrame p e (requestCounted p s)).listed
    · rw [rechecked_lnk, formReply_status, hanswer]
      rfl
    · rw [hanswer]
      simp only [← AlarmEntry.has_eq_decide]
      exact halarms.trans (hsplit.flatMap_key fun a => (ackedEntry p s.cal a).toList).symm
    · rw [hanswer]
      exact hover
  · obtain ⟨t, hfold, hframe, halarms, hover⟩ :=
      foldl_acknowledgeNext p s.ccu.alarms (A := []) 0 0 (s := requestCounted p s) hk rfl
    have hanswer : ccuAckAlarm p .all (requestCounted p s) =
        (t, { status := .ok, content :=
          [BitVec.ofNat 8 (s.ccu.alarms.filter fun e => e.state = .activeUnack).length,
           BitVec.ofNat 8 (s.ccu.alarms.filter fun e => (ackedEntry p s.cal e).isNone).length] }) := by
      simp only [ccuAckAlarm, requestCounted, countPort_ccu] at hfold ⊢
      rw [hfold]
      simp [encNat]
    refine ⟨_, ackAlarm_taken p _ hop, ?_, ?_, ?_, ?_⟩
    · rw [hanswer]
      exact hframe.listed
    · rw [hanswer]
      exact halarms
    · rw [hanswer]
      exact hover
    · obtain ⟨y, hy, hstatus, hcontent⟩ := formReply_reply p 0x05 (r := ccuAckAlarm p .all (requestCounted p s))
        (by rw [hanswer]; rfl)
      rw [rechecked_lnk, hy, Option.map_some, hstatus, hcontent, hanswer]
      rfl

end Sys2Proof.Machine
end

section
/-! The power ceiling and the operating record (R120, R121, R135 to R141). -/

namespace Sys2Proof.Machine

/-! ## The CCU outside the ceiling (R138) -/

/-- The CCU without its contributions, the ceiling and the wait for its acknowledgement. -/
def CcuState.outsideCeiling (c : CcuState) : CcuState :=
  { c with contributions := {}, ceiling := none, acknowledged := false, ackTimer := none }

theorem postContribution_outsideCeiling (w : Contributor) (v : Nat) (s : State) :
    (postContribution w v s).ccu.outsideCeiling = s.ccu.outsideCeiling := by
  rcases postContribution_cases w v s with ⟨-, e⟩ | ⟨-, e⟩ <;> rw [e] <;> rfl

theorem postIcing_outsideCeiling (s : State) : (postIcing s).ccu.outsideCeiling = s.ccu.outsideCeiling := by
  unfold postIcing
  split
  · rfl
  · exact postContribution_outsideCeiling ..

/-! ## A post of a contribution (R138) -/

/-- A post that moves the ceiling publishes it under the next number, with a full wait (R138). -/
theorem postContribution_moved {w : Contributor} {v : Nat} {s : State}
    (h : s.ccu.ceiling ≠ some (leastContribution (s.ccu.contributions.set w v))) :
    (postContribution w v s).mon.ceilingSeq = next16 s.mon.ceilingSeq ∧ (postContribution w v s).ccu.acknowledged = false ∧
      (postContribution w v s).ccu.ackTimer = some 30 := by
  rcases postContribution_cases w v s with ⟨hsame, -⟩ | ⟨-, e⟩
  · exact absurd hsame h
  · rw [e]
    exact ⟨rfl, rfl, rfl⟩

theorem leastContribution_some (a b g d : Nat) :
    leastContribution ⟨some a, some b, some g, some d⟩ = min a (min b (min g d)) := by
  simp [leastContribution, Nat.min_assoc]

/-! ## The timers of the CCU (R137, R140) -/

/-- A raise on a keyed table with room leaves an entry of its key that is not CLEARED_UNACK. -/
theorem raise_left {c : AlarmCode} {x : Source} {s : State} (h : s.ccu.alarms.length < 32) :
    ∃ e ∈ (raise c x s).ccu.alarms, e.code = c ∧ e.source = x ∧ e.state ≠ .clearedUnack := by
  obtain ⟨e, he, hcode, hsource, hstate⟩ := raise_active c x s (.inl h)
  exact ⟨e, he, hcode, hsource, by rcases hstate with h | h <;> simp [h]⟩

/-- Settles O40: the post by its two cases, the expiry by its own. -/
theorem ceilingPost : Obligations.CeilingPost := by
  refine ⟨fun who v a b g d s hset => ?_, fun s hop => ?_⟩
  · have hleast : leastContribution (s.ccu.contributions.set who v) = min a (min b (min g d)) := by
      rw [hset, leastContribution_some]
    rcases postContribution_cases who v s with ⟨hsame, e⟩ | ⟨hmoved, e⟩
    · rw [hleast] at hsame
      refine ⟨fun _ => ?_, fun h => absurd hsame h⟩
      rw [e, recordContribution, hset]
    · rw [hleast] at hmoved e
      refine ⟨fun h => absurd h hmoved, fun _ => ?_⟩
      rw [e, recordContribution, hset]
      exact ⟨rfl, fun p => ⟨_, setNotice_get .ceilingChanged p _⟩⟩
  · have hexec : exec .acknowledgeTimerExpiry s = .next (rechecked s (ccuAckExpiry s)) := inOperation_operating _ hop
    rcases ccuAckExpiry_cases s with ⟨hdue, e⟩ | ⟨hrunning, e⟩ <;> rw [e] at hexec
    · refine ⟨fun h => absurd hdue h, fun _ => ⟨_, hexec, ?_⟩⟩
      have hout := raise_outsideAlarms .ceilingUnheeded .ccu { s with ccu := { s.ccu with ackTimer := none } }
      refine ⟨congrArg (·.ackTimer) hout, congrArg (·.acknowledged) hout, congrArg (·.ceiling) hout,
        congrArg (·.contributions) hout, congrArg (·.op) hout, ?_, fun _ hroom => ?_, ?_⟩
      · exact congrArg (fun c => inc16 c.counters.unheeded) hout
      · exact raise_left (s := { s with ccu := { s.ccu with ackTimer := none } }) hroom
      · simp
    · rw [rechecked_self] at hexec
      exact ⟨fun _ => hexec, fun h => absurd h hrunning⟩

/-! ## The acknowledgement of the ceiling (R139) -/

section
variable {s : State} (hop : s.ret.operating = true)
include hop

theorem exec_ceilingAck_stale {n : Nat} (h : n ≠ s.mon.ceilingSeq) :
    exec (.ceilingAck .cp n) s = .next (answered .cp 0x21 (plain .stale) s) :=
  request_unchanged (r := .ceilingAck n) (m := .control) hop rfl rfl (if_pos h) (.inr rfl)

theorem exec_ceilingAck_repeated (h : s.ccu.acknowledged = true) :
    exec (.ceilingAck .cp s.mon.ceilingSeq) s = .next (answered .cp 0x21 (plain .ok) s) := by
  refine request_unchanged (r := .ceilingAck s.mon.ceilingSeq) (m := .control) hop rfl rfl ?_ (.inr rfl)
  show ccuCeilingAck s.mon.ceilingSeq (requestCounted .cp s) = _
  simp only [ccuCeilingAck, requestCounted, countPort_mon, countPort_ccu, h, ne_eq, not_true, if_false, if_true, plain]

theorem exec_ceilingAck_heeded (h : s.ccu.acknowledged = false) :
    exec (.ceilingAck .cp s.mon.ceilingSeq) s =
      .next (answered .cp 0x21 (plain .ok)
        (clearAlarm .ceilingUnheeded .ccu { s with ccu := { s.ccu with acknowledged := true, ackTimer := none } })) := by
  have hanswer : ccuCeilingAck s.mon.ceilingSeq (requestCounted .cp s) =
      (requestCounted .cp
        (clearAlarm .ceilingUnheeded .ccu { s with ccu := { s.ccu with acknowledged := true, ackTimer := none } }),
        plain .ok) := by
    rw [← clearAlarm_requestCounted]
    simp only [ccuCeilingAck, requestCounted, countPort_mon, countPort_ccu, h, ne_eq, not_true, if_false, Bool.false_eq_true]
    rfl
  refine (request_answered (r := .ceilingAck s.mon.ceilingSeq) (m := .control) hop rfl rfl hanswer (.inr rfl)).trans ?_
  exact congrArg Host.Outcome.next (rechecked_kept s _ (clearAlarm_cfg ..) (clearAlarm_mon ..) (clearAlarm_plan ..)
    (clearAlarm_records ..) (clearAlarm_cal ..))

end

theorem next16_ne_self {n : Nat} : n ≠ next16 n := by unfold next16; omega

/-- Settles O41: the three answers, and a post before or after the acknowledgement. -/
theorem ceilingAck : Obligations.CeilingAck := by
  intro s hop heeded
  have hccu : heeded.ccu =
      { s.ccu with
        acknowledged := true, ackTimer := none, alarms := heeded.ccu.alarms
        tableOverflow := heeded.ccu.tableOverflow } := clearAlarm_ccu ..
  refine ⟨fun n h => exec_ceilingAck_stale hop h, exec_ceilingAck_repeated hop, exec_ceilingAck_heeded hop,
    congrArg (·.acknowledged) hccu, congrArg (·.ackTimer) hccu, clearAlarm_mon .., clearAlarm_cfg ..,
    congrArg (·.contributions) hccu, congrArg (·.ceiling) hccu, fun hk => clearAlarm_quiet _ _ _ hk, fun who v hmove => ?_⟩
  obtain ⟨hseq, hack, htimer⟩ := postContribution_moved hmove
  refine ⟨exec_ceilingAck_stale (by simpa using hop) (by rw [hseq]; exact next16_ne_self), hseq, hack, htimer,
    fun hclear t ht => ?_⟩
  rw [exec_ceilingAck_heeded hop hclear] at ht
  obtain rfl := Host.Outcome.next.inj ht
  have hmove' : heeded.ccu.ceiling ≠ some (leastContribution (heeded.ccu.contributions.set who v)) := by
    rw [hccu]; exact hmove
  have hmon : heeded.mon = s.mon := clearAlarm_mon ..
  obtain ⟨hseq', hack', htimer'⟩ :=
    postContribution_moved (w := who) (v := v) (s := answered .cp 0x21 (plain .ok) heeded) hmove'
  exact ⟨hseq'.trans (congrArg (fun m => next16 m.ceilingSeq) hmon), hack', htimer'⟩

end Sys2Proof.Machine
end

section
/-! The operating record (R120, R121, R135 to R137). -/

namespace Sys2Proof.Machine

/-! ## The readers of a report (R120, R121, R136) -/

/-- The retained icing state after a report with a heater state, which reaches PARKED where `parked` (R120, R121). -/
def reportedIcing (parked : Prop) [Decidable parked] (h : Heater) (profile : ThresholdSet)
    (i : IcingRetained) : IcingRetained :=
  if i.pinned then
    if parked then { i with active := profile, pinned := false, loaded := h } else i
  else if h = i.loaded then i
  else { i with active := profile, loaded := h }

/-- From `s` to `t` the BIM read a report: the retained icing state is `f` of the one held, and the rest of the CCU outside the
ceiling and its table is kept (R136). -/
structure IcingRead (f : IcingRetained → IcingRetained) (s t : State) : Prop where
  frame : t = { s with ccu := t.ccu, mon := t.mon, lnk := t.lnk }
  icing : t.mon.icing = f s.mon.icing
  ccu : t.ccu.outsideCeiling = s.ccu.outsideCeiling

theorem IcingRead.refl (s : State) : IcingRead id s s := ⟨rfl, rfl, rfl⟩

theorem reloadProfile_read {f : IcingRetained → IcingRetained} (h : Heater) (s : State)
    (hf : f s.mon.icing = { s.mon.icing with active := profileOf s h, loaded := h }) :
    IcingRead f s (reloadProfile h s) :=
  { frame := (reloadProfile_posted h s).frame
    icing := (reloadProfile_posted h s).icing.trans hf.symm
    ccu := postIcing_outsideCeiling _ }

theorem clearPin_read {f : IcingRetained → IcingRetained} {h : Heater} {s : State} (hh : s.ccu.op.heater = some h)
    (hf : f s.mon.icing = { s.mon.icing with active := profileOf s h, pinned := false, loaded := h }) :
    IcingRead f s (clearPin s) :=
  { frame := (clearPin_posted s).frame
    icing := (clearPin_posted s).icing.trans (by rw [hf, hh]; rfl)
    ccu := postIcing_outsideCeiling _ }

/-- The readers of an accepted report: the heater state where nothing is pinned, PARKED where something is (R120, R121). -/
theorem handReport_read (old new : Regime) {h : Heater} {s : State} (hh : s.ccu.op.heater = some h) :
    IcingRead (reportedIcing (new = .parked ∧ old ≠ .parked) h (profileOf s h)) s (handReport old new h s) := by
  unfold handReport bimHeater bimParked
  by_cases hpin : s.mon.icing.pinned = true
  · have hskip : ¬ (h ≠ s.mon.icing.loaded ∧ s.mon.icing.pinned = false) := by simp [hpin]
    simp only [if_neg hskip, if_pos hpin]
    by_cases hpark : new = .parked ∧ old ≠ .parked
    · rw [if_pos hpark]
      exact clearPin_read hh (by simp [reportedIcing, hpin, hpark])
    · rw [if_neg hpark]
      exact ⟨rfl, by simp [reportedIcing, hpin, hpark], rfl⟩
  · rw [Bool.not_eq_true] at hpin
    by_cases hload : h = s.mon.icing.loaded
    · simp only [hload, ne_eq, not_true, false_and, if_false, hpin, Bool.false_eq_true, ite_self]
      exact ⟨rfl, by simp [reportedIcing, hpin], rfl⟩
    · have hread := reloadProfile_read (f := reportedIcing (new = .parked ∧ old ≠ .parked) h (profileOf s h)) h s
        (by simp [reportedIcing, hpin, hload])
      have hunpinned : (reloadProfile h s).mon.icing.pinned = false := by
        rw [hread.icing]; simp [reportedIcing, hpin, hload]
      simp only [if_pos (⟨hload, hpin⟩ : h ≠ s.mon.icing.loaded ∧ s.mon.icing.pinned = false), hunpinned,
        Bool.false_eq_true, if_false, ite_self]
      exact hread

/-! ## A report (R135) -/

theorem clampInt_of_le {lo hi : Int} (h : lo ≤ hi) (x : Int) : clampInt lo hi x = max lo (min hi x) := by
  unfold clampInt
  split_ifs <;> omega

/-- The record of a report, with its clamps spelled out (R135). -/
theorem reportedRecord_eq (now : Option Timestamp) (regime : Regime) (w q : Int) (h : Heater) (op : OperatingRecord) :
    reportedRecord now regime w q h op =
      { regime := regime, wind := some (max 0 (min 500 w)), power := some (max (-100) (min 1200 q)), heater := some h
        reportTime := now, clamped := decide (max 0 (min 500 w) ≠ w ∨ max (-100) (min 1200 q) ≠ q)
        changes := if op.regime = regime then op.changes else (op.changes + 1) % 65536 } := by
  simp [reportedRecord, clampWind, clampPower, clampInt_of_le, next16]

section
variable {s : State} (hop : s.ret.operating = true)
include hop

theorem exec_operatingReport {r : Nat} {w q : Int} {h : Nat} :
    exec (.operatingReport .cp r w q h) s =
      .next (rechecked s (formReply .cp 0x20 (ccuReport r w q h (requestCounted .cp s)))) :=
  request_taken (r := .operatingReport r w q h) (m := .control) hop rfl rfl

theorem exec_operatingReport_refused {r : Nat} (w q : Int) {h : Nat} (hbad : 3 < r ∨ 1 < h) :
    exec (.operatingReport .cp r w q h) s = .next (answered .cp 0x20 (plain .range)
      (countCcu (fun c => { c with refused := inc16 c.refused }) s)) := by
  have hcodes : regimeOfCode r = none ∨ heaterOfCode h = none := by
    rcases hbad with hr | hh
    · exact .inl (by match r, hr with | r + 4, _ => rfl)
    · exact .inr (by match h, hh with | h + 2, _ => rfl)
  have hanswer : ccuReport r w q h (requestCounted .cp s) =
      (requestCounted .cp (countCcu (fun c => { c with refused := inc16 c.refused }) s), plain .range) := by
    unfold ccuReport
    rcases hcodes with hr | hh
    · rw [hr]; rfl
    · rw [hh]; cases regimeOfCode r <;> rfl
  exact (request_answered (r := .operatingReport r w q h) (m := .control) hop rfl rfl hanswer (.inr rfl)).trans
    (congrArg Host.Outcome.next (rechecked_kept s _ rfl rfl rfl rfl rfl))

end

/-- The silence of the controller, with the fields the statement names (R137). -/
theorem silent_eq (op : OperatingRecord) :
    op.silent =
      { op with
        regime := .unknown
        changes := if op.regime = .unknown then op.changes else (op.changes + 1) % 65536 } := by
  obtain ⟨regime, wind, power, heater, reportTime, clamped, changes⟩ := op
  unfold OperatingRecord.silent
  cases regime <;> rfl

theorem exec_freshnessTimeout_running {s : State} (hop : s.ret.operating = true) (h : s.ccu.freshness ≠ some 0) :
    exec .freshnessTimeout s = .next s := by
  have hexec : exec .freshnessTimeout s = .next (rechecked s (ccuFreshness s)) := inOperation_operating _ hop
  rcases ccuFreshness_cases s with ⟨hdue, -⟩ | ⟨-, e⟩
  · exact absurd hdue h
  · rw [hexec, e, rechecked_self]

/-- The state after an accepted report, before its readers: the record, the timer and the counters, and no active
CONTROLLER_SILENT entry (R135, R137). -/
def reported (regime : Regime) (wind power : Int) (heater : Heater) (s : State) : State :=
  clearAlarm .controllerSilent .ccu (updateRecord regime wind power heater s)

theorem acceptReport_read (regime : Regime) (wind power : Int) (heater : Heater) (s : State) :
    IcingRead (reportedIcing (regime = .parked ∧ s.ccu.op.regime ≠ .parked) heater
      (if heater = .on then s.cfg.bim.heaterOn else s.cfg.bim.heaterOff)) (reported regime wind power heater s)
      (acceptReport regime wind power heater s) := by
  have hccu := clearAlarm_ccu .controllerSilent .ccu (updateRecord regime wind power heater s)
  have hread := handReport_read s.ccu.op.regime regime (s := reported regime wind power heater s) (h := heater)
    (congrArg (·.op.heater) hccu)
  have hprofile : profileOf (reported regime wind power heater s) heater =
      if heater = .on then s.cfg.bim.heaterOn else s.cfg.bim.heaterOff := by
    have hcfg : (reported regime wind power heater s).cfg = s.cfg := clearAlarm_cfg ..
    cases heater <;> simp [profileOf, hcfg]
  rwa [hprofile] at hread

/-- The parts of the state and of the CCU after an accepted report. -/
structure Accepted (regime : Regime) (wind power : Int) (heater : Heater) (s t : State) : Prop where
  frame : t = { s with ccu := t.ccu, mon := t.mon, lnk := t.lnk }
  icing : t.mon.icing = reportedIcing (regime = .parked ∧ s.ccu.op.regime ≠ .parked) heater
    (if heater = .on then s.cfg.bim.heaterOn else s.cfg.bim.heaterOff) s.mon.icing
  op : t.ccu.op = reportedRecord s.cal regime wind power heater s.ccu.op
  freshness : t.ccu.freshness = some s.cfg.reportTimeout
  sinceReport : t.ccu.sinceReport = some 0
  counters : t.ccu.counters =
    countReport (reportedRecord s.cal regime wind power heater s.ccu.op).clamped s.ccu.counters
  quiet : AlarmsKeyed s → AlarmQuiet .controllerSilent .ccu t

theorem acceptReport_accepted (regime : Regime) (wind power : Int) (heater : Heater) (s : State) :
    Accepted regime wind power heater s (acceptReport regime wind power heater s) := by
  have hread := acceptReport_read regime wind power heater s
  have hframe := clearAlarm_tableFrame .controllerSilent .ccu (updateRecord regime wind power heater s)
  have hkept := clearAlarm_ccu .controllerSilent .ccu (updateRecord regime wind power heater s)
  have hmon : (reported regime wind power heater s).mon = s.mon := clearAlarm_mon ..
  have hout := hread.ccu
  refine
    { frame := ?_
      icing := hread.icing.trans (by rw [hmon])
      op := (congrArg (·.op) hout).trans (congrArg (·.op) hkept)
      freshness := (congrArg (·.freshness) hout).trans (congrArg (·.freshness) hkept)
      sinceReport := (congrArg (·.sinceReport) hout).trans (congrArg (·.sinceReport) hkept)
      counters := (congrArg (·.counters) hout).trans (congrArg (·.counters) hkept)
      quiet := fun hk => ?_ }
  · have hfirst : reported regime wind power heater s =
        { s with ccu := (reported regime wind power heater s).ccu, lnk := (reported regime wind power heater s).lnk } := by
      rw [TableFrame] at hframe
      unfold reported
      rw [hframe]
      rfl
    have hlast := hread.frame
    rw [hfirst] at hlast
    exact hlast
  · have halarms : (acceptReport regime wind power heater s).ccu.alarms = (reported regime wind power heater s).ccu.alarms :=
      congrArg (·.alarms) hout
    unfold AlarmQuiet
    rw [halarms]
    exact clearAlarm_quiet .controllerSilent .ccu (updateRecord regime wind power heater s) hk

/-- Settles O39: the refusal, the accepted report by `acceptReport_accepted`, and the expiry by its two cases. -/
theorem operatingReport : Obligations.OperatingReport := by
  intro s hop
  refine ⟨fun r w q h hbad => exec_operatingReport_refused hop w q hbad, fun r w q h hk => ?_,
    exec_freshnessTimeout_running hop, fun hdue => ?_⟩
  · intro regime heater profile clamped i
    have hcode : regimeOfCode r.val = some regime := by fin_cases r <;> rfl
    clear_value regime
    have hheater : heaterOfCode h.toNat = some (if h then .on else .off) := by cases h <;> rfl
    have hanswer : ccuReport r.val w q h.toNat (requestCounted .cp s) =
        (acceptReport regime w q (if h then .on else .off) (requestCounted .cp s), plain .ok) := by
      simp only [ccuReport, hcode, hheater]; rfl
    have hexec := exec_operatingReport hop (r := r.val) (w := w) (q := q) (h := h.toNat)
    rw [hanswer] at hexec
    have hacc := acceptReport_accepted regime w q (if h then .on else .off) (requestCounted .cp s)
    have hpart {α : Type} (f : State → α) :
        f (acceptReport regime w q (if h then .on else .off) (requestCounted .cp s)) = f _ := congrArg f hacc.frame
    refine ⟨_, hexec, hacc.op.trans (reportedRecord_eq ..), hacc.freshness, hacc.sinceReport,
      fun hlong => ?_, ?_, hacc.quiet hk, ?_, hpart (·.cfg),
      hpart (·.plan), hpart (·.mpl), hpart (·.afe), hpart (·.spe), hpart (·.gvm), hpart (·.ghm), hpart (·.ptu),
      hpart (·.rch), ?_⟩
    · refine exec_freshnessTimeout_running ((congrArg (·.operating) (hpart (·.ret))).trans hop) ?_
      show (acceptReport regime w q (if h then .on else .off) (requestCounted .cp s)).ccu.freshness ≠ some 0
      rw [hacc.freshness]
      exact fun hzero => hlong (Option.some.inj hzero)
    · have hcounters := hacc.counters
      rw [reportedRecord_eq] at hcounters
      exact hcounters
    · refine hacc.icing.trans ?_
      cases h <;> rfl
    · exact formReply_status .cp 0x20 (_, plain .ok)
  · have hexec : exec .freshnessTimeout s = .next (rechecked s (ccuFreshness s)) := inOperation_operating _ hop
    rcases ccuFreshness_cases s with ⟨-, e⟩ | ⟨hrunning, -⟩
    · rw [e] at hexec
      have hout := raise_outsideAlarms .controllerSilent .ccu
        { s with ccu := { s.ccu with op := s.ccu.op.silent, freshness := none } }
      refine ⟨_, hexec, congrArg (·.freshness) hout, (congrArg (·.op) hout).trans (silent_eq s.ccu.op),
        ?_, fun _ hroom => ?_, congrArg (·.contributions) hout,
        congrArg (·.ceiling) hout, congrArg (·.ackTimer) hout, ?_⟩
      · have hsilences := congrArg (fun c => inc16 c.counters.silences) hout
        exact hsilences
      · exact raise_left (s := { s with ccu := { s.ccu with op := s.ccu.op.silent, freshness := none } }) hroom
      · simp
    · exact absurd hdue hrunning

end Sys2Proof.Machine
end

section
/-! Snapshots and their locks (R147, R148). -/

namespace Sys2Proof.Machine

/-- The entries of a vector in the order of their places. -/
theorem toList_eq_map_finRange {α : Type} {n : Nat} (v : Vector α n) :
    v.toList = (List.finRange n).map fun i => v[i] :=
  List.ext_getElem (by simp) fun i _ _ => by simp

theorem lockedSlots_eq (slots : Vector (Option SnapshotSlot) 8) :
    lockedSlots slots =
      ((List.finRange 8).filter fun i => (slots[i].map (·.locked)).getD false).length := by
  rw [lockedSlots, toList_eq_map_finRange, List.filter_map, List.length_map]
  rfl

theorem ringMean_eq (ring : List Nat) : ringMean ring = if ring = [] then none else some (ring.sum / ring.length) := by
  cases ring <;> rfl

/-! ## The locks (R148) -/

/-- A slot with its lock mark written. -/
def markedSlot (i : Fin 8) (x : SnapshotSlot) (v : Bool) (s : State) : State :=
  { s with records := { s.records with slots := s.records.slots.set i (some { x with locked := v }) } }

/-- The answer that names a snapshot (R196). -/
def namedAnswer (x : SnapshotSlot) : Answer := { status := .ok, content := encNat 2 x.record.number }

theorem ccuLock_range {n : Nat} (h : 8 ≤ n) (s : State) : ccuLock n s = (s, plain .range) := dif_neg (by omega)

theorem ccuUnlock_range {n : Nat} (h : 8 ≤ n) (s : State) : ccuUnlock n s = (s, plain .range) := dif_neg (by omega)

section
variable {i : Fin 8} {s : State}

theorem ccuLock_empty (h : s.records.slots[i] = none) : ccuLock i.val s = (s, plain .unknownItem) := by
  simp only [ccuLock, i.isLt, dite_true]
  split
  · rfl
  · next c hc => exact nomatch h.symm.trans hc

theorem ccuUnlock_empty (h : s.records.slots[i] = none) : ccuUnlock i.val s = (s, plain .unknownItem) := by
  simp only [ccuUnlock, i.isLt, dite_true]
  split
  · rfl
  · next c hc => exact nomatch h.symm.trans hc

/-- LOCK_SNAPSHOT of a filled slot (R148). -/
theorem ccuLock_filled {x : SnapshotSlot} (h : s.records.slots[i] = some x) :
    ccuLock i.val s =
      if x.locked then (s, namedAnswer x)
      else if 6 ≤ lockedSlots s.records.slots then (s, plain .full)
      else (markedSlot i x true s, namedAnswer x) := by
  simp only [ccuLock, i.isLt, dite_true]
  split
  · next hnone => exact nomatch h.symm.trans hnone
  · next c hc =>
    obtain rfl := Option.some.inj (h.symm.trans hc)
    rfl

/-- UNLOCK_SNAPSHOT of a filled slot (R148). -/
theorem ccuUnlock_filled {x : SnapshotSlot} (h : s.records.slots[i] = some x) :
    ccuUnlock i.val s = if x.locked then (markedSlot i x false s, plain .ok) else (s, plain .state) := by
  simp only [ccuUnlock, i.isLt, dite_true]
  split
  · next hnone => exact nomatch h.symm.trans hnone
  · next c hc =>
    obtain rfl := Option.some.inj (h.symm.trans hc)
    rfl

end

section
variable {s : State} (hop : s.ret.operating = true) (hpresence : s.mpl.presence.isSome = true)
include hop hpresence

theorem exec_lockSnapshot {n : Nat} {u : State} {a : Answer}
    (h : ccuLock n (requestCounted .sp s) = (requestCounted .sp u, a)) (hc : hasContent a.status = true ∨ a.content = []) :
    exec (.lockSnapshot .sp n) s = .next (rechecked s (answered .sp 0x43 a u)) :=
  request_answered (p := .sp) (r := .lockSnapshot n) (m := .servicePresence) hop rfl hpresence h hc

theorem exec_lockSnapshot_unchanged {n : Nat} {a : Answer}
    (h : ccuLock n (requestCounted .sp s) = (requestCounted .sp s, a)) (hc : hasContent a.status = true ∨ a.content = []) :
    exec (.lockSnapshot .sp n) s = .next (answered .sp 0x43 a s) :=
  request_unchanged (p := .sp) (r := .lockSnapshot n) (m := .servicePresence) hop rfl hpresence h hc

theorem exec_unlockSnapshot {n : Nat} {u : State} {a : Answer}
    (h : ccuUnlock n (requestCounted .sp s) = (requestCounted .sp u, a)) (hc : hasContent a.status = true ∨ a.content = []) :
    exec (.unlockSnapshot .sp n) s = .next (rechecked s (answered .sp 0x44 a u)) :=
  request_answered (p := .sp) (r := .unlockSnapshot n) (m := .servicePresence) hop rfl hpresence h hc

theorem exec_unlockSnapshot_unchanged {n : Nat} {a : Answer}
    (h : ccuUnlock n (requestCounted .sp s) = (requestCounted .sp s, a)) (hc : hasContent a.status = true ∨ a.content = []) :
    exec (.unlockSnapshot .sp n) s = .next (answered .sp 0x44 a s) :=
  request_unchanged (p := .sp) (r := .unlockSnapshot n) (m := .servicePresence) hop rfl hpresence h hc

end

/-! ## A snapshot taken (R147) -/

/-- The slot a snapshot fills, and the records with it. -/
def filledSlot (code : AlarmCode) (source : Source) (s : State) : SnapshotSlot :=
  { record := snapshotRecord code source (next16 s.records.snapshotNumber) s, order := s.records.taken }

theorem takeSnapshot_filled {s : State} {i : Fin 8} (h : snapshotSlotFor s.records.slots = some i) (code : AlarmCode)
    (source : Source) :
    takeSnapshot code source s =
      setNotice .snapshotTaken
        { s with
          records :=
            { s.records with
              slots := s.records.slots.set i (some (filledSlot code source s))
              snapshotNumber := next16 s.records.snapshotNumber, taken := s.records.taken + 1 }
          ccu := { s.ccu with counters := { s.ccu.counters with snapshots := inc16 s.ccu.counters.snapshots } } } := by
  simp only [takeSnapshot, h]
  rfl

theorem filledSlot_temps (code : AlarmCode) (source : Source) (s : State) (k : Temp) :
    (filledSlot code source s).record.temps.get k = tempCopy s k := by
  cases k <;> rfl

theorem filledSlot_bands (code : AlarmCode) (source : Source) (s : State) (b : Fin 24) :
    (filledSlot code source s).record.bands[b] = (s.gvm.lastLevel[b].level, s.mon.bands[b].grade) := by
  simp only [filledSlot, snapshotRecord, Fin.getElem_fin, vzip_getElem]

/-- Settles O44: the slot by `snapshotSlotFor_spec`, the locks by the cases of the slot named. -/
theorem snapshotSlots : Obligations.SnapshotSlots := by
  refine ⟨fun code source s hfree => ?_, fun s hop hpresence => ?_⟩
  · obtain ⟨i, hslot, hspec⟩ := snapshotSlotFor_spec hfree
    intro t number
    have htaken : t = _ := takeSnapshot_filled hslot code source
    refine ⟨i, filledSlot code source s, congrArg State.records htaken, hspec, rfl, rfl, rfl, rfl, rfl, rfl, rfl, rfl, rfl,
      rfl, rfl, rfl, rfl, fun k => ?_, ringMean_eq _, filledSlot_bands code source s, congrArg State.ccu htaken, ?_,
      takeSnapshot_cfg .., takeSnapshot_mon .., takeSnapshot_plan .., takeSnapshot_cal ..⟩
    · rw [filledSlot_temps]
      exact ⟨rfl, rfl, rfl⟩
    · rw [htaken]
      exact setNotice_held .snapshotTaken _
  · refine ⟨fun n hn => ⟨?_, ?_⟩, fun i hi => ⟨?_, ?_⟩, fun i x hx => ⟨fun hlocked => ⟨?_, ?_⟩, fun hfree => ⟨?_, ?_⟩⟩⟩
    · exact exec_lockSnapshot_unchanged hop hpresence (ccuLock_range hn _) (.inr rfl)
    · exact exec_unlockSnapshot_unchanged hop hpresence (ccuUnlock_range hn _) (.inr rfl)
    · exact exec_lockSnapshot_unchanged hop hpresence (ccuLock_empty (s := requestCounted .sp s) hi) (.inr rfl)
    · exact exec_unlockSnapshot_unchanged hop hpresence (ccuUnlock_empty (s := requestCounted .sp s) hi) (.inr rfl)
    · exact exec_lockSnapshot_unchanged hop hpresence
        ((ccuLock_filled (s := requestCounted .sp s) hx).trans (if_pos hlocked)) (.inl rfl)
    · exact exec_unlockSnapshot hop hpresence (u := markedSlot i x false s)
        ((ccuUnlock_filled (s := requestCounted .sp s) hx).trans (if_pos hlocked)) (.inr rfl)
    · exact exec_unlockSnapshot_unchanged hop hpresence
        ((ccuUnlock_filled (s := requestCounted .sp s) hx).trans (if_neg (by simp [hfree]))) (.inr rfl)
    · have hlock := (ccuLock_filled (s := requestCounted .sp s) hx).trans (if_neg (by simp [hfree]))
      rw [← lockedSlots_eq]
      split
      · next hfull => exact exec_lockSnapshot_unchanged hop hpresence (hlock.trans (if_pos hfull)) (.inr rfl)
      · next hroom =>
        exact exec_lockSnapshot hop hpresence (u := markedSlot i x true s) (hlock.trans (if_neg hroom)) (.inl rfl)

end Sys2Proof.Machine
end

section
/-! READ_STATUS of the Link Ports counts itself (R189, R197). -/

namespace Sys2Proof.Machine

/-- The content of the reply that a port holds after an event. -/
def repliedContent (p : Port) : Host.Outcome State Fault Refusal → Option (List Octet)
  | .next t => (t.lnk.get p).reply.map (·.content)
  | _ => none

/-- A request is counted on its port before it is answered, so that the status of the Link Ports, whose last counters but two
are the requests taken, shows the request that reads it: 1 right after reset, where the state it is taken in has 0. -/
theorem readStatus_lnk_counted :
    repliedContent .cp (exec (.readStatus .cp .lnk 0) State.reset) =
        some ([0x0a, 0x00, 0x01] ++ blockStatus .lnk (requestCounted .cp State.reset)) ∧
      blockStatus .lnk (requestCounted .cp State.reset) ≠ blockStatus .lnk State.reset := by
  decide +kernel

/-- Refutes O56: of its clauses the one on READ_STATUS fails for the Link Ports. Right after reset a READ_STATUS of them on the
control port answers the status in which the request itself is counted as taken, not the status of the state it is taken in. -/
theorem not_readsAndMasks : ¬ Obligations.ReadsAndMasks := by
  intro h
  obtain ⟨-, -, -, -, -, -, -, -, -, -, -, -, -, -, -, -, -, -, -, -, -, -, -, -, -, -, hstatus, -⟩ := h .cp State.reset rfl
  have hcontent := congrArg (repliedContent .cp) (hstatus .lnk 0)
  obtain ⟨hcounted, hdiffers⟩ := readStatus_lnk_counted
  have hstated : repliedContent .cp (.next (answered .cp 0x01
      (if 0 < ((blockStatus .lnk State.reset).length + 235) / 236 then
        { status := .ok
          content := [BitVec.ofNat 8 (blockCode .lnk)] ++
            [BitVec.ofNat 8 0, BitVec.ofNat 8 (((blockStatus .lnk State.reset).length + 235) / 236)] ++
            ((blockStatus .lnk State.reset).drop (0 * 236)).take 236 }
      else plain .range) State.reset)) = some ([0x0a, 0x00, 0x01] ++ blockStatus .lnk State.reset) := by decide +kernel
  have hsame := hcounted.symm.trans (hcontent.trans hstated)
  exact hdiffers (List.append_cancel_left (Option.some.inj hsame))

end Sys2Proof.Machine
end

section
/-! The alarms of a start: raises into a table of unacknowledged entries (R143, R146, R150). -/

namespace Sys2Proof.Machine

/-- What an alarm is raised under: its code and source. -/
abbrev AlarmKey := AlarmCode × Source

theorem AlarmEntry.has_iff_key (e : AlarmEntry) (k : AlarmKey) : e.has k.1 k.2 = true ↔ (e.code, e.source) = k := by
  rw [AlarmEntry.has_iff, Prod.ext_iff]

/-- The fresh entry of a key at a reading. -/
def freshEntry (now : Option Timestamp) (k : AlarmKey) : AlarmEntry :=
  { code := k.1, source := k.2, state := .activeUnack, raisedAt := now, lastChange := now, ackBy := none, occurrences := 1 }

/-- A day record that has counted `n` alarm entries. -/
def DayRecord.counting (n : Nat) (r : DayRecord) : DayRecord :=
  if n = 0 then r else { r with alarms := min (r.alarms + n) 65535 }

/-- PLAN with the reports of `n` alarm entries, in the open day record or, where `dated` is clear, in the undated tally. -/
def PlanSection.counting (dated : Bool) (n : Nat) (p : PlanSection) : PlanSection :=
  if dated then { p with openDay := { p.openDay with record := p.openDay.record.counting n } }
  else { p with undated := p.undated.counting n }

theorem DayRecord.counting_succ (n : Nat) (r : DayRecord) : (r.counting n).addAlarm = r.counting (n + 1) := by
  unfold counting addAlarm inc16
  by_cases hn : n = 0
  · simp [hn]
  · have hmin : min (min (r.alarms + n) 65535 + 1) 65535 = min (r.alarms + (n + 1)) 65535 := by omega
    simp [hn, hmin]

theorem PlanSection.counting_succ (n : Nat) {p : PlanSection} {s : State} (h : s.plan = p.counting s.cal.isSome n) :
    (reportDay DayRecord.addAlarm s).plan = p.counting s.cal.isSome (n + 1) := by
  unfold reportDay counting at *
  cases hcal : s.cal with
  | none =>
    simp only [hcal, Option.isSome_none, Bool.false_eq_true, if_false] at h ⊢
    rw [h, ← DayRecord.counting_succ]
  | some now =>
    simp only [hcal, Option.isSome_some, if_true] at h ⊢
    rw [h, ← DayRecord.counting_succ]

/-- The notices of the alarms raised and of the snapshots taken. -/
def startNotices (raised snapped : Bool) : NoticeSet :=
  (if raised then 0x001#16 else 0#16) ||| (if snapped then 0x010#16 else 0#16)

theorem startNotices_raised (n : NoticeSet) (raised snapped : Bool) :
    n ||| startNotices raised snapped ||| Notice.alarmRaised.bit = n ||| startNotices true snapped := by
  rw [BitVec.or_assoc]
  cases raised <;> cases snapped <;> rfl

theorem startNotices_snapped (n : NoticeSet) (raised snapped : Bool) :
    n ||| startNotices raised snapped ||| Notice.snapshotTaken.bit = n ||| startNotices raised true := by
  rw [BitVec.or_assoc]
  cases raised <;> cases snapped <;> rfl

/-- The ports of a start hold a notice set and what a start leaves them: their rates and nothing else. -/
def PortsHold (rate : Port → BitVec 2) (n : NoticeSet) (s : State) : Prop :=
  ∀ p, s.lnk.get p =
    { rate := rate p, notices := n, attention := s.ret.operating && (n &&& s.cfg.masks.get p) != 0 }

theorem PortsHold.congr {rate : Port → BitVec 2} {n m : NoticeSet} {s t : State} (h : PortsHold rate n s) (hn : m = n)
    (hlnk : t.lnk = s.lnk) (hop : t.ret.operating = s.ret.operating) (hcfg : t.cfg = s.cfg) : PortsHold rate m t := by
  intro p
  rw [hlnk, hop, hcfg, hn]
  exact h p

theorem setNotice_portsHold {rate : Port → BitVec 2} {m : NoticeSet} {s : State} (h : PortsHold rate m s) (n : Notice) :
    PortsHold rate (m ||| n.bit) (setNotice n s) := by
  intro p
  rw [setNotice_get, h p]
  rfl

/-- From no alarm to `s` the keys `l` were raised one after the other, over the plan `plan`, with the notice set `n` on the
ports besides the notices of the alarms themselves. -/
structure Raising (rate : Port → BitVec 2) (n : NoticeSet) (plan : PlanSection) (l : List AlarmKey) (s : State) : Prop where
  unack : ∀ e ∈ s.ccu.alarms, e.state = .activeUnack
  room : s.ccu.alarms.length ≤ 32
  keys : ∀ e ∈ s.ccu.alarms, (e.code, e.source) ∈ l
  first : ∀ k, l.head? = some k → ∃ e ∈ s.ccu.alarms, (e.code, e.source) = k
  table : l.Nodup → s.ccu.alarms = (l.take 32).map (freshEntry s.cal) ∧ s.ccu.tableOverflow = decide (32 < l.length) ∧
    s.ccu.counters.overflows = min (l.length - 32) 65535
  counters : s.ccu.counters = { overflows := s.ccu.counters.overflows, snapshots := s.ccu.counters.snapshots }
  day : s.plan = plan.counting s.cal.isSome s.ccu.alarms.length
  ports : PortsHold rate (n ||| startNotices (!l.isEmpty) (s.ccu.counters.snapshots != 0)) s

section
variable {rate : Port → BitVec 2} {n : NoticeSet} {plan : PlanSection} {l : List AlarmKey} {s : State}

/-- A start begins with no alarm. -/
theorem raising_nil (halarms : s.ccu.alarms = []) (hover : s.ccu.tableOverflow = false) (hcounters : s.ccu.counters = {})
    (hplan : s.plan = plan) (hports : PortsHold rate n s) : Raising rate n plan [] s where
  unack := by simp [halarms]
  room := by simp [halarms]
  keys := by simp [halarms]
  first := by simp
  table := fun _ => by simp [halarms, hover, hcounters]
  counters := by simp [hcounters]
  day := by
    rw [halarms, hplan]
    unfold PlanSection.counting DayRecord.counting
    split <;> rfl
  ports := by simpa [startNotices, hcounters] using hports

theorem Raising.unraised (h : Raising rate n plan l s) {k : AlarmKey} (hk : k ∉ l) : findAlarm k.1 k.2 s = none :=
  findAlarm_none fun e he => Bool.eq_false_iff.mpr fun hhas =>
    hk ((e.has_iff_key k).mp hhas ▸ h.keys e he)

/-- The first key of a longer list is the first of the list, where the list has one. -/
theorem Raising.first_append (h : Raising rate n plan l s) {k : AlarmKey} {P : AlarmKey → Prop} (hl : l = [] → P k)
    (hold : ∀ x, (∃ e ∈ s.ccu.alarms, (e.code, e.source) = x) → P x) : ∀ x, (l ++ [k]).head? = some x → P x := by
  cases l with
  | nil => simpa using hl rfl
  | cons a l => exact fun x hx => hold x (h.first x hx)

theorem isEmpty_append_key (l : List AlarmKey) (k : AlarmKey) : (l ++ [k]).isEmpty = false := by simp

/-- A raise of a key already held only adds an occurrence. -/
theorem Raising.again (h : Raising rate n plan l s) {k : AlarmKey} (hk : ∃ e ∈ s.ccu.alarms, e.has k.1 k.2 = true) :
    Raising rate n plan (l ++ [k]) (updateAlarm k.1 k.2 (AlarmEntry.again s.cal) s) := by
  obtain ⟨e, he, hhas⟩ := hk
  have hmem : k ∈ l := (e.has_iff_key k).mp hhas ▸ h.keys e he
  have hne : l ≠ [] := List.ne_nil_of_mem hmem
  have hentry (a : AlarmEntry) : let a' := if a.has k.1 k.2 then a.again s.cal else a
      a'.state = a.state ∧ a'.code = a.code ∧ a'.source = a.source := by
    by_cases ha : a.has k.1 k.2 = true <;> simp [ha, AlarmEntry.again]
  refine
    { unack := fun a ha => ?_, room := by simpa using h.room, keys := fun a ha => ?_, first := ?_, table := fun hnodup => ?_
      counters := h.counters, day := by simpa using h.day, ports := ?_ }
  · obtain ⟨b, hb, rfl⟩ := List.mem_map.mp ha
    exact (hentry b).1.trans (h.unack b hb)
  · obtain ⟨b, hb, rfl⟩ := List.mem_map.mp ha
    obtain ⟨-, hcode, hsource⟩ := hentry b
    rw [hcode, hsource]
    exact List.mem_append_left _ (h.keys b hb)
  · refine h.first_append (fun hnil => absurd hnil hne) fun x ⟨a, ha, hax⟩ => ⟨_, List.mem_map_of_mem ha, ?_⟩
    obtain ⟨-, hcode, hsource⟩ := hentry a
    rw [hcode, hsource, hax]
  · exact absurd hmem (List.disjoint_right.mp (List.nodup_append'.mp hnodup).2.2 (by simp))
  · exact h.ports.congr (by rw [isEmpty_append_key, List.isEmpty_eq_false_iff.mpr hne]; rfl) rfl rfl rfl

/-- A raise of a new key into a full table overflows: no entry of a start can be evicted (R146). -/
theorem Raising.overflow (h : Raising rate n plan l s) (b : Bool) {k : AlarmKey} (hfull : ¬ s.ccu.alarms.length < 32) :
    Raising rate n plan (l ++ [k]) (raiseIntoFull b k.1 k.2 s) := by
  have hkept : s.ccu.alarms.any (·.state = .clearedUnack) = false ∧ s.ccu.alarms.any (evictable (severity k.1)) = false := by
    constructor <;> refine List.any_eq_false.mpr fun e he => ?_ <;> simp [evictable, h.unack e he]
  have hne : l ≠ [] := by
    intro hnil
    obtain ⟨e, he⟩ := List.exists_mem_of_length_pos (l := s.ccu.alarms) (by omega)
    simpa [hnil] using h.keys e he
  simp only [raiseIntoFull, hkept, Bool.false_eq_true, if_false]
  refine
    { unack := h.unack, room := h.room, keys := fun e he => List.mem_append_left _ (h.keys e he)
      first := h.first_append (fun hnil => absurd hnil hne) fun _ hx => hx, table := fun hnodup => ?_
      counters := ?_, day := h.day, ports := ?_ }
  · obtain ⟨halarms, -, hover⟩ := h.table hnodup.of_append_left
    have hlen : 32 ≤ l.length := by
      have hlength := congrArg List.length halarms
      rw [List.length_map, List.length_take] at hlength
      omega
    refine ⟨by rw [List.take_append_of_le_length hlen]; exact halarms, by simp; omega, ?_⟩
    show inc16 s.ccu.counters.overflows = _
    rw [hover, inc16, List.length_append, List.length_singleton]
    omega
  · show { s.ccu.counters with overflows := inc16 s.ccu.counters.overflows } = _
    rw [h.counters]
    rfl
  · exact (setNotice_portsHold h.ports .alarmRaised).congr (by rw [startNotices_raised, isEmpty_append_key]; rfl) rfl rfl rfl

/-- A new key takes a place of a table with room. -/
theorem Raising.create (h : Raising rate n plan l s) (k : AlarmKey) (hroom : s.ccu.alarms.length < 32) :
    Raising rate n plan (l ++ [k]) (createAlarm false k.1 k.2 s) := by
  refine
    { unack := ?_, room := by simpa using hroom, keys := ?_, first := ?_, table := fun hnodup => ?_
      counters := ?_, day := ?_, ports := ?_ }
  · simp only [createAlarm_alarms, List.mem_append, List.mem_singleton]
    rintro e (he | rfl)
    · exact h.unack e he
    · rfl
  · simp only [createAlarm_alarms, List.mem_append, List.mem_singleton]
    rintro e (he | rfl)
    · exact .inl (h.keys e he)
    · exact .inr rfl
  · simp only [createAlarm_alarms, List.mem_append, List.mem_singleton]
    exact h.first_append (fun _ => ⟨_, .inr rfl, rfl⟩) fun x ⟨e, he, hx⟩ => ⟨e, .inl he, hx⟩
  · obtain ⟨halarms, hover, hcount⟩ := h.table hnodup.of_append_left
    have hlen : l.length < 32 := by
      have hlength := congrArg List.length halarms
      rw [List.length_map, List.length_take] at hlength
      omega
    have hwhole : (l ++ [k]).take 32 = l ++ [k] := List.take_of_length_le (by simp; omega)
    rw [List.take_of_length_le (by omega)] at halarms
    refine ⟨?_, ?_, ?_⟩
    · rw [createAlarm_alarms, halarms, hwhole, List.map_append, createAlarm_cal]
      rfl
    · simp [createAlarm, enteredActive, hover]; omega
    · simp [createAlarm, enteredActive, hcount]; omega
  · simpa [createAlarm, enteredActive] using h.counters
  · rw [createAlarm_alarms, List.length_append, List.length_singleton, createAlarm_cal]
    let entry : AlarmEntry := { code := k.1, source := k.2, raisedAt := s.cal, lastChange := s.cal }
    have hday := PlanSection.counting_succ
      (s := setNotice .alarmRaised { s with ccu := { s.ccu with alarms := s.ccu.alarms ++ [entry] } }) _ h.day
    simpa [createAlarm, enteredActive] using hday
  · have hsnapshots : (createAlarm false k.1 k.2 s).ccu.counters.snapshots = s.ccu.counters.snapshots := by
      simp [createAlarm, enteredActive]
    exact (setNotice_portsHold h.ports .alarmRaised).congr
      (by rw [startNotices_raised, isEmpty_append_key, hsnapshots]; rfl)
      (by simp [createAlarm, enteredActive]; rfl) (by simp) (by simp)

/-- A snapshot adds its notice and its count. -/
theorem Raising.snapshot (h : Raising rate n plan l s) (c : AlarmCode) (x : Source) :
    Raising rate n plan l (takeSnapshot c x s) := by
  unfold takeSnapshot
  split
  · exact h
  · have hports := setNotice_portsHold h.ports .snapshotTaken
    rw [startNotices_snapped] at hports
    refine { h with counters := ?_, ports := ?_ }
    · show { s.ccu.counters with snapshots := inc16 s.ccu.counters.snapshots } = _
      rw [h.counters]
      rfl
    · have hpos : (inc16 s.ccu.counters.snapshots != 0) = true := bne_iff_ne.mpr (by unfold inc16; omega)
      exact hports.congr (congrArg (fun b => n ||| startNotices (!l.isEmpty) b) hpos) rfl rfl rfl

/-- A creation that takes a snapshot, as well as one that does not. -/
theorem createAlarm_eq (b : Bool) (c : AlarmCode) (x : Source) (s : State) :
    createAlarm b c x s =
      if b ∧ s.cfg.snapshotThreshold ≤ severity c then takeSnapshot c x (createAlarm false c x s)
      else createAlarm false c x s := by
  cases b <;> simp [createAlarm, enteredActive]

/-- Each raise of a start adds its key. -/
theorem Raising.raise (h : Raising rate n plan l s) (b : Bool) (k : AlarmKey) :
    Raising rate n plan (l ++ [k]) (raiseWith b k.1 k.2 s) := by
  unfold raiseWith
  cases hf : findAlarm k.1 k.2 s with
  | some e =>
    have he := List.mem_of_find?_eq_some hf
    have hagain := h.again (k := k) ⟨e, he, List.find?_some hf⟩
    simpa only [h.unack e he] using hagain
  | none =>
    by_cases hroom : s.ccu.alarms.length < 32
    · simp only [hroom, if_true]
      rw [createAlarm_eq]
      split
      · exact (h.create k hroom).snapshot k.1 k.2
      · exact h.create k hroom
    · simp only [hroom, if_false]
      exact h.overflow b hroom

end

end Sys2Proof.Machine
end

section
/-! The condition tasks of a start (R170, R176 step 3). -/

namespace Sys2Proof.Machine

/-- No CONDITION task of a component stands in a list. -/
def LacksCondition (l : List Task) (c : Fin 16) : Prop := ∀ x ∈ l, x.trigger = .condition → x.component ≠ c

theorem hasConditionTask_eq_false (c : Fin 16) (s : State) :
    hasConditionTask c s = false ↔ LacksCondition s.plan.tasks c := by
  simp [hasConditionTask, LacksCondition]

/-- A task table with room has a free id. -/
theorem freeId_of_room {s : State} (h : s.plan.tasks.length < 32) : ∃ id, freeId s = some id := by
  refine Option.isSome_iff_exists.mp (Option.isSome_iff_ne_none.mpr fun hnone => ?_)
  have hused : (List.range 255).map (· + 1) ⊆ s.plan.tasks.map (·.id) := by
    intro id hid
    have hno := List.find?_eq_none.mp hnone id hid
    simpa using hno
  have hnodup : ((List.range 255).map (· + 1)).Nodup := List.nodup_range.map (add_left_injective 1)
  have hlen := (hnodup.subperm hused).length_le
  rw [List.length_map, List.length_map, List.length_range] at hlen
  omega

/-- A free id is one of 1..255, not in use, and every lower one is in use. -/
theorem freeId_spec {s : State} {id : Nat} (h : freeId s = some id) :
    1 ≤ id ∧ id ≤ 255 ∧ (∀ x ∈ s.plan.tasks, x.id ≠ id) ∧ ∀ k, 1 ≤ k → k < id → ∃ z ∈ s.plan.tasks, z.id = k := by
  obtain ⟨n, hn, rfl⟩ := List.mem_map.mp (List.mem_of_find?_eq_some h)
  rw [List.mem_range] at hn
  refine ⟨by omega, by omega, freeId_fresh h, fun k hk hlt => ?_⟩
  rw [freeId, List.find?_map, Option.map_eq_some_iff] at h
  obtain ⟨m, hm, hmn⟩ := h
  obtain rfl : m = n := by omega
  have hbelow := (List.find?_range_eq_some.mp hm).2.2 (k - 1) (by omega)
  obtain ⟨z, hz, hzk⟩ : ∃ z ∈ s.plan.tasks, z.id = k - 1 + 1 := by simpa using hbelow
  exact ⟨z, hz, by omega⟩

theorem mem_insertTask_iff {t y : Task} {l : List Task} : y ∈ insertTask t l ↔ y = t ∨ y ∈ l := by
  refine ⟨mem_insertTask, fun h => ?_⟩
  induction l with
  | nil => simpa [insertTask] using h
  | cons x l ih =>
    unfold insertTask
    split
    · simpa using h
    · rcases h with rfl | h
      · exact List.mem_cons_of_mem x (ih (.inl rfl))
      · rcases List.mem_cons.mp h with rfl | h
        · exact List.mem_cons_self
        · exact List.mem_cons_of_mem x (ih (.inr h))

/-- From `s`, with no component waiting, to `u` the components `l` were treated in order of index (R170, R176 step 3). -/
structure Treated (day : Nat) (s : State) (l : List (Fin 16)) (u : State) : Prop where
  frame : u = { s with plan := { s.plan with tasks := u.plan.tasks }, mpl := { s.mpl with waiting := u.mpl.waiting } }
  kept : ∀ x ∈ s.plan.tasks, x ∈ u.plan.tasks
  made : ∀ y ∈ u.plan.tasks, y ∈ s.plan.tasks ∨
    ∃ c ∈ l, s.plan.wear[c].grade2Duration = 86400 ∧ LacksCondition s.plan.tasks c ∧
      y = conditionTask c y.id day s.plan.config[c].conditionDays ∧ 1 ≤ y.id ∧ y.id ≤ 255 ∧
      (∀ x ∈ s.plan.tasks, x.id ≠ y.id) ∧ ∀ k, 1 ≤ k → k < y.id → ∃ z ∈ u.plan.tasks, z.id = k
  waits : ∀ c ∈ l, u.mpl.waiting[c] = true ↔ s.plan.wear[c].grade2Duration = 86400 ∧ LacksCondition u.plan.tasks c
  others : ∀ c, c ∉ l → u.mpl.waiting[c] = false
  crowded : ∀ c, u.mpl.waiting[c] = true → 32 ≤ u.plan.tasks.length ∧
    ∀ k ∈ l, c < k → s.plan.wear[k].grade2Duration = 86400 → LacksCondition s.plan.tasks k → u.mpl.waiting[k] = true
  ordered : TasksOrdered s → TasksOrdered u

section
variable {day : Nat} {s u : State} {l : List (Fin 16)}

theorem treated_nil (h : ∀ c : Fin 16, s.mpl.waiting[c] = false) : Treated day s [] s where
  frame := rfl
  kept := fun _ hx => hx
  made := fun _ hy => .inl hy
  waits := by simp
  others := fun c _ => h c
  crowded := fun c hc => by simp [h c] at hc
  ordered := id

theorem Treated.wear (h : Treated day s l u) : u.plan.wear = s.plan.wear := by rw [h.frame]

theorem Treated.config (h : Treated day s l u) : u.plan.config = s.plan.config := by rw [h.frame]

/-- A component not yet treated has a CONDITION task where it had one before. -/
theorem Treated.lacks_iff (h : Treated day s l u) {c : Fin 16} (hc : c ∉ l) :
    LacksCondition u.plan.tasks c ↔ LacksCondition s.plan.tasks c := by
  refine ⟨fun hl x hx => hl x (h.kept x hx), fun hl y hy hcond => ?_⟩
  rcases h.made y hy with hold | ⟨k, hk, -, -, hyk, -⟩
  · exact hl y hold hcond
  · rw [hyk]
    exact fun hkc => hc (hkc ▸ hk)

/-- A component without a full duration, or with a CONDITION task, is left as it is. -/
theorem Treated.skip (h : Treated day s l u) {c : Fin 16} (hc : c ∉ l)
    (hno : ¬ (s.plan.wear[c].grade2Duration = 86400 ∧ LacksCondition u.plan.tasks c)) : Treated day s (l ++ [c]) u where
  frame := h.frame
  kept := h.kept
  made := fun y hy => (h.made y hy).imp_right fun ⟨k, hk, hrest⟩ => ⟨k, List.mem_append_left _ hk, hrest⟩
  waits := fun k hk => by
    rcases List.mem_append.mp hk with hk | hk
    · exact h.waits k hk
    · obtain rfl := List.mem_singleton.mp hk
      simp only [h.others k hc, Bool.false_eq_true, false_iff]
      exact hno
  others := fun k hk => h.others k fun hkl => hk (List.mem_append_left _ hkl)
  crowded := fun k hk => ⟨(h.crowded k hk).1, fun j hj hlt hfull hlacks => by
    rcases List.mem_append.mp hj with hj | hj
    · exact (h.crowded k hk).2 j hj hlt hfull hlacks
    · obtain rfl := List.mem_singleton.mp hj
      exact absurd ⟨hfull, (h.lacks_iff hc).mpr hlacks⟩ hno⟩
  ordered := h.ordered

/-- A component that needs a CONDITION task has one where the table has room. -/
theorem Treated.make (h : Treated day s l u) {c : Fin 16} (hc : c ∉ l) (hfull : s.plan.wear[c].grade2Duration = 86400)
    (hlacks : LacksCondition u.plan.tasks c) (hroom : u.plan.tasks.length < 32) {id : Nat} (hid : freeId u = some id) :
    Treated day s (l ++ [c]) (withTasks (insertTask (conditionTask c id day u.plan.config[c].conditionDays)) u) := by
  obtain ⟨hlow, hhigh, hfresh, hbelow⟩ := freeId_spec hid
  have hnone (k : Fin 16) : u.mpl.waiting[k] = false := by
    refine Bool.eq_false_iff.mpr fun hk => ?_
    have := (h.crowded k hk).1
    omega
  refine
    { frame := ?_, kept := fun x hx => mem_insertTask_iff.mpr (.inr (h.kept x hx)), made := fun y hy => ?_
      waits := fun k hk => ?_, others := fun k _ => hnone k, crowded := fun k hk => ?_, ordered := fun ho => ?_ }
  · show withTasks _ u = _
    rw [h.frame]
    rfl
  · rcases mem_insertTask hy with rfl | hy
    · refine .inr ⟨c, by simp, hfull, (h.lacks_iff hc).mp hlacks, ?_, hlow, hhigh, fun x hx => hfresh x (h.kept x hx),
        fun k hk hlt => ?_⟩
      · rw [h.config]; rfl
      · obtain ⟨z, hz, hzk⟩ := hbelow k hk hlt
        exact ⟨z, mem_insertTask_iff.mpr (.inr hz), hzk⟩
    · refine (h.made y hy).imp_right fun ⟨k, hk, hf, hl, heq, h1, h2, hnew, hused⟩ =>
        ⟨k, List.mem_append_left _ hk, hf, hl, heq, h1, h2, hnew, fun j hj hlt => ?_⟩
      obtain ⟨z, hz, hzj⟩ := hused j hj hlt
      exact ⟨z, mem_insertTask_iff.mpr (.inr hz), hzj⟩
  · simp only [withTasks, hnone k, Bool.false_eq_true, false_iff, not_and]
    rcases List.mem_append.mp hk with hk | hk
    · intro hf hl
      have hwaits := (h.waits k hk).mpr ⟨hf, fun x hx => hl x (mem_insertTask_iff.mpr (.inr hx))⟩
      simp [hnone k] at hwaits
    · obtain rfl := List.mem_singleton.mp hk
      exact fun _ hl => hl _ (mem_insertTask_iff.mpr (.inl rfl)) rfl rfl
  · simp [withTasks, hnone k] at hk
  · exact ⟨by simp only [withTasks, length_insertTask]; omega, insertTask_rising (h.ordered ho).2 hfresh⟩

/-- A component that needs a CONDITION task waits where the table is full. -/
theorem Treated.wait (h : Treated day s l u) {c : Fin 16} (hc : c ∉ l) (hbefore : ∀ k ∈ l, k < c)
    (hfull : s.plan.wear[c].grade2Duration = 86400) (hlacks : LacksCondition u.plan.tasks c)
    (hroom : ¬ u.plan.tasks.length < 32) : Treated day s (l ++ [c]) (withWaiting (·.set c true) u) := by
  have hself : (withWaiting (·.set c true) u).mpl.waiting[c] = true := by simp [withWaiting]
  have hother {k : Fin 16} (hk : k ≠ c) : (withWaiting (·.set c true) u).mpl.waiting[k] = u.mpl.waiting[k] := by
    simp only [withWaiting, Fin.getElem_fin]
    exact Vector.getElem_set_ne _ _ fun h => hk (Fin.ext h.symm)
  refine
    { frame := ?_, kept := h.kept
      made := fun y hy => (h.made y hy).imp_right fun ⟨k, hk, hrest⟩ => ⟨k, List.mem_append_left _ hk, hrest⟩
      waits := fun k hk => ?_, others := fun k hk => ?_, crowded := fun k hk => ?_, ordered := h.ordered }
  · show withWaiting _ u = _
    rw [h.frame]
    rfl
  · rcases List.mem_append.mp hk with hk | hk
    · rw [hother fun hkc => hc (hkc ▸ hk)]
      exact h.waits k hk
    · obtain rfl := List.mem_singleton.mp hk
      exact ⟨fun _ => ⟨hfull, hlacks⟩, fun _ => hself⟩
  · rw [hother fun hkc => hk (by simp [hkc])]
    exact h.others k fun hkl => hk (List.mem_append_left _ hkl)
  · refine ⟨not_lt.mp hroom, fun j hj hlt hf hl => ?_⟩
    by_cases hjc : j = c
    · exact hjc ▸ hself
    · have hjl : j ∈ l := (List.mem_append.mp hj).resolve_right fun h => hjc (List.mem_singleton.mp h)
      by_cases hkc : k = c
      · exact absurd (hkc ▸ hlt) (hbefore j hjl).asymm
      · rw [hother hkc] at hk
        rw [hother hjc]
        exact (h.crowded k hk).2 j hjl hlt hf hl

/-- The treatment of one more component of a start, on a set calendar. -/
theorem Treated.step (h : Treated day s l u) {c : Fin 16} (hc : c ∉ l) (hbefore : ∀ k ∈ l, k < c)
    (hday : today s = some day) : Treated day s (l ++ [c]) (treatFullDuration false u c) := by
  have hday' : today u = some day := by rw [h.frame]; exact hday
  unfold treatFullDuration
  rw [h.wear]
  by_cases hneed : s.plan.wear[c].grade2Duration = 86400 ∧ LacksCondition u.plan.tasks c
  · obtain ⟨hfull, hlacks⟩ := hneed
    have hhas := (hasConditionTask_eq_false c u).mpr hlacks
    simp only [hfull, hhas, decide_true, Bool.not_false, Bool.and_self, if_true, treatCondition, hday', Bool.false_eq_true,
      if_false]
    by_cases hroom : u.plan.tasks.length < 32
    · obtain ⟨id, hid⟩ := freeId_of_room hroom
      have hdrop (t : State) (ht : t.mpl.waiting[c] = false) : dropWaiting c t = t := if_neg (by simp [ht])
      simp only [hroom, if_true, hid]
      rw [hdrop (withTasks _ u) (h.others c hc)]
      exact h.make hc hfull hlacks hroom hid
    · simp only [hroom, if_false]
      exact h.wait hc hbefore hfull hlacks hroom
  · have hskip : (decide (s.plan.wear[c].grade2Duration = 86400) && !hasConditionTask c u) = false := by
      rw [← hasConditionTask_eq_false] at hneed
      simpa using hneed
    simp only [hskip, Bool.false_eq_true, if_false]
    exact h.skip hc hneed

/-- The treatment of the components `m`, in rising order behind those of `l`. -/
theorem Treated.steps {m : List (Fin 16)} (h : Treated day s l u) (hm : (l ++ m).Pairwise (· < ·))
    (hday : today s = some day) : Treated day s (l ++ m) (m.foldl (treatFullDuration false) u) := by
  induction m generalizing l u with
  | nil => simpa using h
  | cons c m ih =>
    have hbefore : ∀ k ∈ l, k < c := fun k hk => (List.pairwise_append.mp hm).2.2 k hk c List.mem_cons_self
    have hnext := ih (h.step (fun hcl => lt_irrefl c (hbefore c hcl)) hbefore hday) (by simpa using hm)
    rwa [List.append_assoc] at hnext

end

end Sys2Proof.Machine
end

section
/-! The terms of a due date, and the tasks that a recompute settles (R164, R167 to R169). -/

namespace Sys2Proof.Machine

/-! ## The projection (R164) -/

/-- The summaries of a rate are the seven latest eligible ones, oldest first where R164's term has them newest first. -/
theorem rateDays_eq (c : Fin 16) (day : Nat) (s : State) :
    (rateDays c day s).reverse =
      (s.plan.days.reverse.filter fun d =>
        (s.plan.wear[c].countingSince.all fun x => x < d.day) && day ≤ d.day + 14).take 7 := by
  have hsame : (fun d : DaySummary =>
        (s.plan.wear[c].countingSince.all fun x => decide (x < d.day)) && decide (day ≤ d.day + 14)) =
      fun d => (match s.plan.wear[c].countingSince with
        | none => true
        | some since => decide (since < d.day)) && decide (day - 14 ≤ d.day) := by
    funext d
    have hdays : decide (day ≤ d.day + 14) = decide (day - 14 ≤ d.day) := decide_eq_decide.mpr (by omega)
    rw [hdays]
    cases s.plan.wear[c].countingSince <;> rfl
  rw [hsame, List.filter_reverse, List.take_reverse]
  rfl

theorem rate_eq_rateBy (c : Fin 16) (day : Nat) (s : State) : rate c day s = rateBy c day s := by
  unfold rate rateBy
  simp only [← rateDays_eq, List.reverse_eq_nil_iff, List.map_reverse, List.sum_reverse, List.length_reverse]
  cases rateDays c day s with
  | nil => rfl
  | cons d l => simp

theorem projectedDay_eq_projectedBy (c : Fin 16) (day target : Nat) (s : State) :
    projectedDay c day target s = projectedBy c day target s := by
  unfold projectedDay projectedBy daysToTarget
  rw [rate_eq_rateBy]
  by_cases hreached : target ≤ s.plan.wear[c].damage
  · simp only [if_pos hreached]
    rfl
  · simp only [if_neg hreached]
    cases hrate : rateBy c day s with
    | none => rfl
    | some r =>
      cases r with
      | zero => rfl
      | succ r => simp [ceilDiv]

/-! ## The due date (R167) -/

theorem damageTarget_eq_targetBy (x : Task) (s : State) : damageTarget x s = targetBy x s := rfl

theorem triggerHasDamage_iff (x : Trigger) : triggerHasDamage x = true ↔ x = .damage ∨ x = .both := by
  cases x <;> simp [triggerHasDamage]

/-- The target-reached day that a recompute on a day leaves a task with a damage part. -/
theorem reachTarget_targetReached {day : Nat} {x : Task} {s : State} (h : triggerHasDamage x.trigger = true) :
    (reachTarget day x s).targetReached =
      match x.targetReached with
      | some d => some d
      | none => if targetBy x s ≤ s.plan.wear[x.component].damage then some day else none := by
  unfold reachTarget
  rw [damageTarget_eq_targetBy, h]
  cases hreached : x.targetReached with
  | some d => exact hreached
  | none =>
    by_cases hfull : targetBy x s ≤ s.plan.wear[x.component].damage
    · simp only [decide_eq_true hfull, if_pos hfull, Option.isNone_none, Bool.and_self, if_true]
    · simp only [decide_eq_false hfull, if_neg hfull, Bool.and_false, Bool.false_eq_true, if_false, hreached]

theorem damageDue_eq (day : Nat) (x : Task) (s : State) :
    damageDue day x s =
      if x.trigger = .damage ∨ x.trigger = .both then
        match x.targetReached with
        | some d => some d
        | none =>
          if targetBy x s ≤ s.plan.wear[x.component].damage then some day else projectedBy x.component day (targetBy x s) s
      else none := by
  unfold damageDue
  by_cases h : triggerHasDamage x.trigger = true
  · rw [if_pos h, if_pos ((triggerHasDamage_iff _).mp h), reachTarget_targetReached h, damageTarget_eq_targetBy,
      projectedDay_eq_projectedBy]
    cases x.targetReached with
    | some d => rfl
    | none => by_cases hfull : targetBy x s ≤ s.plan.wear[x.component].damage <;> simp only [hfull, if_true, if_false]
  · rw [if_neg h, if_neg fun hd => h ((triggerHasDamage_iff _).mpr hd)]

/-- The due date of the model is that of R167. -/
theorem dueDate_eq_dueBy (day : Nat) (x : Task) (s : State) : dueDate day x s = dueBy day x s := by
  have hcalendar : calendarDue x = if x.trigger = .damage then none else x.intervalDays.map (x.lastDone + ·) := by
    unfold calendarDue
    cases x.trigger <;> rfl
  unfold dueDate dueFrom earlier dueBy
  rw [hcalendar, damageDue_eq] <;> rfl

/-- A due date reads the configuration, the wear and the days of PLAN alone. -/
theorem dueDate_congr {s t : State} (hconfig : t.plan.config = s.plan.config) (hwear : t.plan.wear = s.plan.wear)
    (hdays : t.plan.days = s.plan.days) (day : Nat) (x : Task) : dueDate day x t = dueDate day x s := by
  simp only [dueDate, damageDue, reachTarget, damageTarget, projectedDay, daysToTarget, rate, rateDays, hconfig, hwear, hdays]
  rfl

/-- A recompute changes the state of a task and its target-reached day (R167, R168). -/
theorem recomputedTask_eq (day : Nat) (x : Task) (s : State) :
    recomputedTask day x s =
      { x with
        state := stateFor day x.notice (dueDate day x s), targetReached := (reachTarget day x s).targetReached } := by
  unfold recomputedTask reachTarget
  split <;> rfl

/-- A task keeps its due date through the recompute of the day. -/
theorem dueDate_recomputedTask (day : Nat) (x : Task) (s : State) :
    dueDate day (recomputedTask day x s) s = dueDate day x s := by
  rw [recomputedTask_eq]
  have hdamage (st : TaskState) :
      damageDue day { x with state := st, targetReached := (reachTarget day x s).targetReached } s = damageDue day x s := by
    rw [damageDue_eq, damageDue_eq]
    by_cases hd : x.trigger = .damage ∨ x.trigger = .both
    · simp only [if_pos hd]
      rw [reachTarget_targetReached ((triggerHasDamage_iff _).mpr hd)]
      cases x.targetReached with
      | some d => rfl
      | none =>
        have hsame : targetBy { x with state := st, targetReached := none } s = targetBy x s := rfl
        by_cases hfull : targetBy x s ≤ s.plan.wear[x.component].damage
        · simp only [if_pos hfull]
        · simp only [if_neg hfull]
          rw [← hsame] at hfull
          exact if_neg hfull
    · simp only [if_neg hd]
  exact congrArg (fun d => dueFrom x (earlier (calendarDue x) d)) (hdamage _)

/-! ## Settled tasks (R167 to R169) -/

/-- The planner contribution is the least ceiling of a task past its grace, and 100 where there is none (R169). -/
theorem plannerValue_least (day : Nat) (s : State) :
    let past (x : Task) : Prop := x.state = .overdue ∧ ∃ due, dueDate day x s = some due ∧ due + x.grace < day
    plannerValue day s ≤ 100 ∧ (∀ x ∈ s.plan.tasks, past x → ∀ d, x.derate = some d → plannerValue day s ≤ d) ∧
      (plannerValue day s = 100 ∨ ∃ x ∈ s.plan.tasks, past x ∧ x.derate = some (plannerValue day s)) := by
  have hpast (x : Task) : pastGrace day s x = true ↔
      x.state = .overdue ∧ ∃ due, dueDate day x s = some due ∧ due + x.grace < day := by
    unfold pastGrace
    cases dueDate day x s <;> simp
  have hmem (d : Nat) : d ∈ (s.plan.tasks.filter (pastGrace day s)).filterMap (·.derate) ↔
      ∃ x ∈ s.plan.tasks, pastGrace day s x = true ∧ x.derate = some d := by
    simp [List.mem_filterMap, and_assoc]
  unfold plannerValue
  refine ⟨(foldl_min_le _ 100).1, fun x hx hp d hd => (foldl_min_le _ 100).2 d ?_, ?_⟩
  · exact (hmem d).mpr ⟨x, hx, (hpast x).mpr hp, hd⟩
  · refine (foldl_min_mem _ 100).imp_right fun h => ?_
    obtain ⟨x, hx, hp, hd⟩ := (hmem _).mp h
    exact ⟨x, hx, (hpast x).mp hp, hd⟩

/-- The tasks are settled where each is as the recompute of today leaves it and the planner contribution is that of R169. -/
theorem tasksSettled_of_recomputed {u t : State} {old : List Task} (hconfig : t.plan.config = u.plan.config)
    (hwear : t.plan.wear = u.plan.wear) (hdays : t.plan.days = u.plan.days) (hday : today t = today u)
    (htasks : ∀ day, today u = some day → t.plan.tasks = old.map fun x => recomputedTask day x u)
    (hplanner : ∀ day, today u = some day → t.ccu.contributions.planner = some (plannerValue day t)) : TasksSettled t := by
  intro day hnow
  rw [hday] at hnow
  have hdue (x : Task) : dueBy day x t = dueDate day x u := by
    rw [← dueDate_eq_dueBy, dueDate_congr hconfig hwear hdays]
  have hleast := plannerValue_least day t
  simp only [dueDate_eq_dueBy] at hleast
  refine ⟨fun x hx => ?_, _, hplanner day hnow, hleast⟩
  rw [htasks day hnow] at hx
  obtain ⟨y, -, rfl⟩ := List.mem_map.mp hx
  refine ⟨?_, fun htrigger hfull => ?_⟩
  · rw [hdue, dueDate_recomputedTask, recomputedTask_eq]
    rfl
  · rw [recomputedTask_eq] at htrigger hfull ⊢
    have hfull' : targetBy y u ≤ u.plan.wear[y.component].damage := by
      have hsame : targetBy y t = targetBy y u := by simp only [targetBy, hconfig]
      rw [← hsame, ← hwear]
      exact hfull
    have hreached := reachTarget_targetReached (day := day) (x := y) (s := u) ((triggerHasDamage_iff _).mpr htrigger)
    rw [if_pos hfull'] at hreached
    dsimp only
    rw [hreached]
    cases y.targetReached <;> simp

end Sys2Proof.Machine
end

section
/-! The Planner's part of a start (R157, R162, R175, R176). -/

namespace Sys2Proof.Machine

/-! ## Grades and days -/

/-- A component's wear without grade-2 time. -/
def ComponentWear.belowTwo (w : ComponentWear) : ComponentWear := { w with grade2Since := none, grade2Duration := 0 }

/-- The wear of every component after the posts of a start (R157). -/
def settledWear (s : State) : Vector ComponentWear 16 :=
  Vector.ofFn fun c => if componentGrade s c < 2 then s.plan.wear[c].belowTwo else s.plan.wear[c]

/-- The settlement of the components `l`, for grades that stand. -/
theorem foldl_settle {l : List (Fin 16)} (hl : l.Nodup) (below : Fin 16 → Bool) (t : State) :
    l.foldl (fun t c => if below c then withWear c ComponentWear.belowTwo t else t) t =
      let wear := Vector.ofFn fun c => if c ∈ l ∧ below c then t.plan.wear[c].belowTwo else t.plan.wear[c]
      { t with plan := { t.plan with wear := wear } } := by
  induction l generalizing t with
  | nil =>
    have hsame : (Vector.ofFn fun c : Fin 16 => t.plan.wear[c]) = t.plan.wear := by ext; simp
    simp only [List.foldl_nil, List.not_mem_nil, false_and, if_false]
    rw [hsame]
  | cons c l ih =>
    obtain ⟨hc, hl⟩ := List.nodup_cons.mp hl
    rw [List.foldl_cons, ih hl]
    by_cases hb : below c = true
    · rw [if_pos hb]
      have hwear : (fun k : Fin 16 => if k ∈ l ∧ below k = true then
            (withWear c ComponentWear.belowTwo t).plan.wear[k].belowTwo else
            (withWear c ComponentWear.belowTwo t).plan.wear[k]) =
          fun k => if k ∈ c :: l ∧ below k = true then t.plan.wear[k].belowTwo else t.plan.wear[k] := by
        funext k
        by_cases hk : k = c
        · subst hk
          simp [withWear, hc, hb]
        · have hother : (withWear c ComponentWear.belowTwo t).plan.wear[k] = t.plan.wear[k] := by
            simp only [withWear, Fin.getElem_fin]
            exact Vector.getElem_set_ne _ _ fun h => hk (Fin.ext h.symm)
          rw [hother]
          simp only [List.mem_cons, hk, false_or]
      rw [hwear]
      rfl
    · rw [if_neg hb]
      have hwear : (fun k : Fin 16 => if k ∈ l ∧ below k = true then t.plan.wear[k].belowTwo else t.plan.wear[k]) =
          fun k => if k ∈ c :: l ∧ below k = true then t.plan.wear[k].belowTwo else t.plan.wear[k] := by
        funext k
        by_cases hk : k = c
        · subst hk
          simp [hb]
        · simp only [List.mem_cons, hk, false_or]
      rw [hwear]

theorem settleStartGrades_eq (s : State) :
    settleStartGrades s = { s with plan := { s.plan with wear := settledWear s } } := by
  have hfold := foldl_settle (List.nodup_finRange 16) (fun c => decide (componentGrade s c < 2)) s
  simp only [List.mem_finRange, true_and, decide_eq_true_eq] at hfold
  exact hfold

/-- The days of a start: the open day record, the ring and the order-dropped count. -/
def withDays (d : OpenDay × List DaySummary × Nat) (s : State) : State :=
  { s with plan := { s.plan with openDay := d.1, days := d.2.1 }, mpl := { s.mpl with orderDropped := d.2.2 } }

theorem withDays_same {s : State} (h : s.mpl.orderDropped = 0) : withDays (s.plan.openDay, s.plan.days, 0) s = s := by
  unfold withDays
  rw [← h]

/-- A day summary takes its place in a ring of 31 (R162 step 1). -/
theorem length_thirtyTwo_drop (l : List DaySummary) (x : DaySummary) :
    (if (l ++ [x]).length = 32 then (l ++ [x]).drop 1 else l ++ [x]) =
      (if l.length = 31 then l.drop 1 else l) ++ [x] := by
  by_cases h : l.length = 31
  · rw [if_pos h, if_pos (by simp [h]), List.drop_append_of_le_length (by omega)]
  · rw [if_neg h, if_neg (by simpa using h)]

/-- The open day, the ring and the order-dropped count of a start (R176 steps 1 and 2). -/
theorem startDay_eq {s : State} (h : s.mpl.orderDropped = 0) : startDay s = withDays (daysAtStart s.plan s.cal) s := by
  have hsame := withDays_same h
  unfold startDay daysAtStart today
  rcases hcal : s.cal with _ | now
  · exact hsame.symm
  rcases hday : s.plan.openDay.day with _ | d
  · simp only [Option.map_some, withDays]
    rw [← h, hcal]
  by_cases hlate : now.day ≤ d
  · simp only [Option.map_some, if_pos hlate, if_neg (not_lt.mpr hlate)]
    exact hsame.symm
  simp only [Option.map_some, if_neg hlate, if_pos (not_le.mp hlate)]
  unfold closeDay
  rcases hlast : s.plan.days.getLast? with _ | newest
  · simp only [Option.all_none, if_true, length_thirtyTwo_drop, openNewDay, withDays]
    rw [← h]
  · by_cases hnew : newest.day < d
    · simp only [Option.all_some, decide_eq_true hnew, if_true, length_thirtyTwo_drop, openNewDay, withDays]
      rw [← h]
    · simp only [Option.all_some, decide_eq_false hnew, Bool.false_eq_true, if_false, openNewDay, withDays, h]
      rfl

end Sys2Proof.Machine
end

section
/-! What the Planner's actions leave at a start (R170, R176). -/

namespace Sys2Proof.Machine

/-- A start's state before its condition tasks: grades settled and days brought to today (R157, R176 steps 1 and 2). -/
def datedStart (u : State) : State :=
  withDays (daysAtStart u.plan u.cal) { u with plan := { u.plan with wear := settledWear u } }

@[simp] theorem datedStart_cal (u : State) : (datedStart u).cal = u.cal := rfl

@[simp] theorem datedStart_ccu (u : State) : (datedStart u).ccu = u.ccu := rfl

@[simp] theorem datedStart_tasks (u : State) : (datedStart u).plan.tasks = u.plan.tasks := rfl

@[simp] theorem datedStart_config (u : State) : (datedStart u).plan.config = u.plan.config := rfl

@[simp] theorem datedStart_waiting (u : State) : (datedStart u).mpl.waiting = u.mpl.waiting := rfl

theorem takeActions_mplStart {u : State} (h : u.mpl.orderDropped = 0) :
    takeActions mplStart u =
      startPlannerPost (recomputeQuietly ((List.finRange 16).foldl (treatFullDuration false) (datedStart u))) := by
  have hdated : startDay (settleStartGrades u) = datedStart u := by
    rw [settleStartGrades_eq]
    exact startDay_eq h
  have hfold (l : List (Fin 16)) (s : State) :
      takeActions (l.map fun c s => treatFullDuration false s c) s = l.foldl (treatFullDuration false) s := by
    rw [takeActions, List.foldl_map]
  rw [mplStart, takeActions_append, takeActions_append, hfold]
  simp only [takeActions_cons, takeActions_nil, hdated]

/-- A state with what the tasks of another depend on. -/
structure SameTasks (w t : State) : Prop where
  tasks : t.plan.tasks = w.plan.tasks
  config : t.plan.config = w.plan.config
  wear : t.plan.wear = w.plan.wear
  days : t.plan.days = w.plan.days
  cal : t.cal = w.cal
  waiting : t.mpl.waiting = w.mpl.waiting
  planner : t.ccu.contributions.planner = w.ccu.contributions.planner

/-- The Planner's actions of a start, from `u` to `w`. -/
structure Planned (u w : State) : Prop where
  frame : w =
    { datedStart u with
      plan := { (datedStart u).plan with tasks := w.plan.tasks }
      mpl := { (datedStart u).mpl with waiting := w.mpl.waiting }
      ccu :=
        { (datedStart u).ccu with
          contributions := { (datedStart u).ccu.contributions with planner := w.ccu.contributions.planner } } }
  undated : u.cal = none → w.ccu.contributions.planner = some 100
  tasks : ∀ t, SameTasks w t → StartTasks u.plan t
  ordered : TasksOrdered u → TasksOrdered w

/-- Without a today no condition task is made and no component waits (log entry 66). -/
theorem treatFullDuration_undated {s : State} (h : today s = none) (c : Fin 16) : treatFullDuration false s c = s := by
  simp [treatFullDuration, treatCondition, h]

theorem planned_undated {u : State} (hcal : u.cal = none) (hwaiting : u.mpl.waiting = Vector.replicate 16 false)
    (hdropped : u.mpl.orderDropped = 0) : Planned u (takeActions mplStart u) := by
  have htoday : today (datedStart u) = none := by simp [today, hcal]
  have hfold : (List.finRange 16).foldl (treatFullDuration false) (datedStart u) = datedStart u :=
    List.foldl_fixed' (treatFullDuration_undated htoday) _
  have hw : takeActions mplStart u = recordContribution .planner 100 (datedStart u) := by
    rw [takeActions_mplStart hdropped, hfold]
    simp [recomputeQuietly, startPlannerPost, htoday]
  rw [hw]
  refine { frame := ?_, undated := fun _ => rfl, tasks := fun t ht => ?_
           ordered := fun h => by simpa [TasksOrdered, recordContribution] using h }
  · generalize datedStart u = d
    rfl
  have htasks : t.plan.tasks = u.plan.tasks := ht.tasks
  have hnone : t.mpl.waiting = Vector.replicate 16 false := by simp [ht.waiting, hwaiting]
  have hcal' : t.cal = none := by simp [ht.cal, hcal]
  refine ⟨fun _ => ⟨htasks, hnone⟩, fun x hx => ⟨x, htasks ▸ hx, rfl⟩, fun y hy => .inl ⟨y, htasks ▸ hy, rfl⟩,
    fun now hnow => ?_, fun c k hc => ?_, fun day hday => ?_⟩
  · simp [hcal'] at hnow
  · simp [hnone] at hc
  · simp [today, hcal'] at hday

/-- A recompute keeps all of a task but its state and its target-reached day. -/
theorem recomputedTask_renewed (day : Nat) (x : Task) (s : State) :
    recomputedTask day x s =
      { x with state := (recomputedTask day x s).state, targetReached := (recomputedTask day x s).targetReached } := by
  rw [recomputedTask_eq]

/-- A recompute of a CONDITION task of the part changes its state alone (R167). -/
theorem recomputedTask_conditionTask (day : Nat) (c : Fin 16) (id created days : Nat) (s : State) :
    recomputedTask day (conditionTask c id created days) s =
      { conditionTask c id created days with state := (recomputedTask day (conditionTask c id created days) s).state } := by
  rw [recomputedTask_eq]
  rfl

theorem lacksCondition_map {day : Nat} {s : State} {l : List Task} {c : Fin 16} :
    LacksCondition (l.map fun x => recomputedTask day x s) c ↔ LacksCondition l c := by
  simp [LacksCondition, recomputedTask_eq]

/-- The planner contribution reads the configuration, the wear, the days and the tasks of PLAN alone. -/
theorem plannerValue_congr {s t : State} (hconfig : t.plan.config = s.plan.config) (hwear : t.plan.wear = s.plan.wear)
    (hdays : t.plan.days = s.plan.days) (htasks : t.plan.tasks = s.plan.tasks) (day : Nat) :
    plannerValue day t = plannerValue day s := by
  have hpast : pastGrace day t = pastGrace day s := by
    funext x
    simp only [pastGrace, dueDate_congr hconfig hwear hdays]
  rw [plannerValue, plannerValue, hpast, htasks]

/-- The tasks of a start with a today, from the treatment of its components. -/
theorem Treated.startTasks {u v t : State} {now : Timestamp}
    (h : Treated now.day (datedStart u) (List.finRange 16) v) (hcal : u.cal = some now)
    (ht : SameTasks (startPlannerPost (recomputeQuietly v)) t) : StartTasks u.plan t := by
  have htoday : today v = some now.day := by rw [h.frame]; simp [today, hcal]
  have hquiet : recomputeQuietly v = withTasks (List.map fun x => recomputedTask now.day x v) v := by
    simp [recomputeQuietly, htoday]
  have hvcal : v.cal = some now := by rw [h.frame]; simp [hcal]
  have hcal' : t.cal = some now := by rw [ht.cal, hquiet]; exact hvcal
  have htasks : t.plan.tasks = v.plan.tasks.map fun x => recomputedTask now.day x v := by rw [ht.tasks, hquiet]; rfl
  have hconfig : t.plan.config = v.plan.config := by rw [ht.config, hquiet]; rfl
  have hwear : t.plan.wear = v.plan.wear := by rw [ht.wear, hquiet]; rfl
  have hdays : t.plan.days = v.plan.days := by rw [ht.days, hquiet]; rfl
  have hwaiting : t.mpl.waiting = v.mpl.waiting := by rw [ht.waiting, hquiet]; rfl
  have htoday' : today t = today v := by rw [htoday, today, hcal']; rfl
  have hplanner : t.ccu.contributions.planner = some (plannerValue now.day (recomputeQuietly v)) := by
    rw [ht.planner, startPlannerPost]
    simp only [hquiet, today, withTasks, recordContribution, hvcal, Option.map_some]
    rfl
  have hfull (c : Fin 16) : t.plan.wear[c].grade2Duration = (datedStart u).plan.wear[c].grade2Duration := by
    rw [hwear, h.wear]
  have hlacks (c : Fin 16) : LacksCondition t.plan.tasks c ↔ LacksCondition v.plan.tasks c := by
    rw [htasks, lacksCondition_map]
  have hmem (y : Task) : y ∈ t.plan.tasks ↔ ∃ x ∈ v.plan.tasks, recomputedTask now.day x v = y := by
    rw [htasks, List.mem_map]
  refine ⟨fun hnone => ?_, fun x hx => ?_, fun y hy => ?_, fun now' hnow c => ?_, fun c k hc => ?_, ?_⟩
  · simp [hcal'] at hnone
  · exact ⟨_, (hmem _).mpr ⟨x, h.kept x hx, rfl⟩, recomputedTask_renewed _ _ _⟩
  · obtain ⟨x, hx, rfl⟩ := (hmem y).mp hy
    refine (h.made x hx).imp (fun hold => ⟨x, hold, recomputedTask_renewed _ _ _⟩) ?_
    rintro ⟨c, -, hfl, hlk, hxc, hlow, hhigh, hfresh, hbelow⟩
    have hbelow' : ∀ k, 1 ≤ k → k < x.id → ∃ z ∈ t.plan.tasks, z.id = k := fun k hk hlt => by
      obtain ⟨z, hz, rfl⟩ := hbelow k hk hlt
      exact ⟨_, (hmem _).mpr ⟨z, hz, rfl⟩, by rw [recomputedTask_eq]⟩
    rw [datedStart_config] at hxc
    rw [datedStart_tasks] at hfresh hlk
    generalize x.id = id at hxc hlow hhigh hfresh hbelow'
    subst hxc
    rw [recomputedTask_conditionTask]
    exact ⟨now, hcal', (hfull c).trans hfl, hlk, hlow, hhigh, hfresh, hbelow', rfl⟩
  · obtain rfl : now = now' := by simpa [hcal'] using hnow
    rw [hwaiting, h.waits c (List.mem_finRange c), ← hfull]
    exact and_congr_right fun _ => (hlacks c).symm
  · rw [hwaiting] at hc
    obtain ⟨hlen, hlater⟩ := h.crowded c hc
    refine ⟨by rw [htasks, List.length_map]; exact hlen, fun hlt hfl hlk => ?_⟩
    rw [hwaiting]
    exact hlater k (List.mem_finRange k) hlt (hfull k ▸ hfl) hlk
  · refine tasksSettled_of_recomputed (old := v.plan.tasks) hconfig hwear hdays htoday' (fun day hday => ?_) fun day hday => ?_
    · obtain rfl : now.day = day := by simpa [htoday] using hday
      exact htasks
    · obtain rfl : now.day = day := by simpa [htoday] using hday
      rw [hplanner, plannerValue_congr (t := t) (s := recomputeQuietly v)] <;> rw [hquiet]
      · exact hconfig
      · exact hwear
      · exact hdays
      · exact htasks

theorem planned_dated {u : State} {now : Timestamp} (hcal : u.cal = some now)
    (hwaiting : u.mpl.waiting = Vector.replicate 16 false) (hdropped : u.mpl.orderDropped = 0) :
    Planned u (takeActions mplStart u) := by
  have hnone (c : Fin 16) : (datedStart u).mpl.waiting[c] = false := by
    show u.mpl.waiting[c] = false
    simp [hwaiting]
  have h := (treated_nil (day := now.day) hnone).steps (m := List.finRange 16) (List.pairwise_lt_finRange 16)
    (show today (datedStart u) = some now.day by simp [today, hcal])
  rw [takeActions_mplStart hdropped]
  rw [List.nil_append] at h
  generalize (List.finRange 16).foldl (treatFullDuration false) (datedStart u) = v at h
  have htoday : today v = some now.day := by rw [h.frame]; simp [today, hcal]
  refine { frame := ?_, undated := fun hno => by simp [hcal] at hno, tasks := fun t ht => h.startTasks hcal ht
           ordered := fun ho => ?_ }
  · have hquiet : recomputeQuietly v = withTasks (List.map fun x => recomputedTask now.day x v) v := by
      simp [recomputeQuietly, htoday]
    rw [hquiet]
    generalize List.map (fun x => recomputedTask now.day x v) = f
    rw [h.frame]
    generalize datedStart u = d
    rfl
  · have hord := h.ordered ho
    have hids : (fun x => x.id) ∘ (fun x => recomputedTask now.day x v) = fun x : Task => x.id := by
      funext x
      simp [recomputedTask_eq]
    simpa [recomputeQuietly, htoday, TasksOrdered, startPlannerPost, recordContribution, withTasks, hids] using hord

theorem planned {u : State} (hwaiting : u.mpl.waiting = Vector.replicate 16 false) (hdropped : u.mpl.orderDropped = 0) :
    Planned u (takeActions mplStart u) := by
  cases hcal : u.cal with
  | none => exact planned_undated hcal hwaiting hdropped
  | some now => exact planned_dated hcal hwaiting hdropped

end Sys2Proof.Machine
end

section
/-! The start values and the posts of a start (R86 to R88, R110, R111, R133, R134, R175). -/

namespace Sys2Proof.Machine

/-- The state after the adjustment of the bands at a start, from the validated state `v`. -/
def adjustedStart (v : State) : State := gvmAdjust (freshPlannedEnd (volatileStart v))

/-- The state after the posts of the monitors at a start, from the validated state `v`. -/
def postedStart (v : State) : State := bimStartPosts (ghmStartPosts (gvmStartPosts (adjustedStart v)))

section
variable (v : State)

theorem adjustedStart_eq : adjustedStart v =
    { v with
      afe := {}
      ptu := ptuStart v.cfg
      rch := {}
      spe := {}
      gvm := gvmVolatile v.cfg
      ghm := { window := if v.cfg.ghm.enable then .searching else .off, interval := freshInterval v }
      bim := bimVolatile v.cfg
      ccu := {}
      mpl := {}
      ret := { v.ret with operating := false, restartAccepted := false, startRecord := none }
      lnk := v.lnk.map portStart
      plan := { v.plan with interval := { v.plan.interval with planned := plannedEndFrom v.cal } }
      mon := { v.mon with bands := Vector.ofFn fun b => adjustBand v.cfg b v.mon.bands[b] } } := by
  dsimp only [adjustedStart, gvmAdjust, freshPlannedEnd, volatileStart, ghmVolatile]

theorem postedStart_eq : postedStart v =
    let a := adjustedStart v
    { a with
      mpl :=
        { a.mpl with
          grades := { bands := bandGrades a, current := a.mon.currentGrade, icing := icingGrade a.mon.icing.state } }
      ccu :=
        { a.ccu with
          contributions :=
            { icing := some (icingContribution a), gearbox := some (gearboxContribution a), grid := some (gridContribution a)
              planner := a.ccu.contributions.planner } } } := by
  unfold postedStart
  generalize adjustedStart v = a
  simp only [bimStartPosts, ghmStartPosts, gvmStartPosts, recordContribution, withGrades, Contributions.set, gridContribution,
    icingContribution] <;> rfl

@[simp] theorem postedStart_cfg : (postedStart v).cfg = v.cfg := by
  rw [postedStart_eq, adjustedStart_eq]

@[simp] theorem postedStart_cal : (postedStart v).cal = v.cal := by
  rw [postedStart_eq, adjustedStart_eq]

@[simp] theorem postedStart_records : (postedStart v).records = v.records := by
  rw [postedStart_eq, adjustedStart_eq]

@[simp] theorem postedStart_check : (postedStart v).check = v.check := by
  rw [postedStart_eq, adjustedStart_eq]

@[simp] theorem postedStart_afe : (postedStart v).afe = {} := by
  rw [postedStart_eq, adjustedStart_eq]

@[simp] theorem postedStart_rch : (postedStart v).rch = {} := by
  rw [postedStart_eq, adjustedStart_eq]

@[simp] theorem postedStart_spe : (postedStart v).spe = {} := by
  rw [postedStart_eq, adjustedStart_eq]

@[simp] theorem postedStart_ptu : (postedStart v).ptu = ptuStart v.cfg := by
  rw [postedStart_eq, adjustedStart_eq]

@[simp] theorem postedStart_gvm : (postedStart v).gvm = gvmVolatile v.cfg := by
  rw [postedStart_eq, adjustedStart_eq]

@[simp] theorem postedStart_ghm : (postedStart v).ghm =
    { window := if v.cfg.ghm.enable then .searching else .off, interval := freshInterval v } := by
  rw [postedStart_eq, adjustedStart_eq]

@[simp] theorem postedStart_bim : (postedStart v).bim = bimVolatile v.cfg := by
  rw [postedStart_eq, adjustedStart_eq]

@[simp] theorem postedStart_lnk : (postedStart v).lnk = v.lnk.map portStart := by
  rw [postedStart_eq, adjustedStart_eq]

@[simp] theorem postedStart_ret : (postedStart v).ret =
    { v.ret with operating := false, restartAccepted := false, startRecord := none } := by
  rw [postedStart_eq, adjustedStart_eq]

@[simp] theorem postedStart_plan : (postedStart v).plan =
    { v.plan with interval := { v.plan.interval with planned := plannedEndFrom v.cal } } := by
  rw [postedStart_eq, adjustedStart_eq]

@[simp] theorem postedStart_mon : (postedStart v).mon =
    { v.mon with bands := Vector.ofFn fun b => adjustBand v.cfg b v.mon.bands[b] } := by
  rw [postedStart_eq, adjustedStart_eq]

theorem postedStart_mpl : (postedStart v).mpl = { grades := (postedStart v).mpl.grades } := by
  rw [postedStart_eq, adjustedStart_eq]

theorem postedStart_ccu : (postedStart v).ccu = { contributions := (postedStart v).ccu.contributions } := by
  rw [postedStart_eq, adjustedStart_eq]

end

/-- The adjustment of a band to its configuration (R87). -/
theorem adjustBand_eq (cfg : ConfigSection) (b : Fin 24) (x : BandState) :
    adjustBand cfg b x =
      if cfg.bands[b].enabled = true ∧ owningMeasurement cfg b ≠ none then
        if x.mode = .disabled then { mode := .learning, baseline := x.baseline } else x
      else { mode := .disabled, baseline := x.baseline } := by
  unfold adjustBand BandState.entered
  simp only [Bool.and_eq_true, Option.isSome_iff_ne_none]

/-- MONITOR of a state that differs from a posted one in the ceiling's number alone (R87, R150). -/
theorem startMonitor_of_posted {v t : State} (hcfg : t.cfg = v.cfg)
    (hmon : t.mon = { (postedStart v).mon with ceilingSeq := (v.mon.ceilingSeq + 1) % 65536 }) : StartMonitor v.mon t := by
  refine ⟨by rw [hmon, postedStart_mon], fun b => ?_⟩
  have hband : t.mon.bands[b] = adjustBand v.cfg b v.mon.bands[b] := by rw [hmon]; simp
  rw [hband, adjustBand_eq, hcfg]

/-- The posts of a start as a later state of the start still holds them (R81, R82, R111, R127, R134). -/
theorem startPosts_of_posted {v t : State} (hcfg : t.cfg = v.cfg) (hcal : t.cal = v.cal)
    (hmon : t.mon = { (postedStart v).mon with ceilingSeq := (v.mon.ceilingSeq + 1) % 65536 })
    (hgrades : t.mpl.grades = (postedStart v).mpl.grades)
    (hcontributions : t.ccu.contributions =
      { (postedStart v).ccu.contributions with planner := t.ccu.contributions.planner })
    (hplanner : v.cal = none → t.ccu.contributions.planner = some 100) : StartPosts t := by
  have hmon' : (postedStart v).mon = (adjustedStart v).mon := by rw [postedStart_eq]
  have hbands : t.mon.bands = (adjustedStart v).mon.bands := by rw [hmon, hmon']
  have hcurrent : t.mon.currentGrade = (adjustedStart v).mon.currentGrade := by rw [hmon, hmon']
  have hicing : t.mon.icing = (adjustedStart v).mon.icing := by rw [hmon, hmon']
  have hcfg' : t.cfg = (adjustedStart v).cfg := by rw [hcfg, adjustedStart_eq]
  have hoverride : (adjustedStart v).bim.override.isSome = false := by rw [adjustedStart_eq]; rfl
  rw [postedStart_eq] at hgrades hcontributions
  dsimp only at hgrades hcontributions
  refine ⟨fun k => ?_, ?_, ⟨gearboxContribution (adjustedStart v), ?_, ?_⟩, ?_, ?_, ?_⟩
  · have hk : t.mpl.grades.bands[k] = bandComponentGrade (adjustedStart v) k := by
      rw [hgrades]
      simp [bandGrades]
    rw [hk, hbands, hcfg']
    exact bandComponentGrade_greatest _ k
  · rw [hgrades, hcurrent]
  · rw [hcontributions]
  · rw [hbands, hcfg']
    exact gearboxContribution_least _
  · rw [hcontributions, hcurrent, hcfg', gridContribution]
  · rw [hgrades, hcontributions, hicing]
    dsimp only
    rw [icingContribution, hoverride]
    cases (adjustedStart v).mon.icing.state <;> rfl
  · exact fun hnone => hplanner (hcal.symm.trans hnone)

/-- The blocks of a state that differ from those of a posted one in the fault states of the first biases alone (R19). -/
theorem startValues_of_posted {v t : State} {bias : PerAccel Int} (hcfg : t.cfg = v.cfg) (hcal : t.cal = v.cal)
    (hafe : t.afe = { (postedStart v).afe with accel := t.afe.accel })
    (haccel : ∀ c, t.afe.accel.get c = if biasInRange (bias.get c) then {} else { fault := biasFaultOf (bias.get c) })
    (hptu : t.ptu = (postedStart v).ptu) (hrch : t.rch = (postedStart v).rch) (hspe : t.spe = (postedStart v).spe)
    (hgvm : t.gvm = (postedStart v).gvm) (hghm : t.ghm = (postedStart v).ghm) (hbim : t.bim = (postedStart v).bim) :
    StartValues bias t := by
  have hfault (mv : Int) : (if biasInRange mv then {} else { fault := biasFaultOf mv } : AccelState) =
      { fault := if mv < 2000 then .openCircuit else if 22000 < mv then .shortCircuit else .none, qualification := none } := by
    unfold biasInRange biasFaultOf
    by_cases hlow : mv < 2000
    · simp [hlow]
    · by_cases hhigh : 22000 < mv <;> simp [hlow, hhigh]
  simp only [hfault] at haccel
  refine ⟨?_, ?_, by rw [hrch, postedStart_rch], by rw [hspe, postedStart_spe], ?_, ?_,
    by rw [hbim, hcfg, postedStart_bim]; rfl⟩
  · have haccels : t.afe.accel = ⟨t.afe.accel.get .g1, t.afe.accel.get .g2, t.afe.accel.get .g3, t.afe.accel.get .g4,
        t.afe.accel.get .n1⟩ := rfl
    rw [hafe, haccels]
    simp only [haccel]
    rfl
  · rw [hptu, hcfg, postedStart_ptu]; rfl
  · rw [hgvm, hcfg, postedStart_gvm]; rfl
  · rw [hghm, hcfg, hcal, ← plannedEndFrom_eq, postedStart_ghm]; rfl

end Sys2Proof.Machine
end

section
/-! The restoration of a start as a sequence of raises (R150, R176 step 5). -/

namespace Sys2Proof.Machine

/-! ## What a raise leaves alone -/

/-- A state but for what alarms change: PLAN, RECORDS, the CCU and the ports. -/
def State.beside (s : State) : State := { s with plan := {}, records := {}, ccu := {}, lnk := ⟨{}, {}, {}⟩ }

@[simp] theorem raiseWith_beside (b : Bool) (c : AlarmCode) (x : Source) (s : State) :
    (raiseWith b c x s).beside = s.beside := by simp [State.beside]

/-- A raise without a snapshot leaves RECORDS and the snapshot counter. -/
theorem enteredActive_quiet (c : AlarmCode) (x : Source) (s : State) :
    (enteredActive false c x s).records = s.records ∧
      (enteredActive false c x s).ccu.counters.snapshots = s.ccu.counters.snapshots := by
  simp [enteredActive]

theorem createAlarm_quiet (c : AlarmCode) (x : Source) (s : State) :
    (createAlarm false c x s).records = s.records ∧
      (createAlarm false c x s).ccu.counters.snapshots = s.ccu.counters.snapshots :=
  enteredActive_quiet c x _

theorem raiseWith_quiet (c : AlarmCode) (x : Source) (s : State) :
    (raiseWith false c x s).records = s.records ∧
      (raiseWith false c x s).ccu.counters.snapshots = s.ccu.counters.snapshots := by
  unfold raiseWith
  split
  · split
    · exact ⟨rfl, rfl⟩
    · exact ⟨rfl, rfl⟩
    · exact enteredActive_quiet ..
  · split
    · exact createAlarm_quiet ..
    · unfold raiseIntoFull
      split
      · exact createAlarm_quiet ..
      · split
        · exact createAlarm_quiet ..
        · exact ⟨rfl, rfl⟩

/-! ## The alarms that a start implies -/

/-- The key of an alarm that is implied. -/
def keyIf (raised : Bool) (code : AlarmCode) (source : Source) : List AlarmKey := if raised then [(code, source)] else []

/-- The alarms of a band's grade. -/
def bandKeys (mon : MonitorSection) (b : Fin 24) : List AlarmKey :=
  let grade := mon.bands[b].grade
  keyIf (grade = 1) .bandAlert (.band b.val) ++ keyIf (grade = 2) .bandAlarm (.band b.val)

/-- The alarms of the current grade. -/
def currentKeys (mon : MonitorSection) : List AlarmKey :=
  keyIf (mon.currentGrade = 1) .gridCurrentAlert .ghm ++ keyIf (mon.currentGrade = 2) .gridCurrentAlarm .ghm

/-- The alarms of the icing state. -/
def icingKeys (mon : MonitorSection) : List AlarmKey :=
  keyIf (mon.icing.state = .suspect) .iceSuspect .bim ++
    keyIf (mon.icing.state = .iced || mon.icing.state = .shedding) .iceDetected .bim

/-- The alarms of a task's state. -/
def taskKeys (x : Task) : List AlarmKey :=
  keyIf (x.state = .due) .taskDue (.task x.id) ++ keyIf (x.state = .overdue) .taskOverdue (.task x.id)

/-- The alarm of components left waiting. -/
def waitingKeys (waiting : Vector Bool 16) : List AlarmKey :=
  keyIf ((List.finRange 16).any fun c => waiting[c]) .taskTableFull .mpl

/-- The alarms that the restoration raises. -/
def restoredKeys (failed : List RetSection) (t : State) : List AlarmKey :=
  keyIf (failed ≠ []) .retainedLost .ret ++ (List.finRange 24).flatMap (bandKeys t.mon) ++ currentKeys t.mon ++
    icingKeys t.mon ++ (t.plan.tasks.take 32).flatMap taskKeys ++ waitingKeys t.mpl.waiting

/-- The accelerometer channels in the order of the first biases (log entry 47). -/
def accelOrder : List Accel := [.g1, .g2, .g3, .g4, .n1]

/-- The alarms of the first biases. -/
def biasKeys (bias : PerAccel Int) (l : List Accel) : List AlarmKey :=
  l.flatMap fun c => keyIf (outOfRange (bias.get c)) .sensorFault (.accel c)

theorem impliedAlarms_eq (failed : List RetSection) (bias : PerAccel Int) (t : State) :
    impliedAlarms failed bias t = restoredKeys failed t ++ biasKeys bias accelOrder := by
  simp only [impliedAlarms, List.flatten_cons, List.flatten_nil, List.append_nil, restoredKeys, currentKeys, icingKeys,
    List.append_assoc]
  rfl

/-! ## The restoration -/

/-- From `w` to `s` the restoration has raised the keys `l`. -/
structure Restoring (rate : Port → BitVec 2) (w : State) (l : List AlarmKey) (s : State) : Prop where
  raising : Raising rate 0 w.plan l s
  beside : s.beside = w.beside
  outside : s.ccu.outsideAlarms = w.ccu.outsideAlarms
  records : s.records = w.records
  silent : s.ccu.counters.snapshots = 0

section
variable {rate : Port → BitVec 2} {w s : State} {l : List AlarmKey}

theorem PlanSection.counting_tasks (dated : Bool) (n : Nat) (p : PlanSection) : (p.counting dated n).tasks = p.tasks := by
  unfold PlanSection.counting
  split <;> rfl

theorem Restoring.mon (h : Restoring rate w l s) : s.mon = w.mon := (congrArg State.mon h.beside :)

theorem Restoring.mpl (h : Restoring rate w l s) : s.mpl = w.mpl := (congrArg State.mpl h.beside :)

theorem Restoring.tasks (h : Restoring rate w l s) : s.plan.tasks = w.plan.tasks := by
  rw [h.raising.day, PlanSection.counting_tasks]

theorem Restoring.raise (h : Restoring rate w l s) (c : AlarmCode) (x : Source) :
    Restoring rate w (l ++ [(c, x)]) (raiseWith false c x s) where
  raising := h.raising.raise false (c, x)
  beside := (raiseWith_beside ..).trans h.beside
  outside := (raiseWith_outsideAlarms ..).trans h.outside
  records := (raiseWith_quiet ..).1.trans h.records
  silent := (raiseWith_quiet ..).2.trans h.silent

/-- The actions of a list of items restore the keys of the items. -/
theorem Restoring.actions {ι : Type} {f : ι → State → State} {k : ι → List AlarmKey}
    (hf : ∀ i l s, Restoring rate w l s → Restoring rate w (l ++ k i) (f i s)) (items : List ι)
    (h : Restoring rate w l s) : Restoring rate w (l ++ items.flatMap k) (takeActions (items.map f) s) := by
  induction items generalizing l s with
  | nil => simpa using h
  | cons i items ih =>
    rw [List.flatMap_cons, ← List.append_assoc, List.map_cons, takeActions_cons]
    exact ih (hf i l s h)

theorem Restoring.lost (h : Restoring rate w l s) (failed : List RetSection) :
    Restoring rate w (l ++ keyIf (failed ≠ []) .retainedLost .ret) (restoreLost failed s) := by
  by_cases hf : failed = []
  · simpa [restoreLost, keyIf, hf] using h
  · simpa [restoreLost, keyIf, hf] using h.raise .retainedLost .ret

/-- A grade of 1 restores the alert and a grade of 2 the alarm of its source. -/
theorem Restoring.grade (h : Restoring rate w l s) (g : Nat) (alert alarm : AlarmCode) (x : Source) :
    Restoring rate w (l ++ (keyIf (g = 1) alert x ++ keyIf (g = 2) alarm x))
      (if g = 1 then raiseWith false alert x s else if g = 2 then raiseWith false alarm x s else s) := by
  by_cases h1 : g = 1
  · subst h1
    exact h.raise alert x
  · by_cases h2 : g = 2
    · subst h2
      exact h.raise alarm x
    · simpa only [keyIf, h1, h2, decide_false, Bool.false_eq_true, if_false, List.append_nil] using h

theorem Restoring.band (h : Restoring rate w l s) (b : Fin 24) :
    Restoring rate w (l ++ bandKeys w.mon b) (restoreBand s b) := by
  unfold restoreBand
  rw [h.mon]
  exact h.grade w.mon.bands[b].grade .bandAlert .bandAlarm (.band b.val)

theorem Restoring.current (h : Restoring rate w l s) :
    Restoring rate w (l ++ currentKeys w.mon) (restoreCurrent s) := by
  unfold restoreCurrent
  rw [h.mon]
  exact h.grade w.mon.currentGrade .gridCurrentAlert .gridCurrentAlarm .ghm

theorem Restoring.icing (h : Restoring rate w l s) : Restoring rate w (l ++ icingKeys w.mon) (restoreIcing s) := by
  unfold restoreIcing icingKeys
  rw [h.mon]
  cases w.mon.icing.state with
  | clear => simpa [keyIf] using h
  | suspect => exact h.raise .iceSuspect .bim
  | iced => exact h.raise .iceDetected .bim
  | shedding => exact h.raise .iceDetected .bim

theorem Restoring.task (h : Restoring rate w l s) (x : Task) : Restoring rate w (l ++ taskKeys x) (restoreTask s x) := by
  unfold restoreTask taskKeys
  cases x.state with
  | planned => simpa [keyIf] using h
  | due => exact h.raise .taskDue (.task x.id)
  | overdue => exact h.raise .taskOverdue (.task x.id)

theorem Restoring.place (h : Restoring rate w l s) (i : Nat) :
    Restoring rate w (l ++ (w.plan.tasks[i]?.toList).flatMap taskKeys) (restorePlace i s) := by
  unfold restorePlace
  rw [h.tasks]
  cases w.plan.tasks[i]? with
  | none => simpa using h
  | some x => simpa using h.task x

theorem Restoring.waiting (h : Restoring rate w l s) :
    Restoring rate w (l ++ waitingKeys w.mpl.waiting) (restoreWaiting s) := by
  have hany : s.mpl.waiting.any id = (List.finRange 16).any fun c => w.mpl.waiting[c] := by
    rw [h.mpl, ← Vector.any_toList, toList_eq_map_finRange, List.any_map]
    rfl
  unfold restoreWaiting waitingKeys
  rw [hany]
  cases (List.finRange 16).any fun c => w.mpl.waiting[c] with
  | false => simpa [keyIf] using h
  | true => exact h.raise .taskTableFull .mpl

/-- The places below `n` hold the first `n` items of a list. -/
theorem flatMap_range_get (l : List Task) (n : Nat) (f : Task → List AlarmKey) :
    (List.range n).flatMap (fun i => (l[i]?.toList).flatMap f) = (l.take n).flatMap f := by
  induction n with
  | zero => simp
  | succ n ih =>
    rw [List.range_succ, List.flatMap_append, ih, List.take_add_one, List.flatMap_append]
    simp

/-- The restoration but for its last action raises the restored keys. -/
theorem Restoring.restoration {failed : List RetSection} (h : Restoring rate w [] s) :
    ∃ t, Restoring rate w (restoredKeys failed w) t ∧ takeActions (restoration failed) s = restoreCeiling t := by
  have hlost := h.lost failed
  have hbands := hlost.actions (f := fun b s => restoreBand s b) (fun b l s hs => hs.band b) (List.finRange 24)
  have hplaces := (hbands.current.icing).actions (f := restorePlace) (fun i l s hs => hs.place i) (List.range 32)
  rw [flatMap_range_get] at hplaces
  refine ⟨_, hplaces.waiting, ?_⟩
  simp only [Machine.restoration, takeActions_append, takeActions_cons, takeActions_nil]

end

end Sys2Proof.Machine
end

section
/-! The snapshots and the fault states of the first biases of a start (R4, R19, R147). -/

namespace Sys2Proof.Machine

/-- The snapshots of a start's sensor faults: RECORDS was `r`, and `n` raises may have taken one. -/
structure Snapping (r : RecordsSection) (n : Nat) (s : State) : Prop where
  count : s.ccu.counters.snapshots ≤ n
  kept : s.ccu.counters.snapshots = 0 → s.records = r
  ring : s.records.ring = r.ring
  locked : lockedSlots s.records.slots ≤ lockedSlots r.slots
  all : lockedSlots r.slots ≤ 6 → s.cfg.snapshotThreshold ≤ 3 →
    s.ccu.counters.snapshots = (s.ccu.alarms.filter fun e => e.code = .sensorFault).length

section
variable {rate : Port → BitVec 2} {n m : Nat} {notices : NoticeSet} {plan : PlanSection} {l : List AlarmKey} {s : State}
  {r : RecordsSection}

/-- With a lock to spare some slot takes a snapshot. -/
theorem unlocked_slot {slots : Vector (Option SnapshotSlot) 8} (h : lockedSlots slots ≤ 6) :
    ∃ i : Fin 8, ∀ y, slots[i] = some y → y.locked = false := by
  by_contra hno
  push Not at hno
  have hall : ∀ i ∈ List.finRange 8, ((slots[i].map (·.locked)).getD false) = true := fun i _ => by
    obtain ⟨y, hy, hlocked⟩ := hno i
    simpa [hy] using hlocked
  rw [lockedSlots_eq, List.filter_eq_self.mpr hall, List.length_finRange] at h
  omega

theorem takeSnapshot_taken (c : AlarmCode) (x : Source) (s : State) :
    ((takeSnapshot c x s).records = s.records ∧
        (takeSnapshot c x s).ccu.counters.snapshots = s.ccu.counters.snapshots ∧ 6 < lockedSlots s.records.slots) ∨
      ((takeSnapshot c x s).records.ring = s.records.ring ∧
        lockedSlots (takeSnapshot c x s).records.slots ≤ lockedSlots s.records.slots ∧
        (takeSnapshot c x s).ccu.counters.snapshots = inc16 s.ccu.counters.snapshots) := by
  unfold takeSnapshot
  cases hslot : snapshotSlotFor s.records.slots with
  | none =>
    refine .inl ⟨rfl, rfl, not_le.mp fun hle => ?_⟩
    obtain ⟨i, hi, -⟩ := snapshotSlotFor_spec (unlocked_slot hle)
    simp [hslot] at hi
  | some i => exact .inr ⟨rfl, lockedSlots_set_le i rfl, rfl⟩

/-- A new entry of a sensor fault, with its snapshot where the severity asks for one. -/
theorem Snapping.create (h : Snapping r n s) (hn : n < 65535) (x : Source) :
    Snapping r (n + 1) (createAlarm true .sensorFault x s) := by
  obtain ⟨hrecords, hsnapshots⟩ := createAlarm_quiet .sensorFault x s
  have hlen : ((createAlarm false .sensorFault x s).ccu.alarms.filter fun e => e.code = .sensorFault).length =
      (s.ccu.alarms.filter fun e => e.code = .sensorFault).length + 1 := by simp
  have hquiet : s.cfg.snapshotThreshold ≤ 3 ∨ Snapping r (n + 1) (createAlarm false .sensorFault x s) := by
    refine (le_or_gt s.cfg.snapshotThreshold 3).imp_right fun hhigh => ?_
    exact
      { count := hsnapshots ▸ h.count.trans (by omega), kept := fun h0 => hrecords.trans (h.kept (hsnapshots ▸ h0))
        ring := hrecords ▸ h.ring, locked := hrecords ▸ h.locked
        all := fun _ hlow => absurd hlow (by rw [createAlarm_cfg]; omega) }
  rw [createAlarm_eq]
  split
  · next hloud =>
    have hlow : s.cfg.snapshotThreshold ≤ 3 := hloud.2
    rcases takeSnapshot_taken .sensorFault x (createAlarm false .sensorFault x s) with
      ⟨hsame, hcount, hfull⟩ | ⟨hring, hslots, hcount⟩
    · rw [hrecords] at hsame hfull
      rw [hsnapshots] at hcount
      exact
        { count := hcount ▸ h.count.trans (by omega), kept := fun h0 => hsame.trans (h.kept (hcount ▸ h0))
          ring := hsame ▸ h.ring, locked := hsame ▸ h.locked
          all := fun hle => absurd (hfull.trans_le h.locked) (by omega) }
    · rw [hrecords] at hring hslots
      have hle := h.count
      rw [hsnapshots, inc16, min_eq_left (hle.trans_lt hn)] at hcount
      clear hn
      refine
        { count := by omega, kept := fun h0 => by omega, ring := hring.trans h.ring, locked := hslots.trans h.locked
          all := fun hfree hthreshold => ?_ }
      have hall := h.all hfree hlow
      rw [takeSnapshot_alarms, hlen]
      omega
  · next hnot =>
    exact hquiet.resolve_left fun hlow => hnot ⟨rfl, hlow⟩

/-- Each raise of a new sensor fault of a start. -/
theorem Snapping.raise (h : Snapping r n s) (hn : n < 65535) (hr : Raising rate notices plan l s) {x : Source}
    (hx : (AlarmCode.sensorFault, x) ∉ l) : Snapping r (n + 1) (raise .sensorFault x s) := by
  have hnone : findAlarm .sensorFault x s = none := hr.unraised hx
  by_cases hroom : s.ccu.alarms.length < 32
  · rw [raise_of_room hnone hroom]
    exact h.create hn x
  · have hkept : s.ccu.alarms.any (·.state = .clearedUnack) = false ∧
        s.ccu.alarms.any (evictable (severity .sensorFault)) = false := by
      constructor <;> refine List.any_eq_false.mpr fun e he => ?_ <;> simp [evictable, hr.unack e he]
    have hlen := hr.room
    rw [raise_of_full hnone (by omega)]
    simp only [raiseIntoFull, hkept, Bool.false_eq_true, if_false]
    exact { h with count := h.count.trans (by omega) }

end

end Sys2Proof.Machine
end

section
/-! The last stages of a start: the ceiling, the start record, the start of operation and the first biases (R19, R150,
R180, R181). -/

namespace Sys2Proof.Machine

/-! ## The ceiling, the record and the start of operation -/

section
variable {rate : Port → BitVec 2} {n : NoticeSet} {plan : PlanSection} {l : List AlarmKey} {s t : State}

/-- The raises made show in the alarms of the CCU, in PLAN and at the ports alone. -/
theorem Raising.congr (h : Raising rate n plan l s) {m : NoticeSet} (halarms : t.ccu.alarms = s.ccu.alarms)
    (hover : t.ccu.tableOverflow = s.ccu.tableOverflow) (hcounters : t.ccu.counters = s.ccu.counters)
    (hplan : t.plan = s.plan) (hcal : t.cal = s.cal)
    (hports : PortsHold rate (m ||| startNotices (!l.isEmpty) (s.ccu.counters.snapshots != 0)) t) :
    Raising rate m plan l t where
  unack := halarms ▸ h.unack
  room := halarms ▸ h.room
  keys := halarms ▸ h.keys
  first := halarms ▸ h.first
  table := by rw [halarms, hover, hcounters, hcal]; exact h.table
  counters := by rw [hcounters]; exact h.counters
  day := by rw [hplan, hcal, halarms]; exact h.day
  ports := by rw [hcounters]; exact hports

/-- A category besides those of the alarms is set on every port. -/
theorem Raising.notice (h : Raising rate n plan l s) (x : Notice) : Raising rate (n ||| x.bit) plan l (setNotice x s) := by
  refine h.congr rfl rfl rfl rfl rfl ((setNotice_portsHold h.ports x).congr ?_ rfl rfl rfl)
  rw [BitVec.or_assoc, BitVec.or_assoc, BitVec.or_comm x.bit]

theorem PortsHold.operation (h : PortsHold rate n s) : PortsHold rate n (beginOperation s) := by
  intro p
  rw [beginOperation, refreshLines_get]
  exact congrArg (refreshLine true (s.cfg.masks.get p)) (h p)

end

/-- From the Planner's actions to the start of operation: `w` is the state before the restoration. -/
structure Begun (st : Start) (rate : Port → BitVec 2) (w o : State) : Prop where
  raising : Raising rate 0x104#16 w.plan (restoredKeys st.failed w) o
  beside : o.beside =
    { w.beside with
      mon := { w.mon with ceilingSeq := (w.mon.ceilingSeq + 1) % 65536 }
      ret :=
        { w.ret with
          operating := true, startRecord := some { cause := st.cause, lost := st.failed, time := w.cal } } }
  outside : o.ccu.outsideAlarms =
    { w.ccu.outsideAlarms with
      ceiling := some (leastContribution w.ccu.contributions), acknowledged := false, ackTimer := some 30
      freshness := some w.cfg.reportTimeout }
  records : o.records = w.records
  silent : o.ccu.counters.snapshots = 0

theorem Restoring.begun {rate : Port → BitVec 2} {w t : State} {st : Start}
    (h : Restoring rate w (restoredKeys st.failed w) t) :
    Begun st rate w (beginOperation (formRecord st (restoreCeiling t))) where
  raising := by
    have hceiling := h.raising.notice .ceilingChanged
    have hstart := hceiling.notice .start
    refine hstart.congr rfl rfl rfl rfl rfl (PortsHold.operation ?_)
    exact hstart.ports.congr rfl rfl rfl rfl
  beside := by
    have hmon := h.mon
    have hcal : t.cal = w.cal := (congrArg State.cal h.beside :)
    have hret : t.ret = w.ret := (congrArg State.ret h.beside :)
    show { t.beside with
      mon := { t.mon with ceilingSeq := (t.mon.ceilingSeq + 1) % 65536 }
      ret :=
        { t.ret with
          operating := true, startRecord := some { cause := st.cause, lost := st.failed, time := t.cal } } } = _
    rw [h.beside, hmon, hcal, hret]
  outside := by
    have hcontributions : t.ccu.contributions = w.ccu.contributions := (congrArg CcuState.contributions h.outside :)
    have hcfg : t.cfg = w.cfg := (congrArg State.cfg h.beside :)
    show { t.ccu.outsideAlarms with
      ceiling := some (leastContribution t.ccu.contributions), acknowledged := false, ackTimer := some 30
      freshness := some t.cfg.reportTimeout } = _
    rw [h.outside, hcontributions, hcfg]
  records := h.records
  silent := h.silent

/-! ## The first biases -/

/-- From the start of operation `o` to `s` the biases of the channels `l` were evaluated. -/
structure Biased (rate : Port → BitVec 2) (plan : PlanSection) (k : List AlarmKey) (bias : PerAccel Int) (o : State)
    (l : List Accel) (s : State) : Prop where
  raising : Raising rate 0x104#16 plan (k ++ biasKeys bias l) s
  beside : s.beside = { o.beside with afe := { o.afe with accel := s.afe.accel } }
  accel : ∀ c, s.afe.accel.get c =
    if c ∈ l ∧ biasInRange (bias.get c) = false then { fault := biasFaultOf (bias.get c) } else o.afe.accel.get c
  outside : s.ccu.outsideAlarms = o.ccu.outsideAlarms
  snapping : Snapping o.records (l.filter fun c => outOfRange (bias.get c)).length s

section
variable {rate : Port → BitVec 2} {plan : PlanSection} {k : List AlarmKey} {bias : PerAccel Int} {o s : State} {l : List Accel}

theorem outOfRange_eq_not (mv : Int) : outOfRange mv = !biasInRange mv := by
  rw [outOfRange, biasInRange, Bool.not_and, ← decide_not, ← decide_not]
  simp only [not_le]

theorem PerAccel.get_set (v : PerAccel AccelState) (c d : Accel) (x : AccelState) :
    (v.set c x).get d = if d = c then x else v.get d := by
  cases c <;> cases d <;> rfl

theorem biased_nil (h : Raising rate 0x104#16 plan k o) (hk : ∀ x, (AlarmCode.sensorFault, x) ∉ k)
    (hsilent : o.ccu.counters.snapshots = 0) : Biased rate plan k bias o [] o where
  raising := by simpa [biasKeys] using h
  beside := rfl
  accel := by simp
  outside := rfl
  snapping :=
    { count := by simp [hsilent], kept := fun _ => rfl, ring := rfl, locked := le_rfl
      all := fun _ _ => by
        have hnone : ∀ e ∈ o.ccu.alarms, ¬ e.code = .sensorFault := fun e he hcode =>
          hk e.source (hcode ▸ h.keys e he)
        rw [hsilent, List.filter_eq_nil_iff.mpr (by simpa using hnone), List.length_nil] }

/-- A bias in range changes nothing. -/
theorem Biased.skip (h : Biased rate plan k bias o l s) {c : Accel} (hc : biasInRange (bias.get c) = true) :
    Biased rate plan k bias o (l ++ [c]) s := by
  have hout : outOfRange (bias.get c) = false := by rw [outOfRange_eq_not, hc]; rfl
  refine { h with raising := ?_, accel := fun d => ?_, snapping := ?_ }
  · simpa [biasKeys, keyIf, hout] using h.raising
  · rw [h.accel]
    congr 1
    by_cases hd : d = c
    · subst hd; simp [hc]
    · simp [hd]
  · simpa [List.filter_append, hout] using h.snapping

/-- A bias out of range gives the channel its fault state and raises its alarm, and no capture is there to be aborted. -/
theorem Biased.fault (h : Biased rate plan k bias o l s) {c : Accel} (hc : c ∉ l)
    (hk : ∀ x, (AlarmCode.sensorFault, x) ∉ k) (hfree : ∀ b, bufferOf o b = .free) (hlen : l.length < 65535)
    (hbias : biasInRange (bias.get c) = false) :
    Biased rate plan k bias o (l ++ [c]) (afeBiasFault c (bias.get c) s) := by
  have hout : outOfRange (bias.get c) = true := by rw [outOfRange_eq_not, hbias]; rfl
  have hafe : s.afe = { o.afe with accel := s.afe.accel } := (congrArg State.afe h.beside :)
  have hset : Raising rate 0x104#16 plan (k ++ biasKeys bias l) (setAccel c { fault := biasFaultOf (bias.get c) } s) :=
    h.raising.congr rfl rfl rfl rfl rfl (h.raising.ports.congr rfl rfl rfl rfl)
  have hnew : (AlarmCode.sensorFault, Source.accel c) ∉ k ++ biasKeys bias l := by
    simp only [List.mem_append, not_or, biasKeys, List.mem_flatMap]
    refine ⟨hk _, fun ⟨d, hd, hmem⟩ => hc ?_⟩
    unfold keyIf at hmem
    split at hmem
    · obtain rfl : c = d := by simpa using hmem
      exact hd
    · simp at hmem
  have hcount : (l.filter fun c => outOfRange (bias.get c)).length < 65535 := (List.length_filter_le ..).trans_lt hlen
  have hsnap : Snapping o.records _ (setAccel c { fault := biasFaultOf (bias.get c) } s) :=
    ⟨h.snapping.count, h.snapping.kept, h.snapping.ring, h.snapping.locked, h.snapping.all⟩
  have hnone : ∀ b, fillsChannel c (bufferOf (biasFaulted c (bias.get c) s) b) = false := fun b => by
    rw [bufferOf_biasFaulted, bufferOf, hafe]
    exact congrArg (fillsChannel c) (hfree b)
  have heq : afeBiasFault c (bias.get c) s = biasFaulted c (bias.get c) s := by
    unfold afeBiasFault
    simp only [hbias, Bool.false_eq_true, if_false]
    rw [abortChannel_eq]
    exact abortAll_of_none hnone _
  rw [heq, biasFaulted]
  refine { raising := ?_, beside := ?_, accel := fun d => ?_, outside := ?_, snapping := ?_ }
  · have hraised := hset.raise true (AlarmCode.sensorFault, Source.accel c)
    rw [List.append_assoc] at hraised
    simpa [biasKeys, keyIf, hout, Machine.raise] using hraised
  · rw [raise, raiseWith_beside, raiseWith_afe]
    show { s.beside with afe := { s.afe with accel := s.afe.accel.set c { fault := biasFaultOf (bias.get c) } } } = _
    rw [h.beside, hafe]
    rfl
  · rw [raise_afe]
    show (s.afe.accel.set c { fault := biasFaultOf (bias.get c) }).get d = _
    rw [PerAccel.get_set, h.accel]
    by_cases hd : d = c
    · subst hd; simp [hbias]
    · simp [hd]
  · exact (raiseWith_outsideAlarms ..).trans h.outside
  · simpa [List.filter_append, hout] using hsnap.raise hcount hset hnew

theorem Biased.step (h : Biased rate plan k bias o l s) {c : Accel} (hc : c ∉ l)
    (hk : ∀ x, (AlarmCode.sensorFault, x) ∉ k) (hfree : ∀ b, bufferOf o b = .free) (hlen : l.length < 65535) :
    Biased rate plan k bias o (l ++ [c]) (firstBias bias s c) := by
  cases hbias : biasInRange (bias.get c) with
  | false => exact h.fault hc hk hfree hlen hbias
  | true =>
    have hsame : firstBias bias s c = s := by simp [firstBias, afeBiasFault, hbias]
    rw [hsame]
    exact h.skip hbias

/-- The five first biases of a start (R19). -/
theorem biased_all (h : Raising rate 0x104#16 plan k o) (hk : ∀ x, (AlarmCode.sensorFault, x) ∉ k)
    (hsilent : o.ccu.counters.snapshots = 0) (hfree : ∀ b, bufferOf o b = .free) :
    Biased rate plan k bias o accelOrder (takeActions (accelOrder.map fun ch s => firstBias bias s ch) o) := by
  have h1 := (biased_nil (bias := bias) h hk hsilent).step (c := .g1) (by decide) hk hfree (by simp)
  have h2 := h1.step (c := .g2) (by decide) hk hfree (by simp)
  have h3 := h2.step (c := .g3) (by decide) hk hfree (by simp)
  have h4 := h3.step (c := .g4) (by decide) hk hfree (by simp)
  exact h4.step (c := .n1) (by decide) hk hfree (by simp)

end

end Sys2Proof.Machine
end

section
/-! The alarms implied at a start: each is of its own, and there are few (R143, R150). -/

namespace Sys2Proof.Machine

/-! ## The lists of keys -/

theorem mem_keyIf {b : Bool} {c : AlarmCode} {x : Source} {k : AlarmKey} : k ∈ keyIf b c x ↔ b = true ∧ k = (c, x) := by
  cases b <;> simp [keyIf]

theorem keyIf_nodup (b : Bool) (c : AlarmCode) (x : Source) : (keyIf b c x).Nodup := by cases b <;> simp [keyIf]

theorem keyIf_append_nodup (a b : Bool) {c d : AlarmCode} (h : c ≠ d) (x : Source) :
    (keyIf a c x ++ keyIf b d x).Nodup := by
  cases a <;> cases b <;> simp [keyIf, h]

/-- Lists of keys of sources of their own. -/
theorem flatMap_nodup_of_source {ι : Type} {l : List ι} {f : ι → List AlarmKey} (source : ι → Source)
    (hf : ∀ i, (f i).Nodup) (hs : ∀ i, ∀ k ∈ f i, k.2 = source i) (hl : (l.map source).Nodup) : (l.flatMap f).Nodup := by
  refine List.nodup_flatMap.mpr ⟨fun i _ => hf i, ?_⟩
  refine (List.pairwise_map.mp hl).imp fun {i j} hij k hi hj => hij ?_
  rw [← hs i k hi, hs j k hj]

theorem length_flatMap_le {ι : Type} (l : List ι) {f : ι → List AlarmKey} {n : Nat} (hf : ∀ i, (f i).length ≤ n) :
    (l.flatMap f).length ≤ l.length * n := by
  induction l with
  | nil => simp
  | cons i l ih =>
    rw [List.flatMap_cons, List.length_append, List.length_cons, Nat.add_mul, Nat.one_mul, Nat.add_comm]
    exact Nat.add_le_add ih (hf i)

theorem length_keyIf_le (b : Bool) (c : AlarmCode) (x : Source) : (keyIf b c x).length ≤ 1 := by cases b <;> simp [keyIf]

/-- The place of an alarm code in the order of a start's raises. -/
def startRank : AlarmCode → Nat
  | .retainedLost => 0
  | .bandAlert | .bandAlarm => 1
  | .gridCurrentAlert | .gridCurrentAlarm => 2
  | .iceSuspect | .iceDetected => 3
  | .taskDue | .taskOverdue => 4
  | .taskTableFull => 5
  | .sensorFault => 6
  | _ => 7

/-- Different keys, each of a code of a rank below `n`. -/
def Ranked (n : Nat) (l : List AlarmKey) : Prop := l.Nodup ∧ ∀ k ∈ l, startRank k.1 < n

theorem Ranked.append {n : Nat} {l m : List AlarmKey} (hl : Ranked n l) (hm : m.Nodup)
    (hr : ∀ k ∈ m, startRank k.1 = n) : Ranked (n + 1) (l ++ m) := by
  refine ⟨List.nodup_append'.mpr ⟨hl.1, hm, fun k hkl hkm => (hl.2 k hkl).ne (hr k hkm)⟩, fun k hk => ?_⟩
  rcases List.mem_append.mp hk with hk | hk
  · exact (hl.2 k hk).trans n.lt_succ_self
  · exact (hr k hk).trans_lt n.lt_succ_self

/-! ## The keys of a start -/

section
variable (failed : List RetSection) (bias : PerAccel Int) (t : State)

theorem rank_of_mem_keyIf {n : Nat} {b : Bool} {c : AlarmCode} {x : Source} {k : AlarmKey} (hc : startRank c = n)
    (h : k ∈ keyIf b c x) : startRank k.1 = n := by rw [(mem_keyIf.mp h).2, hc]

theorem rank_of_mem_pair {n : Nat} {a b : Bool} {c d : AlarmCode} {x y : Source} {k : AlarmKey} (hc : startRank c = n)
    (hd : startRank d = n) (h : k ∈ keyIf a c x ++ keyIf b d y) : startRank k.1 = n :=
  (List.mem_append.mp h).elim (rank_of_mem_keyIf hc) (rank_of_mem_keyIf hd)

theorem source_of_mem_pair {a b : Bool} {c d : AlarmCode} {x : Source} {k : AlarmKey}
    (h : k ∈ keyIf a c x ++ keyIf b d x) : k.2 = x :=
  (List.mem_append.mp h).elim (fun h => by rw [(mem_keyIf.mp h).2]) fun h => by rw [(mem_keyIf.mp h).2]

theorem rank_of_mem_flatMap {ι : Type} {l : List ι} {f : ι → List AlarmKey} {n : Nat} {k : AlarmKey}
    (hf : ∀ i, ∀ k ∈ f i, startRank k.1 = n) (h : k ∈ l.flatMap f) : startRank k.1 = n := by
  obtain ⟨i, -, hk⟩ := List.mem_flatMap.mp h
  exact hf i k hk

theorem rank_of_mem_restoredKeys {k : AlarmKey} (h : k ∈ restoredKeys failed t) :
    startRank k.1 < 6 ∧ (startRank k.1 = 0 → failed ≠ []) := by
  simp only [restoredKeys, List.mem_append] at h
  rcases h with ((((h | h) | h) | h) | h) | h
  · exact ⟨by rw [rank_of_mem_keyIf (n := 0) rfl h]; decide, fun _ => by simpa using (mem_keyIf.mp h).1⟩
  · have := rank_of_mem_flatMap (n := 1) (fun b k hk => rank_of_mem_pair rfl rfl hk) h
    omega
  · have : startRank k.1 = 2 := rank_of_mem_pair rfl rfl h
    omega
  · have : startRank k.1 = 3 := rank_of_mem_pair rfl rfl h
    omega
  · have := rank_of_mem_flatMap (n := 4) (fun x k hk => rank_of_mem_pair rfl rfl hk) h
    omega
  · have : startRank k.1 = 5 := rank_of_mem_keyIf rfl h
    omega

theorem sensorFault_not_mem_restoredKeys (x : Source) : (AlarmCode.sensorFault, x) ∉ restoredKeys failed t := fun h =>
  (rank_of_mem_restoredKeys failed t h).1.ne rfl

theorem rank_of_mem_biasKeys {l : List Accel} {k : AlarmKey} (h : k ∈ biasKeys bias l) : startRank k.1 = 6 :=
  rank_of_mem_flatMap (fun _ _ hk => rank_of_mem_keyIf rfl hk) h

/-- The implied alarms are different, for tasks with ids of their own. -/
theorem impliedAlarms_nodup (h : (t.plan.tasks.map (·.id)).Nodup) : (impliedAlarms failed bias t).Nodup := by
  have htake : (((t.plan.tasks.take 32).map fun x => Source.task x.id)).Nodup := by
    have hids : ((t.plan.tasks.take 32).map (·.id)).Nodup := by
      rw [List.map_take]
      exact h.sublist (List.take_sublist ..)
    have hsources := hids.map (f := Source.task) fun a b hab => by simpa using hab
    rwa [List.map_map] at hsources
  have hempty : Ranked 0 [] := ⟨List.nodup_nil, by simp⟩
  have hlost := hempty.append (keyIf_nodup (failed ≠ []) .retainedLost .ret) fun _ hk => rank_of_mem_keyIf rfl hk
  have hbands := hlost.append (m := (List.finRange 24).flatMap (bandKeys t.mon))
    (flatMap_nodup_of_source (fun b => .band b.val) (fun b => keyIf_append_nodup _ _ (by decide) _)
      (fun b k hk => source_of_mem_pair hk) ((List.nodup_finRange 24).map fun a b hab => Fin.ext (by simpa using hab)))
    fun _ hk => rank_of_mem_flatMap (fun _ _ hk => rank_of_mem_pair rfl rfl hk) hk
  have hcurrent := hbands.append (m := currentKeys t.mon) (keyIf_append_nodup _ _ (by decide) _)
    fun _ hk => rank_of_mem_pair rfl rfl hk
  have hicing := hcurrent.append (m := icingKeys t.mon) (keyIf_append_nodup _ _ (by decide) _)
    fun _ hk => rank_of_mem_pair rfl rfl hk
  have htasks := hicing.append (m := (t.plan.tasks.take 32).flatMap taskKeys)
    (flatMap_nodup_of_source (fun x => .task x.id) (fun x => keyIf_append_nodup _ _ (by decide) _)
      (fun x k hk => source_of_mem_pair hk) htake)
    fun _ hk => rank_of_mem_flatMap (fun _ _ hk => rank_of_mem_pair rfl rfl hk) hk
  have hwaiting := htasks.append (m := waitingKeys t.mpl.waiting) (keyIf_nodup ..) fun _ hk => rank_of_mem_keyIf rfl hk
  have hbias := hwaiting.append (m := biasKeys bias accelOrder)
    (flatMap_nodup_of_source (fun c => .accel c) (fun c => keyIf_nodup ..)
      (fun c k hk => by rw [(mem_keyIf.mp hk).2]) (by decide))
    fun _ hk => rank_of_mem_biasKeys bias hk
  rw [impliedAlarms_eq]
  exact hbias.1

theorem length_impliedAlarms_le : (impliedAlarms failed bias t).length ≤ 123 := by
  have hpair (a b : Bool) (c d : AlarmCode) (x : Source) : (keyIf a c x ++ keyIf b d x).length ≤ 2 := by
    have ha := length_keyIf_le a c x
    have hb := length_keyIf_le b d x
    rw [List.length_append]
    omega
  have hlost := length_keyIf_le (failed ≠ []) .retainedLost .ret
  have hbands := length_flatMap_le (List.finRange 24) (f := bandKeys t.mon) (n := 2) fun b => hpair ..
  have hcurrent : (currentKeys t.mon).length ≤ 2 := hpair ..
  have hicing : (icingKeys t.mon).length ≤ 2 := hpair ..
  have htasks := length_flatMap_le (t.plan.tasks.take 32) (f := taskKeys) (n := 2) fun x => hpair ..
  have htake := List.length_take_le 32 t.plan.tasks
  have hwaiting : (waitingKeys t.mpl.waiting).length ≤ 1 := length_keyIf_le ..
  have hbias : (biasKeys bias accelOrder).length ≤ 5 * 1 := length_flatMap_le accelOrder fun c => length_keyIf_le ..
  rw [List.length_finRange] at hbands
  rw [impliedAlarms_eq]
  simp only [restoredKeys, List.length_append]
  omega

/-- The alarms of a start depend on the grades, the icing state, the tasks and the waiting marks. -/
theorem restoredKeys_congr {u : State} (hbands : t.mon.bands = u.mon.bands) (hcurrent : t.mon.currentGrade = u.mon.currentGrade)
    (hicing : t.mon.icing = u.mon.icing) (htasks : t.plan.tasks = u.plan.tasks) (hwaiting : t.mpl.waiting = u.mpl.waiting) :
    restoredKeys failed t = restoredKeys failed u := by
  have hband : bandKeys t.mon = bandKeys u.mon := by
    funext b
    simp only [bandKeys, hbands]
  simp only [restoredKeys, currentKeys, icingKeys, hband, hcurrent, hicing, htasks, hwaiting]

/-- A start with lost sections raises RETAINED_LOST first. -/
theorem head_impliedAlarms (h : failed ≠ []) : (impliedAlarms failed bias t).head? = some (.retainedLost, .ret) := by
  rw [impliedAlarms_eq]
  simp [restoredKeys, keyIf, h]

end

end Sys2Proof.Machine
end

section
/-! The end of a whole start (R150, R180). -/

namespace Sys2Proof.Machine

/-! ## The seven stages -/

theorem takeActions_startStages (st : Start) (s : State) :
    takeActions (startStages st).flatten s =
      takeActions (accelOrder.map fun ch s => firstBias st.bias s ch)
        (beginOperation (formRecord st (takeActions (restoration st.failed)
          (takeActions mplStart (postedStart (validate st.cause st.failed s)))))) := by
  simp only [startStages, startOperation, List.flatten_cons, List.flatten_nil, List.append_nil, takeActions_append,
    takeActions_cons, takeActions_nil]
  rfl

/-- A whole start from the validated state `v`: `w` is the state after the Planner's actions and `o` the state at the start of
operation. -/
structure WholeStart (st : Start) (v w o t : State) : Prop where
  planned : Planned (postedStart v) w
  begun : Begun st (fun p => (v.lnk.get p).rate) w o
  biased : Biased (fun p => (v.lnk.get p).rate) w.plan (restoredKeys st.failed w) st.bias o accelOrder t

section
variable {st : Start} {u v w o t : State}

/-- What the Planner's actions leave alone at a start. -/
theorem Planned.beside (h : Planned u w) : w.beside = { u.beside with mpl := w.mpl } := by
  have hw : w.beside = { (datedStart u).beside with mpl := w.mpl } := by
    rw [h.frame]
    generalize datedStart u = d
    rfl
  rw [hw]
  simp only [State.beside, datedStart, withDays]

theorem Planned.plan (h : Planned u w) : w.plan =
    { u.plan with
      wear := settledWear u, openDay := (daysAtStart u.plan u.cal).1, days := (daysAtStart u.plan u.cal).2.1
      tasks := w.plan.tasks } := by
  have hw : w.plan = { (datedStart u).plan with tasks := w.plan.tasks } := (congrArg State.plan h.frame :)
  rw [hw]
  simp only [datedStart, withDays]

theorem Planned.mpl (h : Planned u w) :
    w.mpl = { u.mpl with waiting := w.mpl.waiting, orderDropped := (daysAtStart u.plan u.cal).2.2 } := by
  have hw : w.mpl = { (datedStart u).mpl with waiting := w.mpl.waiting } := (congrArg State.mpl h.frame :)
  rw [hw]
  simp only [datedStart, withDays]

theorem Planned.ccu (h : Planned u w) :
    w.ccu = { u.ccu with contributions := { u.ccu.contributions with planner := w.ccu.contributions.planner } } := by
  have hw : w.ccu = { (datedStart u).ccu with
      contributions := { (datedStart u).ccu.contributions with planner := w.ccu.contributions.planner } } :=
    (congrArg State.ccu h.frame :)
  rw [datedStart_ccu] at hw
  exact hw

theorem Planned.records (h : Planned u w) : w.records = u.records := by
  have hw : w.records = (datedStart u).records := (congrArg State.records h.frame :)
  rw [hw]
  simp only [datedStart, withDays]

theorem Planned.lnk (h : Planned u w) : w.lnk = u.lnk := by
  have hw : w.lnk = (datedStart u).lnk := (congrArg State.lnk h.frame :)
  rw [hw]
  simp only [datedStart, withDays]

theorem wholeStart (st : Start) (s : State) :
    ∃ w o, WholeStart st (validate st.cause st.failed s) w o (takeActions (startStages st).flatten s) := by
  generalize hv : validate st.cause st.failed s = v
  have hplanned := planned (u := postedStart v) (by rw [postedStart_eq, adjustedStart_eq])
    (by rw [postedStart_eq, adjustedStart_eq])
  rw [takeActions_startStages, hv]
  generalize takeActions mplStart (postedStart v) = w at hplanned
  have hret : w.ret = (postedStart v).ret := (congrArg State.ret hplanned.beside :)
  have hccu : w.ccu = { contributions := w.ccu.contributions } := by
    rw [hplanned.ccu, postedStart_eq, adjustedStart_eq]
  have hports : PortsHold (fun p => (v.lnk.get p).rate) 0 w := fun p => by
    rw [hplanned.lnk, postedStart_lnk, hret, postedStart_ret]
    cases p <;> rfl
  have hnil : Restoring (fun p => (v.lnk.get p).rate) w [] w :=
    { raising := raising_nil (by rw [hccu]) (by rw [hccu]) (by rw [hccu]) rfl hports
      beside := rfl, outside := rfl, records := rfl, silent := by rw [hccu] }
  obtain ⟨t, ht, heq⟩ := hnil.restoration (failed := st.failed)
  have hbegun := ht.begun
  rw [heq]
  refine ⟨w, _, hplanned, hbegun, biased_all hbegun.raising (sensorFault_not_mem_restoredKeys st.failed w) hbegun.silent ?_⟩
  intro b
  have hafe : (beginOperation (formRecord st (restoreCeiling t))).afe = (postedStart v).afe :=
    (congrArg State.afe hbegun.beside :).trans (congrArg State.afe hplanned.beside :)
  rw [bufferOf, hafe, postedStart_afe]
  cases b <;> rfl

end

end Sys2Proof.Machine
end

section
/-! What a whole start leaves (R150, R176, R180, R181). -/

namespace Sys2Proof.Machine

section
variable {st : Start} {v w o t : State} (h : WholeStart st v w o t)
include h

/-- The AFE at the start of operation. -/
theorem WholeStart.operationAfe : o.afe = (postedStart v).afe := by
  have hw : w.afe = (postedStart v).afe := by simpa only [State.beside] using congrArg State.afe h.planned.beside
  have ho : o.afe = w.afe := by simpa only [State.beside] using congrArg State.afe h.begun.beside
  exact ho.trans hw

theorem WholeStart.beside : t.beside =
    { (postedStart v).beside with
      mon := { (postedStart v).mon with ceilingSeq := (v.mon.ceilingSeq + 1) % 65536 }
      afe := { (postedStart v).afe with accel := t.afe.accel }
      mpl := w.mpl
      ret :=
        { v.ret with
          operating := true, restartAccepted := false
          startRecord := some { cause := st.cause, lost := st.failed, time := v.cal } } } := by
  have hmon : w.mon = (postedStart v).mon := by simpa only [State.beside] using congrArg State.mon h.planned.beside
  have hret : w.ret = (postedStart v).ret := by simpa only [State.beside] using congrArg State.ret h.planned.beside
  have hcal : w.cal = (postedStart v).cal := by simpa only [State.beside] using congrArg State.cal h.planned.beside
  have hnumber : (postedStart v).mon.ceilingSeq = v.mon.ceilingSeq := by rw [postedStart_mon]
  rw [h.biased.beside, h.operationAfe, h.begun.beside, h.planned.beside, hmon, hret, hcal, hnumber, postedStart_ret,
    postedStart_cal]

theorem WholeStart.cfg : t.cfg = v.cfg := by
  rw [← postedStart_cfg v]
  simpa only [State.beside] using congrArg State.cfg h.beside

theorem WholeStart.cal : t.cal = v.cal := by
  rw [← postedStart_cal v]
  simpa only [State.beside] using congrArg State.cal h.beside

theorem WholeStart.check : t.check = v.check := by
  rw [← postedStart_check v]
  simpa only [State.beside] using congrArg State.check h.beside

theorem WholeStart.mon : t.mon = { (postedStart v).mon with ceilingSeq := (v.mon.ceilingSeq + 1) % 65536 } :=
  by
  simpa only [State.beside] using congrArg State.mon h.beside

theorem WholeStart.ret : t.ret =
    { v.ret with
      operating := true, restartAccepted := false
      startRecord := some { cause := st.cause, lost := st.failed, time := v.cal } } := by
  simpa only [State.beside] using congrArg State.ret h.beside

theorem WholeStart.mpl : t.mpl =
    { (postedStart v).mpl with waiting := t.mpl.waiting, orderDropped := (daysAtStart v.plan v.cal).2.2 } := by
  have hw : t.mpl = w.mpl := by
    simpa only [State.beside] using congrArg State.mpl h.beside
  rw [hw]
  conv_lhs => rw [h.planned.mpl]
  rw [postedStart_plan, postedStart_cal]
  rfl

theorem WholeStart.grades : t.mpl.grades = (postedStart v).mpl.grades := by rw [h.mpl]

theorem WholeStart.afe : t.afe = { (postedStart v).afe with accel := t.afe.accel } := by
  simpa only [State.beside] using congrArg State.afe h.beside

theorem WholeStart.accel (c : Accel) : t.afe.accel.get c =
    if biasInRange (st.bias.get c) then {} else { fault := biasFaultOf (st.bias.get c) } := by
  have hbefore : o.afe.accel.get c = {} := by
    rw [h.operationAfe, postedStart_afe]
    cases c <;> rfl
  have hmem : c ∈ accelOrder := by cases c <;> decide
  rw [h.biased.accel, hbefore]
  cases biasInRange (st.bias.get c) <;> simp [hmem]

/-- The tasks of a start, and what they depend on, are those that the Planner's actions leave. -/
theorem WholeStart.planOf : t.plan = w.plan.counting t.cal.isSome t.ccu.alarms.length := h.biased.raising.day

theorem WholeStart.outside : t.ccu.outsideAlarms =
    { w.ccu.outsideAlarms with
      ceiling := some (leastContribution w.ccu.contributions), acknowledged := false, ackTimer := some 30
      freshness := some v.cfg.reportTimeout } := by
  have hcfg : w.cfg = v.cfg := by
    rw [← postedStart_cfg v]
    simpa only [State.beside] using congrArg State.cfg h.planned.beside
  rw [h.biased.outside, h.begun.outside, hcfg]

theorem WholeStart.contributions : t.ccu.contributions = w.ccu.contributions :=
  (congrArg CcuState.contributions h.outside :)

end

theorem PlanSection.counting_config (dated : Bool) (n : Nat) (p : PlanSection) : (p.counting dated n).config = p.config := by
  unfold PlanSection.counting
  split <;> rfl

theorem PlanSection.counting_wear (dated : Bool) (n : Nat) (p : PlanSection) : (p.counting dated n).wear = p.wear := by
  unfold PlanSection.counting
  split <;> rfl

theorem PlanSection.counting_days (dated : Bool) (n : Nat) (p : PlanSection) : (p.counting dated n).days = p.days := by
  unfold PlanSection.counting
  split <;> rfl

section
variable {st : Start} {v w o t : State} (h : WholeStart st v w o t)
include h

theorem WholeStart.sameTasks : SameTasks w t where
  tasks := by rw [h.planOf, PlanSection.counting_tasks]
  config := by rw [h.planOf, PlanSection.counting_config]
  wear := by rw [h.planOf, PlanSection.counting_wear]
  days := by rw [h.planOf, PlanSection.counting_days]
  cal := h.cal.trans (Eq.symm <| by
    rw [← postedStart_cal v]
    simpa only [State.beside] using congrArg State.cal h.planned.beside)
  waiting := by simpa only [State.beside] using congrArg (fun s => s.mpl.waiting) h.beside
  planner := congrArg Contributions.planner h.contributions

/-! ## MONITOR, the posts and the blocks -/

theorem WholeStart.startMonitor : StartMonitor v.mon t := startMonitor_of_posted h.cfg h.mon

theorem WholeStart.startPosts : StartPosts t := by
  refine startPosts_of_posted h.cfg h.cal h.mon h.grades ?_ fun hnone => ?_
  · rw [h.contributions]
    exact (congrArg CcuState.contributions h.planned.ccu :)
  · rw [h.contributions]
    exact h.planned.undated ((postedStart_cal v).trans hnone)

theorem WholeStart.startValues : StartValues st.bias t := by
  have hblocks := h.beside
  simp only [State.beside, State.mk.injEq] at hblocks
  obtain ⟨-, -, -, -, -, -, -, -, -, hafe, hptu, hrch, hspe, hgvm, hghm, hbim, -⟩ := hblocks
  exact startValues_of_posted h.cfg h.cal hafe h.accel hptu hrch hspe hgvm hghm hbim

/-! ## PLAN -/

/-- The days of a start depend on the open day and the ring of days alone. -/
theorem WholeStart.daysAtStart : daysAtStart (postedStart v).plan (postedStart v).cal = Machine.daysAtStart v.plan t.cal := by
  rw [postedStart_plan, postedStart_cal, h.cal]
  rfl

theorem WholeStart.wear (c : Fin 16) : t.plan.wear[c] =
    if componentGrade t c < 2 then { v.plan.wear[c] with grade2Since := none, grade2Duration := 0 } else v.plan.wear[c] := by
  have hwear : t.plan.wear = settledWear (postedStart v) := by
    rw [h.sameTasks.wear, h.planned.plan]
  have hconfig : t.plan.config = (postedStart v).plan.config := by
    rw [h.sameTasks.config, h.planned.plan]
  have hgrade : componentGrade (postedStart v) c = componentGrade t c := by
    rw [componentGrade, componentGrade, hconfig, h.grades]
  rw [hwear, settledWear]
  simp only [Fin.getElem_fin, Vector.getElem_ofFn, Fin.eta, hgrade, postedStart_plan]
  rfl

theorem WholeStart.startTasks : StartTasks v.plan t := by
  have htasks := h.planned.tasks t h.sameTasks
  rw [postedStart_plan] at htasks
  exact htasks

theorem WholeStart.startPlan : StartPlan v.plan t := by
  have hsettled : settledWear (postedStart v) = t.plan.wear := by rw [h.sameTasks.wear, h.planned.plan]
  have hplan : w.plan =
      { (postedStart v).plan with
        wear := t.plan.wear, openDay := (Machine.daysAtStart v.plan t.cal).1
        days := (Machine.daysAtStart v.plan t.cal).2.1, tasks := t.plan.tasks } := by
    rw [h.sameTasks.tasks, ← h.daysAtStart, ← hsettled]
    exact h.planned.plan
  refine ⟨?_, h.wear, ?_, h.startTasks⟩
  · have hcounted := h.planOf
    rw [hplan, postedStart_plan, ← h.cal, plannedEndFrom_eq] at hcounted
    refine hcounted.trans ?_
    rcases t.cal with _ | now <;> rfl
  · rw [h.mpl, ← h.cal, postedStart_mpl]

end

end Sys2Proof.Machine
end

section
/-! The alarms, the snapshots and the ports of a whole start (R137, R147, R150, R180, R182). -/

namespace Sys2Proof.Machine

section
variable {st : Start} {v w o t : State} (h : WholeStart st v w o t)
include h

/-- The keys raised are those implied by the state that the start leaves. -/
theorem WholeStart.keys :
    restoredKeys st.failed w ++ biasKeys st.bias accelOrder = impliedAlarms st.failed st.bias t := by
  have hmon : w.mon = (postedStart v).mon := by simpa only [State.beside] using congrArg State.mon h.planned.beside
  rw [impliedAlarms_eq, restoredKeys_congr st.failed t (u := w) (by rw [h.mon, hmon]) (by rw [h.mon, hmon])
    (by rw [h.mon, hmon]) h.sameTasks.tasks h.sameTasks.waiting]

theorem WholeStart.raising :
    Raising (fun p => (v.lnk.get p).rate) 0x104#16 w.plan (impliedAlarms st.failed st.bias t) t := by
  rw [← h.keys]
  exact h.biased.raising

theorem WholeStart.startAlarms : StartAlarms st.failed st.bias t := by
  intro hnodup
  obtain ⟨halarms, hover, hcount⟩ := h.raising.table (impliedAlarms_nodup st.failed st.bias t hnodup)
  have hlen := length_impliedAlarms_le st.failed st.bias t
  refine ⟨halarms, hover, hcount.trans (min_eq_left ?_)⟩
  omega

theorem WholeStart.retainedLost : (∃ e ∈ t.ccu.alarms, e.code = .retainedLost) ↔ st.failed ≠ [] := by
  refine ⟨fun ⟨e, he, hcode⟩ => ?_, fun hfailed => ?_⟩
  · have hmem := h.raising.keys e he
    have hzero : startRank e.code = 0 := by rw [hcode]; rfl
    rw [impliedAlarms_eq, List.mem_append] at hmem
    rcases hmem with hmem | hmem
    · exact (rank_of_mem_restoredKeys st.failed t hmem).2 hzero
    · exact absurd (rank_of_mem_biasKeys st.bias hmem) (by rw [hzero]; decide)
  · obtain ⟨e, he, hkey⟩ := h.raising.first _ (head_impliedAlarms st.failed st.bias t hfailed)
    exact ⟨e, he, congrArg Prod.fst hkey⟩

theorem WholeStart.ccu : t.ccu =
    { op := {}, sinceReport := none, freshness := some t.cfg.reportTimeout, contributions := t.ccu.contributions
      ceiling := some (leastContribution t.ccu.contributions), acknowledged := false, ackTimer := some 30
      alarms := t.ccu.alarms, tableOverflow := t.ccu.tableOverflow
      counters := { overflows := t.ccu.counters.overflows, snapshots := t.ccu.counters.snapshots } } := by
  have hwhole (c : CcuState) : c = { c.outsideAlarms with
      alarms := c.alarms, tableOverflow := c.tableOverflow, counters := c.counters } := rfl
  have hw : w.ccu = { contributions := w.ccu.contributions } := by
    conv_lhs => rw [h.planned.ccu, postedStart_ccu]
    rw [h.planned.ccu]
  conv_lhs => rw [hwhole t.ccu, h.outside, hw]
  rw [h.contributions, h.cfg, ← h.raising.counters]
  rfl

theorem WholeStart.startPorts : StartPorts st.failed st.bias t := by
  refine ⟨h.ccu, fun p => ?_⟩
  have hop : t.ret.operating = true := by rw [h.ret]
  have hport := h.raising.ports p
  have hrate : (v.lnk.get p).rate = (t.lnk.get p).rate := by rw [hport]
  rw [hrate, hop, Bool.true_and] at hport
  refine hport.trans ?_
  cases impliedAlarms st.failed st.bias t <;> by_cases hsnap : t.ccu.counters.snapshots = 0 <;>
    simp [hsnap, startNotices]

theorem WholeStart.rate (p : Port) : (t.lnk.get p).rate = (v.lnk.get p).rate := by rw [h.raising.ports p]

theorem WholeStart.snapping :
    Snapping v.records ([Accel.g1, .g2, .g3, .g4, .n1].filter fun c => outOfRange (st.bias.get c)).length t := by
  have hrecords : o.records = v.records := by
    rw [h.begun.records, h.planned.records, postedStart_records]
  rw [← hrecords]
  exact h.biased.snapping

theorem WholeStart.tasksOrdered (ho : TasksOrdered v) : TasksOrdered t := by
  have hposted : TasksOrdered (postedStart v) := by
    rw [TasksOrdered, postedStart_plan]
    exact ho
  rw [TasksOrdered, h.sameTasks.tasks]
  exact h.planned.ordered hposted

end

/-! ## The sections before the start -/

/-- The retained sections of `v` are those of `s`, with the lost ones at their defaults (R179). -/
structure SectionsFrom (lost : RetSection → Bool) (s v : State) : Prop where
  cfg : v.cfg = if lost .config then {} else s.cfg
  cal : v.cal = if lost .calendar then none else s.cal
  mon : v.mon = if lost .monitor then { icing := { state := .suspect, active := v.cfg.bim.heaterOff } } else s.mon
  plan : v.plan =
    if lost .plan then { wear := Vector.replicate 16 { countingSince := v.cal.map (·.day) } } else s.plan
  records : v.records = if lost .records then {} else s.records

theorem SectionsFrom.refl (s : State) : SectionsFrom (fun _ => false) s s := ⟨rfl, rfl, rfl, rfl, rfl⟩

theorem takeDefaults_sections (failed : List RetSection) (s : State) :
    SectionsFrom failed.contains s (takeDefaults failed s) := by
  constructor <;>
    simp only [takeDefaults, apply_ite State.cfg, apply_ite State.cal, apply_ite State.mon, apply_ite State.plan,
      apply_ite State.records, today, ite_self]
  · rfl
  · rfl

/-- A whole start from the sections of `s`, with the failed ones at their defaults. -/
theorem WholeStart.startedFrom {st : Start} {s v w o t : State} (h : WholeStart st v w o t)
    (hv : SectionsFrom st.failed.contains s v) : StartedFrom st.cause st.failed st.bias s t := by
  have hrecords := hv.records
  have hmon : v.mon =
      if st.failed.contains .monitor then { icing := { state := .suspect, active := t.cfg.bim.heaterOff } } else s.mon := by
    rw [h.cfg]; exact hv.mon
  have hplan : v.plan = if st.failed.contains .plan then
      { wear := Vector.replicate 16 { countingSince := t.cal.map (·.day) } } else s.plan := by
    rw [h.cal]; exact hv.plan
  have hsnapping := h.snapping
  rw [hrecords] at hsnapping
  refine ⟨by rw [h.ret], by rw [h.ret], by rw [h.ret, h.cal], h.cfg.trans hv.cfg, h.cal.trans hv.cal, hsnapping.ring,
    hsnapping.count, hsnapping.kept, hsnapping.all, hmon ▸ h.startMonitor, hplan ▸ h.startPlan, h.startValues, h.startPosts,
    h.startAlarms, h.startPorts, h.retainedLost, fun ho => h.tasksOrdered ?_⟩
  rw [TasksOrdered, hv.plan]
  split
  · exact ⟨Nat.zero_le _, List.Pairwise.nil⟩
  · exact ho

end Sys2Proof.Machine
end

section
/-! What the actions of a start leave alone, for a start that is cut short (R177, R183). -/

namespace Sys2Proof.Machine

/-- The supply and the reset input of the retained memory. -/
def RetState.pins (r : RetState) : RetState := { r with operating := false, restartAccepted := false, startRecord := none }

/-- From `s` to `t` the parts that a cut start is judged by stand still. -/
structure Still (s t : State) : Prop where
  cfg : t.cfg = s.cfg
  cal : t.cal = s.cal
  icing : t.mon.icing = s.mon.icing
  ring : t.records.ring = s.records.ring
  history : t.plan.history = s.plan.history
  check : t.check = s.check
  pins : t.ret.pins = s.ret.pins

/-- They stand still, with the ceiling's number, and no capture fills. -/
structure Idling (v : State) (n : Nat) (s : State) : Prop where
  still : Still v s
  number : s.mon.ceilingSeq = n
  free : s.afe.buffers = ⟨.free, .free, .free, .free, .free⟩

/-- An action of a start that leaves these parts alone in every state. -/
structure Steady (s t : State) : Prop extends Still s t where
  number : t.mon.ceilingSeq = s.mon.ceilingSeq
  buffers : t.afe.buffers = s.afe.buffers

theorem Still.refl (s : State) : Still s s := ⟨rfl, rfl, rfl, rfl, rfl, rfl, rfl⟩

theorem Still.trans {s t u : State} (h : Still s t) (k : Still t u) : Still s u :=
  ⟨k.cfg.trans h.cfg, k.cal.trans h.cal, k.icing.trans h.icing, k.ring.trans h.ring, k.history.trans h.history,
    k.check.trans h.check, k.pins.trans h.pins⟩

theorem Steady.refl (s : State) : Steady s s := ⟨.refl s, rfl, rfl⟩

theorem Steady.trans {s t u : State} (h : Steady s t) (k : Steady t u) : Steady s u :=
  ⟨h.toStill.trans k.toStill, k.number.trans h.number, k.buffers.trans h.buffers⟩

theorem Steady.idling {v s t : State} {n : Nat} (k : Steady s t) (h : Idling v n s) : Idling v n t :=
  ⟨h.still.trans k.toStill, k.number.trans h.number, k.buffers.trans h.free⟩

/-- An action of the Planner changes the wear, the days and the tasks of PLAN, and blocks that a cut start does not keep. -/
theorem steady_of_planner {s t : State} (hcfg : t.cfg = s.cfg) (hcal : t.cal = s.cal) (hmon : t.mon = s.mon)
    (hrecords : t.records.ring = s.records.ring) (hhistory : t.plan.history = s.plan.history) (hcheck : t.check = s.check)
    (hret : t.ret.pins = s.ret.pins) (hafe : t.afe = s.afe) : Steady s t :=
  ⟨⟨hcfg, hcal, by rw [hmon], hrecords, hhistory, hcheck, hret⟩, by rw [hmon], by rw [hafe]⟩

/-! ## Raises -/

theorem raiseWith_planDayOnly (b : Bool) (c : AlarmCode) (x : Source) (s : State) : PlanDayOnly s (raiseWith b c x s) := by
  unfold raiseWith
  split
  · split
    · rfl
    · rfl
    · exact enteredActive_planDayOnly b c x _
  · split
    · exact enteredActive_planDayOnly b c x _
    · exact raiseIntoFull_planDayOnly b c x s

theorem raiseWith_ring (b : Bool) (c : AlarmCode) (x : Source) (s : State) :
    (raiseWith b c x s).records.ring = s.records.ring := by
  cases b with
  | false => rw [(raiseWith_quiet c x s).1]
  | true => exact raise_ring c x s

theorem raiseWith_steady (b : Bool) (c : AlarmCode) (x : Source) (s : State) : Steady s (raiseWith b c x s) :=
  steady_of_planner (by simp) (by simp) (by simp) (raiseWith_ring ..) (by rw [raiseWith_planDayOnly b c x s]) (by simp)
    (by simp) (by simp)

/-! ## The stages before the restoration -/

theorem freshPlannedEnd_steady (s : State) : Steady s (freshPlannedEnd s) :=
  steady_of_planner rfl rfl rfl rfl rfl rfl rfl rfl

theorem gvmAdjust_steady (s : State) : Steady s (gvmAdjust s) := by
  constructor
  · constructor <;> simp only [gvmAdjust]
  · simp only [gvmAdjust]
  · simp only [gvmAdjust]

theorem gvmStartPosts_steady (s : State) : Steady s (gvmStartPosts s) := by
  apply steady_of_planner <;> simp [gvmStartPosts]

theorem ghmStartPosts_steady (s : State) : Steady s (ghmStartPosts s) := by
  apply steady_of_planner <;> simp [ghmStartPosts]

theorem bimStartPosts_steady (s : State) : Steady s (bimStartPosts s) := by
  apply steady_of_planner <;> simp [bimStartPosts]

theorem settleStartGrades_steady (s : State) : Steady s (settleStartGrades s) := by
  rw [settleStartGrades_eq]
  apply steady_of_planner <;> rfl

theorem closeDay_steady (day : Nat) (s : State) : Steady s (closeDay day s) := by
  rcases closeDay_cases day s with ⟨-, heq⟩ | ⟨-, heq⟩ <;> rw [heq] <;> apply steady_of_planner <;> rfl

theorem startDay_steady (s : State) : Steady s (startDay s) := by
  unfold startDay
  split
  · exact .refl s
  · split
    · apply steady_of_planner <;> rfl
    · split
      · exact (closeDay_steady _ s).trans (by apply steady_of_planner <;> rfl)
      · exact .refl s

theorem dropWaiting_steady (c : Fin 16) (s : State) : Steady s (dropWaiting c s) := by
  unfold dropWaiting
  dsimp only
  split
  · split
    · apply steady_of_planner <;> rfl
    · apply steady_of_planner <;> simp [withWaiting]
  · exact .refl s

theorem treatFullDuration_steady (s : State) (c : Fin 16) : Steady s (treatFullDuration false s c) := by
  unfold treatFullDuration
  split
  · unfold treatCondition
    split
    · exact .refl s
    · split
      · exact .refl s
      · split
        · split
          · exact .refl s
          · have htasks (f : List Task → List Task) : Steady s (withTasks f s) := by apply steady_of_planner <;> rfl
            exact (htasks _).trans (dropWaiting_steady c _)
        · apply steady_of_planner <;> rfl
  · exact .refl s

theorem recomputeQuietly_steady (s : State) : Steady s (recomputeQuietly s) := by
  unfold recomputeQuietly
  split
  · exact .refl s
  · apply steady_of_planner <;> rfl

theorem startPlannerPost_steady (s : State) : Steady s (startPlannerPost s) := by
  apply steady_of_planner <;> simp [startPlannerPost]

theorem mplStart_steady {f : State → State} (hf : f ∈ mplStart) (s : State) : Steady s (f s) := by
  simp only [mplStart, List.mem_append, List.mem_cons, List.mem_map, List.not_mem_nil, or_false] at hf
  rcases hf with ((rfl | rfl) | ⟨c, -, rfl⟩) | rfl | rfl
  · exact settleStartGrades_steady s
  · exact startDay_steady s
  · exact treatFullDuration_steady s c
  · exact recomputeQuietly_steady s
  · exact startPlannerPost_steady s

/-! ## The restoration and the stages after it -/

/-- The restoration before its last action. -/
def alarmRestoration (failed : List RetSection) : List (State → State) :=
  [restoreLost failed] ++ (List.finRange 24).map (fun b s => restoreBand s b) ++ [restoreCurrent, restoreIcing] ++
    (List.range 32).map restorePlace ++ [restoreWaiting]

theorem restoration_eq (failed : List RetSection) : restoration failed = alarmRestoration failed ++ [restoreCeiling] := by
  simp [restoration, alarmRestoration]

theorem length_alarmRestoration (failed : List RetSection) : (alarmRestoration failed).length = 60 := by
  simp [alarmRestoration]

theorem alarmRestoration_steady {failed : List RetSection} {f : State → State} (hf : f ∈ alarmRestoration failed)
    (s : State) : Steady s (f s) := by
  simp only [alarmRestoration, List.mem_append, List.mem_cons, List.mem_map, List.not_mem_nil, or_false] at hf
  rcases hf with (((rfl | ⟨b, -, rfl⟩) | rfl | rfl) | ⟨i, -, rfl⟩) | rfl
  · unfold restoreLost
    split
    · exact .refl s
    · exact raiseWith_steady ..
  · dsimp only [restoreBand]
    split
    · exact raiseWith_steady ..
    · split
      · exact raiseWith_steady ..
      · exact .refl s
  · unfold restoreCurrent
    split
    · exact raiseWith_steady ..
    · split
      · exact raiseWith_steady ..
      · exact .refl s
  · unfold restoreIcing
    split
    · exact .refl s
    · exact raiseWith_steady ..
    · exact raiseWith_steady ..
    · exact raiseWith_steady ..
  · unfold restorePlace
    split
    · exact .refl s
    · unfold restoreTask
      split
      · exact .refl s
      · exact raiseWith_steady ..
      · exact raiseWith_steady ..
  · unfold restoreWaiting
    split
    · exact raiseWith_steady ..
    · exact .refl s

theorem restoreCeiling_still (s : State) : Still s (restoreCeiling s) := ⟨rfl, rfl, rfl, rfl, rfl, rfl, rfl⟩

theorem restoreCeiling_number (s : State) : (restoreCeiling s).mon.ceilingSeq = (s.mon.ceilingSeq + 1) % 65536 := rfl

theorem formRecord_steady (st : Start) (s : State) : Steady s (formRecord st s) := by
  apply steady_of_planner <;> rfl

theorem beginOperation_steady (s : State) : Steady s (beginOperation s) := by
  apply steady_of_planner <;> rfl

/-- A first bias finds no capture to abort (R19). -/
theorem firstBias_idling {bias : PerAccel Int} {ch : Accel} {v s : State} {n : Nat} (h : Idling v n s) :
    Idling v n (firstBias bias s ch) := by
  unfold firstBias afeBiasFault
  split
  · exact h
  · have hset : Steady s (setAccel ch { fault := biasFaultOf (bias.get ch) } s) :=
      ⟨⟨rfl, rfl, rfl, rfl, rfl, rfl, rfl⟩, rfl, rfl⟩
    have hraised := (raiseWith_steady true .sensorFault (.accel ch) _).idling (hset.idling h)
    rw [abortChannel_eq, abortAll_of_none]
    · exact hraised
    · intro b
      rw [bufferOf, raise, hraised.free]
      cases b <;> rfl

theorem volatileStart_still (s : State) : Still s (volatileStart s) := ⟨rfl, rfl, rfl, rfl, rfl, rfl, rfl⟩

theorem volatileStart_idling (s : State) : Idling s s.mon.ceilingSeq (volatileStart s) := ⟨volatileStart_still s, rfl, rfl⟩

end Sys2Proof.Machine
end

section
/-! A start that is cut short (R177, R183). -/

namespace Sys2Proof.Machine

/-- What a cut start keeps of `v`, with the ceiling's number it has come to. -/
structure CutAt (v : State) (n : Nat) (s : State) : Prop where
  still : Still v s
  number : s.mon.ceilingSeq = n

/-- An action that keeps a part at rest. -/
def Restful (f : State → State) : Prop := ∀ v n s, Idling v n s → Idling v n (f s)

theorem restful_of_steady {f : State → State} (h : ∀ s, Steady s (f s)) : Restful f := fun _ _ s hs => (h s).idling hs

section
variable {v s : State} {n : Nat} {stage : List (State → State)}

theorem Idling.cut (h : Idling v n s) : CutAt v n s := ⟨h.still, h.number⟩

theorem Idling.actions (h : Idling v n s) (hl : ∀ f ∈ stage, Restful f) : Idling v n (takeActions stage s) :=
  takeActions_keeps (fun f hf t ht => hl f hf v n t ht) h

/-- Sections of one state and of another stand still where both do. -/
theorem withSections_still {a : State} (ha : Still v a) (hs : Still v s) (made : List RetSection) :
    Still v (withSections made a s) := by
  have hpick {α : Type} {b : Bool} {x y z : α} (hx : x = z) (hy : y = z) : (if b then x else y) = z := by
    cases b
    · exact hy
    · exact hx
  refine ⟨hpick ha.cfg hs.cfg, hpick ha.cal hs.cal, ?_, ?_, ?_, hs.check, hs.pins⟩
  · rw [withSections, apply_ite MonitorSection.icing]
    exact hpick ha.icing hs.icing
  · rw [withSections, apply_ite RecordsSection.ring]
    exact hpick ha.ring hs.ring
  · rw [withSections, apply_ite PlanSection.history]
    exact hpick ha.history hs.history

theorem withSections_number (a : State) (made : List RetSection) :
    (withSections made a s).mon.ceilingSeq =
      if made.contains .monitor then a.mon.ceilingSeq else s.mon.ceilingSeq :=
  apply_ite MonitorSection.ceilingSeq ..

/-- The sections of two states that keep the same. -/
theorem CutAt.withSections {a : State} (ha : CutAt v n a) (hs : CutAt v n s) (made : List RetSection) :
    CutAt v n (withSections made a s) :=
  ⟨withSections_still ha.still hs.still made, by rw [withSections_number, ha.number, hs.number, ite_self]⟩

/-- A stage of restful actions, cut short or whole. -/
theorem Idling.partialStage (h : Idling v n s) (hl : ∀ f ∈ stage, Restful f) (x : StartInput) :
    CutAt v n (partialStage stage x s) := by
  have htake := h.actions fun f hf => hl f (List.mem_of_mem_take (i := x.moments) hf)
  rcases partialStage_eq stage x s with ⟨-, heq⟩ | ⟨f, hf, heq⟩
  · exact heq ▸ (h.actions hl).cut
  · exact heq ▸ (hl f (List.mem_of_getElem? hf) v n _ htake).cut.withSections htake.cut _

/-! ## The stages -/

theorem freshPlannedEnd_restful : Restful freshPlannedEnd := restful_of_steady freshPlannedEnd_steady

/-- The stage of the volatile values (R180). -/
theorem partialStage_volatile (x : StartInput) (v : State) :
    CutAt v v.mon.ceilingSeq (partialStage [volatileStart, freshPlannedEnd] x v) := by
  have hvolatile := volatileStart_idling v
  have hfresh := freshPlannedEnd_restful _ _ _ hvolatile
  rcases partialStage_eq [volatileStart, freshPlannedEnd] x v with ⟨-, heq⟩ | ⟨f, hf, heq⟩
  · exact heq ▸ hfresh.cut
  · rw [heq]
    generalize x.moments = m at hf ⊢
    rcases m with _ | _ | m
    · obtain rfl : volatileStart = f := by simpa using hf
      exact hvolatile.cut.withSections ⟨.refl v, rfl⟩ _
    · obtain rfl : freshPlannedEnd = f := by simpa using hf
      exact hfresh.cut.withSections hvolatile.cut _
    · simp at hf

theorem alarmRestoration_restful {failed : List RetSection} : ∀ f ∈ alarmRestoration failed, Restful f :=
  fun _ hf => restful_of_steady (alarmRestoration_steady hf)

theorem Idling.ceiling (h : Idling v n s) : Idling v ((n + 1) % 65536) (restoreCeiling s) :=
  ⟨h.still.trans (restoreCeiling_still s), by rw [restoreCeiling_number, h.number], h.free⟩

/-- The stage of the restoration: its last action counts the ceiling's number (R150, R177). -/
theorem Idling.partialRestoration (h : Idling v n s) (failed : List RetSection) (x : StartInput) :
    CutAt v (if numberCounted 4 x then (n + 1) % 65536 else n) (Machine.partialStage (restoration failed) x s) := by
  have hlen := length_alarmRestoration failed
  have hwhole := h.actions (alarmRestoration_restful (failed := failed))
  have hceiling : CutAt v ((n + 1) % 65536) (restoreCeiling (takeActions (alarmRestoration failed) s)) :=
    ⟨hwhole.still.trans (restoreCeiling_still _), by rw [restoreCeiling_number, hwhole.number]⟩
  rw [restoration_eq]
  rcases partialStage_eq (alarmRestoration failed ++ [restoreCeiling]) x s with ⟨hle, heq⟩ | ⟨f, hf, heq⟩
  · have hcounted : numberCounted 4 x = true := by
      rw [List.length_append, hlen, List.length_singleton] at hle
      simp [numberCounted, show 60 < x.moments from hle]
    rw [heq, hcounted, takeActions_append]
    exact hceiling
  · rw [heq]
    have hlt := (List.getElem?_eq_some_iff.mp hf).1
    rw [List.length_append, hlen, List.length_singleton] at hlt
    by_cases hlast : x.moments = 60
    · have htake : (alarmRestoration failed ++ [restoreCeiling]).take x.moments = alarmRestoration failed := by
        rw [hlast, ← hlen, List.take_left]
      obtain rfl : restoreCeiling = f := by
        rw [hlast, List.getElem?_append_right (by omega), hlen] at hf
        simpa using hf
      have hcounted : numberCounted 4 x = x.updated.contains .monitor := by simp [numberCounted, hlast]
      rw [htake, hcounted]
      refine ⟨withSections_still hceiling.still hwhole.still _, ?_⟩
      rw [withSections_number, hceiling.number, hwhole.number]
    · have hbefore : x.moments < 60 := by omega
      have hcounted : numberCounted 4 x = false := by
        simp [numberCounted, hlast, hbefore.le]
      rw [List.getElem?_append_left (by omega)] at hf
      rw [List.take_append_of_le_length (by omega), hcounted]
      have htake := h.actions fun f hf =>
        alarmRestoration_restful (failed := failed) f (List.mem_of_mem_take (i := x.moments) hf)
      exact (alarmRestoration_restful f (List.mem_of_getElem? hf) _ _ _ htake).cut.withSections htake.cut _

/-- The posts of a start with the Planner's actions. -/
def postActions : List (State → State) := [gvmStartPosts, ghmStartPosts, bimStartPosts] ++ mplStart

theorem restful_posts : ∀ f ∈ postActions, Restful f := by
  intro f hf
  simp only [postActions, List.mem_append, List.mem_cons, List.not_mem_nil, or_false] at hf
  rcases hf with (rfl | rfl | rfl) | hf
  · exact restful_of_steady gvmStartPosts_steady
  · exact restful_of_steady ghmStartPosts_steady
  · exact restful_of_steady bimStartPosts_steady
  · exact restful_of_steady (mplStart_steady hf)

theorem restful_adjust : ∀ f ∈ [gvmAdjust], Restful f := by
  intro f hf
  obtain rfl := List.mem_singleton.mp hf
  exact restful_of_steady gvmAdjust_steady

theorem restful_record (st : Start) : ∀ f ∈ [formRecord st], Restful f := by
  intro f hf
  obtain rfl := List.mem_singleton.mp hf
  exact restful_of_steady (formRecord_steady st)

theorem restful_operation (st : Start) : ∀ f ∈ startOperation st, Restful f := by
  intro f hf
  simp only [startOperation, List.mem_append, List.mem_singleton, List.mem_map] at hf
  rcases hf with rfl | ⟨ch, -, rfl⟩
  · exact restful_of_steady beginOperation_steady
  · exact fun v n s hs => firstBias_idling hs

/-- The stages after the restoration. -/
def lateStages (st : Start) : List (List (State → State)) := [[formRecord st], startOperation st]

theorem restful_late (st : Start) : ∀ l ∈ lateStages st, ∀ f ∈ l, Restful f := by
  intro l hl
  simp only [lateStages, List.mem_cons, List.not_mem_nil, or_false] at hl
  rcases hl with rfl | rfl
  · exact restful_record st
  · exact restful_operation st

/-- The state of a start before its restoration, from the validated state. -/
def unrestored (v : State) : State := takeActions postActions (takeActions [gvmAdjust] (freshPlannedEnd (volatileStart v)))

/-- A start that is cut short after its restoration. -/
theorem partialStart_late (st : Start) (j : Nat) (x : StartInput) (s : State) :
    partialStart st (j + 5) x s =
      partialStage ((lateStages st).getD j []) x (takeActions ((lateStages st).take j).flatten
        (restoreCeiling (takeActions (alarmRestoration st.failed) (unrestored (validate st.cause st.failed s))))) := by
  have hprefix : ((startStages st).take (j + 5)).flatten =
      validate st.cause st.failed :: volatileStart :: freshPlannedEnd :: ([gvmAdjust] ++ postActions ++
        (alarmRestoration st.failed ++ [restoreCeiling])) ++ ((lateStages st).take j).flatten := by
    simp [startStages, restoration_eq, lateStages, postActions]
  have hstage : (startStages st).getD (j + 5) [] = (lateStages st).getD j [] := by
    simp only [startStages, lateStages, List.getD_cons_succ]
  rw [partialStart, if_neg (by omega), hprefix, hstage]
  simp only [List.cons_append, takeActions_cons, takeActions_append, takeActions_nil, unrestored]

/-- A start that is cut short in its posts. -/
theorem partialStart_posts (st : Start) (x : StartInput) (s : State) :
    partialStart st 3 x s =
      partialStage postActions x
        (takeActions [gvmAdjust] (freshPlannedEnd (volatileStart (validate st.cause st.failed s)))) := by
  have hprefix : ((startStages st).take 3).flatten =
      validate st.cause st.failed :: volatileStart :: freshPlannedEnd :: [gvmAdjust] := by
    simp [startStages]
  have hstage : (startStages st).getD 3 [] = postActions := by
    simp only [startStages, List.getD_cons_succ, List.getD_cons_zero, postActions]
  rw [partialStart, if_neg (by decide), hprefix, hstage]
  simp only [takeActions_cons]

/-- A start that is cut short in its restoration. -/
theorem partialStart_restoration (st : Start) (x : StartInput) (s : State) :
    partialStart st 4 x s =
      partialStage (restoration st.failed) x (unrestored (validate st.cause st.failed s)) := by
  have hprefix : ((startStages st).take 4).flatten =
      validate st.cause st.failed :: volatileStart :: freshPlannedEnd :: ([gvmAdjust] ++ postActions) := by
    simp [startStages, postActions]
  have hstage : (startStages st).getD 4 [] = restoration st.failed := by
    simp only [startStages, List.getD_cons_succ, List.getD_cons_zero]
  rw [partialStart, if_neg (by decide), hprefix, hstage]
  simp only [takeActions_cons, takeActions_append, unrestored]

/-- A start cut short after its first stage keeps the validated sections and has counted the ceiling's number as far as it has
come. -/
theorem partialStart_validated (st : Start) {k : Nat} (hk : k ≠ 0) (x : StartInput) (s : State) :
    let v := validate st.cause st.failed s
    CutAt v (if numberCounted k x then (v.mon.ceilingSeq + 1) % 65536 else v.mon.ceilingSeq) (partialStart st k x s) := by
  intro v
  have hearly (h : k < 4) : numberCounted k x = false := by
    simp [numberCounted, show ¬ 4 < k by omega, show k ≠ 4 by omega]
  have hlate (h : 4 < k) : numberCounted k x = true := by simp [numberCounted, h]
  have hfresh := freshPlannedEnd_restful _ _ _ (volatileStart_idling v)
  have hadjusted := hfresh.actions restful_adjust
  have hposted := hadjusted.actions restful_posts
  have hrestored := hposted.actions (alarmRestoration_restful (failed := st.failed))
  have hceiling := hrestored.ceiling
  have hlates (j : Nat) : ∀ f ∈ ((lateStages st).take j).flatten, Restful f := fun f hf => by
    obtain ⟨l, hl, hf⟩ := List.mem_flatten.mp hf
    exact restful_late st l (List.mem_of_mem_take hl) f hf
  have hlast (j : Nat) : ∀ f ∈ (lateStages st).getD j [], Restful f := fun f hf => by
    rw [List.getD_eq_getElem?_getD] at hf
    cases hget : (lateStages st)[j]? with
    | none => simp [hget] at hf
    | some l =>
      rw [hget] at hf
      exact restful_late st l (List.mem_of_getElem? hget) f hf
  rcases k with _ | _ | _ | _ | _ | j
  · exact absurd rfl hk
  · rw [hearly (by omega), partialStart, if_neg hk]
    exact partialStage_volatile x v
  · rw [hearly (by omega), partialStart, if_neg hk]
    exact hfresh.partialStage restful_adjust x
  · rw [hearly (by omega), partialStart_posts]
    exact hadjusted.partialStage restful_posts x
  · rw [partialStart_restoration]
    exact hposted.partialRestoration st.failed x
  · rw [hlate (by omega), partialStart_late]
    exact (hceiling.actions (hlates j)).partialStage (hlast j) x

end

end Sys2Proof.Machine
end

section
/-! The state that a cut start leaves, and the validation of a power-on (R177 to R179, R183). -/

namespace Sys2Proof.Machine

/-- The check words are no part of what a start leaves. -/
theorem StartedFrom.rechecked {cause : StartCause} {failed : List RetSection} {bias : PerAccel Int} {s t : State}
    (h : StartedFrom cause failed bias s t) (u : State) : StartedFrom cause failed bias s (rechecked u t) := by
  obtain ⟨hop, haccepted, hrecord, hcfg, hcal, hring, hcount, hkept, hall, hmon, hplan, hvalues, hposts, halarms, hports, hlost,
    hord⟩ := h
  exact ⟨hop, haccepted, hrecord, hcfg, hcal, hring, hcount, hkept, hall, hmon, hplan, hvalues, hposts, halarms, hports, hlost,
    hord⟩

/-! ## The state held -/

/-- A part that was starting is held, without power or under reset. -/
def cutEnd (x : StartInput) (p : State) : State := if x.powerLost then losePower p else assertReset p

section
variable {x : StartInput} {p : State}

theorem runStart_cutEnd (st : Start) {k : Nat} (s : State) (h : x.abandonedAfter = some k) :
    runStart st x s = cutEnd x (partialStart st k x s) := runStart_cut st x s k h

theorem cutEnd_cfg : (cutEnd x p).cfg = p.cfg := by unfold cutEnd; split <;> rfl

theorem cutEnd_cal : (cutEnd x p).cal = p.cal := by unfold cutEnd; split <;> rfl

theorem cutEnd_mon : (cutEnd x p).mon = p.mon := by unfold cutEnd; split <;> rfl

theorem cutEnd_plan : (cutEnd x p).plan = p.plan := by unfold cutEnd; split <;> rfl

theorem cutEnd_records : (cutEnd x p).records = p.records := by unfold cutEnd; split <;> rfl

theorem cutEnd_check : (cutEnd x p).check = p.check := by unfold cutEnd; split <;> rfl

/-- A part that starts has main power and its reset input released, and no start is due. -/
structure Starting (r : RetState) : Prop where
  powered : r.powered = true
  released : r.resetAsserted = false
  due : r.powerOnDue = none

theorem Starting.of_pins {r q : RetState} (h : Starting r) (hq : q.pins = r.pins) : Starting q :=
  ⟨(congrArg RetState.powered hq :).trans h.powered, (congrArg RetState.resetAsserted hq :).trans h.released,
    (congrArg RetState.powerOnDue hq :).trans h.due⟩

/-- What a cut start leaves, from the sections of `v`. -/
theorem cutStart_of_cut {done : RetSection → Bool} {k : Nat} {s v : State} (hv : SectionsFrom done s v)
    (hcut : CutAt v (if numberCounted k x then (v.mon.ceilingSeq + 1) % 65536 else v.mon.ceilingSeq) p)
    (hdue : p.ret.powerOnDue = none) : CutStart done k x s (cutEnd x p) := by
  have hheld : (cutEnd x p).ret.operating = false ∧ (cutEnd x p).ret.startRecord = none ∧
      (cutEnd x p).ret.powerOnDue = none ∧ (cutEnd x p).ccu.alarms = [] ∧ (cutEnd x p).spe = {} ∧
      (∀ b, bufferOf (cutEnd x p) b = .free) ∧ (∀ q, ((cutEnd x p).lnk.get q).attention = false) := by
    unfold cutEnd
    split
    · exact ⟨rfl, rfl, rfl, rfl, rfl, fun b => by cases b <;> rfl, fun q => by cases q <;> rfl⟩
    · exact ⟨rfl, rfl, hdue, rfl, rfl, fun b => by cases b <;> rfl, fun q => by cases q <;> rfl⟩
  obtain ⟨hop, hrecord, hnone, halarms, hspe, hbuffers, hlines⟩ := hheld
  have hmon := hv.mon
  rw [← hcut.still.cfg, ← cutEnd_cfg (x := x) (p := p)] at hmon
  refine ⟨hop, hrecord, hnone, halarms, hspe, hbuffers, hlines, ?_, ?_, ?_, ?_, ?_, ?_⟩
  · rw [cutEnd_cfg, hcut.still.cfg, hv.cfg]
  · rw [cutEnd_cal, hcut.still.cal, hv.cal]
  · rw [cutEnd_mon, hcut.still.icing, hmon]
    cases done .monitor <;> rfl
  · rw [cutEnd_mon, hcut.number, hmon]
    cases done .monitor <;> rfl
  · rw [cutEnd_records, hcut.still.ring, hv.records]
    cases done .records <;> rfl
  · rw [cutEnd_plan, hcut.still.history, hv.plan]
    cases done .plan <;> rfl

/-- The supply and the reset input after a cut start. -/
theorem cutEnd_supply (h : Starting p.ret) :
    (cutEnd x p).ret.resetAsserted = !x.powerLost ∧ (cutEnd x p).ret.powered = !x.powerLost := by
  unfold cutEnd
  cases x.powerLost with
  | true => exact ⟨h.released, rfl⟩
  | false => exact ⟨rfl, h.powered⟩

theorem cutEnd_retention :
    (cutEnd x p).ret.retention = (p.ret.retention && !(x.powerLost && p.ret.batteryFell)) := by
  unfold cutEnd
  cases x.powerLost with
  | true => rfl
  | false => exact (Bool.and_true _).symm

end

/-! ## The validation of a power-on -/

section
variable (failed : List RetSection) (s : State)

theorem filter_contains (l : List RetSection) (f : RetSection → Bool) (c : RetSection) :
    (l.filter f).contains c = (l.contains c && f c) := by
  rw [Bool.eq_iff_iff, Bool.and_eq_true, List.contains_iff_mem, List.contains_iff_mem, List.mem_filter]

/-- The failed sections that are written take their defaults, and the words of the others do not match (R179, R183). -/
theorem validatePart_sections (done : List RetSection) :
    SectionsFrom (fun c => failed.contains c && done.contains c) s (validatePart failed done s) := by
  have h := takeDefaults_sections (failed.filter done.contains) s
  have hcontains : (failed.filter done.contains).contains = fun c => failed.contains c && done.contains c :=
    funext fun c => filter_contains failed done.contains c
  rw [hcontains] at h
  exact ⟨h.cfg, h.cal, h.mon, h.plan, h.records⟩

theorem validatePart_check (done : List RetSection) :
    (validatePart failed done s).check = mismatching (failed.filter fun c => !done.contains c) := rfl

theorem validatePart_whole : SectionsFrom failed.contains s (validatePart failed failed s) := by
  have h := validatePart_sections failed s failed
  simpa only [Bool.and_self] using h

theorem filter_not_contains_self (l : List RetSection) : (l.filter fun c => !l.contains c) = [] :=
  List.filter_eq_nil_iff.mpr fun c hc => by simp [hc]

theorem validatePart_whole_check : (validatePart failed failed s).check = {} := by
  rw [validatePart_check, filter_not_contains_self]
  rfl

theorem validate_powerOn (bias : PerAccel Int) :
    validate (powerOnStart failed bias).cause (powerOnStart failed bias).failed s = validatePart failed failed s := by
  by_cases h : failed = []
  · simp only [powerOnStart, if_pos h, validate]
  · simp only [powerOnStart, if_neg h, validate]

theorem partialStage1_powerOn (bias : PerAccel Int) (done : List RetSection) :
    partialStage1 (powerOnStart failed bias) done s = validatePart failed done s := by
  by_cases h : failed = []
  · simp only [powerOnStart, if_pos h, partialStage1]
  · simp only [powerOnStart, if_neg h, partialStage1]

end

/-! ## The cut starts -/

/-- The failed sections that a power-on cut short after `k` stages has written. -/
def writtenBy (failed : List RetSection) (k : Nat) (x : StartInput) (c : RetSection) : Bool :=
  failed.contains c && (1 ≤ k || x.updated.contains c)

/-- A power-on cut short keeps what its validation left, and counts the ceiling's number as far as it has come. -/
theorem powerOnStart_cut (failed : List RetSection) (k : Nat) (x : StartInput) (s : State) :
    ∃ v, SectionsFrom (writtenBy failed k x) s v ∧ v.check = mismatching (failed.filter fun c => !writtenBy failed k x c) ∧
      v.ret = s.ret ∧
      CutAt v (if numberCounted k x then (v.mon.ceilingSeq + 1) % 65536 else v.mon.ceilingSeq)
        (partialStart (powerOnStart failed x.bias) k x s) ∧
      (k = 0 → partialStart (powerOnStart failed x.bias) k x s = v) := by
  rcases eq_or_ne k 0 with rfl | hk
  · have hstart : partialStart (powerOnStart failed x.bias) 0 x s = validatePart failed x.updated s :=
      partialStage1_powerOn failed s x.bias x.updated
    have hfilter : (failed.filter fun c => !x.updated.contains c) = failed.filter fun c => !writtenBy failed 0 x c :=
      List.filter_congr fun c hc => by simp [writtenBy, hc]
    refine ⟨_, validatePart_sections failed s x.updated, ?_, by simp [validatePart, withMismatch], ?_, fun _ => hstart⟩
    · rw [validatePart_check, hfilter]
    · rw [hstart]
      exact ⟨.refl _, rfl⟩
  · have hwritten : writtenBy failed k x = failed.contains := funext fun c => by
      simp [writtenBy, Nat.one_le_iff_ne_zero.mpr hk]
    have hcut := partialStart_validated (powerOnStart failed x.bias) hk x s
    rw [validate_powerOn] at hcut
    refine ⟨_, hwritten ▸ validatePart_whole failed s, ?_, by simp [validatePart, withMismatch], hcut, fun h => absurd h hk⟩
    rw [validatePart_whole_check, hwritten, filter_not_contains_self]
    rfl

/-- A start without a validation, cut short. -/
theorem unvalidatedStart_cut {cause : StartCause} (hcause : cause = .resetLine ∨ cause = .serviceRestart) (k : Nat)
    (x : StartInput) (s : State) :
    CutAt s (if numberCounted k x then (s.mon.ceilingSeq + 1) % 65536 else s.mon.ceilingSeq)
      (partialStart { cause := cause, failed := [], bias := x.bias } k x s) := by
  rcases eq_or_ne k 0 with rfl | hk
  · rcases hcause with rfl | rfl <;> exact ⟨.refl s, rfl⟩
  · have hcut := partialStart_validated { cause := cause, failed := [], bias := x.bias } hk x s
    rcases hcause with rfl | rfl <;> exact hcut

end Sys2Proof.Machine
end

section
/-! Every start, whole and cut short (R178 to R185). -/

namespace Sys2Proof.Machine

/-! ## Starts from the sections of a state -/

/-- Two states with the same retained sections. -/
structure SameSections (s u : State) : Prop where
  cfg : u.cfg = s.cfg
  cal : u.cal = s.cal
  mon : u.mon = s.mon
  plan : u.plan = s.plan
  records : u.records = s.records

theorem SectionsFrom.of_same {lost : RetSection → Bool} {s u v : State} (h : SectionsFrom lost u v)
    (hu : SameSections s u) : SectionsFrom lost s v :=
  ⟨hu.cfg ▸ h.cfg, hu.cal ▸ h.cal, hu.mon ▸ h.mon, hu.plan ▸ h.plan, hu.records ▸ h.records⟩

/-- A recheck changes nothing where each word matches or its section stands. -/
theorem rechecked_of_words {s t : State} (hcfg : t.check.config = true ∨ t.cfg = s.cfg)
    (hmon : t.check.monitor = true ∨ t.mon = s.mon) (hplan : t.check.plan = true ∨ t.plan = s.plan)
    (hrecords : t.check.records = true ∨ t.records = s.records) (hcal : t.check.calendar = true ∨ t.cal = s.cal) :
    rechecked s t = t := by
  have hword {α : Type} [DecidableEq α] {b : Bool} {y z : α} (h : b = true ∨ y = z) : (b || decide (y ≠ z)) = b := by
    rcases h with rfl | rfl
    · rfl
    · simp
  unfold rechecked
  rw [hword hcfg, hword hmon, hword hplan, hword hrecords, hword hcal]

/-- RET after a start that runs to its end. -/
def startedRet (r : RetState) (t : State) : RetState :=
  { r with operating := true, restartAccepted := false, startRecord := t.ret.startRecord }

section
variable {s u : State} {x : StartInput}

/-- A power-on that runs to its end. -/
theorem powerOnStart_whole (failed : List RetSection) (hu : SameSections s u) (hx : x.abandonedAfter = none) :
    let t := runStart (powerOnStart failed x.bias) x u
    StartedFrom (powerOnStart failed x.bias).cause failed x.bias s t ∧ t.ret = startedRet u.ret t ∧ t.check = {} ∧
      ∀ p, (t.lnk.get p).rate = (u.lnk.get p).rate := by
  obtain ⟨w, o, h⟩ := wholeStart (powerOnStart failed x.bias) u
  rw [validate_powerOn] at h
  have hv : SectionsFrom failed.contains s (validatePart failed failed u) := (validatePart_whole failed u).of_same hu
  rw [runStart_whole _ _ _ hx]
  refine ⟨h.startedFrom hv, ?_, h.check.trans (validatePart_whole_check failed u), fun p => ?_⟩
  · rw [startedRet, h.ret]
    simp [validatePart, withMismatch]
  · rw [h.rate]
    simp [validatePart, withMismatch]

/-- A start without a validation that runs to its end. -/
theorem unvalidatedStart_whole {cause : StartCause} (hcause : cause = .resetLine ∨ cause = .serviceRestart)
    (hu : SameSections s u) (hx : x.abandonedAfter = none) :
    let t := runStart { cause := cause, failed := [], bias := x.bias } x u
    StartedFrom cause [] x.bias s t ∧ t.ret = startedRet u.ret t ∧ t.check = u.check ∧
      ∀ p, (t.lnk.get p).rate = (u.lnk.get p).rate := by
  obtain ⟨w, o, h⟩ := wholeStart { cause := cause, failed := [], bias := x.bias } u
  have hvalid : validate cause [] u = u := by rcases hcause with rfl | rfl <;> rfl
  simp only [hvalid] at h
  have hv : SectionsFrom ([] : List RetSection).contains s u := (SectionsFrom.refl u).of_same hu
  rw [runStart_whole _ _ _ hx]
  exact ⟨h.startedFrom hv, by rw [startedRet, h.ret], h.check, h.rate⟩

/-- A power-on that is cut short. -/
theorem powerOnStart_abandoned (failed : List RetSection) {k : Nat} (hu : SameSections s u) (hstart : Starting u.ret)
    (hx : x.abandonedAfter = some k) :
    let t := runStart (powerOnStart failed x.bias) x u
    CutStart (writtenBy failed k x) k x s t ∧ t.ret.resetAsserted = !x.powerLost ∧ t.ret.powered = !x.powerLost ∧
      t.ret.retention = (u.ret.retention && !(x.powerLost && u.ret.batteryFell)) ∧
      t.check = mismatching (failed.filter fun c => !writtenBy failed k x c) ∧ rechecked s t = t := by
  obtain ⟨v, hv, hcheck, hret, hcut, hfirst⟩ := powerOnStart_cut failed k x u
  intro t
  have ht : t = cutEnd x (partialStart (powerOnStart failed x.bias) k x u) := runStart_cutEnd _ _ hx
  have hpins : (partialStart (powerOnStart failed x.bias) k x u).ret.pins = u.ret.pins := hret ▸ hcut.still.pins
  have hpart := hstart.of_pins hpins
  obtain ⟨hreset, hpower⟩ := cutEnd_supply (x := x) hpart
  have hretention : t.ret.retention = (u.ret.retention && !(x.powerLost && u.ret.batteryFell)) := by
    have hkept : (partialStart (powerOnStart failed x.bias) k x u).ret.retention = u.ret.retention :=
      (congrArg RetState.retention hpins :)
    have hfell : (partialStart (powerOnStart failed x.bias) k x u).ret.batteryFell = u.ret.batteryFell :=
      (congrArg RetState.batteryFell hpins :)
    rw [ht, cutEnd_retention, hkept, hfell]
  have hwords : t.check = mismatching (failed.filter fun c => !writtenBy failed k x c) := by
    rw [ht, cutEnd_check, hcut.still.check, hcheck]
  rw [← ht] at hreset hpower
  refine ⟨ht ▸ cutStart_of_cut (hv.of_same hu) hcut hpart.due, hreset, hpower, hretention, hwords, ?_⟩
  rcases eq_or_ne k 0 with rfl | hk
  · have hs := hv.of_same hu
    have hword (c : RetSection) (hc : writtenBy failed 0 x c = true) :
        (!(failed.filter fun c => !writtenBy failed 0 x c).contains c) = true := by
      rw [filter_contains, hc]
      simp
    have hend : t = cutEnd x v := by rw [ht, hfirst rfl]
    apply rechecked_of_words <;> rw [hwords, hend]
    · refine (Bool.eq_false_or_eq_true (writtenBy failed 0 x .config)).imp (hword .config) fun hc => ?_
      rw [cutEnd_cfg, hs.cfg, hc]
      rfl
    · refine (Bool.eq_false_or_eq_true (writtenBy failed 0 x .monitor)).imp (hword .monitor) fun hc => ?_
      rw [cutEnd_mon, hs.mon, hc]
      rfl
    · refine (Bool.eq_false_or_eq_true (writtenBy failed 0 x .plan)).imp (hword .plan) fun hc => ?_
      rw [cutEnd_plan, hs.plan, hc]
      rfl
    · refine (Bool.eq_false_or_eq_true (writtenBy failed 0 x .records)).imp (hword .records) fun hc => ?_
      rw [cutEnd_records, hs.records, hc]
      rfl
    · refine (Bool.eq_false_or_eq_true (writtenBy failed 0 x .calendar)).imp (hword .calendar) fun hc => ?_
      rw [cutEnd_cal, hs.cal, hc]
      rfl
  · have hwritten : writtenBy failed k x = failed.contains := funext fun c => by
      simp [writtenBy, Nat.one_le_iff_ne_zero.mpr hk]
    refine rechecked_matching s t ?_
    rw [hwords, hwritten, filter_not_contains_self]
    rfl

/-- A start without a validation that is cut short. -/
theorem unvalidatedStart_abandoned {cause : StartCause} (hcause : cause = .resetLine ∨ cause = .serviceRestart) {k : Nat}
    (hu : SameSections s u) (hdue : u.ret.powerOnDue = none) (hx : x.abandonedAfter = some k) :
    let t := runStart { cause := cause, failed := [], bias := x.bias } x u
    CutStart (fun _ => false) k x s t ∧ t.check = u.check ∧
      (Starting u.ret → t.ret.resetAsserted = !x.powerLost ∧ t.ret.powered = !x.powerLost) := by
  have hcut := unvalidatedStart_cut hcause k x u
  rw [runStart_cutEnd _ _ hx]
  have hpins := hcut.still.pins
  refine ⟨cutStart_of_cut ((SectionsFrom.refl u).of_same hu) hcut ?_, cutEnd_check.trans hcut.still.check, fun hstart =>
    cutEnd_supply (hstart.of_pins hpins)⟩
  exact (congrArg RetState.powerOnDue hpins :).trans hdue

end

end Sys2Proof.Machine
end

section
/-! The starts of the part (R178 to R185). -/

namespace Sys2Proof.Machine

/-! ## POWER_ON (R179) -/

/-- The state from which a power-on starts. -/
def poweredOn (straps : PerPort (BitVec 2)) (s : State) : State := applyPower none (readStraps straps s)

theorem poweredOn_same (straps : PerPort (BitVec 2)) (s : State) : SameSections s (poweredOn straps s) :=
  ⟨rfl, rfl, rfl, rfl, rfl⟩

theorem poweredOn_rate (straps : PerPort (BitVec 2)) (s : State) (p : Port) :
    ((poweredOn straps s).lnk.get p).rate = straps.get p := by cases p <;> rfl

section
variable {corrupt : List RetSection} {straps : PerPort (BitVec 2)} {x : StartInput} {s : State}

theorem retPowerOn_starting (hpower : s.ret.powered = false) (hreset : s.ret.resetAsserted = false) :
    retPowerOn corrupt straps x s =
      runStart (powerOnStart (failedSections corrupt s) x.bias) x (poweredOn straps s) := by
  have hstraps : (readStraps straps s).ret.resetAsserted = false := hreset
  simp [retPowerOn, hpower, hreset, poweredOn]

theorem retPowerOn_waiting (hpower : s.ret.powered = false) (hreset : s.ret.resetAsserted = true) :
    retPowerOn corrupt straps x s =
      withMismatch (failedSections corrupt s) (applyPower (some (failedSections corrupt s)) (readStraps straps s)) := by
  simp [retPowerOn, hpower, hreset]

end

/-! ## RESET_RELEASE and SERVICE_RESTART_START (R183, R184) -/

/-- The state from which a release of the reset input starts the part. -/
def released (s : State) : State := { s with ret := { s.ret with resetAsserted := false, powerOnDue := none } }

theorem released_same (s : State) : SameSections s (released s) := ⟨rfl, rfl, rfl, rfl, rfl⟩

section
variable {x : StartInput} {s : State}

theorem retResetRelease_released (h : s.ret.resetAsserted = false) : retResetRelease x s = s := by
  simp [retResetRelease, h]

theorem retResetRelease_unpowered (h : s.ret.resetAsserted = true) (hpower : s.ret.powered = false) :
    retResetRelease x s = { s with ret := { s.ret with resetAsserted := false } } := by
  simp [retResetRelease, h, hpower]

theorem retResetRelease_line (h : s.ret.resetAsserted = true) (hpower : s.ret.powered = true)
    (hdue : s.ret.powerOnDue = none) :
    retResetRelease x s = runStart { cause := .resetLine, failed := [], bias := x.bias } x (released s) := by
  simp [retResetRelease, h, hpower, releaseStart, hdue, released]

theorem retResetRelease_due (h : s.ret.resetAsserted = true) (hpower : s.ret.powered = true)
    {failed : List RetSection} (hdue : s.ret.powerOnDue = some failed) :
    retResetRelease x s = runStart (powerOnStart failed x.bias) x (released s) := by
  simp [retResetRelease, h, hpower, releaseStart, hdue, released]

end

theorem exec_restart {s : State} (hop : s.ret.operating = true) (hpresence : s.mpl.presence ≠ none) :
    exec (.restart .sp) s =
      .next (answered .sp 0x45 (plain .ok) { s with ret := { s.ret with restartAccepted := true } }) := by
  have hadmits : Permission.servicePresence.admits .sp s.mpl.presence.isSome = true := Option.isSome_iff_ne_none.mpr hpresence
  have hanswer : handle .sp .restart (requestCounted .sp s) =
      (requestCounted .sp { s with ret := { s.ret with restartAccepted := true } }, plain .ok) := rfl
  refine (request_answered (r := .restart) (m := .servicePresence) hop rfl hadmits hanswer (.inr rfl)).trans ?_
  exact congrArg Host.Outcome.next (rechecked_kept s _ rfl rfl rfl rfl rfl)

/-! ## Every start -/

section
variable {corrupt : List RetSection} {straps : PerPort (BitVec 2)} {x : StartInput} {s : State}

/-- A power-on with the reset input released starts the part. -/
theorem powerOn_starting (hpower : s.ret.powered = false) (hreset : s.ret.resetAsserted = false) :
    let failed := failedSections corrupt s
    (x.abandonedAfter = none →
      ∃ t, exec (.powerOn corrupt straps x) s = .next t ∧
        StartedFrom (powerOnStart failed x.bias).cause failed x.bias s t ∧
        t.ret = startedRet { s.ret with powered := true, retention := true, powerOnDue := none } t ∧ t.check = {} ∧
        ∀ p, (t.lnk.get p).rate = straps.get p) ∧
    (∀ k, x.abandonedAfter = some k →
      ∃ t, exec (.powerOn corrupt straps x) s = .next t ∧ CutStart (writtenBy failed k x) k x s t ∧
        t.ret.resetAsserted = !x.powerLost ∧ t.ret.powered = !x.powerLost ∧
        t.ret.retention = !(x.powerLost && s.ret.batteryFell) ∧
        t.check = mismatching (failed.filter fun c => !writtenBy failed k x c)) := by
  intro failed
  have hexec : exec (.powerOn corrupt straps x) s = .next (runStart (powerOnStart failed x.bias) x (poweredOn straps s)) :=
    congrArg Host.Outcome.next (retPowerOn_starting hpower hreset)
  refine ⟨fun hx => ?_, fun k hx => ?_⟩
  · obtain ⟨hstarted, hret, hcheck, hrate⟩ := powerOnStart_whole failed (poweredOn_same straps s) hx
    exact ⟨_, hexec, hstarted, hret, hcheck, fun p => (hrate p).trans (poweredOn_rate straps s p)⟩
  · have hstarting : Starting (poweredOn straps s).ret := ⟨rfl, hreset, rfl⟩
    obtain ⟨hcut, hasserted, hpowered, hretention, hcheck, -⟩ :=
      powerOnStart_abandoned failed (poweredOn_same straps s) hstarting hx
    exact ⟨_, hexec, hcut, hasserted, hpowered, hretention, hcheck⟩

/-- A release of the reset input with main power starts the part. -/
theorem resetRelease_starting (hreset : s.ret.resetAsserted = true) (hpower : s.ret.powered = true) :
    (∀ failed, s.ret.powerOnDue = some failed →
      (x.abandonedAfter = none →
        ∃ t, exec (.resetRelease x) s = .next t ∧
          StartedFrom (powerOnStart failed x.bias).cause failed x.bias s t ∧ t.ret = startedRet (released s).ret t ∧
          t.check = {} ∧ ∀ p, (t.lnk.get p).rate = (s.lnk.get p).rate) ∧
      (∀ k, x.abandonedAfter = some k →
        ∃ t, exec (.resetRelease x) s = .next t ∧ t.ret.resetAsserted = !x.powerLost ∧ t.ret.powered = !x.powerLost ∧
          CutStart (writtenBy failed k x) k x s t ∧
          t.check = mismatching (failed.filter fun c => !writtenBy failed k x c))) ∧
    (s.ret.powerOnDue = none →
      (x.abandonedAfter = none →
        ∃ t u, exec (.resetRelease x) s = .next t ∧ t = rechecked s u ∧ u.check = s.check ∧
          StartedFrom .resetLine [] x.bias s t ∧ t.ret = startedRet (released s).ret t ∧
          ∀ p, (t.lnk.get p).rate = (s.lnk.get p).rate) ∧
      (∀ k, x.abandonedAfter = some k →
        ∃ t u, exec (.resetRelease x) s = .next t ∧ t = rechecked s u ∧ u.check = s.check ∧
          t.ret.resetAsserted = !x.powerLost ∧ t.ret.powered = !x.powerLost ∧ CutStart (fun _ => false) k x s t)) := by
  have hstarting : Starting (released s).ret := ⟨hpower, rfl, rfl⟩
  refine ⟨fun failed hdue => ⟨fun hx => ?_, fun k hx => ?_⟩, fun hdue => ⟨fun hx => ?_, fun k hx => ?_⟩⟩
  · obtain ⟨hstarted, hret, hcheck, hrate⟩ := powerOnStart_whole failed (released_same s) hx
    refine ⟨_, ?_, hstarted, hret, hcheck, hrate⟩
    exact congrArg Host.Outcome.next ((congrArg (rechecked s) (retResetRelease_due hreset hpower hdue)).trans
      (rechecked_matching s _ hcheck))
  · obtain ⟨hcut, hasserted, hpowered, -, hcheck, hsame⟩ :=
      powerOnStart_abandoned failed (released_same s) hstarting hx
    refine ⟨_, ?_, hasserted, hpowered, hcut, hcheck⟩
    exact congrArg Host.Outcome.next ((congrArg (rechecked s) (retResetRelease_due hreset hpower hdue)).trans hsame)
  · obtain ⟨hstarted, hret, hcheck, hrate⟩ := unvalidatedStart_whole (.inl rfl) (released_same s) hx
    exact ⟨_, _, congrArg (fun t => Host.Outcome.next (rechecked s t)) (retResetRelease_line hreset hpower hdue), rfl, hcheck,
      hstarted.rechecked s, hret, hrate⟩
  · obtain ⟨hcut, hcheck, hsupply⟩ := unvalidatedStart_abandoned (.inl rfl) (released_same s) rfl hx
    obtain ⟨hasserted, hpowered⟩ := hsupply hstarting
    exact ⟨_, _, congrArg (fun t => Host.Outcome.next (rechecked s t)) (retResetRelease_line hreset hpower hdue), rfl, hcheck,
      hasserted, hpowered, hcut⟩

/-- An accepted RESTART whose reply has been sent starts the part. -/
theorem serviceRestart_starting (hop : s.ret.operating = true) (haccepted : s.ret.restartAccepted = true)
    (hsent : s.lnk.sp.inWork = none) :
    (x.abandonedAfter = none →
      ∃ t, exec (.serviceRestartStart x) s = .next t ∧ StartedFrom .serviceRestart [] x.bias s t ∧
        t.ret = startedRet s.ret t ∧ ∀ p, (t.lnk.get p).rate = (s.lnk.get p).rate) ∧
    (∀ k, s.ret.powerOnDue = none → x.abandonedAfter = some k →
      ∃ t, exec (.serviceRestartStart x) s = .next t ∧ CutStart (fun _ => false) k x s t) := by
  have hsame : SameSections s s := ⟨rfl, rfl, rfl, rfl, rfl⟩
  have hexec : exec (.serviceRestartStart x) s =
      .next (rechecked s (runStart { cause := .serviceRestart, failed := [], bias := x.bias } x s)) := by
    show Host.Outcome.next (rechecked s (retServiceRestart x s)) = _
    rw [retServiceRestart, if_pos ⟨hop, haccepted, hsent⟩]
  refine ⟨fun hx => ?_, fun k hdue hx => ?_⟩
  · obtain ⟨hstarted, hret, -, hrate⟩ := unvalidatedStart_whole (.inr rfl) hsame hx
    exact ⟨_, hexec, hstarted.rechecked s, hret, hrate⟩
  · obtain ⟨hcut, -, -⟩ := unvalidatedStart_abandoned (.inr rfl) hsame hdue hx
    exact ⟨_, hexec, hcut⟩

/-- An event without its start changes nothing. -/
theorem exec_resetRelease_released (h : s.ret.resetAsserted = false) : exec (.resetRelease x) s = .next s :=
  congrArg Host.Outcome.next ((congrArg (rechecked s) (retResetRelease_released h)).trans (rechecked_self s))

theorem exec_resetRelease_unpowered (h : s.ret.resetAsserted = true) (hpower : s.ret.powered = false) :
    exec (.resetRelease x) s = .next { s with ret := { s.ret with resetAsserted := false } } :=
  congrArg Host.Outcome.next ((congrArg (rechecked s) (retResetRelease_unpowered h hpower)).trans
    (rechecked_kept s _ rfl rfl rfl rfl rfl))

theorem exec_serviceRestartStart_unaccepted
    (h : ¬ (s.ret.operating = true ∧ s.ret.restartAccepted = true ∧ s.lnk.sp.inWork = none)) :
    exec (.serviceRestartStart x) s = .next s := by
  show Host.Outcome.next (rechecked s (retServiceRestart x s)) = _
  rw [retServiceRestart, if_neg h, rechecked_self]

end

/-- Settles O53: a whole start is the posts of the monitors, the Planner's actions, the restoration as a sequence of raises and
the first biases, each followed by what it leaves; a start cut short keeps what every action of a start keeps. -/
theorem starts : Obligations.Starts := by
  unfold Obligations.Starts
  intro s words matching started
  refine ⟨fun corrupt straps x => ?_, fun x => ⟨exec_resetRelease_released, exec_resetRelease_unpowered, ?_, ?_,
    exec_serviceRestartStart_unaccepted, serviceRestart_starting⟩, exec_restart⟩
  · intro all failed cause
    have hcause : cause = (powerOnStart failed x.bias).cause := rfl
    have hfailed : failed = failedSections corrupt s := by
      by_cases hkept : s.ret.retention = true
      · simp only [failed, failedSections, if_pos hkept]
        exact List.filter_congr fun c _ => by cases c <;> rfl
      · simp only [failed, failedSections, if_neg hkept]
        rfl
    clear_value cause failed
    subst hcause hfailed
    refine ⟨fun hpower => ?_, fun hpower hreset hx => (powerOn_starting hpower hreset).1 hx, fun k hpower hreset hx =>
      (powerOn_starting hpower hreset).2 k hx, fun hpower hreset => ?_⟩
    · exact congrArg Host.Outcome.next (if_pos hpower)
    · exact ⟨_, congrArg Host.Outcome.next (retPowerOn_waiting hpower hreset), rfl, rfl, rfl, rfl, rfl, rfl, rfl, rfl, rfl, rfl⟩
  · intro hreset hpower hx
    obtain ⟨hdue, hline⟩ := resetRelease_starting (x := x) hreset hpower
    cases hwait : s.ret.powerOnDue with
    | none =>
      obtain ⟨t, u, hexec, ht, hcheck, hstarted, hret, hrate⟩ := (hline hwait).1 hx
      refine ⟨t, hexec, hret, hrate, fun _ => ⟨hstarted, ?_⟩, (nomatch · , ·)⟩
      rw [ht, rechecked, hcheck]
    | some failed =>
      obtain ⟨t, hexec, hstarted, hret, hcheck, hrate⟩ := (hdue failed hwait).1 hx
      refine ⟨t, hexec, hret, hrate, (nomatch ·), fun f h => ?_⟩
      obtain rfl := Option.some.inj h
      exact ⟨hstarted, hcheck⟩
  · intro k hreset hpower hx
    obtain ⟨hdue, hline⟩ := resetRelease_starting (x := x) hreset hpower
    cases hwait : s.ret.powerOnDue with
    | none =>
      obtain ⟨t, u, hexec, ht, hcheck, hasserted, hpowered, hcut⟩ := (hline hwait).2 k hx
      refine ⟨t, hexec, hasserted, hpowered, fun _ => ⟨hcut, ?_⟩, (nomatch · , ·)⟩
      rw [ht, rechecked, hcheck]
    | some failed =>
      obtain ⟨t, hexec, hasserted, hpowered, hcut, hcheck⟩ := (hdue failed hwait).2 k hx
      refine ⟨t, hexec, hasserted, hpowered, (nomatch ·), fun f h => ?_⟩
      obtain rfl := Option.some.inj h
      exact ⟨hcut, hcheck⟩

end Sys2Proof.Machine
end
